-- ==== Sys2Proof/Word.lean ====
section
/-! DEFINITION. The word types of the Icyoram: bytes, instruction words and 64-bit values (R7, R64). -/

namespace Sys2Proof

/-- One byte of memory (R7). -/
abbrev Byte := BitVec 8
/-- One instruction word (R64). -/
abbrev Word := BitVec 32
/-- A scalar register, a control register, a queue entry (R15, R25, R114). -/
abbrev Dbl := BitVec 64
/-- A code or data address as a word of the machine. -/
abbrev Addr := BitVec 64
/-- A context identity, 0 to 15 (R32). -/
abbrev CtxId := BitVec 4
/-- A 4-bit format tag (R20). -/
abbrev Tag := BitVec 4
/-- A 3-bit rounding-mode field (R45). -/
abbrev Rm := BitVec 3

end Sys2Proof
end

