-- ==== Sys2Proof/Machine/EventTypes.lean ====
section
/-! DEFINITION. The operand types of the rows of spec/opcode_table.json that have no instruction word: frames,
requests, launch statuses and management registers that an event of the machine names. -/

namespace Sys2Proof

/-- A prism-bus frame: the header fields of R324 and the payload. The CRC is not held: an event says whether the
receiver's check passed. -/
structure Frame where
  kind : BitVec 4
  utag : BitVec 32
  id : BitVec 12
  len : BitVec 12
  fmt : BitVec 2
  bus : BitVec 2
  sender : BitVec 11
  ctx : CtxId
  payload : List Byte
  deriving DecidableEq, Repr

/-- What a PEER_ACCESS_PERFORM performs: the n-th outstanding peer access of this core, an access of a cluster neighbour
that arrives at this core, or bytes that another core of the package writes into its own scratchpad (R291, R292, R376). -/
inductive PeerReq where
  | own (n : Nat)
  | load (addr : BitVec 19)
  | store (addr : BitVec 19) (v : Dbl)
  | copyIn (addr : BitVec 19) (bytes : List Byte)
  | copyOut (addr : BitVec 19) (n : Nat)
  | change (core : BitVec 11) (addr : BitVec 19) (bytes : List Byte)
  deriving DecidableEq, Repr

/-- Where a corrected error was met: a read of the scratchpad or the mirror segment, a BRD landing, patrol scrub (R257,
R258). -/
inductive Corrected where
  | scratchpad
  | mirror
  | column (bank : BitVec 6)
  | scrub (bank : BitVec 6)
  deriving DecidableEq, Repr

/-- STATUS, CORE, DETAIL0 and DETAIL1 of a completion part (R394, R398). -/
structure LaunchStatus where
  code : BitVec 16
  core : BitVec 32
  d0 : Dbl
  d1 : Dbl
  deriving DecidableEq, Repr

/-- Registers that a management access reaches and that have no behaviour of their own (R11, R37, R126, R267, R298, R319,
R321, R349, R352, R357, R426, R430, R433, R443, R446). Words of a record, a row, a latch and a distribution register have 64 bits, the
lowest first. -/
inductive MgmtReg where
  | rga (c : CtxId) (k : BitVec 3)
  | rgb (c : CtxId) (k : BitVec 3)
  | rgc (c : CtxId) (k : BitVec 3)
  | heldPc (c : CtxId)
  | heldTpc (c : CtxId)
  | heldScalar (c : CtxId) (i : BitVec 6)
  | heldPreds (c : CtxId)
  | heldMask (c : CtxId) (i : BitVec 4)
  | heldMparam (c : CtxId) (i : BitVec 3)
  | heldCreg (c : CtxId) (i : BitVec 6)
  | heldShape (c : CtxId) (i : BitVec 4) (w : BitVec 2)
  | heldRow (c : CtxId) (i : BitVec 8) (w : BitVec 5)
  | heldRowTag (c : CtxId) (i : BitVec 8)
  | heldLatch (c : CtxId) (i : BitVec 2) (w : BitVec 5)
  | heldLatchTag (c : CtxId) (i : BitVec 2)
  | heldDist (c : CtxId) (i : BitVec 4) (w : BitVec 8)
  | heldDistTag (c : CtxId) (i : BitVec 4)
  | heldDistSet (c : CtxId) (i : BitVec 4)
  | errorRecord
  | svcbud
  | homeEntry (core : BitVec 11) (idx : BitVec 12)
  | overrun (word : BitVec 2)
  | htinv (core : BitVec 11)
  | rprec (seq : Nat)
  | harv (cluster : BitVec 7)
  | capability (word : BitVec 5)
  | blackBox (word : BitVec 13)
  | account (n : BitVec 12)
  | overhead
  | ingrejb
  | busgate (cluster : BitVec 7)
  | packageStatus
  | blackBoxOf (die : BitVec 3) (word : BitVec 13)
  deriving DecidableEq, Repr

/-- One layer of one column: its mirror segment or its vault (R432). -/
structure DebugLayer where
  core : BitVec 11
  vault : Bool
  deriving DecidableEq, Repr

/-- A part of the energy that a cluster meters in one interval, in nJ (R425): dynamic energy of what a launch's contexts
issued, static energy of a core, streams and restore of a pre-empting launch, ballast with the fall of each launch in the
interval that switched it in, the device's own, and a debug wake of a layer (R432). -/
inductive EnergyPart where
  | issued (seq nj : Nat)
  | idle (core : BitVec 11) (nj : Nat)
  | streams (seq nj : Nat)
  | ballast (falls : List (Nat × Nat)) (nj : Nat)
  | device (nj : Nat)
  | debug (layer : DebugLayer) (nj : Nat)
  deriving DecidableEq, Repr

/-- What one global access does at its home (R353, R362, R366 to R368, R449). -/
inductive GlobalOp where
  | load (w : Bool)
  | store (w : Bool) (x : Dbl)
  | atomic (fn : BitVec 6) (w : Bool) (x : Dbl) (cmp : Dbl)
  | xadd (x : BitVec 32)
  | xread
  | payload (x : Dbl)
  | flagStore (x : Dbl)
  | flagAdd (x : Dbl)
  | copyRead (n : Nat)
  | copyWrite (bytes : List Byte)
  deriving DecidableEq, Repr

/-- What a HOME_PERFORM performs: the n-th outstanding global access of this core, an access of another requester of the
package that reaches its home, ret telling whether a value returns, an access of the companion (R362, R374), or the
finding of an uncorrectable error in the 8 bytes at an address (R372). -/
inductive HomeReq where
  | own (n : Nat)
  | other (ia : BitVec 48) (op : GlobalOp) (ret : Bool) (seq : Nat := 0)
  | companion (ia : BitVec 48) (op : GlobalOp)
  | poison (ia : BitVec 48)
  deriving DecidableEq, Repr

/-- What a HOST_ACCESS_PERFORM performs: the n-th outstanding host access of this core, or a write of the companion to its
own memory (R374). -/
inductive HostReq where
  | own (n : Nat)
  | companion (addr : BitVec 52) (bytes : List Byte)
  deriving DecidableEq, Repr

/-- A request that enters this package through a fabric port; ret tells whether a value returns, seq names the launch that it
is for, 0 where that is not known (R434, R443, R445). -/
structure FabricRequest where
  src : BitVec 6
  token : Dbl
  ia : BitVec 48
  op : GlobalOp
  ret : Bool
  seq : Nat := 0
  deriving DecidableEq, Repr

/-- A reply from the home of an access; fault sends a write to its side log (R358, R372, R446, R452). -/
inductive Reply where
  | done (value : Dbl) (pinned : Bool)
  | unsupported
  | denied (entry : Dbl)
  | poisoned
  | fault
  deriving DecidableEq, Repr

/-- A message to the fabric sync agent, of kind 2 to 4 as its frame would have, with the status that an agent of another
package gives it and the tick at which the decision arrives (R453); or of kind 5, the last of the other packages'
completion ticks of a group's episode (R454); or of kind 6 or 7, that package pkg reserves the object id or the group id obj
for a plan, or with status 0 frees it (R453, R454). -/
structure SyncMessage where
  kind : BitVec 4
  obj : BitVec 12
  pkg : BitVec 6
  core : BitVec 11
  ctx : CtxId
  status : BitVec 3 := 0
  tick : Nat := 0
  deriving DecidableEq, Repr

/-- One link of a domain: port of package pkg, the package and the port at its far end, and its padded latency (R436,
R437). -/
structure Link where
  port : BitVec 4
  peer : BitVec 8
  pport : BitVec 4
  pad : BitVec 16
  pkg : BitVec 8 := 0
  deriving DecidableEq, Repr

/-- The topology table of a domain as this package holds it (R436, R451): its own number, the packages of the
domain with their revisions, its links, and for an ordered pair of packages the service path, as numbers of links. -/
structure Topology where
  self : BitVec 6
  revs : List (Nat × BitVec 32)
  links : List Link
  paths : List ((Nat × Nat) × List Nat)
  deriving DecidableEq, Repr

end Sys2Proof
end

