-- ==== Sys2Proof/Syntax.lean ====
section
/-! DEFINITION. The instructions and events of the Icyoram: one constructor for each row of spec/opcode_table.json.
The first 206 have a 32-bit word; the others are events without a word, whose arguments are what the event names.
An event's last argument may have a default: nothing of other cores, or the first core. -/

namespace Sys2Proof

/-- Every row of spec/opcode_table.json. Register fields are the fields of R73 and R74; the chain bit C belongs to
the bundle and stands beside the instruction (R64, R66). -/
inductive Instr where
  /-- J (R102). Branches to a word offset when the selected predicate, optionally inverted, is 1. -/
  | j (n : Bool) (p : BitVec 5) (i : BitVec 18)
  /-- CALL (R102). Conditional branch that writes the return address to s63 when taken. -/
  | call (n : Bool) (p : BitVec 5) (i : BitVec 18)
  /-- LOOP (R103). Rotates the bases, decrements the counter and branches while the counter read at issue exceeds 1. -/
  | loop (s : BitVec 5) (i : BitVec 18)
  /-- NOP (R107). Has no effect. -/
  | nop
  /-- JR (R104). Transfers to the address held in a scalar register. -/
  | jr (a : BitVec 6)
  /-- RET (R104). Transfers to the address in s63. -/
  | ret
  /-- CKPT (R107). Sets the rollback point and commits the release-buffer entries held since the previous CKPT; closes a rerun. -/
  | ckpt
  /-- SYS (R109). Delivers SYSCALL to the supervisor after its bundle; codes 0 and 1 end work or abort the plan. -/
  | sys (k : BitVec 12)
  /-- TRAP (R109). Delivers USER_TRAP to the plan trap handler after its bundle. -/
  | trap (k : BitVec 12)
  /-- BRK (R109). Delivers BREAKPOINT to the supervisor and holds the context. -/
  | brk (k : BitVec 12)
  /-- ERET (R110). Ends the plan trap handler, clears INH and restarts at TPC with snapshot replay. -/
  | eret
  /-- FENCE (R108). Orders the context's variable-latency accesses to the masked spaces at the named scope. -/
  | fence (m : BitVec 6) (s : BitVec 6)
  /-- ADD (R93). Wrapping integer addition. -/
  | add (d : BitVec 6) (a : BitVec 6) (b : BitVec 6) (w : Bool)
  /-- SUB (R93). Wrapping integer subtraction. -/
  | sub (d : BitVec 6) (a : BitVec 6) (b : BitVec 6) (w : Bool)
  /-- MUL (R93). Low bits of the integer product. -/
  | mul (d : BitVec 6) (a : BitVec 6) (b : BitVec 6) (w : Bool)
  /-- MULH (R93). High half of the signed or unsigned product. -/
  | mulh (d : BitVec 6) (a : BitVec 6) (b : BitVec 6) (w : Bool) (u : Bool)
  /-- DIV (R94). Integer quotient rounded toward zero; division by zero sets DZ. -/
  | div (d : BitVec 6) (a : BitVec 6) (b : BitVec 6) (w : Bool) (u : Bool)
  /-- REM (R94). Integer remainder with the sign of the dividend. -/
  | rem (d : BitVec 6) (a : BitVec 6) (b : BitVec 6) (w : Bool) (u : Bool)
  /-- AND (R93). Bitwise and. -/
  | and (d : BitVec 6) (a : BitVec 6) (b : BitVec 6) (w : Bool)
  /-- OR (R93). Bitwise or. -/
  | or (d : BitVec 6) (a : BitVec 6) (b : BitVec 6) (w : Bool)
  /-- XOR (R93). Bitwise exclusive or. -/
  | xor (d : BitVec 6) (a : BitVec 6) (b : BitVec 6) (w : Bool)
  /-- ANDN (R93). And with the complement of the second operand. -/
  | andn (d : BitVec 6) (a : BitVec 6) (b : BitVec 6) (w : Bool)
  /-- SHL (R93). Logical left shift. -/
  | shl (d : BitVec 6) (a : BitVec 6) (b : BitVec 6) (w : Bool)
  /-- SHR (R93). Zero-filling right shift. -/
  | shr (d : BitVec 6) (a : BitVec 6) (b : BitVec 6) (w : Bool)
  /-- SRA (R93). Arithmetic right shift. -/
  | sra (d : BitVec 6) (a : BitVec 6) (b : BitVec 6) (w : Bool)
  /-- MIN (R93). Signed or unsigned minimum. -/
  | min (d : BitVec 6) (a : BitVec 6) (b : BitVec 6) (w : Bool) (u : Bool)
  /-- MAX (R93). Signed or unsigned maximum. -/
  | max (d : BitVec 6) (a : BitVec 6) (b : BitVec 6) (w : Bool) (u : Bool)
  /-- ADDS (R94). Saturating addition that sets SAT when it clamps. -/
  | adds (d : BitVec 6) (a : BitVec 6) (b : BitVec 6) (w : Bool) (u : Bool)
  /-- SUBS (R94). Saturating subtraction that sets SAT when it clamps. -/
  | subs (d : BitVec 6) (a : BitVec 6) (b : BitVec 6) (w : Bool) (u : Bool)
  /-- CLZ (R93). Counts leading zero bits. -/
  | clz (d : BitVec 6) (a : BitVec 6) (w : Bool)
  /-- CTZ (R93). Counts trailing zero bits. -/
  | ctz (d : BitVec 6) (a : BitVec 6) (w : Bool)
  /-- POPC (R93). Counts one bits. -/
  | popc (d : BitVec 6) (a : BitVec 6) (w : Bool)
  /-- MOV (R93). Copies a scalar register. -/
  | mov (d : BitVec 6) (a : BitVec 6) (w : Bool)
  /-- ADDI (R95). Adds a sign-extended 11-bit immediate. -/
  | addi (d : BitVec 6) (a : BitVec 6) (i : BitVec 11)
  /-- ANDI (R95). Ands with an immediate. -/
  | andi (d : BitVec 6) (a : BitVec 6) (i : BitVec 11)
  /-- ORI (R95). Ors with an immediate. -/
  | ori (d : BitVec 6) (a : BitVec 6) (i : BitVec 11)
  /-- XORI (R95). Exclusive-ors with an immediate. -/
  | xori (d : BitVec 6) (a : BitVec 6) (i : BitVec 11)
  /-- SHLI (R95). Left shift by an immediate. -/
  | shli (d : BitVec 6) (a : BitVec 6) (i : BitVec 11)
  /-- SHRI (R95). Zero-filling right shift by an immediate. -/
  | shri (d : BitVec 6) (a : BitVec 6) (i : BitVec 11)
  /-- SRAI (R95). Arithmetic right shift by an immediate. -/
  | srai (d : BitVec 6) (a : BitVec 6) (i : BitVec 11)
  /-- MULI (R95). Multiplies by an immediate. -/
  | muli (d : BitVec 6) (a : BitVec 6) (i : BitVec 11)
  /-- LI (R96). Loads a sign-extended 18-bit immediate. -/
  | li (d : BitVec 6) (i : BitVec 18)
  /-- LIS (R96). Shifts the register left by 18 and inserts 18 immediate bits. -/
  | lis (d : BitVec 6) (i : BitVec 18)
  /-- ADR (R96). Loads a bundle-relative code address. -/
  | adr (d : BitVec 6) (i : BitVec 18)
  /-- FADD (R97). FP32 addition rounded once. -/
  | fadd (d : BitVec 6) (a : BitVec 6) (b : BitVec 6) (r : BitVec 3)
  /-- FSUB (R97). FP32 subtraction rounded once. -/
  | fsub (d : BitVec 6) (a : BitVec 6) (b : BitVec 6) (r : BitVec 3)
  /-- FMUL (R97). FP32 multiplication rounded once. -/
  | fmul (d : BitVec 6) (a : BitVec 6) (b : BitVec 6) (r : BitVec 3)
  /-- FDIV (R97). FP32 division rounded once. -/
  | fdiv (d : BitVec 6) (a : BitVec 6) (b : BitVec 6) (r : BitVec 3)
  /-- FSQRT (R97). FP32 square root rounded once. -/
  | fsqrt (d : BitVec 6) (a : BitVec 6) (r : BitVec 3)
  /-- FMIN (R97). FP32 minimumNumber. -/
  | fmin (d : BitVec 6) (a : BitVec 6) (b : BitVec 6)
  /-- FMAX (R97). FP32 maximumNumber. -/
  | fmax (d : BitVec 6) (a : BitVec 6) (b : BitVec 6)
  /-- FMA (R97). Fused FP32 multiply-add into the destination. -/
  | fma (d : BitVec 6) (a : BitVec 6) (b : BitVec 6) (r : BitVec 3)
  /-- FCVTFI (R97). Converts FP32 to signed INT64. -/
  | fcvtfi (d : BitVec 6) (a : BitVec 6) (r : BitVec 3)
  /-- FCVTIF (R97). Converts signed INT64 to FP32. -/
  | fcvtif (d : BitVec 6) (a : BitVec 6) (r : BitVec 3)
  /-- CMP (R100). 64-bit integer compare into a predicate. -/
  | cmp (p : BitVec 5) (a : BitVec 6) (b : BitVec 6) (k : BitVec 3)
  /-- FCMP (R101). FP32 compare into a predicate. -/
  | fcmp (p : BitVec 5) (a : BitVec 6) (b : BitVec 6) (k : BitVec 3)
  /-- TEST (R100). Sets a predicate when two scalars share a one bit. -/
  | test (p : BitVec 5) (a : BitVec 6) (b : BitVec 6)
  /-- PAND (R100). Predicate and. -/
  | pand (p : BitVec 5) (a : BitVec 5) (b : BitVec 5)
  /-- POR (R100). Predicate or. -/
  | por (p : BitVec 5) (a : BitVec 5) (b : BitVec 5)
  /-- PXOR (R100). Predicate exclusive or. -/
  | pxor (p : BitVec 5) (a : BitVec 5) (b : BitVec 5)
  /-- PNOT (R100). Predicate complement. -/
  | pnot (p : BitVec 5) (a : BitVec 5)
  /-- MFC (R111). Moves a control register to a scalar. -/
  | mfc (d : BitVec 6) (r : BitVec 6)
  /-- MTC (R112). Writes a control register under its access codes and value exclusions. -/
  | mtc (r : BitVec 6) (a : BitVec 6)
  /-- MFK (R111). Moves a mask register to a scalar. -/
  | mfk (d : BitVec 6) (k : BitVec 4)
  /-- MTK (R111). Moves a scalar to a mask register. -/
  | mtk (k : BitVec 4) (a : BitVec 6)
  /-- MFP (R111). Reads all logical predicates into a scalar. -/
  | mfp (d : BitVec 6)
  /-- MTP (R111). Writes predicates 1 to 31 from a scalar. -/
  | mtp (a : BitVec 6)
  /-- MFM (R111). Moves a matrix parameter register to a scalar. -/
  | mfm (d : BitVec 6) (m : BitVec 3)
  /-- MTM (R111). Moves a scalar to a matrix parameter register. -/
  | mtm (m : BitVec 3) (a : BitVec 6)
  /-- QPOPA (R114). Stall-form pop of a result queue on pipe A. -/
  | qpopa (d : BitVec 6) (q : BitVec 2)
  /-- QPOPA_NR (R114). Not-ready-form pop on pipe A that sets a predicate. -/
  | qpopaNr (d : BitVec 6) (q : BitVec 2) (p : BitVec 5)
  /-- LDB (R237). Loads one scratchpad byte, zero-extended. -/
  | ldb (d : BitVec 6) (a : BitVec 6) (i : BitVec 11)
  /-- LDH (R237). Loads a scratchpad halfword. -/
  | ldh (d : BitVec 6) (a : BitVec 6) (i : BitVec 11)
  /-- LDW (R237). Loads a scratchpad word. -/
  | ldw (d : BitVec 6) (a : BitVec 6) (i : BitVec 11)
  /-- LDD (R237). Loads a scratchpad doubleword. -/
  | ldd (d : BitVec 6) (a : BitVec 6) (i : BitVec 11)
  /-- STB (R237). Stores one byte to scratchpad. -/
  | stb (b : BitVec 6) (a : BitVec 6) (i : BitVec 11)
  /-- STH (R237). Stores a halfword to scratchpad. -/
  | sth (b : BitVec 6) (a : BitVec 6) (i : BitVec 11)
  /-- STW (R237). Stores a word to scratchpad. -/
  | stw (b : BitVec 6) (a : BitVec 6) (i : BitVec 11)
  /-- STD (R237). Stores a doubleword to scratchpad. -/
  | std (b : BitVec 6) (a : BitVec 6) (i : BitVec 11)
  /-- LDV (R238). Loads a 256-byte row from scratchpad with a given tag. -/
  | ldv (v : BitVec 8) (a : BitVec 6) (t : BitVec 4) (i : BitVec 7)
  /-- STV (R238). Stores a 256-byte row to scratchpad. -/
  | stv (v : BitVec 8) (a : BitVec 6) (i : BitVec 7)
  /-- LDM_BLOCK (R242). Copies 256 mirror bytes into scratchpad. -/
  | ldmBlock (a : BitVec 6) (m : BitVec 6)
  /-- LDM_SCALAR (R242). Loads 8 mirror bytes into a scalar. -/
  | ldmScalar (d : BitVec 6) (m : BitVec 6)
  /-- STM_BLOCK (R242). Copies 256 scratchpad bytes into the mirror segment. -/
  | stmBlock (a : BitVec 6) (m : BitVec 6)
  /-- STM_SCALAR (R242). Stores a scalar into 8 mirror bytes. -/
  | stmScalar (a : BitVec 6) (m : BitVec 6)
  /-- LDSHP (R239). Loads a 32-byte shape record from scratchpad. -/
  | ldshp (h : BitVec 4) (a : BitVec 6)
  /-- STSHP (R239). Stores a shape record to scratchpad. -/
  | stshp (h : BitVec 4) (a : BitVec 6)
  /-- VADD (R156). Unmasked lane-wise addition under DYN rounding. -/
  | vadd (d : BitVec 8) (a : BitVec 8) (b : BitVec 8)
  /-- VSUB (R156). Unmasked lane-wise subtraction. -/
  | vsub (d : BitVec 8) (a : BitVec 8) (b : BitVec 8)
  /-- VMUL (R156). Unmasked lane-wise multiplication. -/
  | vmul (d : BitVec 8) (a : BitVec 8) (b : BitVec 8)
  /-- VFMA (R156). Unmasked fused multiply-add into the destination. -/
  | vfma (d : BitVec 8) (a : BitVec 8) (b : BitVec 8)
  /-- VMIN (R156). Unmasked lane-wise minimum. -/
  | vmin (d : BitVec 8) (a : BitVec 8) (b : BitVec 8)
  /-- VMAX (R156). Unmasked lane-wise maximum. -/
  | vmax (d : BitVec 8) (a : BitVec 8) (b : BitVec 8)
  /-- VAND (R157). Unmasked bitwise and of rows. -/
  | vand (d : BitVec 8) (a : BitVec 8) (b : BitVec 8)
  /-- VOR (R157). Unmasked bitwise or of rows. -/
  | vor (d : BitVec 8) (a : BitVec 8) (b : BitVec 8)
  /-- VADD_MASKED (R156). Masked lane-wise addition with rounding field. -/
  | vaddMasked (d : BitVec 8) (b : BitVec 8) (k : BitVec 4) (r : BitVec 3)
  /-- VSUB_MASKED (R156). Masked lane-wise subtraction. -/
  | vsubMasked (d : BitVec 8) (b : BitVec 8) (k : BitVec 4) (r : BitVec 3)
  /-- VMUL_MASKED (R156). Masked lane-wise multiplication. -/
  | vmulMasked (d : BitVec 8) (b : BitVec 8) (k : BitVec 4) (r : BitVec 3)
  /-- VFMA_MASKED (R159). Masked fused multiply-add of a two-row group into the destination. -/
  | vfmaMasked (d : BitVec 8) (b : BitVec 8) (k : BitVec 4) (r : BitVec 3)
  /-- VMIN_MASKED (R156). Masked lane-wise minimum. -/
  | vminMasked (d : BitVec 8) (b : BitVec 8) (k : BitVec 4)
  /-- VMAX_MASKED (R156). Masked lane-wise maximum. -/
  | vmaxMasked (d : BitVec 8) (b : BitVec 8) (k : BitVec 4)
  /-- VAND_MASKED (R157). Masked bitwise and. -/
  | vandMasked (d : BitVec 8) (b : BitVec 8) (k : BitVec 4)
  /-- VOR_MASKED (R157). Masked bitwise or. -/
  | vorMasked (d : BitVec 8) (b : BitVec 8) (k : BitVec 4)
  /-- VXOR (R157). Bitwise exclusive or of rows. -/
  | vxor (d : BitVec 8) (b : BitVec 8) (k : BitVec 4)
  /-- VSHL (R156). Lane-wise left shift. -/
  | vshl (d : BitVec 8) (b : BitVec 8) (k : BitVec 4)
  /-- VSHR (R156). Lane-wise zero-filling right shift. -/
  | vshr (d : BitVec 8) (b : BitVec 8) (k : BitVec 4)
  /-- VSRA (R156). Lane-wise arithmetic right shift. -/
  | vsra (d : BitVec 8) (b : BitVec 8) (k : BitVec 4)
  /-- VMULH (R156). High half of the signed lane product. -/
  | vmulh (d : BitVec 8) (b : BitVec 8) (k : BitVec 4)
  /-- VABS (R158). Lane-wise absolute value. -/
  | vabs (d : BitVec 8) (s : BitVec 8) (k : BitVec 4)
  /-- VNEG (R158). Lane-wise negation. -/
  | vneg (d : BitVec 8) (s : BitVec 8) (k : BitVec 4)
  /-- VMOV (R158). Copies a row bit for bit. -/
  | vmov (d : BitVec 8) (s : BitVec 8) (k : BitVec 4)
  /-- VCMP (R160). Compares rows into a mask register. -/
  | vcmp (k : BitVec 4) (a : BitVec 8) (b : BitVec 8) (cond : BitVec 3)
  /-- VKAND (R160). Mask and. -/
  | vkand (k : BitVec 4) (a : BitVec 4) (b : BitVec 4)
  /-- VKOR (R160). Mask or. -/
  | vkor (k : BitVec 4) (a : BitVec 4) (b : BitVec 4)
  /-- VKXOR (R160). Mask exclusive or. -/
  | vkxor (k : BitVec 4) (a : BitVec 4) (b : BitVec 4)
  /-- VKNOT (R160). Mask complement. -/
  | vknot (k : BitVec 4) (a : BitVec 4)
  /-- VCVT (R163). Converts a row group between integer and floating formats. -/
  | vcvt (d : BitVec 8) (s : BitVec 8) (t : BitVec 4) (r : BitVec 3)
  /-- VQNT (R164). Quantises floating rows into an MX row and its scale row, or saturating FP8. -/
  | vqnt (d : BitVec 8) (s : BitVec 8) (t : BitVec 4) (r : BitVec 3)
  /-- VDQNT (R164). Dequantises an MX row and its scales into floating rows. -/
  | vdqnt (d : BitVec 8) (s : BitVec 8) (t : BitVec 4) (r : BitVec 3)
  /-- VRETAG (R165). Copies a row with a new format tag. -/
  | vretag (d : BitVec 8) (s : BitVec 8) (t : BitVec 4)
  /-- VEXP2 (R166). Lane-wise 2^x correctly rounded. -/
  | vexp2 (d : BitVec 8) (s : BitVec 8) (k : BitVec 4) (r : BitVec 3)
  /-- VLOG2 (R166). Lane-wise log2 correctly rounded. -/
  | vlog2 (d : BitVec 8) (s : BitVec 8) (k : BitVec 4) (r : BitVec 3)
  /-- VRCP (R166). Lane-wise reciprocal. -/
  | vrcp (d : BitVec 8) (s : BitVec 8) (k : BitVec 4) (r : BitVec 3)
  /-- VRSQRT (R166). Lane-wise reciprocal square root. -/
  | vrsqrt (d : BitVec 8) (s : BitVec 8) (k : BitVec 4) (r : BitVec 3)
  /-- VTANH (R166). Lane-wise hyperbolic tangent. -/
  | vtanh (d : BitVec 8) (s : BitVec 8) (k : BitVec 4) (r : BitVec 3)
  /-- VSQRT (R166). Lane-wise square root. -/
  | vsqrt (d : BitVec 8) (s : BitVec 8) (k : BitVec 4) (r : BitVec 3)
  /-- VPERM (R167). Permutes lanes of a row by an index row. -/
  | vperm (d : BitVec 8) (s : BitVec 8) (i : BitVec 8)
  /-- VBCS (R168). Broadcasts a scalar to every lane. -/
  | vbcs (d : BitVec 8) (a : BitVec 6) (t : BitVec 4)
  /-- VEXT (R168). Extracts one lane into a scalar. -/
  | vext (s : BitVec 8) (d : BitVec 6) (b : BitVec 6)
  /-- VINS (R168). Inserts a scalar into one lane. -/
  | vins (d : BitVec 8) (a : BitVec 6) (b : BitVec 6)
  /-- VRNG (R168). Fills 64 INT32 lanes from the counter-based generator and advances VRNGC. -/
  | vrng (d : BitVec 8)
  /-- VIOTA (R168). Writes an ascending integer sequence. -/
  | viota (d : BitVec 8) (a : BitVec 6) (t : BitVec 4)
  /-- VRSUM (R171). Tree-sums a row and adds the result into one latch lane at c+10. -/
  | vrsum (s : BitVec 8) (z : BitVec 2) (k : BitVec 4) (r : BitVec 3)
  /-- VRMIN (R171). Tree minimum of a row into one latch lane. -/
  | vrmin (s : BitVec 8) (z : BitVec 2) (k : BitVec 4) (r : BitVec 3)
  /-- VRMAX (R171). Tree maximum of a row into one latch lane. -/
  | vrmax (s : BitVec 8) (z : BitVec 2) (k : BitVec 4) (r : BitVec 3)
  /-- VZDRN (R172). Copies a latch into a row. -/
  | vzdrn (d : BitVec 8) (z : BitVec 2)
  /-- VZCLR (R172). Fills a latch with a scalar value and sets its tag. -/
  | vzclr (t : BitVec 4) (z : BitVec 2) (a : BitVec 6)
  /-- DADD (R215). All-pairing or same-realisation sum of distribution registers through the lens. -/
  | dadd (d : BitVec 4) (a : BitVec 4) (b : BitVec 4) (s : Bool)
  /-- DSUB (R215). Distribution difference. -/
  | dsub (d : BitVec 4) (a : BitVec 4) (b : BitVec 4) (s : Bool)
  /-- DMUL (R215). Distribution product. -/
  | dmul (d : BitVec 4) (a : BitVec 4) (b : BitVec 4) (s : Bool)
  /-- DMAX (R215). Distribution maximum. -/
  | dmax (d : BitVec 4) (a : BitVec 4) (b : BitVec 4) (s : Bool)
  /-- DMIN (R215). Distribution minimum. -/
  | dmin (d : BitVec 4) (a : BitVec 4) (b : BitVec 4) (s : Bool)
  /-- DAFF (R216). Applies a x + b to every point of a distribution register. -/
  | daff (d : BitVec 4) (a : BitVec 4) (b : BitVec 6)
  /-- DLD (R217). Loads a distribution register from scratchpad with tag and lineage. -/
  | dld (d : BitVec 4) (a : BitVec 6) (b : BitVec 6)
  /-- DST (R217). Stores a distribution register to scratchpad. -/
  | dst (s : BitVec 4) (a : BitVec 6)
  /-- DTAG (R218). Sets the source-set tag and lineage of a distribution register. -/
  | dtag (d : BitVec 4) (a : BitVec 6)
  /-- DPT (R219). Reads one point or the metadata of a distribution register. -/
  | dpt (d : BitVec 6) (s : BitVec 4) (b : BitVec 6)
  /-- DMOM (R222). Writes mean, variance and third central moment of each element. -/
  | dmom (d : BitVec 8) (s : BitVec 4)
  /-- DQNT (R225). Writes two quantiles of each element. -/
  | dqnt (d : BitVec 8) (s : BitVec 4) (b : BitVec 6)
  /-- DCDF (R224). Writes the CDF of each element at two points. -/
  | dcdf (d : BitVec 8) (s : BitVec 4) (b : BitVec 6)
  /-- DFROM (R221). Builds a distribution register from six rows. -/
  | dfrom (v : BitVec 8) (d : BitVec 4) (a : BitVec 6)
  /-- MMA (R189). Multiplies an MX A row by an array's B tile and accumulates into an FP32 row. -/
  | mma (d : BitVec 8) (a : BitVec 8) (w : BitVec 2) (g : Bool) (n : Bool) (f : BitVec 2) (m : BitVec 3)
  /-- MLDB (R191). Loads an array's shadow copy and scales from scratchpad; swaps at c+20. -/
  | mldb (w : BitVec 2) (h : BitVec 4)
  /-- MDRN (R192). Drains a side accumulator into a row and clears it. -/
  | mdrn (vd : BitVec 8) (sel : Bool) (w : BitVec 2)
  /-- MFID (R193). Sets FIDEL.LEVEL. -/
  | mfid (n : BitVec 2)
  /-- MPROG (R195). Writes a microprogram store word or a routine table entry. -/
  | mprog (a : BitVec 6) (b : BitVec 6)
  /-- MSTAT (R194). Reads engine status in one of two layouts. -/
  | mstat (d : BitVec 6) (s : BitVec 6)
  /-- MCALL (R196). Starts or queues a matrix microprogram routine. -/
  | mcall (i : BitVec 6)
  /-- BACT (R249). Activates a row of a vault bank. -/
  | bact (b : BitVec 6) (a : BitVec 6) (i : BitVec 11)
  /-- BRD (R249). Reads a column of the open row into scratchpad at c+tRL. -/
  | brd (b : BitVec 6) (a : BitVec 6) (k : BitVec 4) (o : BitVec 7)
  /-- BWR (R249). Writes 128 scratchpad bytes into a column of the open row. -/
  | bwr (b : BitVec 6) (a : BitVec 6) (k : BitVec 4) (o : BitVec 7)
  /-- BPRE (R249). Precharges one bank. -/
  | bpre (b : BitVec 6)
  /-- BPREA (R249). Precharges every owned bank of a tier. -/
  | bprea (t : BitVec 2)
  /-- BREF (R249). Refreshes the next 16 rows of a bank. -/
  | bref (b : BitVec 6)
  /-- BSTAT (R252). Reads live or frozen bank and tier state words. -/
  | bstat (b : BitVec 6) (d : BitVec 6) (s : BitVec 11)
  /-- XPUT (R281). Pushes a word into an exchange port, the gateway or the fabric port. -/
  | xput (f : BitVec 3) (a : BitVec 6)
  /-- XGET (R281). Pops a word from an exchange port, the gateway or the fabric port. -/
  | xget (d : BitVec 6) (f : BitVec 3)
  /-- CSYNC (R283). Makes a cluster sync outstanding with a mask and tag. -/
  | csync (a : BitVec 6) (t : BitVec 6)
  /-- PBAR (R313). Joins the placement's superstep barrier and selects the route list. -/
  | pbar (r : Bool) (s : BitVec 12)
  /-- CLD (R291). Loads 8 bytes from a cluster peer's scratchpad into qgl. -/
  | cld (a : BitVec 6)
  /-- CST (R291). Stores 8 bytes into a cluster peer's scratchpad after commit. -/
  | cst (a : BitVec 6) (b : BitVec 6)
  /-- CPY (R288). Requests a strided copy between spaces under a tag. -/
  | cpy (d : BitVec 4) (s : BitVec 4) (t : BitVec 6)
  /-- TWALL (R290). Waits until every masked tag is idle. -/
  | twall (a : BitVec 6)
  /-- TWANY (R290). Waits until any masked tag is idle and returns the idle set. -/
  | twany (d : BitVec 6) (a : BitVec 6)
  /-- TFFR (R290). Returns the lowest idle masked tag without waiting. -/
  | tffr (d : BitVec 6) (a : BitVec 6)
  /-- OBCST (R331). Broadcasts a payload to a group on a prism bus. -/
  | obcst (a : BitVec 6) (b : BitVec 6) (t : BitVec 6)
  /-- ORED (R331). Sends a payload for reduce-on-receive to a group. -/
  | ored (a : BitVec 6) (b : BitVec 6) (t : BitVec 6)
  /-- ORECV (R332). Arms a copy or reduce receive. -/
  | orecv (a : BitVec 6) (b : BitVec 6)
  /-- ACQ (R336). Requests exclusive hold of a sync object. -/
  | acq (a : BitVec 6)
  /-- ACQS (R336). Requests shared hold of a sync object. -/
  | acqs (a : BitVec 6)
  /-- REL (R336). Releases a sync object once its conditions hold. -/
  | rel (a : BitVec 6) (b : BitVec 6)
  /-- GBAR (R339). Marks a group barrier episode and waits for its release. -/
  | gbar (a : BitVec 6)
  /-- OGET (R340). Reads an optical control register by index. -/
  | oget (d : BitVec 6) (a : BitVec 6)
  /-- OSET (R340). Writes an optical control register by index. -/
  | oset (a : BitVec 6) (b : BitVec 6)
  /-- GLD (R365). Loads from global space into qgl. -/
  | gld (a : BitVec 6) (w : Bool)
  /-- GST (R365). Stores to global space after commit. -/
  | gst (a : BitVec 6) (b : BitVec 6) (w : Bool)
  /-- GAADD (R366). Global atomic wrapping add. -/
  | gaadd (q : Bool) (a : BitVec 6) (b : BitVec 6) (t : Bool) (w : Bool)
  /-- GAMIN (R366). Global atomic signed minimum. -/
  | gamin (q : Bool) (a : BitVec 6) (b : BitVec 6) (t : Bool) (w : Bool)
  /-- GAMAX (R366). Global atomic signed maximum. -/
  | gamax (q : Bool) (a : BitVec 6) (b : BitVec 6) (t : Bool) (w : Bool)
  /-- GAAND (R366). Global atomic and. -/
  | gaand (q : Bool) (a : BitVec 6) (b : BitVec 6) (t : Bool) (w : Bool)
  /-- GAOR (R366). Global atomic or. -/
  | gaor (q : Bool) (a : BitVec 6) (b : BitVec 6) (t : Bool) (w : Bool)
  /-- GAXOR (R366). Global atomic exclusive or. -/
  | gaxor (q : Bool) (a : BitVec 6) (b : BitVec 6) (t : Bool) (w : Bool)
  /-- GASWP (R366). Global atomic swap. -/
  | gaswp (q : Bool) (a : BitVec 6) (b : BitVec 6) (t : Bool) (w : Bool)
  /-- GACAS (R366). Global atomic compare-and-swap, always returning the old value. -/
  | gacas (k : BitVec 6) (a : BitVec 6) (b : BitVec 6) (t : Bool) (w : Bool)
  /-- GAFADD (R366). Global atomic FP32 add rounded to nearest even. -/
  | gafadd (q : Bool) (a : BitVec 6) (b : BitVec 6) (t : Bool)
  /-- GAFMIN (R366). Global atomic FP32 minimumNumber. -/
  | gafmin (q : Bool) (a : BitVec 6) (b : BitVec 6) (t : Bool)
  /-- GAFMAX (R366). Global atomic FP32 maximumNumber. -/
  | gafmax (q : Bool) (a : BitVec 6) (b : BitVec 6) (t : Bool)
  /-- GABADD (R366). Global atomic paired-BF16 add. -/
  | gabadd (q : Bool) (a : BitVec 6) (b : BitVec 6) (t : Bool)
  /-- GXADD (R367). Adds an FP32 addend exactly into a 64-byte XADD cell. -/
  | gxadd (a : BitVec 6) (b : BitVec 6) (t : Bool)
  /-- GXRD (R368). Reads out an XADD cell as one FP32 value. -/
  | gxrd (a : BitVec 6)
  /-- GFENCE (R369). Posts to qfx once earlier global and host accesses are performed. -/
  | gfence
  /-- GWS (R447). Writes a payload to global space and then signals a flag. -/
  | gws (k : BitVec 6) (a : BitVec 6) (b : BitVec 6)
  /-- HLD (R373). Loads 8 bytes of host memory into qgl. -/
  | hld (a : BitVec 6)
  /-- HST (R373). Stores 8 bytes to host memory after commit. -/
  | hst (a : BitVec 6) (b : BitVec 6)
  /-- QPOP (R114). Stall-form pop of a result queue on pipe X. -/
  | qpop (d : BitVec 6) (q : BitVec 2)
  /-- QPOP_NR (R114). Not-ready-form pop on pipe X that sets a predicate. -/
  | qpopNr (d : BitVec 6) (q : BitVec 2) (p : BitVec 5)
  /-- ASYNC_CAUSE_DELIVER (R118). A pending class A cause stops the next bundle of the context and is delivered. -/
  | asyncCauseDeliver (c : CtxId)
  /-- RESULT_LANDING (R91). A fixed-latency result is written at its landing cycle, later-issued bundle winning on ties. -/
  | resultLanding
  /-- SNAPSHOT_REPLAY (R131). A snapshot entry is written to its destination at S+OFFSET. -/
  | snapshotReplay
  /-- REDUCTION_UPDATE (R171). A reduction adds its tree result into the latch lane at c+10. -/
  | reductionUpdate
  /-- MMA_LAND (R180). An MMA or STEP updates its accumulator row and side accumulators at its latency, counting slice errors. -/
  | mmaLand
  /-- MDRN_LAND (R192). A drain writes the side accumulator to its row and clears it at c+6. -/
  | mdrnLand
  /-- MLDB_SWAP (R191). At c+20 the shadow copy is written and the array copies exchange roles. -/
  | mldbSwap
  /-- ROUTINE_STEP (R199). The engine issues a STEP microword as an MMA. -/
  | routineStep
  /-- ROUTINE_LOAD (R199). The engine issues a LOAD microword as an MLDB. -/
  | routineLoad
  /-- ROUTINE_END (R199). A routine ends or stops and posts its qmx entry after its last landing. -/
  | routineEnd
  /-- BRD_LAND (R249). A column read lands in scratchpad at c+tRL. -/
  | brdLand
  /-- BWR_ROW_WRITE (R249). Write data enter the open row at c+tWL. -/
  | bwrRowWrite
  /-- BANK_PHASE_END (R246). An ACTIVATING, PRECHARGING or REFRESHING phase count reaches 0 and the bank changes state. -/
  | bankPhaseEnd
  /-- REFRESH_DEADLINE_EXPIRE (R254). A bank's DL reaches 0; the vault takes the D pipe and REFRESH_OVERRUN becomes pending. -/
  | refreshDeadlineExpire (bank : BitVec 6) (core : BitVec 11 := 0)
  /-- EMERGENCY_REFRESH (R318). The vault precharges and refreshes the placement's owned banks itself. -/
  | emergencyRefresh
  /-- TIER_CLASS_CHANGE (R253). A tier's temperature class changes, rescaling DL and re-evaluating the re-plan request. -/
  | tierClassChange (tier : BitVec 2) (cls : BitVec 2) (core : BitVec 11 := 0)
  /-- REPLAN_AGE_EXPIRE (R318). A rising re-plan request reaches 2,000,000 ticks and emergency refresh begins. -/
  | replanAgeExpire
  /-- PATROL_SCRUB (R258). Scrub finds and corrects an error in a bank that is not open. -/
  | patrolScrub (r : Corrected)
  /-- UNCORRECTABLE_ERROR (R259). Rolls every slotted context of the core back to its checkpoint. -/
  | uncorrectableError (src : BitVec 4) (loc : BitVec 24)
  /-- ROLLBACK_RESTORE_DONE (R261). The bank restore ends and the rerun starts at S. -/
  | rollbackRestoreDone
  /-- SLOT_SELECT (R142). The core selects a ready resident context for a free or blocked slot and starts its stream. -/
  | slotSelect
  /-- LOAD_STREAM_DONE (R33). A context's load stream completes and it becomes RUNNING. -/
  | loadStreamDone
  /-- UNLOAD_STREAM_DONE (R33). An unload completes and the context becomes RESIDENT or FINISHED. -/
  | unloadStreamDone
  /-- SEGMENT_EXPANDED (R150). A segment expansion completes and becomes issuable. -/
  | segmentExpanded
  /-- QUEUE_ENTRY_DELIVER (R146). An engine delivers an entry into a result queue, waking a blocked pop. -/
  | queueEntryDeliver (c : CtxId) (q : BitVec 2)
  /-- XCHG_WORD_ARRIVE (R281). A pushed exchange word arrives at the partner port at c+2. -/
  | xchgWordArrive (port : BitVec 2) (v : Dbl)
  /-- XCHG_WINDOW_EXPIRE (R281). An unpopped exchange word is discarded at the end of its window and TIMING_MISS arises. -/
  | xchgWindowExpire
  /-- CSYNC_RELEASE (R284). The cluster sync unit releases a matched mask at L+4. -/
  | csyncRelease (last : Nat := 0)
  /-- TAG_COUNT_ZERO (R290). A tag's count reaches 0, letting waiting tag words issue. -/
  | tagCountZero (t : BitVec 6)
  /-- COPY_TAKE (R287). A free copy engine takes the next request in the copy queue. -/
  | copyTake
  /-- COPY_COMPLETE (R289). A copy's last destination byte is written and its tag count falls. -/
  | copyComplete (engine : Bool) (part : Option Nat := none) (bytes : Nat := 0)
  /-- PEER_ACCESS_PERFORM (R292). A CLD or CST is performed at the peer when its port is free and earlier accesses are done. -/
  | peerAccessPerform (r : PeerReq)
  /-- DROOP_STRETCH (R295). A detected droop stretches the next cycle of the cluster. -/
  | droopStretch
  /-- FLL_LOCK (R294). The FLL locks after a frequency change and the cluster clock resumes. -/
  | fllLock
  /-- SVCBUD_INTERVAL (R298). A 1,000-tick interval starts and USED is cleared. -/
  | svcbudInterval
  /-- SERVICE_EGRESS (R299). A waiting service access leaves the cluster egress under its budget. -/
  | serviceEgress (others : BitVec 24 := 0)
  /-- SERVICE_FLIT_HOP (R304). A service flit leaves a station on a service tick in dimension order. -/
  | serviceFlitHop
  /-- ROUTE_FLIT_DEPART (R308). A timed route's flit departs at r+dep, raising LATE_PUSH if short. -/
  | routeFlitDepart
  /-- ROUTE_FLIT_ARRIVE (R308). A route's words enter the destination gateway receive buffer. -/
  | routeFlitArrive (ws : List Dbl) (seq : Nat := 0)
  /-- PBAR_ARRIVE (R313). A waiting PBAR registers its arrival once the context has nothing outstanding. -/
  | pbarArrive (c : CtxId)
  /-- PBAR_RELEASE (R313). The barrier releases at tick r and PBAR bundles issue. -/
  | pbarRelease (r : Nat) (steps : List (BitVec 12) := []) (seq : Nat := 0)
  /-- PREEMPT_REQUEST (R133). The distributor pre-empts a launch at a superstep boundary or urgently. -/
  | preemptRequest (seq : Nat) (urgent : Bool)
  /-- PLACEMENT_RESUME (R315). A pre-empted placement restarts at the common tick with mapped events. -/
  | placementResume (seq : Nat) (sp : Nat)
  /-- CLUSTER_GATE (R322). A cluster is gated with contents kept at retention. -/
  | clusterGate (cl : BitVec 7)
  /-- CLUSTER_WAKE (R322). A gated cluster begins waking. -/
  | clusterWake (cl : BitVec 7)
  /-- CLUSTER_WAKE_DONE (R322). After 18 µs the cluster becomes ACTIVE. -/
  | clusterWakeDone (cl : BitVec 7)
  /-- DIE_GATE (R322). A die whose clusters are all gated is gated. -/
  | dieGate (d : BitVec 3)
  /-- DIE_WAKE (R322). A gated die begins waking. -/
  | dieWake (d : BitVec 3)
  /-- DIE_WAKE_DONE (R322). After 120 µs the die is ON with every cluster gated. -/
  | dieWakeDone (d : BitVec 3)
  /-- COLUMN_REENABLE (R320). An in-field test re-enables a retired column. -/
  | columnReenable (core : BitVec 11)
  /-- TOKEN_ARRIVE (R325). A bus token reaches a station, starting a round at station 0, and the station sends or passes it. -/
  | tokenArrive (bus : BitVec 2)
  /-- FRAME_LAST_BEAT (R325). A frame's last beat is sent and the token moves on. -/
  | frameLastBeat (bus : BitVec 2) (other : Option (Frame × Dbl × Dbl) := none)
  /-- STATION_ENQUEUE (R328). A ready frame enters the station's transmit queue. -/
  | stationEnqueue (bus : BitVec 2) (other : Option Frame := none)
  /-- FRAME_DATA (R333). A seen DATA frame is delivered to matching copy receives. -/
  | frameData (f : Frame) (crc : BitVec 32) (drops : BitVec 4 := 0)
  /-- FRAME_RED (R333). A seen RED frame is added into matching reduce receives. -/
  | frameRed (f : Frame) (crc : BitVec 32) (drops : BitVec 4 := 0)
  /-- FRAME_ACQ (R337). The filters decide an exclusive acquire. -/
  | frameAcq (f : Frame) (crc : BitVec 32)
  /-- FRAME_ACQS (R337). The filters decide a shared acquire. -/
  | frameAcqs (f : Frame) (crc : BitVec 32)
  /-- FRAME_REL (R337). The filters decide a release and hand the object over. -/
  | frameRel (f : Frame) (crc : BitVec 32)
  /-- FRAME_MARK (R339). A GBAR mark is counted and may release the episode. -/
  | frameMark (f : Frame) (crc : BitVec 32)
  /-- FRAME_MAP (R345). Receivers replace their lane map for the sending station. -/
  | frameMap (f : Frame) (crc : BitVec 32)
  /-- FRAME_RESET (R337). A sync object is reset to FREE and its waiters removed. -/
  | frameReset (f : Frame) (crc : BitVec 32)
  /-- RECEIVER_LOCK (R327). A station's receiver reports lock and becomes present at the next round start. -/
  | receiverLock (bus : BitVec 2) (st : BitVec 7) (up : Bool := true)
  /-- BUSGATE_WRITE (R406). Gates or ungates the cluster's station on chosen buses. -/
  | busgateWrite (v : Dbl) (cl : Option (BitVec 7) := none)
  /-- THEAT_WRITE (R342). Writes a ring heater code, clamping and setting the saturation bit. -/
  | theatWrite (idx : BitVec 16) (v : Dbl)
  /-- MAPGO_GO (R345). Queues a MAP frame carrying the staged lane map. -/
  | mapgoGo (bus : BitVec 2)
  /-- MAPGO_QUIET (R415). Makes the station quiet from the MAP frame's last beat. -/
  | mapgoQuiet (bus : BitVec 2)
  /-- MAPGO_RESUME (R415). Ends the station's quiet period. -/
  | mapgoResume (bus : BitVec 2)
  /-- QUIET_TIMEOUT (R416). A quiet period ends after 65,536 ticks. -/
  | quietTimeout (bus : BitVec 2)
  /-- HOME_PERFORM (R362). A home agent translates, checks and performs one global access. -/
  | homePerform (r : HomeReq)
  /-- PAGE_MAPPED (R358). After the supervisor maps a page, held loads are performed and side logs replay. -/
  | pageMapped (core : BitVec 11) (idx : BitVec 12)
  /-- SIDE_LOG_REPLAY (R360). A side-log entry is performed at its home. -/
  | sideLogReplay (c : CtxId) (n : Nat) (r : Reply := .done 0 false)
  /-- HTINV_WRITE (R357). Drops translation-buffer entries for a home table index. -/
  | htinvWrite (v : Dbl) (core : BitVec 11 := 0)
  /-- HTINV_ACK (R356). The agent acknowledges an invalidation once old translations are performed. -/
  | htinvAck (core : BitVec 11 := 0)
  /-- PAGE_MIGRATE (R363). An eligible page moves to the writing package. -/
  | pageMigrate (core : BitVec 11) (idx : BitVec 12) (q : BitVec 6)
  /-- PAGE_MOVE_DONE (R363). A page move completes and held accesses are forwarded. -/
  | pageMoveDone (core : BitVec 11) (idx : BitVec 12) (guest : Option (BitVec 48 × BitVec 64) := none)
  /-- HOST_ACCESS_PERFORM (R374). A host access is performed at the companion's coherence point. -/
  | hostAccessPerform (r : HostReq)
  /-- LAUNCH_RECORD_TAKE (R393). The launch agent takes a new SEQ and checks the record. -/
  | launchRecordTake (slot : BitVec 8)
  /-- LAUNCH_CANCEL (R395). A CANCEL write ends the launch. -/
  | launchCancel (slot : BitVec 8)
  /-- LAUNCH_DEPS_MET (R395). A waiting launch's dependences have ended and it is validated and queued. -/
  | launchDepsMet (slot : BitVec 8)
  /-- DISTRIBUTOR_DECIDE (R402). The distributor tries queued launches in effective priority order. -/
  | distributorDecide
  /-- LAUNCH_START (R404). After relocation and loading, every core's first bundle issues at tick L. -/
  | launchStart (slot : BitVec 8)
  /-- LAUNCH_END (R405). The plan ends and its completion record and resources are written and freed. -/
  | launchEnd (slot : BitVec 8) (status : LaunchStatus)
  /-- CTX_RECORD_WRITE (R37). The supervisor writes a context state record. -/
  | ctxRecordWrite (c : CtxId) (off : Nat) (bytes : List Byte)
  /-- SUPERVISOR_RESUME_TPC (R127). Resumes a held context at TPC with snapshot replay. -/
  | supervisorResumeTpc (c : CtxId)
  /-- SUPERVISOR_RESUME_PC (R127). Resumes the handler of a held context at PC. -/
  | supervisorResumePc (c : CtxId)
  /-- SUPERVISOR_EVICT (R126). Evicts a held context and records its banks. -/
  | supervisorEvict (c : CtxId)
  /-- SUPERVISOR_END_PLAN (R126). Ends the plan and discards snapshot state. -/
  | supervisorEndPlan (c : CtxId) (status : LaunchStatus)
  /-- CLKCTL_WRITE (R294). Writes FREQ, held for a timed plan, gating the clock until lock. -/
  | clkctlWrite (v : Dbl)
  /-- CLKCTL_READ (R293). Reads CLKCTL and clears STRC. -/
  | clkctlRead
  /-- LINK_READ (R437). Reads LINK and clears RTRY. -/
  | linkRead (port : BitVec 4)
  /-- INGREJA_READ (R446). Reads INGREJA and clears COUNT. -/
  | ingrejaRead
  /-- MGMT_REGISTER_WRITE (R11). A management write to a register with no behaviour of its own. -/
  | mgmtRegisterWrite (r : MgmtReg) (v : Dbl)
  /-- POWER_WINDOW (R422). A 1 ms power window ends and over-limit power starts FREQ reduction. -/
  | powerWindow (watts : Nat)
  /-- POWER_FREQ_STEP (R422). Every 10 µs over limit, FREQ of untimed clusters drops one step. -/
  | powerFreqStep
  /-- THERMAL_TRIP (R423). A junction at 115 °C resets the package. -/
  | thermalTrip (die : BitVec 3) (reading : Nat)
  /-- ENERGY_INTERVAL (R425). Each 1 µs the cluster's metered energy is divided among accounts. -/
  | energyInterval (parts : List EnergyPart)
  /-- EBPIN_RETRAIN_TIMEOUT (R427). Ebpin retraining failing for 100 ms resets the package. -/
  | ebpinRetrainTimeout
  /-- PACKAGE_RESET (R428). Each die's boot ROM verifies its firmware after reset. -/
  | packageReset (digestsOk : BitVec 8)
  /-- ATTEST_REQUEST (R429). Returns a signed attestation report for a nonce. -/
  | attestRequest (nonce : List Byte)
  /-- DEBUG_ACCESS (R431). A debugger read or write of a mirror segment or vault layer. -/
  | debugAccess (layer : DebugLayer) (off : Nat) (wr : Option Byte) (busy : Bool := false)
  /-- DEBUG_WAKE (R432). Starts bringing one layer to nominal voltage. -/
  | debugWake (layer : DebugLayer)
  /-- DEBUG_WAKE_DONE (R432). After 20 µs the layer is debug-awake. -/
  | debugWakeDone (layer : DebugLayer)
  /-- DEBUG_RELEASE (R432). The debugger releases a layer, which returns to retention. -/
  | debugRelease (layer : DebugLayer)
  /-- DEBUG_IDLE_TIMEOUT (R432). A debug-awake layer unused for 1 s returns to retention. -/
  | debugIdleTimeout (layer : DebugLayer)
  /-- LINK_TRAIN_REQUEST (R437). Firmware starts training a DOWN fabric link. -/
  | linkTrainRequest (port : BitVec 4)
  /-- LINK_LOCK (R437). A training link locks within PAD and goes UP. -/
  | linkLock (port : BitVec 4) (measured : Nat)
  /-- LINK_TRAIN_TIMEOUT (R437). Training fails or exceeds 10 ms and the link stays DOWN. -/
  | linkTrainTimeout (port : BitVec 4)
  /-- LINK_CHECK_FAIL (R455). 64 failed link-check ticks take a link DOWN and paths switch. -/
  | linkCheckFail (port : BitVec 4)
  /-- PACKAGE_UNREACHABLE (R455). A package with no path for 100 ms becomes unreachable and plans end. -/
  | packageUnreachable (pkg : BitVec 6)
  /-- FABRIC_FLIT_ARRIVE (R440). Words of a fabric route flit enter the far gateway's fi. -/
  | fabricFlitArrive (port : BitVec 4) (ws : List Dbl)
  /-- FABRIC_REQUEST_ARRIVE (R445). The ingress checks a request's grant token before it is performed. -/
  | fabricRequestArrive (q : FabricRequest)
  /-- REMOTE_REPLY (R452). A reply arrives, posting data or UNSUPPORTED and raising ATOMIC_UNSUP when T is set. -/
  | remoteReply (n : Nat) (r : Reply) (part : Option (Bool × Bool × Nat) := none)
  /-- FABRIC_SYNC_MESSAGE (R453). The fabric sync agent decides an ACQ, ACQS or REL in arrival order. -/
  | fabricSyncMessage (m : SyncMessage)
  /-- SUPERVISOR_END_CONTEXT (R33). The supervisor ends a held context under R405, so that it unloads and becomes FINISHED. -/
  | supervisorEndContext (c : CtxId)
  /-- EVICTED_BANK_REFRESH (R136). While a plan is evicted, the supervisor refreshes each of its compiler-owned banks before its refresh deadline. -/
  | evictedBankRefresh
  /-- EBPIN_RETRAINING_START (R427). The Ebpin link is lost and retraining begins, so host accesses wait in order. -/
  | ebpinRetrainingStart
  /-- EBPIN_RETRAINING_DONE (R427). Ebpin retraining succeeds and the waiting host accesses proceed in order. -/
  | ebpinRetrainingDone
  /-- PACKAGE_POWER_LOSS (R433). Package power is lost, which loses the black-box record along with all other state. -/
  | packagePowerLoss
  /-- LAUNCH_WINDOW_REGISTER (R392). The companion registers the launch window's host base with the launch agent at boot, and the agent holds its lines shared. -/
  | launchWindowRegister (base : Nat)
  /-- DOMAIN_FORMED (R436). Forming a load-store domain writes the topology table, package numbers, paths and PADs in every package. -/
  | domainFormed (t : Topology)
  /-- GRANT_TOKEN_MINT (R444). At the domain management's request, the target package's firmware mints a grant token with its ingress key. -/
  | grantTokenMint (rights : BitVec 8) (region : BitVec 20) (expiry : BitVec 12) (pkg : BitVec 6)
  deriving DecidableEq, Repr

end Sys2Proof
end

