-- ==== Sys2Proof/WellFormed.lean ====
section
/-! DEFINITION. Which instructions are well formed: the operand values that an encoding of R77 to R79 admits. -/

namespace Sys2Proof

/-- A rounding-mode code that R45 assigns. -/
def rmOk (r : BitVec 3) : Bool := r != 5 && r != 6
/-- A run of n rows from x that ends at v255 or below (R162). -/
def runFits (x : BitVec 8) (n : Nat) : Bool := x.toNat + n ≤ 256
/-- Two runs of n rows that coincide or share no row (R76). -/
def runsApart (x y : BitVec 8) (n : Nat) : Bool := x == y || (y.toNat + n ≤ x.toNat || x.toNat + n ≤ y.toNat)

/-- The instruction's operands are values that its encoding admits (R78, R79 and the rule of each instruction). -/
def Instr.wellFormed : Instr → Bool
  | .j n p _ => !(n && p == 0)
  | .call n p _ => !(n && p == 0)
  | .loop _ _ => true
  | .nop => true
  | .jr _ => true
  | .ret => true
  | .ckpt => true
  | .sys _ => true
  | .trap _ => true
  | .brk _ => true
  | .eret => true
  | .fence m s => m != 0 && s.toNat < 6
  | .add _ _ _ _ => true
  | .sub _ _ _ _ => true
  | .mul _ _ _ _ => true
  | .mulh _ _ _ _ _ => true
  | .div _ _ _ _ _ => true
  | .rem _ _ _ _ _ => true
  | .and _ _ _ _ => true
  | .or _ _ _ _ => true
  | .xor _ _ _ _ => true
  | .andn _ _ _ _ => true
  | .shl _ _ _ _ => true
  | .shr _ _ _ _ => true
  | .sra _ _ _ _ => true
  | .min _ _ _ _ _ => true
  | .max _ _ _ _ _ => true
  | .adds _ _ _ _ _ => true
  | .subs _ _ _ _ _ => true
  | .clz _ _ _ => true
  | .ctz _ _ _ => true
  | .popc _ _ _ => true
  | .mov _ _ _ => true
  | .addi _ _ _ => true
  | .andi _ _ _ => true
  | .ori _ _ _ => true
  | .xori _ _ _ => true
  | .shli _ _ i => i.toNat < 64
  | .shri _ _ i => i.toNat < 64
  | .srai _ _ i => i.toNat < 64
  | .muli _ _ _ => true
  | .li _ _ => true
  | .lis _ _ => true
  | .adr _ _ => true
  | .fadd _ _ _ r => rmOk r
  | .fsub _ _ _ r => rmOk r
  | .fmul _ _ _ r => rmOk r
  | .fdiv _ _ _ r => rmOk r
  | .fsqrt _ _ r => rmOk r
  | .fmin _ _ _ => true
  | .fmax _ _ _ => true
  | .fma _ _ _ r => rmOk r
  | .fcvtfi _ _ r => rmOk r
  | .fcvtif _ _ r => rmOk r
  | .cmp _ _ _ k => k.toNat < 6
  | .fcmp _ _ _ k => k.toNat < 4
  | .test _ _ _ => true
  | .pand _ _ _ => true
  | .por _ _ _ => true
  | .pxor _ _ _ => true
  | .pnot _ _ => true
  | .mfc _ r => r.toNat < 0x0F
  | .mtc r _ => r.toNat < 0x0F
  | .mfk _ _ => true
  | .mtk _ _ => true
  | .mfp _ => true
  | .mtp _ => true
  | .mfm _ _ => true
  | .mtm _ _ => true
  | .qpopa _ _ => true
  | .qpopaNr _ _ p => p != 0
  | .ldb _ _ _ => true
  | .ldh _ _ _ => true
  | .ldw _ _ _ => true
  | .ldd _ _ _ => true
  | .stb _ _ _ => true
  | .sth _ _ _ => true
  | .stw _ _ _ => true
  | .std _ _ _ => true
  | .ldv _ _ t _ => t.toNat < 14
  | .stv _ _ _ => true
  | .ldmBlock _ _ => true
  | .ldmScalar _ _ => true
  | .stmBlock _ _ => true
  | .stmScalar _ _ => true
  | .ldshp _ _ => true
  | .stshp _ _ => true
  | .vadd _ _ _ => true
  | .vsub _ _ _ => true
  | .vmul _ _ _ => true
  | .vfma _ _ _ => true
  | .vmin _ _ _ => true
  | .vmax _ _ _ => true
  | .vand _ _ _ => true
  | .vor _ _ _ => true
  | .vaddMasked _ _ _ r => rmOk r
  | .vsubMasked _ _ _ r => rmOk r
  | .vmulMasked _ _ _ r => rmOk r
  | .vfmaMasked d b _ r => b != 255 && !(d == b || d.toNat == b.toNat + 1) && rmOk r
  | .vminMasked _ _ _ => true
  | .vmaxMasked _ _ _ => true
  | .vandMasked _ _ _ => true
  | .vorMasked _ _ _ => true
  | .vxor _ _ _ => true
  | .vshl _ _ _ => true
  | .vshr _ _ _ => true
  | .vsra _ _ _ => true
  | .vmulh _ _ _ => true
  | .vabs _ _ _ => true
  | .vneg _ _ _ => true
  | .vmov _ _ _ => true
  | .vcmp _ _ _ _ => true
  | .vkand _ _ _ => true
  | .vkor _ _ _ => true
  | .vkxor _ _ _ => true
  | .vknot _ _ => true
  | .vcvt d s t r => runFits d 4 && runFits s 4 && (1 ≤ t.toNat && t.toNat ≤ 8) && rmOk r && runsApart d s 4
  | .vqnt d s t r => runFits d 8 && runFits s 8 && (7 ≤ t.toNat && t.toNat ≤ 13) && rmOk r && runsApart d s 8
  | .vdqnt d s t r => runFits d 8 && runFits s 8 && (4 ≤ t.toNat && t.toNat ≤ 6) && rmOk r && runsApart d s 8
  | .vretag _ _ t => t.toNat < 14
  | .vexp2 _ _ _ r => rmOk r
  | .vlog2 _ _ _ r => rmOk r
  | .vrcp _ _ _ r => rmOk r
  | .vrsqrt _ _ _ r => rmOk r
  | .vtanh _ _ _ r => rmOk r
  | .vsqrt _ _ _ r => rmOk r
  | .vperm _ _ _ => true
  | .vbcs _ _ t => t.toNat < 9
  | .vext _ _ _ => true
  | .vins _ _ _ => true
  | .vrng _ => true
  | .viota _ _ t => 1 ≤ t.toNat && t.toNat < 4
  | .vrsum _ _ _ r => rmOk r
  | .vrmin _ _ _ r => rmOk r
  | .vrmax _ _ _ r => rmOk r
  | .vzdrn _ _ => true
  | .vzclr t _ _ => t == 3 || t == 4
  | .dadd _ _ _ _ => true
  | .dsub _ _ _ _ => true
  | .dmul _ _ _ _ => true
  | .dmax _ _ _ _ => true
  | .dmin _ _ _ _ => true
  | .daff _ _ _ => true
  | .dld _ _ _ => true
  | .dst _ _ => true
  | .dtag _ _ => true
  | .dpt _ _ _ => true
  | .dmom d _ => d.toNat ≤ 254
  | .dqnt _ _ _ => true
  | .dcdf _ _ _ => true
  | .dfrom v _ _ => v.toNat ≤ 250
  | .mma d a _ _ _ f m => a != 255 && m.toNat < 5 && !((f == 1 || f == 2) && (m == 0 || m == 3 || m == 4)) && !(d == a || d.toNat == a.toNat + 1)
  | .mldb _ _ => true
  | .mdrn _ _ _ => true
  | .mfid n => n != 3
  | .mprog _ _ => true
  | .mstat _ s => s.toNat < 2
  | .mcall _ => true
  | .bact _ _ _ => true
  | .brd _ _ _ _ => true
  | .bwr _ _ _ _ => true
  | .bpre _ => true
  | .bprea _ => true
  | .bref _ => true
  | .bstat b _ s => s.toNat < 7 && !(s == 6 && b != 0)
  | .xput f _ => f != 5 && f != 7
  | .xget _ f => f != 6 && f != 7
  | .csync _ _ => true
  | .pbar _ _ => true
  | .cld _ => true
  | .cst _ _ => true
  | .cpy _ _ _ => true
  | .twall _ => true
  | .twany _ _ => true
  | .tffr _ _ => true
  | .obcst _ _ _ => true
  | .ored _ _ _ => true
  | .orecv _ _ => true
  | .acq _ => true
  | .acqs _ => true
  | .rel _ _ => true
  | .gbar _ => true
  | .oget _ _ => true
  | .oset _ _ => true
  | .gld _ _ => true
  | .gst _ _ _ => true
  | .gaadd _ _ _ _ _ => true
  | .gamin _ _ _ _ _ => true
  | .gamax _ _ _ _ _ => true
  | .gaand _ _ _ _ _ => true
  | .gaor _ _ _ _ _ => true
  | .gaxor _ _ _ _ _ => true
  | .gaswp _ _ _ _ _ => true
  | .gacas _ _ _ _ _ => true
  | .gafadd _ _ _ _ => true
  | .gafmin _ _ _ _ => true
  | .gafmax _ _ _ _ => true
  | .gabadd _ _ _ _ => true
  | .gxadd _ _ _ => true
  | .gxrd _ => true
  | .gfence => true
  | .gws _ _ _ => true
  | .hld _ => true
  | .hst _ _ => true
  | .qpop _ _ => true
  | .qpopNr _ _ p => p != 0
  | .asyncCauseDeliver _ => true
  | .resultLanding => true
  | .snapshotReplay => true
  | .reductionUpdate => true
  | .mmaLand => true
  | .mdrnLand => true
  | .mldbSwap => true
  | .routineStep => true
  | .routineLoad => true
  | .routineEnd => true
  | .brdLand => true
  | .bwrRowWrite => true
  | .bankPhaseEnd => true
  | .refreshDeadlineExpire _ _ => true
  | .emergencyRefresh => true
  | .tierClassChange _ _ _ => true
  | .replanAgeExpire => true
  | .patrolScrub _ => true
  | .uncorrectableError _ _ => true
  | .rollbackRestoreDone => true
  | .slotSelect => true
  | .loadStreamDone => true
  | .unloadStreamDone => true
  | .segmentExpanded => true
  | .queueEntryDeliver _ _ => true
  | .xchgWordArrive _ _ => true
  | .xchgWindowExpire => true
  | .csyncRelease _ => true
  | .tagCountZero _ => true
  | .copyTake => true
  | .copyComplete _ _ _ => true
  | .peerAccessPerform _ => true
  | .droopStretch => true
  | .fllLock => true
  | .svcbudInterval => true
  | .serviceEgress _ => true
  | .serviceFlitHop => true
  | .routeFlitDepart => true
  | .routeFlitArrive _ _ => true
  | .pbarArrive _ => true
  | .pbarRelease _ _ _ => true
  | .preemptRequest _ _ => true
  | .placementResume _ _ => true
  | .clusterGate _ => true
  | .clusterWake _ => true
  | .clusterWakeDone _ => true
  | .dieGate _ => true
  | .dieWake _ => true
  | .dieWakeDone _ => true
  | .columnReenable _ => true
  | .tokenArrive _ => true
  | .frameLastBeat _ _ => true
  | .stationEnqueue _ _ => true
  | .frameData _ _ _ => true
  | .frameRed _ _ _ => true
  | .frameAcq _ _ => true
  | .frameAcqs _ _ => true
  | .frameRel _ _ => true
  | .frameMark _ _ => true
  | .frameMap _ _ => true
  | .frameReset _ _ => true
  | .receiverLock _ _ _ => true
  | .busgateWrite _ _ => true
  | .theatWrite _ _ => true
  | .mapgoGo _ => true
  | .mapgoQuiet _ => true
  | .mapgoResume _ => true
  | .quietTimeout _ => true
  | .homePerform _ => true
  | .pageMapped _ _ => true
  | .sideLogReplay _ _ _ => true
  | .htinvWrite _ _ => true
  | .htinvAck _ => true
  | .pageMigrate _ _ _ => true
  | .pageMoveDone _ _ _ => true
  | .hostAccessPerform _ => true
  | .launchRecordTake _ => true
  | .launchCancel _ => true
  | .launchDepsMet _ => true
  | .distributorDecide => true
  | .launchStart _ => true
  | .launchEnd _ _ => true
  | .ctxRecordWrite _ _ _ => true
  | .supervisorResumeTpc _ => true
  | .supervisorResumePc _ => true
  | .supervisorEvict _ => true
  | .supervisorEndPlan _ _ => true
  | .clkctlWrite _ => true
  | .clkctlRead => true
  | .linkRead _ => true
  | .ingrejaRead => true
  | .mgmtRegisterWrite _ _ => true
  | .powerWindow _ => true
  | .powerFreqStep => true
  | .thermalTrip _ _ => true
  | .energyInterval _ => true
  | .ebpinRetrainTimeout => true
  | .packageReset _ => true
  | .attestRequest _ => true
  | .debugAccess _ _ _ _ => true
  | .debugWake _ => true
  | .debugWakeDone _ => true
  | .debugRelease _ => true
  | .debugIdleTimeout _ => true
  | .linkTrainRequest _ => true
  | .linkLock _ _ => true
  | .linkTrainTimeout _ => true
  | .linkCheckFail _ => true
  | .packageUnreachable _ => true
  | .fabricFlitArrive _ _ => true
  | .fabricRequestArrive _ => true
  | .remoteReply _ _ _ => true
  | .fabricSyncMessage _ => true
  | .supervisorEndContext _ => true
  | .evictedBankRefresh => true
  | .ebpinRetrainingStart => true
  | .ebpinRetrainingDone => true
  | .packagePowerLoss => true
  | .launchWindowRegister _ => true
  | .domainFormed _ => true
  | .grantTokenMint _ _ _ _ => true

/-- The row has an instruction word; the others are events. -/
def Instr.isWord : Instr → Bool
  | .j _ _ _ => true
  | .call _ _ _ => true
  | .loop _ _ => true
  | .nop => true
  | .jr _ => true
  | .ret => true
  | .ckpt => true
  | .sys _ => true
  | .trap _ => true
  | .brk _ => true
  | .eret => true
  | .fence _ _ => true
  | .add _ _ _ _ => true
  | .sub _ _ _ _ => true
  | .mul _ _ _ _ => true
  | .mulh _ _ _ _ _ => true
  | .div _ _ _ _ _ => true
  | .rem _ _ _ _ _ => true
  | .and _ _ _ _ => true
  | .or _ _ _ _ => true
  | .xor _ _ _ _ => true
  | .andn _ _ _ _ => true
  | .shl _ _ _ _ => true
  | .shr _ _ _ _ => true
  | .sra _ _ _ _ => true
  | .min _ _ _ _ _ => true
  | .max _ _ _ _ _ => true
  | .adds _ _ _ _ _ => true
  | .subs _ _ _ _ _ => true
  | .clz _ _ _ => true
  | .ctz _ _ _ => true
  | .popc _ _ _ => true
  | .mov _ _ _ => true
  | .addi _ _ _ => true
  | .andi _ _ _ => true
  | .ori _ _ _ => true
  | .xori _ _ _ => true
  | .shli _ _ _ => true
  | .shri _ _ _ => true
  | .srai _ _ _ => true
  | .muli _ _ _ => true
  | .li _ _ => true
  | .lis _ _ => true
  | .adr _ _ => true
  | .fadd _ _ _ _ => true
  | .fsub _ _ _ _ => true
  | .fmul _ _ _ _ => true
  | .fdiv _ _ _ _ => true
  | .fsqrt _ _ _ => true
  | .fmin _ _ _ => true
  | .fmax _ _ _ => true
  | .fma _ _ _ _ => true
  | .fcvtfi _ _ _ => true
  | .fcvtif _ _ _ => true
  | .cmp _ _ _ _ => true
  | .fcmp _ _ _ _ => true
  | .test _ _ _ => true
  | .pand _ _ _ => true
  | .por _ _ _ => true
  | .pxor _ _ _ => true
  | .pnot _ _ => true
  | .mfc _ _ => true
  | .mtc _ _ => true
  | .mfk _ _ => true
  | .mtk _ _ => true
  | .mfp _ => true
  | .mtp _ => true
  | .mfm _ _ => true
  | .mtm _ _ => true
  | .qpopa _ _ => true
  | .qpopaNr _ _ _ => true
  | .ldb _ _ _ => true
  | .ldh _ _ _ => true
  | .ldw _ _ _ => true
  | .ldd _ _ _ => true
  | .stb _ _ _ => true
  | .sth _ _ _ => true
  | .stw _ _ _ => true
  | .std _ _ _ => true
  | .ldv _ _ _ _ => true
  | .stv _ _ _ => true
  | .ldmBlock _ _ => true
  | .ldmScalar _ _ => true
  | .stmBlock _ _ => true
  | .stmScalar _ _ => true
  | .ldshp _ _ => true
  | .stshp _ _ => true
  | .vadd _ _ _ => true
  | .vsub _ _ _ => true
  | .vmul _ _ _ => true
  | .vfma _ _ _ => true
  | .vmin _ _ _ => true
  | .vmax _ _ _ => true
  | .vand _ _ _ => true
  | .vor _ _ _ => true
  | .vaddMasked _ _ _ _ => true
  | .vsubMasked _ _ _ _ => true
  | .vmulMasked _ _ _ _ => true
  | .vfmaMasked _ _ _ _ => true
  | .vminMasked _ _ _ => true
  | .vmaxMasked _ _ _ => true
  | .vandMasked _ _ _ => true
  | .vorMasked _ _ _ => true
  | .vxor _ _ _ => true
  | .vshl _ _ _ => true
  | .vshr _ _ _ => true
  | .vsra _ _ _ => true
  | .vmulh _ _ _ => true
  | .vabs _ _ _ => true
  | .vneg _ _ _ => true
  | .vmov _ _ _ => true
  | .vcmp _ _ _ _ => true
  | .vkand _ _ _ => true
  | .vkor _ _ _ => true
  | .vkxor _ _ _ => true
  | .vknot _ _ => true
  | .vcvt _ _ _ _ => true
  | .vqnt _ _ _ _ => true
  | .vdqnt _ _ _ _ => true
  | .vretag _ _ _ => true
  | .vexp2 _ _ _ _ => true
  | .vlog2 _ _ _ _ => true
  | .vrcp _ _ _ _ => true
  | .vrsqrt _ _ _ _ => true
  | .vtanh _ _ _ _ => true
  | .vsqrt _ _ _ _ => true
  | .vperm _ _ _ => true
  | .vbcs _ _ _ => true
  | .vext _ _ _ => true
  | .vins _ _ _ => true
  | .vrng _ => true
  | .viota _ _ _ => true
  | .vrsum _ _ _ _ => true
  | .vrmin _ _ _ _ => true
  | .vrmax _ _ _ _ => true
  | .vzdrn _ _ => true
  | .vzclr _ _ _ => true
  | .dadd _ _ _ _ => true
  | .dsub _ _ _ _ => true
  | .dmul _ _ _ _ => true
  | .dmax _ _ _ _ => true
  | .dmin _ _ _ _ => true
  | .daff _ _ _ => true
  | .dld _ _ _ => true
  | .dst _ _ => true
  | .dtag _ _ => true
  | .dpt _ _ _ => true
  | .dmom _ _ => true
  | .dqnt _ _ _ => true
  | .dcdf _ _ _ => true
  | .dfrom _ _ _ => true
  | .mma _ _ _ _ _ _ _ => true
  | .mldb _ _ => true
  | .mdrn _ _ _ => true
  | .mfid _ => true
  | .mprog _ _ => true
  | .mstat _ _ => true
  | .mcall _ => true
  | .bact _ _ _ => true
  | .brd _ _ _ _ => true
  | .bwr _ _ _ _ => true
  | .bpre _ => true
  | .bprea _ => true
  | .bref _ => true
  | .bstat _ _ _ => true
  | .xput _ _ => true
  | .xget _ _ => true
  | .csync _ _ => true
  | .pbar _ _ => true
  | .cld _ => true
  | .cst _ _ => true
  | .cpy _ _ _ => true
  | .twall _ => true
  | .twany _ _ => true
  | .tffr _ _ => true
  | .obcst _ _ _ => true
  | .ored _ _ _ => true
  | .orecv _ _ => true
  | .acq _ => true
  | .acqs _ => true
  | .rel _ _ => true
  | .gbar _ => true
  | .oget _ _ => true
  | .oset _ _ => true
  | .gld _ _ => true
  | .gst _ _ _ => true
  | .gaadd _ _ _ _ _ => true
  | .gamin _ _ _ _ _ => true
  | .gamax _ _ _ _ _ => true
  | .gaand _ _ _ _ _ => true
  | .gaor _ _ _ _ _ => true
  | .gaxor _ _ _ _ _ => true
  | .gaswp _ _ _ _ _ => true
  | .gacas _ _ _ _ _ => true
  | .gafadd _ _ _ _ => true
  | .gafmin _ _ _ _ => true
  | .gafmax _ _ _ _ => true
  | .gabadd _ _ _ _ => true
  | .gxadd _ _ _ => true
  | .gxrd _ => true
  | .gfence => true
  | .gws _ _ _ => true
  | .hld _ => true
  | .hst _ _ => true
  | .qpop _ _ => true
  | .qpopNr _ _ _ => true
  | .asyncCauseDeliver _ => false
  | .resultLanding => false
  | .snapshotReplay => false
  | .reductionUpdate => false
  | .mmaLand => false
  | .mdrnLand => false
  | .mldbSwap => false
  | .routineStep => false
  | .routineLoad => false
  | .routineEnd => false
  | .brdLand => false
  | .bwrRowWrite => false
  | .bankPhaseEnd => false
  | .refreshDeadlineExpire _ _ => false
  | .emergencyRefresh => false
  | .tierClassChange _ _ _ => false
  | .replanAgeExpire => false
  | .patrolScrub _ => false
  | .uncorrectableError _ _ => false
  | .rollbackRestoreDone => false
  | .slotSelect => false
  | .loadStreamDone => false
  | .unloadStreamDone => false
  | .segmentExpanded => false
  | .queueEntryDeliver _ _ => false
  | .xchgWordArrive _ _ => false
  | .xchgWindowExpire => false
  | .csyncRelease _ => false
  | .tagCountZero _ => false
  | .copyTake => false
  | .copyComplete _ _ _ => false
  | .peerAccessPerform _ => false
  | .droopStretch => false
  | .fllLock => false
  | .svcbudInterval => false
  | .serviceEgress _ => false
  | .serviceFlitHop => false
  | .routeFlitDepart => false
  | .routeFlitArrive _ _ => false
  | .pbarArrive _ => false
  | .pbarRelease _ _ _ => false
  | .preemptRequest _ _ => false
  | .placementResume _ _ => false
  | .clusterGate _ => false
  | .clusterWake _ => false
  | .clusterWakeDone _ => false
  | .dieGate _ => false
  | .dieWake _ => false
  | .dieWakeDone _ => false
  | .columnReenable _ => false
  | .tokenArrive _ => false
  | .frameLastBeat _ _ => false
  | .stationEnqueue _ _ => false
  | .frameData _ _ _ => false
  | .frameRed _ _ _ => false
  | .frameAcq _ _ => false
  | .frameAcqs _ _ => false
  | .frameRel _ _ => false
  | .frameMark _ _ => false
  | .frameMap _ _ => false
  | .frameReset _ _ => false
  | .receiverLock _ _ _ => false
  | .busgateWrite _ _ => false
  | .theatWrite _ _ => false
  | .mapgoGo _ => false
  | .mapgoQuiet _ => false
  | .mapgoResume _ => false
  | .quietTimeout _ => false
  | .homePerform _ => false
  | .pageMapped _ _ => false
  | .sideLogReplay _ _ _ => false
  | .htinvWrite _ _ => false
  | .htinvAck _ => false
  | .pageMigrate _ _ _ => false
  | .pageMoveDone _ _ _ => false
  | .hostAccessPerform _ => false
  | .launchRecordTake _ => false
  | .launchCancel _ => false
  | .launchDepsMet _ => false
  | .distributorDecide => false
  | .launchStart _ => false
  | .launchEnd _ _ => false
  | .ctxRecordWrite _ _ _ => false
  | .supervisorResumeTpc _ => false
  | .supervisorResumePc _ => false
  | .supervisorEvict _ => false
  | .supervisorEndPlan _ _ => false
  | .clkctlWrite _ => false
  | .clkctlRead => false
  | .linkRead _ => false
  | .ingrejaRead => false
  | .mgmtRegisterWrite _ _ => false
  | .powerWindow _ => false
  | .powerFreqStep => false
  | .thermalTrip _ _ => false
  | .energyInterval _ => false
  | .ebpinRetrainTimeout => false
  | .packageReset _ => false
  | .attestRequest _ => false
  | .debugAccess _ _ _ _ => false
  | .debugWake _ => false
  | .debugWakeDone _ => false
  | .debugRelease _ => false
  | .debugIdleTimeout _ => false
  | .linkTrainRequest _ => false
  | .linkLock _ _ => false
  | .linkTrainTimeout _ => false
  | .linkCheckFail _ => false
  | .packageUnreachable _ => false
  | .fabricFlitArrive _ _ => false
  | .fabricRequestArrive _ => false
  | .remoteReply _ _ _ => false
  | .fabricSyncMessage _ => false
  | .supervisorEndContext _ => false
  | .evictedBankRefresh => false
  | .ebpinRetrainingStart => false
  | .ebpinRetrainingDone => false
  | .packagePowerLoss => false
  | .launchWindowRegister _ => false
  | .domainFormed _ => false
  | .grantTokenMint _ _ _ _ => false

end Sys2Proof
end

