-- ==== Sys2Proof/Decode.lean ====
section
/-! DEFINITION. Decoding of instruction words (R64, R73 to R80), total on any bytes and rejecting by KIND, and after
it the encoder. -/

namespace Sys2Proof

/-- n bits of a word from bit lo up, as a bit vector. -/
def bv (w lo n : Nat) : BitVec w := BitVec.ofNat w (n / 2 ^ lo)
/-- n bits of a word from bit lo up, as a number. -/
def fld (n lo len : Nat) : Nat := n / 2 ^ lo % 2 ^ len
/-- One bit of a word. -/
def bitOf (n i : Nat) : Bool := n / 2 ^ i % 2 == 1

/-- The first cause of ILLEGAL of a word whose function is assigned, in the order of R79: a nonzero must-be-zero
field (3), a field out of range (4), an unassigned or excluded code (5), partial overlap of two groups (6). -/
def chk (mbz range code overlap : Bool) (i : Instr) : Except Nat Instr :=
  if mbz then .error 3 else if range then .error 4 else if code then .error 5 else if overlap then .error 6 else .ok i

/-- A rounding-mode code that R45 does not assign. -/
def badRm (r : BitVec 3) : Bool := r == 5 || r == 6
/-- Two runs of n rows that share rows without coinciding (R76). -/
def runsOverlap (x y : BitVec 8) (n : Nat) : Bool := x != y && (x.toNat < y.toNat + n && y.toNat < x.toNat + n)
/-- A run of n rows that starts at x passes v255 (R162). -/
def runTooHigh (x : BitVec 8) (n : Nat) : Bool := 256 < x.toNat + n
/-- Tags 0xE and 0xF (R238, R165). -/
def tagHigh (t : Tag) : Bool := t == 14 || t == 15
/-- Tags that VCVT accepts in T4 (R161). -/
def tagCvt (t : Tag) : Bool := 1 ≤ t.toNat && t.toNat ≤ 8
/-- Tags that VQNT accepts in T4 (R161). -/
def tagQnt (t : Tag) : Bool := 7 ≤ t.toNat && t.toNat ≤ 13
/-- FP32, FP16 and BF16. -/
def tagFloat3 (t : Tag) : Bool := 4 ≤ t.toNat && t.toNat ≤ 6
/-- A control-register index that R25 does not assign. -/
def badCreg (r : BitVec 6) : Bool := 0x0F ≤ r.toNat
/-- An MMA format code and fidelity that R188 excludes. -/
def badMma (f : BitVec 2) (m : BitVec 3) : Bool :=
  5 ≤ m.toNat || ((f == 1 || f == 2) && (m == 0 || m == 3 || m == 4))
/-- A vd that shares a row with the two-row group at va (R159, R188). -/
def hitsPair (vd va : BitVec 8) : Bool := vd == va || vd.toNat == va.toNat + 1
/-- A shift immediate outside 0 to 63 (R95). -/
def badShift (i : BitVec 11) : Bool := 64 ≤ i.toNat

/-- Major 0x01, format BR (R102, R103). -/
def decodeJump (n : Nat) : Except Nat Instr :=
  let inv := bitOf n 23
  let p := bv 5 18 n
  let i := bv 18 0 n
  match fld n 24 2 with
  | 0 => chk (inv && p == 0) false false false (.j inv p i)
  | 1 => chk (inv && p == 0) false false false (.call inv p i)
  | 2 => chk inv false false false (.loop p i)
  | _ => .error 2

/-- Major 0x02, format RRR (R104, R107 to R110). -/
def decodeControl (n : Nat) : Except Nat Instr :=
  let z := fld n 8 18 != 0
  match fld n 0 8 with
  | 0x00 => chk z false false false .nop
  | 0x01 => chk (fld n 8 12 != 0) false false false (.jr (bv 6 20 n))
  | 0x02 => chk z false false false .ret
  | 0x03 => chk z false false false .ckpt
  | 0x04 => chk (fld n 20 6 != 0) false false false (.sys (bv 12 8 n))
  | 0x05 => chk (fld n 20 6 != 0) false false false (.trap (bv 12 8 n))
  | 0x06 => chk (fld n 20 6 != 0) false false false (.brk (bv 12 8 n))
  | 0x07 => chk z false false false .eret
  | 0x08 => chk (fld n 8 6 != 0) false (fld n 20 6 == 0 || 6 ≤ fld n 14 6) false (.fence (bv 6 20 n) (bv 6 14 n))
  | _ => .error 2

/-- Major 0x03, format RRR (R92, R93). -/
def decodeScalar (n : Nat) : Except Nat Instr :=
  let d := bv 6 20 n
  let a := bv 6 14 n
  let b := bv 6 8 n
  let w := bitOf n 7
  let u := bitOf n 6
  let z := u || b != 0
  match fld n 0 6 with
  | 0x00 => chk u false false false (.add d a b w)
  | 0x01 => chk u false false false (.sub d a b w)
  | 0x02 => chk u false false false (.mul d a b w)
  | 0x03 => .ok (.mulh d a b w u)
  | 0x04 => .ok (.div d a b w u)
  | 0x05 => .ok (.rem d a b w u)
  | 0x06 => chk u false false false (.and d a b w)
  | 0x07 => chk u false false false (.or d a b w)
  | 0x08 => chk u false false false (.xor d a b w)
  | 0x09 => chk u false false false (.andn d a b w)
  | 0x0A => chk u false false false (.shl d a b w)
  | 0x0B => chk u false false false (.shr d a b w)
  | 0x0C => chk u false false false (.sra d a b w)
  | 0x0D => .ok (.min d a b w u)
  | 0x0E => .ok (.max d a b w u)
  | 0x0F => .ok (.adds d a b w u)
  | 0x10 => .ok (.subs d a b w u)
  | 0x11 => chk z false false false (.clz d a w)
  | 0x12 => chk z false false false (.ctz d a w)
  | 0x13 => chk z false false false (.popc d a w)
  | 0x14 => chk z false false false (.mov d a w)
  | _ => .error 2

/-- Major 0x04, format RRI (R95). -/
def decodeImmediate (n : Nat) : Except Nat Instr :=
  let d := bv 6 20 n
  let a := bv 6 14 n
  let i := bv 11 0 n
  match fld n 11 3 with
  | 0 => .ok (.addi d a i)
  | 1 => .ok (.andi d a i)
  | 2 => .ok (.ori d a i)
  | 3 => .ok (.xori d a i)
  | 4 => chk false (badShift i) false false (.shli d a i)
  | 5 => chk false (badShift i) false false (.shri d a i)
  | 6 => chk false (badShift i) false false (.srai d a i)
  | _ => .ok (.muli d a i)

/-- Major 0x05, format RI (R96). -/
def decodeConstant (n : Nat) : Except Nat Instr :=
  let d := bv 6 20 n
  let i := bv 18 0 n
  match fld n 18 2 with
  | 0 => .ok (.li d i)
  | 1 => .ok (.lis d i)
  | 2 => .ok (.adr d i)
  | _ => .error 2

/-- Major 0x06, format RRR with the rounding mode in F8[7:5] (R97). -/
def decodeFloat (n : Nat) : Except Nat Instr :=
  let d := bv 6 20 n
  let a := bv 6 14 n
  let b := bv 6 8 n
  let r := bv 3 5 n
  match fld n 0 5 with
  | 0x00 => chk false false (badRm r) false (.fadd d a b r)
  | 0x01 => chk false false (badRm r) false (.fsub d a b r)
  | 0x02 => chk false false (badRm r) false (.fmul d a b r)
  | 0x03 => chk false false (badRm r) false (.fdiv d a b r)
  | 0x04 => chk (b != 0) false (badRm r) false (.fsqrt d a r)
  | 0x05 => chk (r != 0) false false false (.fmin d a b)
  | 0x06 => chk (r != 0) false false false (.fmax d a b)
  | 0x07 => chk false false (badRm r) false (.fma d a b r)
  | 0x08 => chk (b != 0) false (badRm r) false (.fcvtfi d a r)
  | 0x09 => chk (b != 0) false (badRm r) false (.fcvtif d a r)
  | _ => .error 2

/-- Major 0x07, format P (R100). -/
def decodePredicate (n : Nat) : Except Nat Instr :=
  let p := bv 5 21 n
  let a := bv 6 15 n
  let b := bv 6 9 n
  let k := bv 3 6 n
  let hi := bitOf n 20
  let hiB := bitOf n 14
  match fld n 0 6 with
  | 0x00 => chk false false (6 ≤ k.toNat) false (.cmp p a b k)
  | 0x01 => chk false false (4 ≤ k.toNat) false (.fcmp p a b k)
  | 0x02 => chk (k != 0) false false false (.test p a b)
  | 0x03 => chk (k != 0) (hi || hiB) false false (.pand p (bv 5 15 n) (bv 5 9 n))
  | 0x04 => chk (k != 0) (hi || hiB) false false (.por p (bv 5 15 n) (bv 5 9 n))
  | 0x05 => chk (k != 0) (hi || hiB) false false (.pxor p (bv 5 15 n) (bv 5 9 n))
  | 0x06 => chk (k != 0 || b != 0) hi false false (.pnot p (bv 5 15 n))
  | _ => .error 2

/-- Major 0x08, format RRR (R111, R113). -/
def decodeMove (n : Nat) : Except Nat Instr :=
  let a := bv 6 20 n
  let b := bv 6 14 n
  let c := fld n 8 6
  match fld n 0 8 with
  | 0x00 => chk (c != 0) false (badCreg b) false (.mfc a b)
  | 0x01 => chk (c != 0) false (badCreg a) false (.mtc a b)
  | 0x02 => chk (c != 0) (fld n 18 2 != 0) false false (.mfk a (bv 4 14 n))
  | 0x03 => chk (c != 0) (fld n 24 2 != 0) false false (.mtk (bv 4 20 n) b)
  | 0x04 => chk (c != 0 || b != 0) false false false (.mfp a)
  | 0x05 => chk (c != 0 || a != 0) false false false (.mtp b)
  | 0x06 => chk (c != 0) (fld n 17 3 != 0) false false (.mfm a (bv 3 14 n))
  | 0x07 => chk (c != 0) (fld n 23 3 != 0) false false (.mtm (bv 3 20 n) b)
  | 0x08 => if c = 0 then chk false (fld n 16 4 != 0) false false (.qpopa a (bv 2 14 n))
            else chk false (fld n 16 4 != 0 || bitOf n 13) false false (.qpopaNr a (bv 2 14 n) (bv 5 8 n))
  | _ => .error 2

/-- Major 0x09, format RRI (R236). -/
def decodeLoadStore (n : Nat) : Except Nat Instr :=
  let x := bv 6 20 n
  let a := bv 6 14 n
  let i := bv 11 0 n
  match fld n 11 3 with
  | 0 => .ok (.ldb x a i)
  | 1 => .ok (.ldh x a i)
  | 2 => .ok (.ldw x a i)
  | 3 => .ok (.ldd x a i)
  | 4 => .ok (.stb x a i)
  | 5 => .ok (.sth x a i)
  | 6 => .ok (.stw x a i)
  | _ => .ok (.std x a i)

/-- Major 0x0A, format VRT (R238). -/
def decodeRow (n : Nat) : Except Nat Instr :=
  let v := bv 8 18 n
  let a := bv 6 12 n
  let t := bv 4 8 n
  let i := bv 7 0 n
  if bitOf n 7 then chk (t != 0) false false false (.stv v a i)
  else chk false false (tagHigh t) false (.ldv v a t i)

/-- Major 0x0B, format RRR (R239, R242). -/
def decodeMirror (n : Nat) : Except Nat Instr :=
  let a := bv 6 20 n
  let m := bv 6 14 n
  let c := fld n 8 6
  match fld n 0 8 with
  | 0x00 => if c = 1 then .ok (.ldmScalar a m) else chk false (c != 0) false false (.ldmBlock a m)
  | 0x01 => if c = 1 then .ok (.stmScalar a m) else chk false (c != 0) false false (.stmBlock a m)
  | 0x02 => chk (c != 0) (fld n 24 2 != 0) false false (.ldshp (bv 4 20 n) m)
  | 0x03 => chk (c != 0) (fld n 24 2 != 0) false false (.stshp (bv 4 20 n) m)
  | _ => .error 2

/-- Majors 0x0C and 0x0D, format VVV (R156). -/
def decodeVector3 (hi : Bool) (n : Nat) : Except Nat Instr :=
  let d := bv 8 18 n
  let a := bv 8 10 n
  let b := bv 8 2 n
  match hi, fld n 0 2 with
  | false, 0 => .ok (.vadd d a b)
  | false, 1 => .ok (.vsub d a b)
  | false, 2 => .ok (.vmul d a b)
  | false, _ => .ok (.vfma d a b)
  | true, 0 => .ok (.vmin d a b)
  | true, 1 => .ok (.vmax d a b)
  | true, 2 => .ok (.vand d a b)
  | true, _ => .ok (.vor d a b)

/-- Major 0x0E, format VVM (R156, R159). -/
def decodeMasked (n : Nat) : Except Nat Instr :=
  let d := bv 8 18 n
  let b := bv 8 10 n
  let k := bv 4 6 n
  let r := bv 3 3 n
  match fld n 0 3 with
  | 0 => chk false false (badRm r) false (.vaddMasked d b k r)
  | 1 => chk false false (badRm r) false (.vsubMasked d b k r)
  | 2 => chk false false (badRm r) false (.vmulMasked d b k r)
  | 3 => chk false (b == 255) (badRm r) (hitsPair d b) (.vfmaMasked d b k r)
  | 4 => chk (r != 0) false false false (.vminMasked d b k)
  | 5 => chk (r != 0) false false false (.vmaxMasked d b k)
  | 6 => chk (r != 0) false false false (.vandMasked d b k)
  | _ => chk (r != 0) false false false (.vorMasked d b k)

/-- Major 0x0F, format VVM with RM3 zero (R156). -/
def decodeMasked2 (n : Nat) : Except Nat Instr :=
  let d := bv 8 18 n
  let b := bv 8 10 n
  let k := bv 4 6 n
  let z := fld n 3 3 != 0
  match fld n 0 3 with
  | 0 => chk z false false false (.vxor d b k)
  | 1 => chk z false false false (.vshl d b k)
  | 2 => chk z false false false (.vshr d b k)
  | 3 => chk z false false false (.vsra d b k)
  | 4 => chk z false false false (.vmulh d b k)
  | 5 => chk z false false false (.vabs d b k)
  | 6 => chk z false false false (.vneg d b k)
  | _ => chk z false false false (.vmov d b k)

/-- Major 0x10, format VK (R160). -/
def decodeCompare (n : Nat) : Except Nat Instr :=
  let kd := bv 4 22 n
  let cond := bv 3 0 n
  let z := cond != 0
  let hiA := fld n 18 4 != 0
  let hiB := fld n 10 4 != 0
  match fld n 3 3 with
  | 0 => .ok (.vcmp kd (bv 8 14 n) (bv 8 6 n) cond)
  | 1 => chk z (hiA || hiB) false false (.vkand kd (bv 4 14 n) (bv 4 6 n))
  | 2 => chk z (hiA || hiB) false false (.vkor kd (bv 4 14 n) (bv 4 6 n))
  | 3 => chk z (hiA || hiB) false false (.vkxor kd (bv 4 14 n) (bv 4 6 n))
  | 4 => chk (z || fld n 6 8 != 0) hiA false false (.vknot kd (bv 4 14 n))
  | _ => .error 2

/-- Major 0x11, format VC (R161, R162). -/
def decodeConvert (n : Nat) : Except Nat Instr :=
  let d := bv 8 18 n
  let s := bv 8 10 n
  let t := bv 4 6 n
  let r := bv 3 3 n
  match fld n 0 3 with
  | 0 => chk false (runTooHigh d 4 || runTooHigh s 4) (!tagCvt t || badRm r) (runsOverlap d s 4) (.vcvt d s t r)
  | 1 => chk false (runTooHigh d 8 || runTooHigh s 8) (!tagQnt t || badRm r) (runsOverlap d s 8) (.vqnt d s t r)
  | 2 => chk false (runTooHigh d 8 || runTooHigh s 8) (!tagFloat3 t || badRm r) (runsOverlap d s 8) (.vdqnt d s t r)
  | 3 => chk (r != 0) false (tagHigh t) false (.vretag d s t)
  | _ => .error 2

/-- Major 0x12, format VVM (R166). -/
def decodeSpecial (n : Nat) : Except Nat Instr :=
  let d := bv 8 18 n
  let s := bv 8 10 n
  let k := bv 4 6 n
  let r := bv 3 3 n
  match fld n 0 3 with
  | 0 => chk false false (badRm r) false (.vexp2 d s k r)
  | 1 => chk false false (badRm r) false (.vlog2 d s k r)
  | 2 => chk false false (badRm r) false (.vrcp d s k r)
  | 3 => chk false false (badRm r) false (.vrsqrt d s k r)
  | 4 => chk false false (badRm r) false (.vtanh d s k r)
  | 5 => chk false false (badRm r) false (.vsqrt d s k r)
  | _ => .error 2

/-- Major 0x14, format VRR (R168). A VBCS or VIOTA with B6[5:4] not 0 has KIND 4 (DESIGN CHOICE, log 27). -/
def decodeVectorScalar (n : Nat) : Except Nat Instr :=
  let v := bv 8 18 n
  let a := bv 6 12 n
  let b := bv 6 6 n
  let t := bv 4 6 n
  match fld n 0 6 with
  | 0 => chk false (fld n 10 2 != 0) (9 ≤ t.toNat) false (.vbcs v a t)
  | 1 => .ok (.vext v a b)
  | 2 => .ok (.vins v a b)
  | 3 => chk (a != 0 || b != 0) false false false (.vrng v)
  | 4 => chk false (fld n 10 2 != 0) (t == 0 || 4 ≤ t.toNat) false (.viota v a t)
  | _ => .error 2

/-- Major 0x15, format VRR (R169, R172). A VZCLR with V8A[7:4] not 0 has KIND 4 (DESIGN CHOICE, log 27). -/
def decodeReduce (n : Nat) : Except Nat Instr :=
  let v := bv 8 18 n
  let z := bv 2 12 n
  let zHi := fld n 14 4 != 0
  let k := bv 4 6 n
  let kHi := fld n 10 2 != 0
  let r := bv 3 3 n
  let t := bv 4 18 n
  match fld n 0 3 with
  | 0 => chk zHi kHi (badRm r) false (.vrsum v z k r)
  | 1 => chk zHi kHi (badRm r) false (.vrmin v z k r)
  | 2 => chk zHi kHi (badRm r) false (.vrmax v z k r)
  | 3 => chk (zHi || fld n 6 6 != 0 || r != 0) false false false (.vzdrn v z)
  | 4 => chk (zHi || r != 0) (fld n 22 4 != 0) (!(t == 3 || t == 4)) false (.vzclr t z (bv 6 6 n))
  | _ => .error 2

/-- Major 0x16, format RRR (R214). -/
def decodeDist (n : Nat) : Except Nat Instr :=
  let d := bv 4 20 n
  let a := bv 4 14 n
  let b := bv 4 8 n
  let sa := bv 6 14 n
  let sb := bv 6 8 n
  let same := bitOf n 7
  let dHi := fld n 24 2 != 0
  let aHi := fld n 18 2 != 0
  let bHi := fld n 12 2 != 0
  match fld n 0 7 with
  | 0x00 => chk false (dHi || aHi || bHi) false false (.dadd d a b same)
  | 0x01 => chk false (dHi || aHi || bHi) false false (.dsub d a b same)
  | 0x02 => chk false (dHi || aHi || bHi) false false (.dmul d a b same)
  | 0x03 => chk false (dHi || aHi || bHi) false false (.dmax d a b same)
  | 0x04 => chk false (dHi || aHi || bHi) false false (.dmin d a b same)
  | 0x05 => chk same (dHi || aHi) false false (.daff d a sb)
  | 0x06 => chk same dHi false false (.dld d sa sb)
  | 0x07 => chk (same || sb != 0) dHi false false (.dst d sa)
  | 0x08 => chk (same || sb != 0) dHi false false (.dtag d sa)
  | 0x09 => chk same aHi false false (.dpt (bv 6 20 n) a sb)
  | _ => .error 2

/-- Major 0x17, format VRR (R220). -/
def decodeExtract (n : Nat) : Except Nat Instr :=
  let v := bv 8 18 n
  let d := bv 4 12 n
  let dHi := fld n 16 2 != 0
  let b := bv 6 6 n
  match fld n 0 6 with
  | 0 => chk (b != 0) (dHi || 255 ≤ v.toNat) false false (.dmom v d)
  | 1 => chk false dHi false false (.dqnt v d b)
  | 2 => chk false dHi false false (.dcdf v d b)
  | 3 => chk false (dHi || 251 ≤ v.toNat) false false (.dfrom v d b)
  | _ => .error 2

/-- Major 0x18, format MM (R188). -/
def decodeMma (n : Nat) : Except Nat Instr :=
  let d := bv 8 18 n
  let a := bv 8 10 n
  let f := bv 2 4 n
  let m := bv 3 1 n
  chk (bitOf n 0) (a == 255) (badMma f m) (hitsPair d a) (.mma d a (bv 2 8 n) (bitOf n 7) (bitOf n 6) f m)

/-- Major 0x19, format RRR (R190). -/
def decodeMatrix (n : Nat) : Except Nat Instr :=
  let a := bv 6 20 n
  let b := bv 6 14 n
  let c := fld n 8 6 != 0
  match fld n 0 8 with
  | 0x00 => chk c (fld n 22 4 != 0 || fld n 18 2 != 0) false false (.mldb (bv 2 20 n) (bv 4 14 n))
  | 0x01 => chk (c || bitOf n 17) false false false (.mdrn (bv 8 18 n) (bitOf n 16) (bv 2 14 n))
  | 0x02 => chk (c || b != 0) (fld n 22 4 != 0) (fld n 20 2 == 3) false (.mfid (bv 2 20 n))
  | 0x03 => chk c false false false (.mprog a b)
  | 0x04 => chk c false (2 ≤ b.toNat) false (.mstat a b)
  | 0x05 => chk (c || b != 0) false false false (.mcall a)
  | _ => .error 2

/-- Major 0x1A, format DV (R243). -/
def decodeVault (n : Nat) : Except Nat Instr :=
  let b := bv 6 20 n
  let a := bv 6 11 n
  let i := bv 11 0 n
  let z := fld n 0 17 != 0
  match fld n 17 3 with
  | 0 => .ok (.bact b a i)
  | 1 => .ok (.brd b a (bv 4 7 n) (bv 7 0 n))
  | 2 => .ok (.bwr b a (bv 4 7 n) (bv 7 0 n))
  | 3 => chk z false false false (.bpre b)
  | 4 => chk (z || fld n 20 4 != 0) false false false (.bprea (bv 2 24 n))
  | 5 => chk z false false false (.bref b)
  | 6 => chk (i == 6 && b != 0) (7 ≤ i.toNat) false false (.bstat b a i)
  | _ => .error 2

/-- Major 0x1B, format RRR (R280, R283, R291, R313). -/
def decodeExchange (n : Nat) : Except Nat Instr :=
  let a := fld n 20 6
  let b := bv 6 14 n
  let c := bv 6 8 n
  match fld n 0 8 with
  | 0x00 => chk (c != 0) (a == 5 || 7 ≤ a) false false (.xput (bv 3 20 n) b)
  | 0x01 => chk (c != 0) (b == 6 || 7 ≤ b.toNat) false false (.xget (bv 6 20 n) (bv 3 14 n))
  | 0x02 => chk (a != 0) false false false (.csync b c)
  | 0x03 => chk (fld n 21 5 != 0) false false false (.pbar (bitOf n 20) (bv 12 8 n))
  | 0x04 => chk (a != 0 || c != 0) false false false (.cld b)
  | 0x05 => chk (a != 0) false false false (.cst b c)
  | _ => .error 2

/-- Major 0x1C, format RRR (R288, R290). -/
def decodeCopy (n : Nat) : Except Nat Instr :=
  let b := bv 6 14 n
  let c := bv 6 8 n
  match fld n 0 8 with
  | 0x00 => chk false (fld n 24 2 != 0 || fld n 18 2 != 0) false false (.cpy (bv 4 20 n) (bv 4 14 n) c)
  | 0x01 => chk (fld n 20 6 != 0 || c != 0) false false false (.twall b)
  | 0x02 => chk (c != 0) false false false (.twany (bv 6 20 n) b)
  | 0x03 => chk (c != 0) false false false (.tffr (bv 6 20 n) b)
  | _ => .error 2

/-- Major 0x1D, format RRR (R330). -/
def decodeOptical (n : Nat) : Except Nat Instr :=
  let a := bv 6 20 n
  let b := bv 6 14 n
  let c := bv 6 8 n
  match fld n 0 8 with
  | 0x00 => .ok (.obcst a b c)
  | 0x01 => .ok (.ored a b c)
  | 0x02 => chk (c != 0) false false false (.orecv a b)
  | 0x03 => chk (a != 0 || c != 0) false false false (.acq b)
  | 0x04 => chk (a != 0 || c != 0) false false false (.acqs b)
  | 0x05 => chk (a != 0) false false false (.rel b c)
  | 0x06 => chk (a != 0 || c != 0) false false false (.gbar b)
  | 0x07 => chk (c != 0) false false false (.oget a b)
  | 0x08 => chk (a != 0) false false false (.oset b c)
  | _ => .error 2

/-- Major 0x1E, format RRR (R365, R447). -/
def decodeGlobal (n : Nat) : Except Nat Instr :=
  let a := bv 6 20 n
  let b := bv 6 14 n
  let c := bv 6 8 n
  let t := bitOf n 7
  let w := bitOf n 6
  let q := bitOf n 20
  let aHi := fld n 21 5 != 0
  match fld n 0 6 with
  | 0x00 => chk (t || a != 0 || c != 0) false false false (.gld b w)
  | 0x01 => chk (t || a != 0) false false false (.gst b c w)
  | 0x02 => chk aHi false false false (.gaadd q b c t w)
  | 0x03 => chk aHi false false false (.gamin q b c t w)
  | 0x04 => chk aHi false false false (.gamax q b c t w)
  | 0x05 => chk aHi false false false (.gaand q b c t w)
  | 0x06 => chk aHi false false false (.gaor q b c t w)
  | 0x07 => chk aHi false false false (.gaxor q b c t w)
  | 0x08 => chk aHi false false false (.gaswp q b c t w)
  | 0x09 => .ok (.gacas a b c t w)
  | 0x0A => chk (aHi || w) false false false (.gafadd q b c t)
  | 0x0B => chk (aHi || w) false false false (.gafmin q b c t)
  | 0x0C => chk (aHi || w) false false false (.gafmax q b c t)
  | 0x0D => chk (aHi || w) false false false (.gabadd q b c t)
  | 0x0E => chk (a != 0 || w) false false false (.gxadd b c t)
  | 0x0F => chk (t || w || a != 0 || c != 0) false false false (.gxrd b)
  | 0x10 => chk (t || w || a != 0 || b != 0 || c != 0) false false false .gfence
  | 0x11 => chk (t || w) false false false (.gws a b c)
  | _ => .error 2

/-- Major 0x1F, format RRR (R113, R373). -/
def decodeHost (n : Nat) : Except Nat Instr :=
  let a := bv 6 20 n
  let b := bv 6 14 n
  let c := fld n 8 6
  match fld n 0 8 with
  | 0x00 => chk (a != 0 || c != 0) false false false (.hld b)
  | 0x01 => chk (a != 0) false false false (.hst b (bv 6 8 n))
  | 0x02 => if c = 0 then chk false (fld n 16 4 != 0) false false (.qpop a (bv 2 14 n))
            else chk false (fld n 16 4 != 0 || bitOf n 13) false false (.qpopNr a (bv 2 14 n) (bv 5 8 n))
  | _ => .error 2

/-- The instruction that a word encodes, or the KIND of its ILLEGAL (R77 to R79). The chain bit is not looked at. -/
def decodeWord (w : Word) : Except Nat Instr :=
  let n := w.toNat
  match fld n 26 5 with
  | 0x00 => .error 1
  | 0x01 => decodeJump n
  | 0x02 => decodeControl n
  | 0x03 => decodeScalar n
  | 0x04 => decodeImmediate n
  | 0x05 => decodeConstant n
  | 0x06 => decodeFloat n
  | 0x07 => decodePredicate n
  | 0x08 => decodeMove n
  | 0x09 => decodeLoadStore n
  | 0x0A => decodeRow n
  | 0x0B => decodeMirror n
  | 0x0C => decodeVector3 false n
  | 0x0D => decodeVector3 true n
  | 0x0E => decodeMasked n
  | 0x0F => decodeMasked2 n
  | 0x10 => decodeCompare n
  | 0x11 => decodeConvert n
  | 0x12 => decodeSpecial n
  | 0x13 => if fld n 0 2 = 0 then .ok (.vperm (bv 8 18 n) (bv 8 10 n) (bv 8 2 n)) else .error 2
  | 0x14 => decodeVectorScalar n
  | 0x15 => decodeReduce n
  | 0x16 => decodeDist n
  | 0x17 => decodeExtract n
  | 0x18 => decodeMma n
  | 0x19 => decodeMatrix n
  | 0x1A => decodeVault n
  | 0x1B => decodeExchange n
  | 0x1C => decodeCopy n
  | 0x1D => decodeOptical n
  | 0x1E => decodeGlobal n
  | _ => decodeHost n

/-- The chain bit of a word (R64). -/
def chained (w : Word) : Bool := bitOf w.toNat 31

/-- Why bytes hold no instruction: fewer than four bytes, or an ILLEGAL word with its KIND (R79). -/
inductive DecodeError where
  | short
  | illegal (kind : Nat)
  deriving DecidableEq, Repr

/-- The little-endian word of four bytes (R7). -/
def wordOfBytes (b0 b1 b2 b3 : Byte) : Word := b3 ++ b2 ++ b1 ++ b0

/-- The first instruction of a list of bytes with its chain bit, and the rest of the list. -/
def decodeBytes : List Byte → Except DecodeError (Bool × Instr × List Byte)
  | b0 :: b1 :: b2 :: b3 :: rest =>
    match decodeWord (wordOfBytes b0 b1 b2 b3) with
    | .ok i => .ok (chained (wordOfBytes b0 b1 b2 b3), i, rest)
    | .error k => .error (.illegal k)
  | _ => .error .short

/-- The instruction of a table word: one 32-bit word, laid out little-endian and decoded (R7, R64). -/
def decodeTableWord (nbits w : Nat) : Option Instr :=
  if nbits ≤ 32 then
    match decodeBytes [BitVec.ofNat 8 w, BitVec.ofNat 8 (w / 2 ^ 8), BitVec.ofNat 8 (w / 2 ^ 16), BitVec.ofNat 8 (w / 2 ^ 24)] with
    | .ok (_, i, _) => some i
    | .error _ => none
  else none

/-- A word from its fixed bits and its fields, each a value and its lowest bit. -/
def enc (c : Bool) (fixed : Nat) (fs : List (Nat × Nat)) : Word :=
  BitVec.ofNat 32 (c.toNat * 2 ^ 31 + fixed + (fs.map fun f => f.1 * 2 ^ f.2).sum)

/-- The word of an instruction with chain bit c, from the encoding tables of R92 to R447; none for an event. -/
def encode (c : Bool) : Instr → Option Word
  | .j n p i => some (enc c 0x04000000 [(n.toNat, 23), (p.toNat, 18), (i.toNat, 0)])
  | .call n p i => some (enc c 0x05000000 [(n.toNat, 23), (p.toNat, 18), (i.toNat, 0)])
  | .loop s i => some (enc c 0x06000000 [(s.toNat, 18), (i.toNat, 0)])
  | .nop => some (enc c 0x08000000 [])
  | .jr a => some (enc c 0x08000001 [(a.toNat, 20)])
  | .ret => some (enc c 0x08000002 [])
  | .ckpt => some (enc c 0x08000003 [])
  | .sys k => some (enc c 0x08000004 [(k.toNat, 8)])
  | .trap k => some (enc c 0x08000005 [(k.toNat, 8)])
  | .brk k => some (enc c 0x08000006 [(k.toNat, 8)])
  | .eret => some (enc c 0x08000007 [])
  | .fence m s => some (enc c 0x08000008 [(m.toNat, 20), (s.toNat, 14)])
  | .add d a b w => some (enc c 0x0C000000 [(d.toNat, 20), (a.toNat, 14), (b.toNat, 8), (w.toNat, 7)])
  | .sub d a b w => some (enc c 0x0C000001 [(d.toNat, 20), (a.toNat, 14), (b.toNat, 8), (w.toNat, 7)])
  | .mul d a b w => some (enc c 0x0C000002 [(d.toNat, 20), (a.toNat, 14), (b.toNat, 8), (w.toNat, 7)])
  | .mulh d a b w u => some (enc c 0x0C000003 [(d.toNat, 20), (a.toNat, 14), (b.toNat, 8), (w.toNat, 7), (u.toNat, 6)])
  | .div d a b w u => some (enc c 0x0C000004 [(d.toNat, 20), (a.toNat, 14), (b.toNat, 8), (w.toNat, 7), (u.toNat, 6)])
  | .rem d a b w u => some (enc c 0x0C000005 [(d.toNat, 20), (a.toNat, 14), (b.toNat, 8), (w.toNat, 7), (u.toNat, 6)])
  | .and d a b w => some (enc c 0x0C000006 [(d.toNat, 20), (a.toNat, 14), (b.toNat, 8), (w.toNat, 7)])
  | .or d a b w => some (enc c 0x0C000007 [(d.toNat, 20), (a.toNat, 14), (b.toNat, 8), (w.toNat, 7)])
  | .xor d a b w => some (enc c 0x0C000008 [(d.toNat, 20), (a.toNat, 14), (b.toNat, 8), (w.toNat, 7)])
  | .andn d a b w => some (enc c 0x0C000009 [(d.toNat, 20), (a.toNat, 14), (b.toNat, 8), (w.toNat, 7)])
  | .shl d a b w => some (enc c 0x0C00000A [(d.toNat, 20), (a.toNat, 14), (b.toNat, 8), (w.toNat, 7)])
  | .shr d a b w => some (enc c 0x0C00000B [(d.toNat, 20), (a.toNat, 14), (b.toNat, 8), (w.toNat, 7)])
  | .sra d a b w => some (enc c 0x0C00000C [(d.toNat, 20), (a.toNat, 14), (b.toNat, 8), (w.toNat, 7)])
  | .min d a b w u => some (enc c 0x0C00000D [(d.toNat, 20), (a.toNat, 14), (b.toNat, 8), (w.toNat, 7), (u.toNat, 6)])
  | .max d a b w u => some (enc c 0x0C00000E [(d.toNat, 20), (a.toNat, 14), (b.toNat, 8), (w.toNat, 7), (u.toNat, 6)])
  | .adds d a b w u => some (enc c 0x0C00000F [(d.toNat, 20), (a.toNat, 14), (b.toNat, 8), (w.toNat, 7), (u.toNat, 6)])
  | .subs d a b w u => some (enc c 0x0C000010 [(d.toNat, 20), (a.toNat, 14), (b.toNat, 8), (w.toNat, 7), (u.toNat, 6)])
  | .clz d a w => some (enc c 0x0C000011 [(d.toNat, 20), (a.toNat, 14), (w.toNat, 7)])
  | .ctz d a w => some (enc c 0x0C000012 [(d.toNat, 20), (a.toNat, 14), (w.toNat, 7)])
  | .popc d a w => some (enc c 0x0C000013 [(d.toNat, 20), (a.toNat, 14), (w.toNat, 7)])
  | .mov d a w => some (enc c 0x0C000014 [(d.toNat, 20), (a.toNat, 14), (w.toNat, 7)])
  | .addi d a i => some (enc c 0x10000000 [(d.toNat, 20), (a.toNat, 14), (i.toNat, 0)])
  | .andi d a i => some (enc c 0x10000800 [(d.toNat, 20), (a.toNat, 14), (i.toNat, 0)])
  | .ori d a i => some (enc c 0x10001000 [(d.toNat, 20), (a.toNat, 14), (i.toNat, 0)])
  | .xori d a i => some (enc c 0x10001800 [(d.toNat, 20), (a.toNat, 14), (i.toNat, 0)])
  | .shli d a i => some (enc c 0x10002000 [(d.toNat, 20), (a.toNat, 14), (i.toNat, 0)])
  | .shri d a i => some (enc c 0x10002800 [(d.toNat, 20), (a.toNat, 14), (i.toNat, 0)])
  | .srai d a i => some (enc c 0x10003000 [(d.toNat, 20), (a.toNat, 14), (i.toNat, 0)])
  | .muli d a i => some (enc c 0x10003800 [(d.toNat, 20), (a.toNat, 14), (i.toNat, 0)])
  | .li d i => some (enc c 0x14000000 [(d.toNat, 20), (i.toNat, 0)])
  | .lis d i => some (enc c 0x14040000 [(d.toNat, 20), (i.toNat, 0)])
  | .adr d i => some (enc c 0x14080000 [(d.toNat, 20), (i.toNat, 0)])
  | .fadd d a b r => some (enc c 0x18000000 [(d.toNat, 20), (a.toNat, 14), (b.toNat, 8), (r.toNat, 5)])
  | .fsub d a b r => some (enc c 0x18000001 [(d.toNat, 20), (a.toNat, 14), (b.toNat, 8), (r.toNat, 5)])
  | .fmul d a b r => some (enc c 0x18000002 [(d.toNat, 20), (a.toNat, 14), (b.toNat, 8), (r.toNat, 5)])
  | .fdiv d a b r => some (enc c 0x18000003 [(d.toNat, 20), (a.toNat, 14), (b.toNat, 8), (r.toNat, 5)])
  | .fsqrt d a r => some (enc c 0x18000004 [(d.toNat, 20), (a.toNat, 14), (r.toNat, 5)])
  | .fmin d a b => some (enc c 0x18000005 [(d.toNat, 20), (a.toNat, 14), (b.toNat, 8)])
  | .fmax d a b => some (enc c 0x18000006 [(d.toNat, 20), (a.toNat, 14), (b.toNat, 8)])
  | .fma d a b r => some (enc c 0x18000007 [(d.toNat, 20), (a.toNat, 14), (b.toNat, 8), (r.toNat, 5)])
  | .fcvtfi d a r => some (enc c 0x18000008 [(d.toNat, 20), (a.toNat, 14), (r.toNat, 5)])
  | .fcvtif d a r => some (enc c 0x18000009 [(d.toNat, 20), (a.toNat, 14), (r.toNat, 5)])
  | .cmp p a b k => some (enc c 0x1C000000 [(p.toNat, 21), (a.toNat, 15), (b.toNat, 9), (k.toNat, 6)])
  | .fcmp p a b k => some (enc c 0x1C000001 [(p.toNat, 21), (a.toNat, 15), (b.toNat, 9), (k.toNat, 6)])
  | .test p a b => some (enc c 0x1C000002 [(p.toNat, 21), (a.toNat, 15), (b.toNat, 9)])
  | .pand p a b => some (enc c 0x1C000003 [(p.toNat, 21), (a.toNat, 15), (b.toNat, 9)])
  | .por p a b => some (enc c 0x1C000004 [(p.toNat, 21), (a.toNat, 15), (b.toNat, 9)])
  | .pxor p a b => some (enc c 0x1C000005 [(p.toNat, 21), (a.toNat, 15), (b.toNat, 9)])
  | .pnot p a => some (enc c 0x1C000006 [(p.toNat, 21), (a.toNat, 15)])
  | .mfc d r => some (enc c 0x20000000 [(d.toNat, 20), (r.toNat, 14)])
  | .mtc r a => some (enc c 0x20000001 [(r.toNat, 20), (a.toNat, 14)])
  | .mfk d k => some (enc c 0x20000002 [(d.toNat, 20), (k.toNat, 14)])
  | .mtk k a => some (enc c 0x20000003 [(k.toNat, 20), (a.toNat, 14)])
  | .mfp d => some (enc c 0x20000004 [(d.toNat, 20)])
  | .mtp a => some (enc c 0x20000005 [(a.toNat, 14)])
  | .mfm d m => some (enc c 0x20000006 [(d.toNat, 20), (m.toNat, 14)])
  | .mtm m a => some (enc c 0x20000007 [(m.toNat, 20), (a.toNat, 14)])
  | .qpopa d q => some (enc c 0x20000008 [(d.toNat, 20), (q.toNat, 14)])
  | .qpopaNr d q p => some (enc c 0x20000008 [(d.toNat, 20), (q.toNat, 14), (p.toNat, 8)])
  | .ldb d a i => some (enc c 0x24000000 [(d.toNat, 20), (a.toNat, 14), (i.toNat, 0)])
  | .ldh d a i => some (enc c 0x24000800 [(d.toNat, 20), (a.toNat, 14), (i.toNat, 0)])
  | .ldw d a i => some (enc c 0x24001000 [(d.toNat, 20), (a.toNat, 14), (i.toNat, 0)])
  | .ldd d a i => some (enc c 0x24001800 [(d.toNat, 20), (a.toNat, 14), (i.toNat, 0)])
  | .stb b a i => some (enc c 0x24002000 [(b.toNat, 20), (a.toNat, 14), (i.toNat, 0)])
  | .sth b a i => some (enc c 0x24002800 [(b.toNat, 20), (a.toNat, 14), (i.toNat, 0)])
  | .stw b a i => some (enc c 0x24003000 [(b.toNat, 20), (a.toNat, 14), (i.toNat, 0)])
  | .std b a i => some (enc c 0x24003800 [(b.toNat, 20), (a.toNat, 14), (i.toNat, 0)])
  | .ldv v a t i => some (enc c 0x28000000 [(v.toNat, 18), (a.toNat, 12), (t.toNat, 8), (i.toNat, 0)])
  | .stv v a i => some (enc c 0x28000080 [(v.toNat, 18), (a.toNat, 12), (i.toNat, 0)])
  | .ldmBlock a m => some (enc c 0x2C000000 [(a.toNat, 20), (m.toNat, 14)])
  | .ldmScalar d m => some (enc c 0x2C000100 [(d.toNat, 20), (m.toNat, 14)])
  | .stmBlock a m => some (enc c 0x2C000001 [(a.toNat, 20), (m.toNat, 14)])
  | .stmScalar a m => some (enc c 0x2C000101 [(a.toNat, 20), (m.toNat, 14)])
  | .ldshp h a => some (enc c 0x2C000002 [(h.toNat, 20), (a.toNat, 14)])
  | .stshp h a => some (enc c 0x2C000003 [(h.toNat, 20), (a.toNat, 14)])
  | .vadd d a b => some (enc c 0x30000000 [(d.toNat, 18), (a.toNat, 10), (b.toNat, 2)])
  | .vsub d a b => some (enc c 0x30000001 [(d.toNat, 18), (a.toNat, 10), (b.toNat, 2)])
  | .vmul d a b => some (enc c 0x30000002 [(d.toNat, 18), (a.toNat, 10), (b.toNat, 2)])
  | .vfma d a b => some (enc c 0x30000003 [(d.toNat, 18), (a.toNat, 10), (b.toNat, 2)])
  | .vmin d a b => some (enc c 0x34000000 [(d.toNat, 18), (a.toNat, 10), (b.toNat, 2)])
  | .vmax d a b => some (enc c 0x34000001 [(d.toNat, 18), (a.toNat, 10), (b.toNat, 2)])
  | .vand d a b => some (enc c 0x34000002 [(d.toNat, 18), (a.toNat, 10), (b.toNat, 2)])
  | .vor d a b => some (enc c 0x34000003 [(d.toNat, 18), (a.toNat, 10), (b.toNat, 2)])
  | .vaddMasked d b k r => some (enc c 0x38000000 [(d.toNat, 18), (b.toNat, 10), (k.toNat, 6), (r.toNat, 3)])
  | .vsubMasked d b k r => some (enc c 0x38000001 [(d.toNat, 18), (b.toNat, 10), (k.toNat, 6), (r.toNat, 3)])
  | .vmulMasked d b k r => some (enc c 0x38000002 [(d.toNat, 18), (b.toNat, 10), (k.toNat, 6), (r.toNat, 3)])
  | .vfmaMasked d b k r => some (enc c 0x38000003 [(d.toNat, 18), (b.toNat, 10), (k.toNat, 6), (r.toNat, 3)])
  | .vminMasked d b k => some (enc c 0x38000004 [(d.toNat, 18), (b.toNat, 10), (k.toNat, 6)])
  | .vmaxMasked d b k => some (enc c 0x38000005 [(d.toNat, 18), (b.toNat, 10), (k.toNat, 6)])
  | .vandMasked d b k => some (enc c 0x38000006 [(d.toNat, 18), (b.toNat, 10), (k.toNat, 6)])
  | .vorMasked d b k => some (enc c 0x38000007 [(d.toNat, 18), (b.toNat, 10), (k.toNat, 6)])
  | .vxor d b k => some (enc c 0x3C000000 [(d.toNat, 18), (b.toNat, 10), (k.toNat, 6)])
  | .vshl d b k => some (enc c 0x3C000001 [(d.toNat, 18), (b.toNat, 10), (k.toNat, 6)])
  | .vshr d b k => some (enc c 0x3C000002 [(d.toNat, 18), (b.toNat, 10), (k.toNat, 6)])
  | .vsra d b k => some (enc c 0x3C000003 [(d.toNat, 18), (b.toNat, 10), (k.toNat, 6)])
  | .vmulh d b k => some (enc c 0x3C000004 [(d.toNat, 18), (b.toNat, 10), (k.toNat, 6)])
  | .vabs d s k => some (enc c 0x3C000005 [(d.toNat, 18), (s.toNat, 10), (k.toNat, 6)])
  | .vneg d s k => some (enc c 0x3C000006 [(d.toNat, 18), (s.toNat, 10), (k.toNat, 6)])
  | .vmov d s k => some (enc c 0x3C000007 [(d.toNat, 18), (s.toNat, 10), (k.toNat, 6)])
  | .vcmp k a b cond => some (enc c 0x40000000 [(k.toNat, 22), (a.toNat, 14), (b.toNat, 6), (cond.toNat, 0)])
  | .vkand k a b => some (enc c 0x40000008 [(k.toNat, 22), (a.toNat, 14), (b.toNat, 6)])
  | .vkor k a b => some (enc c 0x40000010 [(k.toNat, 22), (a.toNat, 14), (b.toNat, 6)])
  | .vkxor k a b => some (enc c 0x40000018 [(k.toNat, 22), (a.toNat, 14), (b.toNat, 6)])
  | .vknot k a => some (enc c 0x40000020 [(k.toNat, 22), (a.toNat, 14)])
  | .vcvt d s t r => some (enc c 0x44000000 [(d.toNat, 18), (s.toNat, 10), (t.toNat, 6), (r.toNat, 3)])
  | .vqnt d s t r => some (enc c 0x44000001 [(d.toNat, 18), (s.toNat, 10), (t.toNat, 6), (r.toNat, 3)])
  | .vdqnt d s t r => some (enc c 0x44000002 [(d.toNat, 18), (s.toNat, 10), (t.toNat, 6), (r.toNat, 3)])
  | .vretag d s t => some (enc c 0x44000003 [(d.toNat, 18), (s.toNat, 10), (t.toNat, 6)])
  | .vexp2 d s k r => some (enc c 0x48000000 [(d.toNat, 18), (s.toNat, 10), (k.toNat, 6), (r.toNat, 3)])
  | .vlog2 d s k r => some (enc c 0x48000001 [(d.toNat, 18), (s.toNat, 10), (k.toNat, 6), (r.toNat, 3)])
  | .vrcp d s k r => some (enc c 0x48000002 [(d.toNat, 18), (s.toNat, 10), (k.toNat, 6), (r.toNat, 3)])
  | .vrsqrt d s k r => some (enc c 0x48000003 [(d.toNat, 18), (s.toNat, 10), (k.toNat, 6), (r.toNat, 3)])
  | .vtanh d s k r => some (enc c 0x48000004 [(d.toNat, 18), (s.toNat, 10), (k.toNat, 6), (r.toNat, 3)])
  | .vsqrt d s k r => some (enc c 0x48000005 [(d.toNat, 18), (s.toNat, 10), (k.toNat, 6), (r.toNat, 3)])
  | .vperm d s i => some (enc c 0x4C000000 [(d.toNat, 18), (s.toNat, 10), (i.toNat, 2)])
  | .vbcs d a t => some (enc c 0x50000000 [(d.toNat, 18), (a.toNat, 12), (t.toNat, 6)])
  | .vext s d b => some (enc c 0x50000001 [(s.toNat, 18), (d.toNat, 12), (b.toNat, 6)])
  | .vins d a b => some (enc c 0x50000002 [(d.toNat, 18), (a.toNat, 12), (b.toNat, 6)])
  | .vrng d => some (enc c 0x50000003 [(d.toNat, 18)])
  | .viota d a t => some (enc c 0x50000004 [(d.toNat, 18), (a.toNat, 12), (t.toNat, 6)])
  | .vrsum s z k r => some (enc c 0x54000000 [(s.toNat, 18), (z.toNat, 12), (k.toNat, 6), (r.toNat, 3)])
  | .vrmin s z k r => some (enc c 0x54000001 [(s.toNat, 18), (z.toNat, 12), (k.toNat, 6), (r.toNat, 3)])
  | .vrmax s z k r => some (enc c 0x54000002 [(s.toNat, 18), (z.toNat, 12), (k.toNat, 6), (r.toNat, 3)])
  | .vzdrn d z => some (enc c 0x54000003 [(d.toNat, 18), (z.toNat, 12)])
  | .vzclr t z a => some (enc c 0x54000004 [(t.toNat, 18), (z.toNat, 12), (a.toNat, 6)])
  | .dadd d a b s => some (enc c 0x58000000 [(d.toNat, 20), (a.toNat, 14), (b.toNat, 8), (s.toNat, 7)])
  | .dsub d a b s => some (enc c 0x58000001 [(d.toNat, 20), (a.toNat, 14), (b.toNat, 8), (s.toNat, 7)])
  | .dmul d a b s => some (enc c 0x58000002 [(d.toNat, 20), (a.toNat, 14), (b.toNat, 8), (s.toNat, 7)])
  | .dmax d a b s => some (enc c 0x58000003 [(d.toNat, 20), (a.toNat, 14), (b.toNat, 8), (s.toNat, 7)])
  | .dmin d a b s => some (enc c 0x58000004 [(d.toNat, 20), (a.toNat, 14), (b.toNat, 8), (s.toNat, 7)])
  | .daff d a b => some (enc c 0x58000005 [(d.toNat, 20), (a.toNat, 14), (b.toNat, 8)])
  | .dld d a b => some (enc c 0x58000006 [(d.toNat, 20), (a.toNat, 14), (b.toNat, 8)])
  | .dst s a => some (enc c 0x58000007 [(s.toNat, 20), (a.toNat, 14)])
  | .dtag d a => some (enc c 0x58000008 [(d.toNat, 20), (a.toNat, 14)])
  | .dpt d s b => some (enc c 0x58000009 [(d.toNat, 20), (s.toNat, 14), (b.toNat, 8)])
  | .dmom d s => some (enc c 0x5C000000 [(d.toNat, 18), (s.toNat, 12)])
  | .dqnt d s b => some (enc c 0x5C000001 [(d.toNat, 18), (s.toNat, 12), (b.toNat, 6)])
  | .dcdf d s b => some (enc c 0x5C000002 [(d.toNat, 18), (s.toNat, 12), (b.toNat, 6)])
  | .dfrom v d a => some (enc c 0x5C000003 [(v.toNat, 18), (d.toNat, 12), (a.toNat, 6)])
  | .mma d a w g n f m => some (enc c 0x60000000 [(d.toNat, 18), (a.toNat, 10), (w.toNat, 8), (g.toNat, 7), (n.toNat, 6), (f.toNat, 4), (m.toNat, 1)])
  | .mldb w h => some (enc c 0x64000000 [(w.toNat, 20), (h.toNat, 14)])
  | .mdrn vd sel w => some (enc c 0x64000001 [(vd.toNat / 4, 20), (vd.toNat % 4, 18), (sel.toNat, 16), (w.toNat, 14)])
  | .mfid n => some (enc c 0x64000002 [(n.toNat, 20)])
  | .mprog a b => some (enc c 0x64000003 [(a.toNat, 20), (b.toNat, 14)])
  | .mstat d s => some (enc c 0x64000004 [(d.toNat, 20), (s.toNat, 14)])
  | .mcall i => some (enc c 0x64000005 [(i.toNat, 20)])
  | .bact b a i => some (enc c 0x68000000 [(b.toNat, 20), (a.toNat, 11), (i.toNat, 0)])
  | .brd b a k o => some (enc c 0x68020000 [(b.toNat, 20), (a.toNat, 11), (k.toNat, 7), (o.toNat, 0)])
  | .bwr b a k o => some (enc c 0x68040000 [(b.toNat, 20), (a.toNat, 11), (k.toNat, 7), (o.toNat, 0)])
  | .bpre b => some (enc c 0x68060000 [(b.toNat, 20)])
  | .bprea t => some (enc c 0x68080000 [(t.toNat, 24)])
  | .bref b => some (enc c 0x680A0000 [(b.toNat, 20)])
  | .bstat b d s => some (enc c 0x680C0000 [(b.toNat, 20), (d.toNat, 11), (s.toNat, 0)])
  | .xput f a => some (enc c 0x6C000000 [(f.toNat, 20), (a.toNat, 14)])
  | .xget d f => some (enc c 0x6C000001 [(d.toNat, 20), (f.toNat, 14)])
  | .csync a t => some (enc c 0x6C000002 [(a.toNat, 14), (t.toNat, 8)])
  | .pbar r s => some (enc c 0x6C000003 [(r.toNat, 20), (s.toNat, 8)])
  | .cld a => some (enc c 0x6C000004 [(a.toNat, 14)])
  | .cst a b => some (enc c 0x6C000005 [(a.toNat, 14), (b.toNat, 8)])
  | .cpy d s t => some (enc c 0x70000000 [(d.toNat, 20), (s.toNat, 14), (t.toNat, 8)])
  | .twall a => some (enc c 0x70000001 [(a.toNat, 14)])
  | .twany d a => some (enc c 0x70000002 [(d.toNat, 20), (a.toNat, 14)])
  | .tffr d a => some (enc c 0x70000003 [(d.toNat, 20), (a.toNat, 14)])
  | .obcst a b t => some (enc c 0x74000000 [(a.toNat, 20), (b.toNat, 14), (t.toNat, 8)])
  | .ored a b t => some (enc c 0x74000001 [(a.toNat, 20), (b.toNat, 14), (t.toNat, 8)])
  | .orecv a b => some (enc c 0x74000002 [(a.toNat, 20), (b.toNat, 14)])
  | .acq a => some (enc c 0x74000003 [(a.toNat, 14)])
  | .acqs a => some (enc c 0x74000004 [(a.toNat, 14)])
  | .rel a b => some (enc c 0x74000005 [(a.toNat, 14), (b.toNat, 8)])
  | .gbar a => some (enc c 0x74000006 [(a.toNat, 14)])
  | .oget d a => some (enc c 0x74000007 [(d.toNat, 20), (a.toNat, 14)])
  | .oset a b => some (enc c 0x74000008 [(a.toNat, 14), (b.toNat, 8)])
  | .gld a w => some (enc c 0x78000000 [(a.toNat, 14), (w.toNat, 6)])
  | .gst a b w => some (enc c 0x78000001 [(a.toNat, 14), (b.toNat, 8), (w.toNat, 6)])
  | .gaadd q a b t w => some (enc c 0x78000002 [(q.toNat, 20), (a.toNat, 14), (b.toNat, 8), (t.toNat, 7), (w.toNat, 6)])
  | .gamin q a b t w => some (enc c 0x78000003 [(q.toNat, 20), (a.toNat, 14), (b.toNat, 8), (t.toNat, 7), (w.toNat, 6)])
  | .gamax q a b t w => some (enc c 0x78000004 [(q.toNat, 20), (a.toNat, 14), (b.toNat, 8), (t.toNat, 7), (w.toNat, 6)])
  | .gaand q a b t w => some (enc c 0x78000005 [(q.toNat, 20), (a.toNat, 14), (b.toNat, 8), (t.toNat, 7), (w.toNat, 6)])
  | .gaor q a b t w => some (enc c 0x78000006 [(q.toNat, 20), (a.toNat, 14), (b.toNat, 8), (t.toNat, 7), (w.toNat, 6)])
  | .gaxor q a b t w => some (enc c 0x78000007 [(q.toNat, 20), (a.toNat, 14), (b.toNat, 8), (t.toNat, 7), (w.toNat, 6)])
  | .gaswp q a b t w => some (enc c 0x78000008 [(q.toNat, 20), (a.toNat, 14), (b.toNat, 8), (t.toNat, 7), (w.toNat, 6)])
  | .gacas k a b t w => some (enc c 0x78000009 [(k.toNat, 20), (a.toNat, 14), (b.toNat, 8), (t.toNat, 7), (w.toNat, 6)])
  | .gafadd q a b t => some (enc c 0x7800000A [(q.toNat, 20), (a.toNat, 14), (b.toNat, 8), (t.toNat, 7)])
  | .gafmin q a b t => some (enc c 0x7800000B [(q.toNat, 20), (a.toNat, 14), (b.toNat, 8), (t.toNat, 7)])
  | .gafmax q a b t => some (enc c 0x7800000C [(q.toNat, 20), (a.toNat, 14), (b.toNat, 8), (t.toNat, 7)])
  | .gabadd q a b t => some (enc c 0x7800000D [(q.toNat, 20), (a.toNat, 14), (b.toNat, 8), (t.toNat, 7)])
  | .gxadd a b t => some (enc c 0x7800000E [(a.toNat, 14), (b.toNat, 8), (t.toNat, 7)])
  | .gxrd a => some (enc c 0x7800000F [(a.toNat, 14)])
  | .gfence => some (enc c 0x78000010 [])
  | .gws k a b => some (enc c 0x78000011 [(k.toNat, 20), (a.toNat, 14), (b.toNat, 8)])
  | .hld a => some (enc c 0x7C000000 [(a.toNat, 14)])
  | .hst a b => some (enc c 0x7C000001 [(a.toNat, 14), (b.toNat, 8)])
  | .qpop d q => some (enc c 0x7C000002 [(d.toNat, 20), (q.toNat, 14)])
  | .qpopNr d q p => some (enc c 0x7C000002 [(d.toNat, 20), (q.toNat, 14), (p.toNat, 8)])
  | .asyncCauseDeliver _ => none
  | .resultLanding => none
  | .snapshotReplay => none
  | .reductionUpdate => none
  | .mmaLand => none
  | .mdrnLand => none
  | .mldbSwap => none
  | .routineStep => none
  | .routineLoad => none
  | .routineEnd => none
  | .brdLand => none
  | .bwrRowWrite => none
  | .bankPhaseEnd => none
  | .refreshDeadlineExpire _ _ => none
  | .emergencyRefresh => none
  | .tierClassChange _ _ _ => none
  | .replanAgeExpire => none
  | .patrolScrub _ => none
  | .uncorrectableError _ _ => none
  | .rollbackRestoreDone => none
  | .slotSelect => none
  | .loadStreamDone => none
  | .unloadStreamDone => none
  | .segmentExpanded => none
  | .queueEntryDeliver _ _ => none
  | .xchgWordArrive _ _ => none
  | .xchgWindowExpire => none
  | .csyncRelease _ => none
  | .tagCountZero _ => none
  | .copyTake => none
  | .copyComplete _ _ _ => none
  | .peerAccessPerform _ => none
  | .droopStretch => none
  | .fllLock => none
  | .svcbudInterval => none
  | .serviceEgress _ => none
  | .serviceFlitHop => none
  | .routeFlitDepart => none
  | .routeFlitArrive _ _ => none
  | .pbarArrive _ => none
  | .pbarRelease _ _ _ => none
  | .preemptRequest _ _ => none
  | .placementResume _ _ => none
  | .clusterGate _ => none
  | .clusterWake _ => none
  | .clusterWakeDone _ => none
  | .dieGate _ => none
  | .dieWake _ => none
  | .dieWakeDone _ => none
  | .columnReenable _ => none
  | .tokenArrive _ => none
  | .frameLastBeat _ _ => none
  | .stationEnqueue _ _ => none
  | .frameData _ _ _ => none
  | .frameRed _ _ _ => none
  | .frameAcq _ _ => none
  | .frameAcqs _ _ => none
  | .frameRel _ _ => none
  | .frameMark _ _ => none
  | .frameMap _ _ => none
  | .frameReset _ _ => none
  | .receiverLock _ _ _ => none
  | .busgateWrite _ _ => none
  | .theatWrite _ _ => none
  | .mapgoGo _ => none
  | .mapgoQuiet _ => none
  | .mapgoResume _ => none
  | .quietTimeout _ => none
  | .homePerform _ => none
  | .pageMapped _ _ => none
  | .sideLogReplay _ _ _ => none
  | .htinvWrite _ _ => none
  | .htinvAck _ => none
  | .pageMigrate _ _ _ => none
  | .pageMoveDone _ _ _ => none
  | .hostAccessPerform _ => none
  | .launchRecordTake _ => none
  | .launchCancel _ => none
  | .launchDepsMet _ => none
  | .distributorDecide => none
  | .launchStart _ => none
  | .launchEnd _ _ => none
  | .ctxRecordWrite _ _ _ => none
  | .supervisorResumeTpc _ => none
  | .supervisorResumePc _ => none
  | .supervisorEvict _ => none
  | .supervisorEndPlan _ _ => none
  | .clkctlWrite _ => none
  | .clkctlRead => none
  | .linkRead _ => none
  | .ingrejaRead => none
  | .mgmtRegisterWrite _ _ => none
  | .powerWindow _ => none
  | .powerFreqStep => none
  | .thermalTrip _ _ => none
  | .energyInterval _ => none
  | .ebpinRetrainTimeout => none
  | .packageReset _ => none
  | .attestRequest _ => none
  | .debugAccess _ _ _ _ => none
  | .debugWake _ => none
  | .debugWakeDone _ => none
  | .debugRelease _ => none
  | .debugIdleTimeout _ => none
  | .linkTrainRequest _ => none
  | .linkLock _ _ => none
  | .linkTrainTimeout _ => none
  | .linkCheckFail _ => none
  | .packageUnreachable _ => none
  | .fabricFlitArrive _ _ => none
  | .fabricRequestArrive _ => none
  | .remoteReply _ _ _ => none
  | .fabricSyncMessage _ => none
  | .supervisorEndContext _ => none
  | .evictedBankRefresh => none
  | .ebpinRetrainingStart => none
  | .ebpinRetrainingDone => none
  | .packagePowerLoss => none
  | .launchWindowRegister _ => none
  | .domainFormed _ => none
  | .grantTokenMint _ _ _ _ => none

end Sys2Proof
end

