-- ==== Sys2Proof/Config.lean ====
section
/-! DEFINITION. What an implementation fixes, and the free values: constants without a body that stand for every
value the spec leaves open. -/

namespace Sys2Proof.Config

/-- Free 64-bit values, one for each count of State.free (log 11). -/
opaque freeDbl : Nat → BitVec 64
/-- Free bytes: scratchpad contents after a cluster wake (R322, log 11). -/
opaque freeByte : Nat → Nat → BitVec 8
/-- Free observed partial sums of undervolted slices, by count, block index and slice (R183, log 14). -/
opaque freeSum : Nat → Nat → Nat → Int
/-- Free monitor levels (R343, log 11). -/
opaque freeLevel : Nat → BitVec 12
/-- Free truncations of a special function's value, met only where the model's bracket does not decide one (log 15). -/
opaque freeDigits : Nat → Nat
/-- Whether r and s are an ECDSA P-521 signature of a SHA-512 digest under the key with this identifier (R399, log 10). -/
opaque signatureOk : BitVec 64 → BitVec 512 → BitVec 528 → BitVec 528 → Bool
/-- Identifiers of the image-signing keys that the attestation firmware holds (R399, R429, log 10). -/
opaque signingKeys : List (BitVec 64)
/-- SHA-512 digest of the management firmware of a die (R428, R429, log 10). -/
opaque firmwareDigest : Nat → List (BitVec 8)
/-- Bytes of a signed attestation report, by what it covers: nonce, the dies' firmware digests, the digest of the capability
record, reset count, key identifiers; and position (R429, log 10). -/
opaque report : List (BitVec 8) → List (List (BitVec 8)) → List (BitVec 8) → Nat → List (BitVec 64) → Nat → BitVec 8
/-- DETAIL0 and DETAIL1 of LOAD_FORMAT for a byte of an image outside its sections, which the spec does not state (R398, R399,
log 13). -/
opaque formatDetail : Nat → BitVec 64 × BitVec 64
/-- Highest FREQ code that the fused voltage table allows, at most 56 (R430, log 67). -/
opaque fmax : Nat
/-- Length of an attestation report in bytes (R429, log 10). -/
opaque reportLen : Nat
/-- Whether images must be signed: a property of the package's configuration (R399, log 10). -/
opaque requireSigned : Bool

/-- Regulator set point that the fused voltage table gives for a FREQ code, in units of 5 mV (R293, log 7). -/
opaque fusedVset : BitVec 6 → BitVec 8

/-- Core-clock code at which the FLL starts (R293). -/
def freq0 : BitVec 6 := 48
/-- Exact time is counted in units of 1 ns / ns, chosen so that the period of every FREQ code, and a quarter of it,
is a whole number of units (R10, R293, R295, R296). -/
def ns : Nat := 4 * ((List.range 57).foldl (fun a i => Nat.lcm a (32 + i)) 1)
/-- The period of the core clock at a FREQ code, in units: f = 25 × (32 + FREQ) MHz (R293). -/
def period (freq : Nat) : Nat := ns * 40 / (32 + freq)

/-- Depth of the result queues qgl, qbc, qmx and qfx (R145). -/
def queueDepth (q : Nat) : Nat := if q = 0 then 64 else if q = 1 then 32 else 16
/-- Refresh interval in ticks of a temperature class (R253). -/
def refreshInterval (cls : Nat) : Nat :=
  if cls = 0 then 62500 else if cls = 1 then 31250 else if cls = 2 then 15625 else 7812

end Sys2Proof.Config
end

