-- ==== Sys2Proof/Machine/Num.lean ====
section
/-! DEFINITION. Numbers (02_numbers.md): formats, the one rounding of an exact value, and the arithmetic that uses it. -/

namespace Sys2Proof.Machine

/-- The six FPCSR flags SAT, NV, DZ, OF, UF, NX from bit 5 down, as bits 10 to 5 of FPCSR (R43). -/
abbrev Fl := BitVec 6
/-- SAT (R43). -/
def flSAT : Fl := 32
/-- NV (R43). -/
def flNV : Fl := 16
/-- DZ (R43). -/
def flDZ : Fl := 8
/-- OF (R43). -/
def flOF : Fl := 4
/-- UF (R42, R43). -/
def flUF : Fl := 2
/-- NX (R43). -/
def flNX : Fl := 1

/-- A floating format: exponent bits, fraction bits, bias, whether it has infinities (R39). -/
structure Fmt where
  eb : Nat
  fb : Nat
  bias : Nat
  inf : Bool
  deriving DecidableEq, Repr

/-- FP32 (R39). -/
def f32 : Fmt := ⟨8, 23, 127, true⟩
/-- FP16 (R39). -/
def f16 : Fmt := ⟨5, 10, 15, true⟩
/-- BF16 (R39). -/
def bf16 : Fmt := ⟨8, 7, 127, true⟩
/-- E4M3 (R39). -/
def e4m3 : Fmt := ⟨4, 3, 7, false⟩
/-- E5M2 (R39). -/
def e5m2 : Fmt := ⟨5, 2, 15, true⟩

/-- Width in bits (R39). -/
def Fmt.width (f : Fmt) : Nat := 1 + f.eb + f.fb
/-- The code of the largest finite magnitude (R39). -/
def Fmt.maxCode (f : Fmt) : Nat :=
  if f.inf then (2 ^ f.eb - 1) * 2 ^ f.fb - 1 else 2 ^ (f.eb + f.fb) - 2
/-- The canonical NaN (R40). -/
def Fmt.nan (f : Fmt) : Nat :=
  if f.inf then (2 ^ f.eb - 1) * 2 ^ f.fb + 2 ^ (f.fb - 1) else 2 ^ (f.eb + f.fb) - 1
/-- The exponent of the smallest subnormal (R39). -/
def Fmt.qmin (f : Fmt) : Int := 1 - (f.bias : Int) - f.fb
/-- A code with its sign. -/
def Fmt.signed (f : Fmt) (neg : Bool) (c : Nat) : Nat := if neg then c + 2 ^ (f.eb + f.fb) else c
/-- The infinity of a sign (R39). -/
def Fmt.infCode (f : Fmt) (neg : Bool) : Nat := f.signed neg (f.maxCode + 1)

/-- A value read from a format: a NaN, quiet or signalling, an infinity, or ±man × 2^exp (R39, R40). -/
inductive FV where
  | nan (sig : Bool)
  | inf (neg : Bool)
  | fin (neg : Bool) (man : Nat) (exp : Int)
  deriving DecidableEq, Repr

/-- The value of a code (R39 to R41). -/
def unpack (f : Fmt) (c : Nat) : FV :=
  let neg := c.testBit (f.eb + f.fb)
  let e := c / 2 ^ f.fb % 2 ^ f.eb
  let m := c % 2 ^ f.fb
  if c % 2 ^ (f.eb + f.fb) > f.maxCode then
    if f.inf then
      if m = 0 then .inf neg else .nan (m < 2 ^ (f.fb - 1))
    else .nan false
  else if e = 0 then .fin neg m f.qmin
  else .fin neg (m + 2 ^ f.fb) (f.qmin + e - 1)

/-- An exact value ±(man + δ) × 2^exp, where δ is 0, or lies strictly between 0 and 1 when sticky. A sticky value is
given with so many bits that no rounding needs more of δ. -/
structure Ex where
  neg : Bool
  man : Nat
  exp : Int
  sticky : Bool := false
  deriving DecidableEq, Repr

/-- How to round: a mode 0 to 4 (R45), the 32-bit draw of SR (R46), the saturating form (R47). -/
structure Rnd where
  mode : Nat
  draw : Nat := 0
  sat : Bool := false
  deriving DecidableEq, Repr

/-- RNE (R45). -/
def rne : Rnd := { mode := 0 }

/-- Whether the magnitude quo + (rem + δ) / 2^s is rounded up in magnitude (R45, R46). rem + δ is not 0. -/
def roundsUp (r : Rnd) (neg : Bool) (quo rem s : Nat) (sticky : Bool) : Bool :=
  match r.mode with
  | 0 => decide (rem * 2 > 2 ^ s) || (decide (rem * 2 = 2 ^ s) && (sticky || decide (quo % 2 = 1)))
  | 1 => false
  | 2 => neg
  | 3 => !neg
  | _ =>
    let t := rem * 2 ^ 32 / 2 ^ s
    if neg then
      -- x lies below −quo: a is the larger magnitude, and d is the distance from it
      let up := if rem * 2 ^ 32 % 2 ^ s = 0 && !sticky then t else t + 1
      !decide (r.draw < 2 ^ 32 - up)
    else decide (r.draw < t)

/-- The integer multiple of 2^q to which a value rounds, as a magnitude, and whether it is inexact (R45). -/
def roundAt (r : Rnd) (x : Ex) (q : Int) : Nat × Bool :=
  if q ≤ x.exp then (x.man * 2 ^ (x.exp - q).toNat, x.sticky)
  else
    let s := (q - x.exp).toNat
    let quo := x.man / 2 ^ s
    let rem := x.man % 2 ^ s
    if rem = 0 && !x.sticky then (quo, false)
    else (if roundsUp r x.neg quo rem s x.sticky then quo + 1 else quo, true)

/-- What an overflow gives (R47). -/
def overflow (f : Fmt) (r : Rnd) (neg : Bool) : Nat × Fl :=
  let big := f.signed neg f.maxCode
  let toMax := r.sat || r.mode == 1 || (r.mode == 2 && !neg) || (r.mode == 3 && neg)
  if toMax then (big, flOF ||| flNX)
  else if f.inf then (f.infCode neg, flOF ||| flNX)
  else (f.nan, flOF ||| flNX ||| flNV)

/-- The rounding of an exact value into a format, with its flags (R41, R42, R45 to R47). A stochastic draw that would round a
value up past the largest finite number, where RNE would not, gives that number with NX (DESIGN CHOICE, log 24). -/
def round (f : Fmt) (r : Rnd) (x : Ex) : Nat × Fl :=
  if x.man = 0 && !x.sticky then (f.signed x.neg 0, 0)
  else
    let e : Int := x.exp + Nat.log2 x.man
    let qn : Int := e - f.fb
    let q : Int := if qn < f.qmin then f.qmin else qn
    let code := fun (m : Nat) => ((q - f.qmin).toNat) * 2 ^ f.fb + m
    let (m, inex) := roundAt r x q
    let ov := if r.mode = 4 then decide (code (roundAt rne x q).1 > f.maxCode) else decide (code m > f.maxCode)
    if ov then overflow f r x.neg
    else
      let c := if code m > f.maxCode then f.maxCode else code m
      -- tiny after rounding to the fraction width without a lower limit of the exponent
      let tiny := qn < f.qmin && (decide ((roundAt r x qn).1 < 2 ^ (f.fb + 1)) || decide (qn + 1 < f.qmin))
      (f.signed x.neg c, (if inex then flNX else 0) ||| (if inex && tiny then flUF else 0))

/-- NV for a signalling NaN (R40). -/
def FV.snan : FV → Fl
  | .nan true => flNV
  | _ => 0

/-- Whether a value is a NaN. -/
def FV.isNan : FV → Bool
  | .nan _ => true
  | _ => false

/-- The negative of a value. -/
def FV.negate : FV → FV
  | .nan s => .nan s
  | .inf n => .inf !n
  | .fin n m e => .fin (!n) m e

/-- ±man as an integer. -/
def sgn (neg : Bool) (m : Nat) : Int := if neg then -(m : Int) else m

/-- The rounded sum of two exact finite values, with the IEEE 754 sign of a zero sum (R98). -/
def addFin (f : Fmt) (r : Rnd) (n1 : Bool) (m1 : Nat) (e1 : Int) (n2 : Bool) (m2 : Nat) (e2 : Int) : Nat × Fl :=
  let e := if e1 ≤ e2 then e1 else e2
  let v := sgn n1 (m1 * 2 ^ (e1 - e).toNat) + sgn n2 (m2 * 2 ^ (e2 - e).toNat)
  if v = 0 then
    let z := if m1 = 0 && m2 = 0 && n1 == n2 then n1 else r.mode == 2
    (f.signed z 0, 0)
  else round f r { neg := v < 0, man := v.natAbs, exp := e }

/-- The sum of two values (R98). -/
def addV (f : Fmt) (r : Rnd) (a b : FV) : Nat × Fl :=
  match a, b with
  | .nan _, _ => (f.nan, a.snan ||| b.snan)
  | _, .nan _ => (f.nan, a.snan ||| b.snan)
  | .inf n, .inf k => if n = k then (f.infCode n, 0) else (f.nan, flNV)
  | .inf n, .fin _ _ _ => (f.infCode n, 0)
  | .fin _ _ _, .inf n => (f.infCode n, 0)
  | .fin n1 m1 e1, .fin n2 m2 e2 => addFin f r n1 m1 e1 n2 m2 e2

/-- a + b (R97, R158). -/
def fadd (f : Fmt) (r : Rnd) (a b : Nat) : Nat × Fl := addV f r (unpack f a) (unpack f b)
/-- a − b (R97, R158). -/
def fsub (f : Fmt) (r : Rnd) (a b : Nat) : Nat × Fl := addV f r (unpack f a) (unpack f b).negate

/-- The exact product of two values, with NV for 0 × ∞ (R98). -/
def mulV (a b : FV) : FV × Fl :=
  match a, b with
  | .nan _, _ => (.nan false, a.snan ||| b.snan)
  | _, .nan _ => (.nan false, a.snan ||| b.snan)
  | .inf n, .inf k => (.inf (n != k), 0)
  | .inf n, .fin k m _ => if m = 0 then (.nan false, flNV) else (.inf (n != k), 0)
  | .fin k m _, .inf n => if m = 0 then (.nan false, flNV) else (.inf (n != k), 0)
  | .fin n m e, .fin k l d => (.fin (n != k) (m * l) (e + d), 0)

/-- A value rounded into a format, with the saturating form of an infinity (R47, R48). -/
def pack (f : Fmt) (r : Rnd) (v : FV) : Nat × Fl :=
  match v with
  | .nan s => (f.nan, if s then flNV else 0)
  | .inf n => if f.inf then (f.infCode n, 0) else if r.sat then (f.signed n f.maxCode, 0) else (f.nan, flNV)
  | .fin n m e => round f r { neg := n, man := m, exp := e }

/-- a × b (R97, R158). -/
def fmul (f : Fmt) (r : Rnd) (a b : Nat) : Nat × Fl :=
  let (v, fl) := mulV (unpack f a) (unpack f b)
  let (c, g) := pack f r v
  (c, fl ||| g)

/-- a × b + c with one rounding (R97, R98, R158). -/
def ffma (f : Fmt) (r : Rnd) (a b c : Nat) : Nat × Fl :=
  let (v, fl) := mulV (unpack f a) (unpack f b)
  let (x, g) := addV f r v (unpack f c)
  (x, fl ||| g)

/-- The exact quotient of two magnitudes with at least 96 bits and a sticky bit. -/
def quotEx (neg : Bool) (m : Nat) (e : Int) (l : Nat) (d : Int) : Ex :=
  let k := 96 + Nat.log2 l
  { neg := neg, man := m * 2 ^ k / l, exp := e - d - k, sticky := m * 2 ^ k % l != 0 }

/-- a / b (R97, R98). -/
def fdiv (f : Fmt) (r : Rnd) (a b : Nat) : Nat × Fl :=
  let x := unpack f a
  let y := unpack f b
  match x, y with
  | .nan _, _ => (f.nan, x.snan ||| y.snan)
  | _, .nan _ => (f.nan, x.snan ||| y.snan)
  | .inf _, .inf _ => (f.nan, flNV)
  | .inf n, .fin k _ _ => (f.infCode (n != k), 0)
  | .fin n _ _, .inf k => (f.signed (n != k) 0, 0)
  | .fin n m e, .fin k l d =>
    if l = 0 then (if m = 0 then (f.nan, flNV) else (f.infCode (n != k), flDZ))
    else if m = 0 then (f.signed (n != k) 0, 0)
    else round f r (quotEx (n != k) m e l d)

/-- The exact square root of a positive value with at least 96 bits and a sticky bit. -/
def sqrtEx (m : Nat) (e : Int) : Ex :=
  let k : Nat := 200 + (if (e % 2) = 0 then 0 else 1)
  let n := m * 2 ^ k
  let s := Nat.sqrt n
  { neg := false, man := s, exp := (e - k) / 2, sticky := s * s != n }

/-- The square root (R97, R98). -/
def fsqrt (f : Fmt) (r : Rnd) (a : Nat) : Nat × Fl :=
  match unpack f a with
  | .nan s => (f.nan, if s then flNV else 0)
  | .inf n => if n then (f.nan, flNV) else (f.infCode false, 0)
  | .fin n m e =>
    if m = 0 then (f.signed n 0, 0)
    else if n then (f.nan, flNV)
    else round f r (sqrtEx m e)

/-- Whether a < b for values that are no NaN; −0 is not less than +0. -/
def ltV (a b : FV) : Bool :=
  match a, b with
  | .nan _, _ => false
  | _, .nan _ => false
  | .inf n, .inf k => n && !k
  | .inf n, .fin _ _ _ => n
  | .fin _ _ _, .inf n => !n
  | .fin n1 m1 e1, .fin n2 m2 e2 =>
    let e := if e1 ≤ e2 then e1 else e2
    decide (sgn n1 (m1 * 2 ^ (e1 - e).toNat) < sgn n2 (m2 * 2 ^ (e2 - e).toNat))

/-- The sign of a value. -/
def FV.negative : FV → Bool
  | .nan _ => false
  | .inf n => n
  | .fin n _ _ => n

/-- Minimum (max = false) or maximum of two codes as minimumNumber and maximumNumber (R50). -/
def fminmax (f : Fmt) (max : Bool) (a b : Nat) : Nat × Fl :=
  let x := unpack f a
  let y := unpack f b
  let fl := x.snan ||| y.snan
  if x.isNan && y.isNan then (f.nan, fl)
  else if x.isNan then (b, fl)
  else if y.isNan then (a, fl)
  else
    -- −0 counts as less than +0
    let lt := ltV x y || (!ltV y x && x.negative && !y.negative)
    (if lt == max then b else a, fl)

/-- The compare conditions of FCMP and VCMP as codes 0 eq, 1 ne, 2 lt, 3 le, 4 gt, 5 ge, 6 un, 7 ord, with the flags
(R101, R160). -/
def fcompare (f : Fmt) (cond : Nat) (a b : Nat) : Bool × Fl :=
  let x := unpack f a
  let y := unpack f b
  let un := x.isNan || y.isNan
  let lt := ltV x y
  let gt := ltV y x
  let eq := !un && !lt && !gt
  let v := match cond with
    | 0 => eq
    | 1 => !eq
    | 2 => lt
    | 3 => lt || eq
    | 4 => gt
    | 5 => gt || eq
    | 6 => un
    | _ => !un
  (v, x.snan ||| y.snan ||| (if un && decide (2 ≤ cond) && decide (cond ≤ 5) then flNV else 0))

/-- Conversion between floating formats (R48). -/
def fconv (src dst : Fmt) (r : Rnd) (a : Nat) : Nat × Fl := pack dst r (unpack src a)

/-- Conversion to a signed integer of w bits, as an integer (R49). A clamped result sets NV and not SAT (DEDUCED, log 55). -/
def ftoi (f : Fmt) (w : Nat) (r : Rnd) (a : Nat) : Int × Fl :=
  let lo : Int := -(2 ^ (w - 1) : Nat)
  let hi : Int := (2 ^ (w - 1) : Nat) - 1
  match unpack f a with
  | .nan _ => (0, flNV)
  | .inf n => (if n then lo else hi, flNV)
  | .fin n m e =>
    let (q, inex) := roundAt r { neg := n, man := m, exp := e } 0
    let v := sgn n q
    if v < lo then (lo, flNV) else if v > hi then (hi, flNV) else (v, if inex then flNX else 0)

/-- Conversion of an integer to a floating format (R49). -/
def itof (f : Fmt) (r : Rnd) (v : Int) : Nat × Fl := round f r { neg := v < 0, man := v.natAbs, exp := 0 }

/-- The result of VRNG (R62). -/
def mixStep (k x : BitVec 64) (i : Nat) : BitVec 64 :=
  let x := x ^^^ (k + BitVec.ofNat 64 i * 0x5D3C9A17E24B86F1#64)
  let x := x * 0xA3B195E47C2D1F0B#64
  let x := x ^^^ (x >>> 31)
  let x := x * 0x8F1D6C53B2E94A27#64
  x ^^^ (x >>> 27)

/-- mix(K, C), the VRNG function (R62). -/
def mix (k c : BitVec 64) : BitVec 32 :=
  (mixStep k (mixStep k (mixStep k (mixStep k c 0) 1) 2) 3).extractLsb' 32 32

/-- Quantisation of a block of 32 values into w-bit elements: the scale, the elements as integers, the flags (R54). -/
def quantBlock (f : Fmt) (w : Nat) (rs : List Rnd) (xs : List Nat) : Nat × List Int × Fl :=
  let vs := xs.map (unpack f)
  let bad := vs.any (fun v => match v with | .fin _ _ _ => false | _ => true)
  if bad then
    let isInf := vs.any (fun v => match v with | .inf _ => true | _ => false)
    (255, xs.map (fun _ => 0), vs.foldl (fun a v => a ||| v.snan) (if isInf then flNV else 0))
  else
    let exps : List Int := vs.filterMap (fun v => match v with
      | .fin _ m e => if m = 0 then none else some (e + Nat.log2 m)
      | _ => none)
    match exps with
    | [] => (0, xs.map (fun _ => 0), 0)
    | e0 :: t =>
      let top : Int := t.foldl (fun a b => if a < b then b else a) e0
      let sc : Nat := (top + 127).toNat
      let lim : Nat := 2 ^ (w - 1) - 1
      let one : FV → Rnd → Int × Fl := fun v r => match v with
        | .fin n m e =>
          let (q, inex) := roundAt r { neg := n, man := m, exp := e } ((sc : Int) - 125 - (w : Int))
          if q > lim then (sgn n lim, flSAT ||| flNX) else (sgn n q, if inex then flNX else 0)
        | _ => (0, 0)
      let rs' := List.zipWith one vs rs
      (sc, rs'.map (·.1), rs'.foldl (fun a p => a ||| p.2) 0)

/-- The FP32 value of an element e of width w under scale X, rounded into a format; every MX value is exact in FP32
(R53, R164). -/
def dequant (f : Fmt) (w : Nat) (r : Rnd) (x : Nat) (e : Int) : Nat × Fl :=
  if x = 255 then (f.nan, 0)
  else round f r { neg := e < 0, man := e.natAbs, exp := (x : Int) - 125 - (w : Int) }

/-- An XADD cell is 512 bits: SUM in 479:0, PINF, NINF, NAN, WRAP from bit 480 up (R60). -/
def xaddUpdate (cell : BitVec 512) (f : BitVec 32) : BitVec 512 :=
  match unpack f32 f.toNat with
  | .nan _ => cell ||| (1#512 <<< 482)
  | .inf n => cell ||| (1#512 <<< (if n then 481 else 480))
  | .fin n m e =>
    let sum : Int := (cell.extractLsb' 0 480).toInt
    let t : Int := sum + sgn n (m * 2 ^ (e + 149).toNat)
    let wrap := decide (t < -(2 ^ 479 : Nat)) || decide (t > (2 ^ 479 : Nat) - 1)
    ((cell.extractLsb' 480 32) ++ BitVec.ofInt 480 t) ||| (if wrap then 1#512 <<< 483 else 0)

/-- The readout of an XADD cell (R61). -/
def xaddRead (cell : BitVec 512) : Nat :=
  let p := cell.getLsbD 480
  let n := cell.getLsbD 481
  if cell.getLsbD 482 || cell.getLsbD 483 || (p && n) then f32.nan
  else if p then f32.infCode false
  else if n then f32.infCode true
  else
    let s : Int := (cell.extractLsb' 0 480).toInt
    (round f32 rne { neg := s < 0, man := s.natAbs, exp := -149 }).1

end Sys2Proof.Machine
end

