-- ==== Sys2Proof/Machine/State.lean ====
section
/-! DEFINITION. The state of the machine: one core of the package with its contexts, memories and engines, and the
agents of its cluster, die, package and fabric, as plain data (INVENTORY.md, State). -/

namespace Sys2Proof.Machine

/-- Why the machine stops with a fault. -/
inductive Fault where
  /-- Raised by step when the package has no power (R433): nothing runs. Safe: no state is claimed. -/
  | unpowered
  deriving DecidableEq, Repr

/-- Why an instruction has no meaning. -/
inductive Refusal where
  /-- Raised by an arm of exec whose instruction has no meaning yet. Safe: nothing is claimed of it. -/
  | notModelled (mnemonic : String)
  deriving DecidableEq, Repr

/-- A vector row or a reduction latch: its tag and its 2,048 bits (R15, R20). -/
structure Row where
  tag : Tag := 15
  data : BitVec 2048 := 0
  deriving DecidableEq, Repr

/-- A distribution register: tag, elements in the layout of R35, source-set tag and lineage (R204). -/
structure Dist where
  tag : Tag := 15
  data : BitVec 12288 := 0
  sset : BitVec 32 := 0
  lin : BitVec 32 := 0
  deriving DecidableEq, Repr

/-- The scalar bank of a context (R15, R25, R32). TSTAT's pending bits and SNAP are read from the context. -/
structure Bank where
  s : List (Nat × Dbl) := []
  p : BitVec 32 := 1
  k : List (Nat × Dbl) := []
  m : List (Nat × Dbl) := []
  h : List (Nat × BitVec 256) := []
  pc : Dbl := 0
  tpc : Dbl := 0
  tcause : Dbl := 0
  tval : Dbl := 0
  ncause : BitVec 8 := 0
  nest : Bool := false
  inh : Bool := false
  rotb : Dbl := 0
  vrot : Dbl := 0
  fidel : Dbl := 0
  mxstat : Dbl := 0
  fpcsr : Dbl := 0
  vrngk : Dbl := 0
  vrngc : Dbl := 0
  thand : Dbl := 0
  mown : Bool := false
  deriving DecidableEq, Repr

/-- One block of one lane of an MMA: its scales and its integers S′, H and Fo (R179). -/
structure MBlock where
  xa : BitVec 8
  xb : BitVec 8
  s : Int
  h : Int
  f : Int
  deriving DecidableEq, Repr

/-- What a fixed-latency result writes when it lands (R91, R129). Register indices are physical (R28). -/
inductive Res where
  | scalar (i : BitVec 6) (v : Dbl)
  | pred (i : BitVec 5) (b : Bool)
  | preds (v : BitVec 32)
  | mask (i : BitVec 4) (v : Dbl)
  | mparam (i : BitVec 3) (v : Dbl)
  | creg (i : BitVec 6) (v : Dbl)
  | rotate (v : Dbl)
  | advance (v : Dbl)
  | shape (i : BitVec 4) (v : BitVec 256)
  | row (i : BitVec 8) (tag : Tag) (data : BitVec 2048) (bits : BitVec 2048)
  | latch (i : BitVec 2) (tag : Tag) (data : BitVec 2048)
  | reduce (i : BitVec 2) (lane : BitVec 6) (fn : BitVec 3) (tag : Tag) (t : BitVec 32) (rm : Rm) (draw : BitVec 32)
  | dist (i : BitVec 4) (data : BitVec 12288) (sset : BitVec 32) (lin : BitVec 32)
  | distPart (i : BitVec 4) (part : Nat) (data : BitVec 2048)
  | dtag (i : BitVec 4) (sset : BitVec 32) (lin : BitVec 32)
  | scratch (a : Nat) (bytes : List Byte)
  | mirror (a : Nat) (bytes : List Byte)
  | flags
  | mma (vd : BitVec 8) (arr : BitVec 2) (na : Bool) (w : Nat) (slices : Bool) (step : Bool) (toRow : Bool)
      (lanes : List (List MBlock)) (resc rngc : Nat)
  | mdrn (vd : BitVec 8) (arr : BitVec 2) (sel : Bool) (toSnap : Option Nat)
  | stepNan (vd : BitVec 8)
  | mldb (arr : BitVec 2) (fmt : BitVec 3) (data : BitVec 32768) (scales : BitVec 2048)
  | mprogWord (i : Nat) (v : Dbl)
  | mprogEntry (i : BitVec 6) (v : BitVec 16)
  deriving DecidableEq, Repr

/-- A fixed-latency result in flight (R12): its context, landing cycle, issue rank and slot, what it writes, and the
FPCSR flags (SAT NV DZ OF UF NX from bit 5 down) and MXSTAT flags it sets. lf holds the FPCSR flags of a row lane by lane,
of lanes of equal width from lane 0 up, where any of them sets one (R91, R153). -/
structure Flight where
  ctx : CtxId
  land : Nat
  seq : Nat
  slot : Nat
  res : Res
  fp : BitVec 6
  mx : BitVec 16
  key : Nat := 0
  lf : List (BitVec 6) := []
  deriving DecidableEq, Repr

/-- A read that a word in flight makes after its issue: cycle, identity of the result that takes the bytes, address
(a key of State.mem) and length (R242). -/
structure Fetch where
  cycle : Nat
  key : Nat
  addr : Nat
  len : Nat
  deriving DecidableEq, Repr

/-- An entry of the snapshot buffer: data and header of R130, with the rounding data of a reduction (log 16) and an
identity for the engine word that fills it. -/
structure SnapEntry where
  data : BitVec 2048
  addr : Dbl
  len : BitVec 16
  mxfl : BitVec 16
  fpfl : BitVec 6
  index : BitVec 8
  cls : BitVec 4
  tag : Tag
  part : BitVec 8
  offset : Nat
  order : Nat
  reduce : Option (Rm × BitVec 32)
  key : Nat
  deriving DecidableEq, Repr

/-- The states of a context (R33). -/
inductive CtxSt where
  | empty | resident | loading | running | blocked | unloading | held | finished
  deriving DecidableEq, Repr

/-- What a blocked bundle waits for (R33, R114, R290, R313, R332, R339). -/
inductive Wait where
  | queue (q : BitVec 2)
  | tagsAll (a : BitVec 6)
  | tagsAny (a : BitVec 6)
  | receive
  | barrier
  | group (g : BitVec 8)
  deriving DecidableEq, Repr

/-- Pending class A causes with their TVAL (R117, R121). -/
structure Pend where
  refo : Option Dbl := none
  late : Option Dbl := none
  miss : Option Dbl := none
  atom : Option Dbl := none
  pre : Bool := false
  deriving DecidableEq, Repr

/-- An entry that an engine owes to a result queue, in issue order; val is there once it is posted (R145, R146). -/
structure Owed where
  q : BitVec 2
  id : Nat
  val : Option Dbl
  cyc : Nat
  deriving DecidableEq, Repr

/-- What a variable-latency word does when it is performed (R265, R291, R331, R336, R361, R373, R449). -/
inductive AccOp where
  | global (op : GlobalOp) (ia : Nat) (rg : Nat) (ret : Bool) (t : Bool) (fn : BitVec 6)
  | gws (ia : Nat) (rg : Nat) (src : Nat) (len : Nat) (fa : Nat) (frg : Nat) (add : Bool) (val : Dbl)
  | push (ia : Nat) (rg : Nat) (src : Nat)
  | gfence
  | peer (p : Nat) (st : Option Dbl)
  | host (h : Nat) (st : Option Dbl)
  | copy (hd hs : BitVec 256) (tag : BitVec 6)
  | frame (f : Frame) (src : Nat) (tag : BitVec 6)
  | rel (obj : BitVec 12) (mask : Dbl)
  | acquire (obj : BitVec 12) (shared : Bool)
  deriving DecidableEq, Repr

/-- The range registers and tokens of a context as a copy of it took them at issue (R370, R443). -/
structure Ranges where
  rga : List (Nat × Dbl)
  rgb : List (Nat × Dbl)
  rgc : List (Nat × Dbl)
  deriving DecidableEq, Repr

/-- A variable-latency access with its issue number, and its place among the writes of one GWS (R449): whether a queue has
taken an acquire (parts), whether a write of its word met a pinned page (R364), the cycle at which it left the core, its
place in the leaving order and the tick that takes it (R292, R296, R361), the token it carries (R443), the link hops that
its flit has yet to make (R304), whether it waits for room in the side log (R360), and the ranges of a copy. -/
structure Access where
  id : Nat
  sub : Nat := 0
  op : AccOp
  parts : Nat := 0
  pinned : Bool := false
  left : Option Nat := none
  ord : Nat := 0
  tick : Nat := 0
  token : Dbl := 0
  hops : Nat := 0
  wait : Bool := false
  ranges : Option Ranges := none
  deriving DecidableEq, Repr

/-- An armed receive (R332); full says that an event has ended it, with the entry to post once its bytes are in the
scratchpad and its place among the events (R333, R334). -/
structure Recv where
  id : Nat
  bus : BitVec 2
  group : BitVec 8
  len : BitVec 12
  reduce : Bool
  bf16 : Bool
  men : Bool
  mtch : BitVec 32
  dst : Nat
  accepted : List (BitVec 11) := []
  tick : Nat
  armed : Bool := false
  full : Bool := false
  fin : Option (Dbl × Nat) := none
  deriving DecidableEq, Repr

/-- A vault bank (R246). The phase count REM belongs to state; the counts read down one a cycle. shown is the DL that cycles
see which have not seen the tick of its last change by a tier class (R252, R253, R296). -/
structure VBank where
  state : BitVec 3 := 0
  rem : Nat := 0
  row : BitVec 13 := 0
  pre : Nat := 0
  act : Nat := 0
  own : BitVec 2 := 3
  dl : Nat := 62500
  shown : Option Nat := none
  deriving DecidableEq, Repr

/-- A vault tier (R247); shown is the class that cycles see which have not seen the tick of its last change (R252, R296). -/
structure VTier where
  cls : BitVec 2 := 0
  shown : Option (BitVec 2) := none
  faw0 : Nat := 0
  faw1 : Nat := 0
  faw2 : Nat := 0
  faw3 : Nat := 0
  rrd : Nat := 0
  ccd : Nat := 0
  wtr : Nat := 0
  deriving DecidableEq, Repr

/-- BWR data on its way into a row (R249): landing cycle, bank, row, column, bytes, and whether a rollback has discarded
the run that issued it (R259, R263). -/
structure RowWrite where
  ctx : CtxId
  land : Nat
  bank : BitVec 6
  row : BitVec 13
  col : BitVec 4
  bytes : List Byte
  stale : Bool := false
  seq : Nat := 0
  slot : Nat := 0
  deriving DecidableEq, Repr

/-- The vault with its timing checker (R246 to R251, R318): emergency lists the plans in emergency refresh, far the classes
that other cores' tiers have reached, by 4 × core + tier (R316). -/
structure Vault where
  banks : List (Nat × VBank) := []
  tiers : List (Nat × VTier) := []
  writes : List RowWrite := []
  frozen : List (Nat × Dbl) := []
  frozenTval : Dbl := 0
  emergency : List Nat := []
  lastRef : List (Nat × Nat) := []
  far : List (Nat × BitVec 2) := []
  deriving DecidableEq, Repr

/-- One copy of a matrix array: its format code (7 empty) and its cells as the MLDB rows (R175). -/
structure MCopy where
  fmt : BitVec 3 := 7
  data : BitVec 32768 := 0
  scales : BitVec 2048 := 0
  deriving DecidableEq, Repr

/-- One matrix array: copies by role, side accumulators, the cycle until which an MMA occupies it, and the swap cycle
of an MLDB in flight (R177, R187). -/
structure MArray where
  active : MCopy := {}
  shadow : MCopy := {}
  hin : BitVec 2048 := 0
  frn : BitVec 2048 := 0
  busy : Nat := 0
  swap : Option Nat := none
  deriving DecidableEq, Repr

/-- A called routine (R196, R199, R201): index, identity of its qmx entry, copies of m0 to m7, next word, open REPT,
iterations left, j, STEPs landed, earliest cycle of its next STEP or LOAD, last landing of what it issued, and the
status and word of its end; base is the word it began at, and issued whether its first STEP or LOAD has issued. -/
structure MRoutine where
  idx : BitVec 6
  id : Nat
  m : List (Nat × Dbl)
  next : Nat
  base : Nat
  issued : Bool := false
  rept : Option Nat := none
  left : Nat := 0
  j : Nat := 0
  prog : BitVec 32 := 0
  start : Nat
  last : Nat := 0
  status : BitVec 8 := 0
  word : BitVec 16 := 0
  deriving DecidableEq, Repr

/-- The matrix engine (R175 to R203): arrays, microprogram store, routine table, declared size, the running and the
pending routine, ended routines whose qmx entry is to post, the count of the last routine that ended, and whether the
routine waits for S after a load (R135, R202); more holds called routines behind the pending one, as a rollback leaves
them that finds an ended routine with STEPs still to land (R259; log 76). -/
structure Matrix where
  arrays : List (Nat × MArray) := []
  store : List (Nat × Dbl) := []
  table : List (Nat × BitVec 16) := []
  size : Nat := 0
  run : Option MRoutine := none
  pend : Option MRoutine := none
  ending : List MRoutine := []
  more : List MRoutine := []
  prog : BitVec 32 := 0
  hold : Bool := false
  deriving DecidableEq, Repr

/-- The checkpoint copy of a context (R259, R260); entry: the rollback point is the entry bundle and no CKPT. -/
structure Ckpt where
  bank : Bank
  pc : Dbl
  id : Nat
  matrix : Option Matrix
  banks : List (Nat × VBank)
  tiers : List (Nat × VTier)
  entry : Bool
  deriving DecidableEq, Repr

/-- A bank restore of R136 or R261: the recorded banks and tiers, whether every bank gets one BREF first, the banks that
had theirs, the banks reactivated, and whether all is done but the taking of the recorded counts at S. -/
structure Restore where
  banks : List (Nat × VBank)
  tiers : List (Nat × VTier)
  bref : Bool
  refreshed : List Nat := []
  opened : List Nat := []
  ready : Bool := false
  deriving DecidableEq, Repr

/-- Progress of the reruns of a phase (R259, R261 to R263): 0 none, 1 first, 2 second; start cycle, first run's length
and signature, signature so far, whether the CKPT at the rollback point is still to be passed without effect, whether
the bank restore is still to end, and whether the rerun has begun. -/
structure Rerun where
  phase : Nat := 0
  start : Nat := 0
  len1 : Nat := 0
  sig1 : BitVec 64 := 0
  sig : BitVec 64 := BitVec.allOnes 64
  skip : Bool := false
  wait : Bool := false
  begun : Bool := false
  deriving DecidableEq, Repr

/-- A hardware context (R15, R33) and what is kept by its context id (R134, R145, R265, R349, R360, R443). readyAt is
the cycle at which a RESIDENT context became ready (R142), start the tick that its next bundle waits for (R315, R404),
seg the segment it last issued from (R151), held the banks and tiers as they stood at T while it is HELD and saved those
kept at its eviction (R136, R251), restore the bank restore that it waits for (R136, R261), first whether its next bundle is
the one at its resumption address (R131), fell whether it fell through to an address at which no segment begins (R151),
preHeld whether its last hold was PREEMPT, which leaves TPC as it was (R120), sysEnded whether its SYS 0 has been delivered
(R405), tagSeen whether the conditions of its blocked tag words held when the cycle before ended (R290), acks the pages whose last side-log entry was performed with the tick of its
acknowledgement (R296, R360), pinMet the first write that met a pinned page (R369), poison the loads that met poisoned
bytes with their LOC (R372), rcvAt the cycles at which receives have posted (R332), delay the
cycle at which PREEMPT arose and, once it is stopped, the cycles from there to its stop (R285), matrix the
engine's state while the shadow area holds it (R34, R35), raw the bytes of its record that management access wrote (R37). -/
structure Ctx where
  st : CtxSt := .empty
  slot : Option (BitVec 2) := none
  plan : Nat := 0
  primary : Bool := false
  ended : Bool := false
  bank : Bank := {}
  v : List (Nat × Row) := []
  z : List (Nat × Row) := []
  d : List (Nat × Dist) := []
  snap : List SnapEntry := []
  replayAt : Option Nat := none
  restart : Bool := false
  hold : Nat := 0
  waits : List Wait := []
  blockedAt : Nat := 0
  readyAt : Option Nat := none
  start : Option Nat := none
  seg : Option Nat := none
  held : Option (List (Nat × VBank) × List (Nat × VTier)) := none
  saved : Option (List (Nat × VBank) × List (Nat × VTier)) := none
  restore : Option Restore := none
  first : Bool := false
  fell : Bool := false
  preHeld : Bool := false
  sysEnded : Bool := false
  tagSeen : Bool := false
  delay : Nat := 0
  raw : List (Nat × Byte) := []
  matrix : Option Matrix := none
  pend : Pend := {}
  queues : List (Nat × List (Nat × Dbl)) := []
  arriving : List (BitVec 2 × Nat × Dbl) := []
  owed : List Owed := []
  popped : List (BitVec 2 × Nat × Dbl) := []
  wrote : List (BitVec 6) := []
  rel : List Access := []
  commit : Nat := 0
  out : List Access := []
  side : List Access := []
  rga : List (Nat × Dbl) := []
  rgb : List (Nat × Dbl) := []
  rgc : List (Nat × Dbl) := []
  recv : List Recv := []
  ckpt : Option Ckpt := none
  rerun : Rerun := {}
  xch : Bool := false
  fences : List (BitVec 6 × Nat) := []
  arrived : Option Nat := none
  mark : Option (BitVec 8) := none
  relTick : Option Nat := none
  grants : List (BitVec 12 × Bool) := []
  got : List (BitVec 12 × Bool) := []
  acks : List (Nat × Nat) := []
  pinMet : Option Nat := none
  poison : List (Nat × BitVec 24) := []
  rcvAt : List Nat := []
  deriving DecidableEq, Repr

/-- A port reservation: cycle, quadrant, write port, holder (R233, R235). -/
structure Resv where
  cycle : Nat
  quad : BitVec 2
  write : Bool
  holder : BitVec 2
  deriving DecidableEq, Repr

/-- An expanded half of a loop buffer (R150). -/
structure Half where
  cbase : Nat
  words : List Word
  deriving DecidableEq, Repr

/-- An expansion running or waiting: slot, half, segment, cycles left, whether it has begun; the head of the list runs (R150). -/
structure Expansion where
  slot : BitVec 2
  half : Bool
  cbase : Nat
  left : Nat
  primary : Bool
  begun : Bool := false
  deriving DecidableEq, Repr

/-- One segment of the segment table: code address, packets, header offset, dictionary bank, next segment's header
offset (R148, R151). -/
structure Seg where
  cbase : Nat
  npkt : Nat
  hdr : Nat
  dict : Nat
  next : Nat
  deriving DecidableEq, Repr

/-- The load or unload stream of the core: context, slot, unload, cycles left, the context to load after (R34, R142). -/
structure Stream where
  ctx : CtxId
  slot : BitVec 2
  unload : Bool
  left : Nat
  after : Option CtxId
  deriving DecidableEq, Repr

/-- A part of a run that has left the core: the side, the part, its place in the leaving order, the tick that takes it, its
token, and whether a home has denied it (R354, R361, R370, R443). -/
structure SentPart where
  wr : Bool
  part : Nat
  ord : Nat
  tick : Nat
  token : Dbl := 0
  dead : Bool := false
  deriving DecidableEq, Repr

/-- A copy request taken by an engine or waiting for one (R287), with its place in the leaving order and the number of the run
it is at: the parts of that run that have left the core; by part the bytes read so far, and the number of bytes written
(R289, R370, R371). -/
structure CopyReq where
  ctx : CtxId
  id : Nat
  hd : BitVec 256
  hs : BitVec 256
  tag : BitVec 6
  left : Nat := 0
  runs : Nat := 0
  sent : List SentPart := []
  got : List (Nat × List Byte) := []
  put : List (Nat × Nat) := []
  ranges : Option Ranges := none
  deriving DecidableEq, Repr

/-- An exchange word in a port: the cycle it arrived, the word (R281). -/
structure XWord where
  port : BitVec 2
  arrive : Nat
  v : Dbl
  deriving DecidableEq, Repr

/-- A route of a plan (R307, R439). -/
structure Route where
  step : Nat
  src : Nat
  dst : Nat
  dep : Nat
  count : Nat
  port : Option (BitVec 4 × Nat)
  deriving DecidableEq, Repr

/-- One entry of a gateway or fo list: departure tick, count, destination core or link, the words pushed with the
ticks that take them, and whether its flit has departed (R310, R311, R440). -/
structure GEntry where
  index : Nat
  dep : Nat
  count : Nat
  dst : Nat
  link : Option (BitVec 4 × Nat) := none
  words : List (Nat × Dbl) := []
  gone : Bool := false
  deriving DecidableEq, Repr

/-- A flit of a route on its way: the tick at which its words enter the far buffer (R308, R440). -/
structure Flit where
  tick : Nat
  dst : Nat
  link : Option (BitVec 4 × Nat)
  words : List Dbl
  deriving DecidableEq, Repr

/-- The gateway of the core (R310 to R312, R440): the current list and the full entries of earlier lists that have yet
to depart, the receive buffer with arrival ticks, the same for fo and fi, flits on their way, the step of the most recent
PBAR, the ticks of the releases whose flits may still come, whether the link went down under a placed plan (R455), and the plan that it serves. -/
structure Gateway where
  list : List GEntry := []
  old : List GEntry := []
  rx : List (Nat × Dbl) := []
  foList : List GEntry := []
  foOld : List GEntry := []
  rels : List Nat := []
  fi : List (Nat × Dbl) := []
  flits : List Flit := []
  step : Option (BitVec 12) := none
  lost : Bool := false
  seq : Nat := 0
  deriving DecidableEq, Repr

/-- The registers and agents of the cluster (R283, R284, R293 to R299); oldFreq is the code before a FREQ write that
waits for LOCK, dueFreq a FREQ write that takes effect in the next cycle. -/
structure Cluster where
  freq : BitVec 6 := 48
  heldFreq : Option (BitVec 6) := none
  oldFreq : Option (BitVec 6) := none
  dueFreq : Option (BitVec 6) := none
  lock : Bool := true
  strc : BitVec 16 := 0
  stretch : Bool := false
  stretchNext : Bool := false
  droops : List Nat := []
  lockAt : Option Nat := none
  csync : Option (BitVec 16 × BitVec 6 × Nat) := none
  used : BitVec 24 := 0
  budget : BitVec 24 := 0xFFFFFF
  egress : List (Nat × Nat) := []
  deriving DecidableEq, Repr

/-- Power states of a cluster or a die (R322). -/
inductive PowerSt where
  | active | gated | waking
  deriving DecidableEq, Repr

/-- The re-plan record of the placement (R316, R319), with the steps of the other cores' PBARs of the last release (R317). -/
structure Replan where
  age : Nat := 0
  swc : BitVec 16 := 0
  need : BitVec 2 := 0
  var : BitVec 2 := 0
  steps : List (BitVec 12) := []
  deriving DecidableEq, Repr

/-- A frame in a transmit queue, with the payload address and the tag of OBCST and ORED, the identity of the word of this
core that sends it, the tick at which it entered, and the payload bytes read so far (R325, R328, R331). -/
structure TxEntry where
  frame : Frame
  src : Nat := 0
  tag : Option (BitVec 6) := none
  ctx : CtxId := 0
  id : Option Nat := none
  tick : Nat := 0
  read : Nat := 0
  deriving DecidableEq, Repr

/-- The token and the presence of a bus from a seen tick on (R326, R346). -/
structure BusView where
  tick : Nat
  pos : Nat
  round : BitVec 32
  present : BitVec 80
  deriving DecidableEq, Repr

/-- A frame on a bus: its seen tick, the frame, and the channel map under which it was sent (R324, R345). -/
structure AirFrame where
  tick : Nat
  frame : Frame
  mapL : Dbl
  mapH : Dbl
  deriving DecidableEq, Repr

/-- Bytes of a frame on their way into the destination of a receive: the bytes that follow offset off, FP32 lanes to be
added in a reduce receive, whose first frame meets no earlier sum (R333). -/
structure RxJob where
  ctx : CtxId
  id : Nat
  dst : Nat
  off : Nat
  bytes : List Byte
  reduce : Bool
  first : Bool
  deriving DecidableEq, Repr

/-- An optical ring block and queue of our station on one bus, and the bus as seen there (R325 to R346, R415): the token at
station pos since tick arr, due to leave it at tick next, or our station sending; resumeAt is the tick that takes the last
RESUME; late holds MAP and RESET frames and those of other cores of the cluster that have yet to enter the queue; air the
frames sent and not yet seen; applied the tick up to which the round starts seen have had their effect (R326). -/
structure Bus where
  pos : Nat := 79
  arr : Nat := 0
  next : Nat := 0
  sending : Bool := false
  round : BitVec 32 := 0
  present : BitVec 80 := 0
  lock : BitVec 80 := 0
  leave : Bool := false
  txq : List TxEntry := []
  late : List TxEntry := []
  air : List AirFrame := []
  views : List BusView := []
  applied : Nat := 0
  quiet : Option Nat := none
  quietNext : Bool := false
  resumeAt : Option Nat := none
  frames : BitVec 32 := 0
  dropc : BitVec 32 := 0
  theat : List (Nat × BitVec 12) := []
  rheat : List (Nat × BitVec 12) := []
  tsat : BitVec 16 := 0
  rsat : BitVec 17 := 0
  mbad : Bool := false
  mpend : Bool := false
  mapL : Dbl := 0x398A418820
  mapH : Dbl := 0x7B9AC5A928
  stagedL : Dbl := 0x398A418820
  stagedH : Dbl := 0x7B9AC5A928
  laneMaps : List (Nat × (Dbl × Dbl)) := []
  deriving DecidableEq, Repr

/-- A requester of a sync object: package, package core number and context (R337, R453). -/
structure Requester where
  pkg : BitVec 6
  core : BitVec 11
  ctx : CtxId
  deriving DecidableEq, Repr

/-- A sync object as the filters hold it (R335, R337, R347, R378). -/
structure SyncObj where
  plan : Nat := 0
  scope : BitVec 3 := 0
  regions : List (Nat × Nat) := []
  excl : Option Requester := none
  shared : List Requester := []
  waiters : List (Requester × Bool) := []
  inst : Option Requester := none
  deriving DecidableEq, Repr

/-- A group as the filters hold it: its members in this package, and for one with members in other packages the ticks at
which its episode is complete here and in the others (R329, R339, R347, R454). -/
structure Group where
  plan : Nat := 0
  members : List Nat := []
  epoch : BitVec 16 := 0
  marked : List Nat := []
  wide : Bool := false
  doneAt : Option Nat := none
  others : Option Nat := none
  deriving DecidableEq, Repr

/-- Resources of one placement-relative core of a plan (R228, R400, R404): its CORE section, the core, contexts, whether
the first is primary, entries, THAND, the windows, banks, tags, microprogram words, range registers by context, and the
place and the length of its code in the code area, and the size of that area. -/
structure CoreRes where
  sect : Nat
  core : Nat
  ctxs : Nat
  prim : Bool
  entries : List Dbl
  thand : Dbl
  sbase : Nat
  ssize : Nat
  mbase : Nat
  msize : Nat
  owned : BitVec 64
  served : BitVec 64
  tags : BitVec 64
  mwords : Nat
  ranges : List (List (Dbl × Dbl))
  cbase : Nat
  clen : Nat
  csize : Nat
  deriving DecidableEq, Repr

/-- A SEGMENT section of an image: its CORE section, its own number, the header fields and the token bytes; high is header bits 127:80 (R148, R399). -/
structure ImgSeg where
  core : Nat
  sect : Nat
  cbase : Nat
  npkt : Nat
  next : Nat
  toks : List Byte
  high : BitVec 48 := 0
  deriving DecidableEq, Repr

/-- Bytes of a DATA section: its CORE section, its space (0 scratch, 1 mirror, 2 vault), the location counter of the
first byte, the bytes (R230, R399). -/
structure ImgData where
  core : Nat
  space : Nat
  first : Nat
  bytes : List Byte
  deriving DecidableEq, Repr

/-- A relocation of an image (R401): its CORE section, its RELOC section, its number there, and its 16 bytes. -/
structure Reloc where
  core : Nat
  sect : Nat
  num : Nat
  entry : BitVec 128
  deriving DecidableEq, Repr

/-- A CORE section of an image: its number, its bitmap, bit n for core n, and the declaration that each of these cores has
(R400). -/
structure CoreSect where
  sect : Nat
  map : BitVec 1280
  decl : CoreRes
  deriving DecidableEq, Repr

/-- A SIGNATURE section: key identifier, r and s, with the SHA-512 digest of every image byte before it (R399). -/
structure Signature where
  key : Dbl
  r : BitVec 528
  s : BitVec 528
  digest : BitVec 512
  deriving DecidableEq, Repr

/-- A symbol of an image (R401). -/
inductive Sym where
  | absolute (v : Int)
  | scratch (v : Nat)
  | mirror (v : Nat)
  | group (i : Nat)
  | sync (i : Nat)
  | args
  | argn
  deriving DecidableEq, Repr

/-- A plan image (R399 to R401; log 13): the host address it was copied from, its length, the bytes of its header, the
16-byte entries of its section table, its signature, and the contents of its sections as data, where a CORE section is
named by its number in the table. -/
structure Image where
  version : Nat
  addr : Nat
  len : Nat
  header : List Byte
  table : List (BitVec 128)
  sign : Option Signature
  sects : List CoreSect
  dicts : List (Nat × List (BitVec 96))
  segs : List ImgSeg
  data : List ImgData
  routes : List Route
  replan : List (Nat × Nat × Dbl)
  routines : List (Nat × Nat × List Dbl)
  groups : List (List Nat)
  syncs : List (BitVec 3 × List (Nat × Nat))
  relocs : List Reloc
  syms : List Sym
  deriving DecidableEq, Repr

/-- A plan that a launch has placed (R403, R404). -/
structure Plan where
  seq : Nat
  timed : Bool
  matrix : Bool
  optical : Bool
  clusters : List Nat
  res : List CoreRes
  groups : List Nat
  objs : List Nat
  routes : List Route
  replan : List (Nat × Nat × Dbl)
  hostWins : List (Nat × Nat)
  ended : List Nat := []
  deriving DecidableEq, Repr

/-- States of a launch (R394, R395). -/
inductive LaunchSt where
  | waiting | queued | placing | running | preempted | ended
  deriving DecidableEq, Repr

/-- A launch record as the agent took it, with its state and completion fields (R393 to R398), the clusters and the plan
chosen for it while it is PLACING, the way in which it is being pre-empted, true urgently (R133, R402), and the tick at which
PREEMPT is given to cores that have yet to see it (R296); met holds the dependences that have ended since it was taken, by
number, with their status (R396), and cancel tells that CANCEL was seen while it was PLACING (R393). -/
structure Launch where
  seq : Nat
  imgAddr : Nat
  version : Nat
  imgLen : Nat
  prio : BitVec 3
  urgent : Bool
  depOk : BitVec 8
  account : Nat
  deps : List Nat
  argAddr : Nat
  argLen : Nat
  dieMask : BitVec 8
  near : Nat
  hostWins : List (Nat × Nat)
  st : LaunchSt
  status : LaunchStatus
  since : Nat
  start : Nat
  fin : Nat
  nj : Nat
  preempts : Nat
  clusters : List Nat
  plan : Option Plan := none
  preempting : Option Bool := none
  preTick : Option Nat := none
  met : List (Nat × BitVec 16) := []
  cancel : Bool := false
  deriving DecidableEq, Repr

/-- A black-box entry (R434). -/
structure BBEntry where
  kind : BitVec 8
  src : BitVec 11
  seq : BitVec 32
  d0 : Dbl
  d1 : Dbl
  tick : Nat
  deriving DecidableEq, Repr

/-- The black box of a die (R433, R434). -/
structure BlackBox where
  next : Nat := 0
  wraps : Nat := 0
  resets : Nat := 0
  overrun : BitVec 256 := 0
  ring : List (Nat × BBEntry) := []
  deriving DecidableEq, Repr

/-- A fabric port, with the tick at which its training began, and once it is UP that at which it enters service (R437). -/
structure PortSt where
  state : BitVec 2 := 0
  since : Nat := 0
  upAt : Nat := 0
  rtry : BitVec 16 := 0
  deriving DecidableEq, Repr

/-- The fabric as this package sees it (R436, R444, R446, R455), with the ids of objects and of groups that plans hold in the
tables of other packages, by package (R453, R454). -/
structure Fabric where
  topo : Topology := { self := 0, revs := [(0, 3)], links := [], paths := [] }
  ports : List (Nat × PortSt) := []
  keyA : BitVec 512 := 0
  keyB : BitVec 512 := 0
  ingCount : BitVec 16 := 0
  ingReason : BitVec 4 := 0
  ingSpkg : BitVec 8 := 0
  ingIa : BitVec 48 := 0
  replies : List (FabricRequest × Reply) := []
  forwards : List (Nat × FabricRequest) := []
  unreachable : List Nat := []
  farObjs : List (Nat × Nat) := []
  farGroups : List (Nat × Nat) := []
  deriving DecidableEq, Repr

/-- An access held at a home of this package (R358, R363): an access of this core, a part of a copy of this core, an access
of another requester of the package, or a request of another package. -/
inductive HeldReq where
  | own (c : CtxId) (id : Nat) (sub : Nat)
  | copy (id : Nat) (wr : Bool) (part : Nat)
  | other (ia : Nat) (op : GlobalOp) (seq : Nat)
  | foreign (q : FabricRequest)
  deriving DecidableEq, Repr

/-- The invalidation register of a column's agent, with the writes that wait (R357). -/
structure Htinv where
  pend : Bool := false
  acks : BitVec 31 := 0
  queue : List (BitVec 13) := []
  deriving DecidableEq, Repr

/-- The home side of the package: invalidation registers by column, buffered translations with their age, held accesses
in arrival order, write runs of pages, poisoned 8-byte words of served banks by memory key, the pages that faults have
reported to the supervisor, and the guest entries of pages that this package holds for another, by page number (R355 to
R363, R372). -/
structure Home where
  htinv : List (Nat × Htinv) := []
  buffer : List (Nat × Dbl) := []
  held : List HeldReq := []
  runs : List (Nat × (Nat × Nat)) := []
  poison : List Nat := []
  faults : List Nat := []
  guests : List (Nat × Dbl) := []
  deriving DecidableEq, Repr

/-- Package-wide power, companion link and accounts (R422 to R427, R431, R432). As shipped all 1,280 columns are enabled, so
all ten clusters of a die are complete, a choice beyond the nine that R1 guarantees (DESIGN CHOICE, log 8). resetAt is
the tick of the last reset, winAt and stepAt those of the last power window and FREQ step (R422), wakeAt and dieWakeAt the ticks at which WAKING clusters and dies began to wake (R322), debugAt the ticks of the wake request
or of the last access of debug-awake layers (R432), gates the writes of the clusters' BUSGATE with the
ticks that take them, newest last (R406), ebpinAt the tick at which the companion link was lost, hostOut the completion parts that wait for it and
ebpinOrd the place in the leaving order up to which accesses waited (R427), seen the SEQ last seen in each slot of the
window (R393), pass whether a launch has entered QUEUED or ended, or a pre-emption completed, with no pass of the
distributor since (R402), idleAt and gatedAt the ticks from which clusters have held no plan state and have been GATED
(R403). -/
structure Package where
  powered : Bool := true
  boot : BitVec 8 := 0xFF
  inReset : Bool := false
  rev : BitVec 32 := 3
  serial : Dbl := 0
  overLimit : Bool := false
  overTicks : Nat := 0
  noTimed : Bool := false
  winAt : Option Nat := none
  stepAt : Option Nat := none
  ebpinDown : Bool := false
  accounts : List (Nat × Nat) := []
  overhead : Nat := 0
  window : Option Nat := none
  awake : List DebugLayer := []
  waking : List DebugLayer := []
  clusters : List (Nat × PowerSt) := []
  dies : List (Nat × PowerSt) := []
  gates : List (Nat × BitVec 4 × Nat) := []
  disabled : List Nat := []
  retired : List Nat := []
  mgmt : Dbl := 0
  status : BitVec 2 := 0
  resetAt : Nat := 0
  wakeAt : List (Nat × Nat) := []
  dieWakeAt : List (Nat × Nat) := []
  debugAt : List (DebugLayer × Nat) := []
  ebpinAt : Nat := 0
  ebpinOrd : Nat := 0
  hostOut : List (Nat × List Byte) := []
  seen : List (Nat × Nat) := []
  pass : Bool := false
  idleAt : List (Nat × Nat) := []
  gatedAt : List (Nat × Nat) := []
  attest : List Byte := []
  deriving DecidableEq, Repr

/-- The word being issued (R66, R118): context, stream, slot and address of the bundle, its words, the address that
follows and the cycles until it may issue, the cause raised, and whether the bundle waits. -/
structure Cur where
  ctx : CtxId := 0
  primary : Bool := true
  slot : BitVec 4 := 0
  addr : Dbl := 0
  n : Nat := 1
  npc : Dbl := 4
  gap : Nat := 1
  trap : Option (Nat × BitVec 8 × Dbl) := none
  wait : Bool := false
  stall : Bool := false
  snapNeed : Nat := 0
  draws : List (BitVec 4) := []
  deriving DecidableEq, Repr

/-- An urgent pre-emption in force: the launch, the cycle and the tick at which its placement stopped, and the tick at
which it restarts (R285, R315). -/
structure Stop where
  seq : Nat
  cycle : Nat
  tick : Nat
  resume : Option Nat := none
  deriving DecidableEq, Repr

/-- What a timed plan that is pre-empted has on its core while another timed plan runs there: its gateway, its re-plan
record, its barrier and its stop (R310, R315, R319). -/
structure Kept where
  gate : Gateway
  replan : Replan
  pbarTick : Option Nat
  stop : Option Stop
  xports : List XWord
  xout : List XWord
  csync : Option (BitVec 16 × BitVec 6 × Nat)
  deriving DecidableEq, Repr

/-- The state of the machine; blackBox is the record of the core's die, boxes those of the other dies (R433). -/
structure State where
  self : BitVec 11
  cycle : Nat
  time : Nat
  seq : Nat
  nextId : Nat
  free : Nat
  agenda : List Instr
  cur : Cur
  justZero : List (BitVec 6)
  ctxs : List (Nat × Ctx)
  flight : List Flight
  fetches : List Fetch
  oget : List (Nat × Nat × Nat)
  oset : List (Nat × Nat × Dbl)
  ports : List Resv
  lastSlot : BitVec 2
  stream : Option Stream
  halves : List (Nat × Half)
  expansions : List Expansion
  dicts : List (Nat × List (BitVec 96))
  segs : List (Nat × List Seg)
  codeSize : Nat
  mem : List Host.Cell
  tags : List (Nat × BitVec 8)
  copyq : List CopyReq
  engines : List (Nat × CopyReq)
  xports : List XWord
  xout : List XWord
  vault : Vault
  error : Dbl
  retired : Bool
  gate : Gateway
  stop : Option Stop
  kept : List (Nat × Kept)
  rxjobs : List RxJob
  reports : List (Nat × BitVec 16 × Dbl × Dbl)
  matrix : Matrix
  cluster : Cluster
  replan : Replan
  pbarTick : Option Nat
  buses : List (Nat × Bus)
  objs : List (Nat × SyncObj)
  groups : List (Nat × Group)
  home : Home
  launches : List (Nat × Launch)
  history : List (Nat × BitVec 16)
  lastSeq : Nat
  images : List (Nat × Image)
  hostImages : List (Nat × Image)
  plans : List Plan
  blackBox : BlackBox
  boxes : List (Nat × BlackBox)
  fabric : Fabric
  pkg : Package
  deriving DecidableEq, Repr

/-- The machine right after reset: no plan is loaded, every context is EMPTY (R33), every register is at the value of
its table or at the value that logs 3 to 10 name. -/
def State.reset : State where
  self := 0
  cycle := 0
  time := 0
  seq := 0
  nextId := 0
  free := 0
  agenda := []
  cur := {}
  justZero := []
  ctxs := []
  flight := []
  fetches := []
  oget := []
  oset := []
  ports := []
  lastSlot := 0
  stream := none
  halves := []
  expansions := []
  dicts := []
  segs := []
  codeSize := 0
  mem := []
  tags := []
  copyq := []
  engines := []
  xports := []
  xout := []
  vault := {}
  error := 0
  retired := false
  gate := {}
  stop := none
  kept := []
  rxjobs := []
  reports := []
  matrix := {}
  cluster := {}
  replan := {}
  pbarTick := none
  buses := []
  objs := []
  groups := []
  home := {}
  launches := []
  history := []
  lastSeq := 0
  images := []
  hostImages := []
  plans := []
  blackBox := {}
  boxes := []
  fabric := {}
  pkg := {}

end Sys2Proof.Machine
end

