-- ==== Sys2Proof/Machine/Lanes.lean ====
section
/-! DEFINITION. Lanes of a row (R38, R52), the containers of a format tag (R20), and the accumulator arithmetic of the
matrix engine (R55, R179, R180). -/

namespace Sys2Proof.Machine

/-- Lane j of width w of a row, as a number (R38). -/
def lane (r : BitVec 2048) (w j : Nat) : Nat := r.toNat / 2 ^ (w * j) % 2 ^ w
/-- Lanes of width w as a number, lane 0 lowest. -/
def lanesNat (w : Nat) : List Nat → Nat
  | [] => 0
  | v :: t => v % 2 ^ w + 2 ^ w * lanesNat w t
/-- The row whose lanes of width w are given. -/
def ofLanes (w : Nat) (l : List Nat) : BitVec 2048 := BitVec.ofNat 2048 (lanesNat w l)
/-- The lanes of width w of a row. -/
def toLanes (r : BitVec 2048) (w : Nat) : List Nat := (List.range (2048 / w)).map (lane r w)
/-- A row as bytes, lane 0 at the lowest address (R35). -/
def rowBytes (r : BitVec 2048) : List Byte := (List.range 256).map (fun j => r.extractLsb' (8 * j) 8)
/-- Bytes as a number, the first lowest, in a width. -/
def bytesBv (w : Nat) (bs : List Byte) : BitVec w := BitVec.ofNat w (lanesNat 8 (bs.map BitVec.toNat))

/-- Container width of a tag: 32 for RAW (R20, R52, R168). -/
def tagWidth (t : Tag) : Nat :=
  match t.toNat with
  | 1 => 8 | 2 => 16 | 5 => 16 | 6 => 16 | 7 => 8 | 8 => 8 | 9 => 4 | 10 => 8 | 11 => 8 | 12 => 16 | 13 => 16
  | _ => 32
/-- Lane count of a tag (R20, R152). -/
def tagLanes (t : Tag) : Nat := 2048 / tagWidth t
/-- Element width of an MX tag (R51). -/
def mxWidth (t : Tag) : Nat :=
  match t.toNat with
  | 9 => 4 | 10 => 6 | 11 => 8 | 12 => 12 | _ => 16
/-- An MX tag (R20). -/
def tagMx (t : Tag) : Bool := 9 ≤ t.toNat && t.toNat ≤ 13
/-- INT8, INT16 or INT32 (R155). -/
def tagInt (t : Tag) : Bool := 1 ≤ t.toNat && t.toNat ≤ 3
/-- FP32, FP16 or BF16. -/
def tagFp (t : Tag) : Bool := 4 ≤ t.toNat && t.toNat ≤ 6
/-- The floating format of a tag (R20). -/
def tagFmt (t : Tag) : Fmt :=
  match t.toNat with
  | 5 => f16 | 6 => bf16 | 7 => e4m3 | 8 => e5m2 | _ => f32

/-- A w-bit code as a signed integer (R38, R51). -/
def signedOf (w n : Nat) : Int := if n % 2 ^ w < 2 ^ (w - 1) then (n % 2 ^ w : Nat) else ((n % 2 ^ w : Nat) : Int) - (2 ^ w : Nat)
/-- The w-bit code of an integer. -/
def codeOf (w : Nat) (v : Int) : Nat := (v % (2 ^ w : Nat)).toNat
/-- The container of an MX element: sign extension of the element in the container (R52). -/
def mxContainer (t : Tag) (v : Int) : Nat := codeOf (tagWidth t) v

/-- OVF, UNF, NANS, COLL, OWN, FMIS, MPR, FDEM of MXSTAT from bit 0 up (R186). -/
abbrev Mx := BitVec 16

/-- add(y, x) of R179 for a block of elements of width w. -/
def mxAdd (w : Nat) (b : MBlock) (x : Int) (y : Nat) : Nat × Mx :=
  if b.xa = 255 ∨ b.xb = 255 then (f32.nan, 4)
  else if x = 0 then (y, 0)
  else
    let e : Int := (b.xa.toNat : Int) + b.xb.toNat - 254
    if e > 127 then ((addV f32 rne (unpack f32 y) (.fin (x < 0) (2 ^ 24 - 1) 104)).1, 1)
    else if e < -126 then (y, 2)
    else
      let (z, fl) := addV f32 rne (unpack f32 y) (.fin (x < 0) x.natAbs (e + 4 - 2 * (w : Int)))
      (z, if fl &&& flOF = 0 then 0 else 1)

/-- The additions of one lane in ascending block order (R58, R180); sel picks S′, H or Fo of a block. -/
def mxLane (w : Nat) (sel : MBlock → Int) (y : Nat) (bs : List MBlock) : Nat × Mx :=
  bs.foldl (fun a b => let (z, m) := mxAdd w b (sel b) a.1; (z, a.2 ||| m)) (y, 0)

/-- The additions of all lanes to a row of 64 FP32 lanes. -/
def mxRow (w : Nat) (sel : MBlock → Int) (row : BitVec 2048) (lanes : List (List MBlock)) : BitVec 2048 × Mx :=
  let rs := List.zipWith (fun n bs => mxLane w sel (lane row 32 n) bs) (List.range 64) lanes
  (ofLanes 32 (rs.map (·.1)), rs.foldl (fun a r => a ||| r.2) 0)

/-- The update of an accumulator row (R180): with NA = 1 it starts from +0. -/
def mmaRow (na : Bool) (w : Nat) (row : BitVec 2048) (lanes : List (List MBlock)) : BitVec 2048 × Mx :=
  mxRow w MBlock.s (if na then 0 else row) lanes

/-- A row of canonical FP32 NaNs (R178, R187). -/
def nanRow : BitVec 2048 := ofLanes 32 (List.replicate 64 f32.nan)

end Sys2Proof.Machine
end

