-- ==== Sys2Proof/Machine/Memory.lean ====
section
/-! DEFINITION. Memory: one list of cells in canonical form for every memory of the machine (20_memory_model.md R375),
its keys (log 3), reads and writes of bytes and little-endian values (R7), and the windows of a plan (R228). -/

namespace Sys2Proof.Machine

/-- What an unlisted address reads as: 0 (R230 at a plan load, R352; before, log 3). -/
def unlisted : Byte := 0

/-- The byte at a key. -/
def memGet (m : List Host.Cell) (a : Nat) : Byte := SMap.get unlisted m a
/-- A write of one byte. -/
def memSet (m : List Host.Cell) (a : Nat) (v : Byte) : List Host.Cell := SMap.set unlisted m a v
/-- The canonical form: keys strictly rise and no listed byte is what an unlisted key reads as. -/
def Memory.wf (m : List Host.Cell) : Bool := SMap.wf unlisted m
/-- n bytes from a key up. -/
def memRead (m : List Host.Cell) (a : Nat) : Nat → List Byte
  | 0 => []
  | n + 1 => memGet m a :: memRead m (a + 1) n
/-- A write of bytes from a key up. -/
def memWrite (m : List Host.Cell) (a : Nat) : List Byte → List Host.Cell
  | [] => m
  | b :: t => memWrite (memSet m a b) (a + 1) t

/-- Bytes as a number, the lowest address lowest (R7). -/
def leNat : List Byte → Nat
  | [] => 0
  | b :: t => b.toNat + 256 * leNat t
/-- n bytes of a number, the lowest address lowest (R7). -/
def leBytes : Nat → Nat → List Byte
  | 0, _ => []
  | n + 1, v => BitVec.ofNat 8 v :: leBytes n (v / 256)

/-- Key of a scratchpad byte of a core (R231, log 3). -/
def keyScratch (core a : Nat) : Nat := core * 2 ^ 20 + a
/-- Key of a mirror-segment byte of a core (R240, log 3). -/
def keyMirror (core a : Nat) : Nat := 2 ^ 64 + core * 2 ^ 24 + a
/-- Key of a vault byte of a core (R243, log 3). -/
def keyVault (core bank row byte : Nat) : Nat := 2 * 2 ^ 64 + core * 2 ^ 30 + bank * 2 ^ 24 + row * 2 ^ 11 + byte
/-- Key of a global byte whose home lies in another package, by intermediate address (R348, log 3). -/
def keyRemote (ia : Nat) : Nat := 3 * 2 ^ 64 + ia
/-- Key of a byte of host memory (R373, log 3). -/
def keyHost (a : Nat) : Nat := 4 * 2 ^ 64 + a

/-- This core's number as a natural. -/
def State.me (s : State) : Nat := s.self.toNat
/-- Package cluster of this core (R281, R306). -/
def State.myCluster (s : State) : Nat := s.me / 16
/-- Cluster index of this core (R279). -/
def State.myIndex (s : State) : Nat := s.me % 16
/-- Die of this core (R303). -/
def State.myDie (s : State) : Nat := s.me / 160

/-- Bytes of this core's scratchpad. -/
def scratchRead (s : State) (a n : Nat) : List Byte := memRead s.mem (keyScratch s.me a) n
/-- Bytes of this core's mirror segment. -/
def mirrorRead (s : State) (a n : Nat) : List Byte := memRead s.mem (keyMirror s.me a) n
/-- A write to this core's scratchpad. -/
def scratchWrite (s : State) (a : Nat) (bs : List Byte) : State := { s with mem := memWrite s.mem (keyScratch s.me a) bs }
/-- A write to this core's mirror segment. -/
def mirrorWrite (s : State) (a : Nat) (bs : List Byte) : State := { s with mem := memWrite s.mem (keyMirror s.me a) bs }

/-- The plan of a SEQ, if it is placed. -/
def findPlan (s : State) (seq : Nat) : Option Plan := s.plans.find? (fun p => p.seq == seq)
/-- Placement-relative number of a core in a plan, if the plan holds its cluster (R306). -/
def relCore (p : Plan) (core : Nat) : Option Nat :=
  (p.clusters.findIdx? (fun c => c == core / 16)).map (fun q => 16 * q + core % 16)
/-- What a plan has on a core (R228, R400). -/
def resOf (p : Plan) (core : Nat) : Option CoreRes :=
  (relCore p core).bind (fun r => p.res.find? (fun x => x.core == r))
/-- What the plan of a SEQ has on this core. -/
def planRes (s : State) (seq : Nat) : Option CoreRes := (findPlan s seq).bind (fun p => resOf p s.me)

/-- Whether n bytes at a lie in a window. -/
def within (base size a n : Nat) : Bool := decide (base ≤ a) && decide (a + n ≤ base + size)
/-- Whether n bytes at a lie in a plan's scratchpad window on this core (R228). -/
def inScratch (s : State) (seq a n : Nat) : Bool :=
  match planRes s seq with
  | some r => within r.sbase r.ssize a n
  | none => false
/-- Whether n bytes at a lie in a plan's mirror window on this core (R228). -/
def inMirror (s : State) (seq a n : Nat) : Bool :=
  match planRes s seq with
  | some r => within r.mbase r.msize a n
  | none => false
/-- Whether n bytes at a touch the code area or the shadow areas of this core's mirror segment (R35, R240). -/
def mirrorReserved (s : State) (a n : Nat) : Bool :=
  decide (a < s.codeSize) || (decide (0xC00000 < a + n) && decide (a < 0x1000000))

end Sys2Proof.Machine
end

