-- ==== Sys2Proof/Machine/Ops.lean ====
section
/-! DEFINITION. The named operations over contexts, registers and results: reading and writing registers (01), the
queues (06), results in flight and their landing (R12, R91, R129 to R131), and taking an exception (05). -/

namespace Sys2Proof.Machine

/-- A context by its identity (R32). -/
def getCtx (s : State) (c : CtxId) : Ctx := SMap.get {} s.ctxs c.toNat
/-- A context put in its place. -/
def setCtx (s : State) (c : CtxId) (x : Ctx) : State := { s with ctxs := SMap.set {} s.ctxs c.toNat x }
/-- The context of the word being issued. -/
def cx (s : State) : Ctx := getCtx s s.cur.ctx
/-- The context of the word being issued, put in its place. -/
def setCx (s : State) (x : Ctx) : State := setCtx s s.cur.ctx x
/-- All context identities. -/
def allCtx : List CtxId := (List.range 16).map (BitVec.ofNat 4)

/-! Registers -/

/-- Number of rotating rows (R26). -/
def rotN (b : Bank) : Nat := 8 * 2 ^ (b.vrot.toNat % 4)
/-- ROTB.PBASE (R27). -/
def pbase (b : Bank) : Nat := b.rotb.toNat % 16
/-- ROTB.VBASE (R27). -/
def vbase (b : Bank) : Nat := b.rotb.toNat / 16 % 64
/-- VROT.EN (R26). -/
def rotOn (b : Bank) : Bool := b.vrot.getLsbD 2
/-- Physical predicate (R28). -/
def physP (b : Bank) (i : BitVec 5) : BitVec 5 :=
  if i.toNat < 16 then i else BitVec.ofNat 5 (16 + (i.toNat - 16 + pbase b) % 16)
/-- Physical row (R28). -/
def physV (b : Bank) (i : BitVec 8) : BitVec 8 :=
  let n := rotN b
  if rotOn b ∧ 256 - n ≤ i.toNat then BitVec.ofNat 8 (256 - n + (i.toNat - (256 - n) + vbase b) % n) else i
/-- A group of n rows from i crosses the edge of the rotating rows (R30). -/
def rotSpan (b : Bank) (i : BitVec 8) (n : Nat) : Bool :=
  rotOn b && decide (i.toNat < 256 - rotN b) && decide (256 - rotN b < i.toNat + n)

/-- A scalar register (R15). -/
def Bank.getS (b : Bank) (i : BitVec 6) : Dbl := SMap.get 0 b.s i.toNat
/-- A physical predicate; p0 reads 1 (R16). -/
def Bank.getP (b : Bank) (i : BitVec 5) : Bool := i == 0 || b.p.getLsbD i.toNat
/-- A mask; k0 reads all ones (R16). -/
def Bank.getK (b : Bank) (i : BitVec 4) : Dbl := if i = 0 then BitVec.allOnes 64 else SMap.get 0 b.k i.toNat
/-- A matrix parameter (R15). -/
def Bank.getM (b : Bank) (i : BitVec 3) : Dbl := SMap.get 0 b.m i.toNat
/-- A shape record (R19). -/
def Bank.getH (b : Bank) (i : BitVec 4) : BitVec 256 := SMap.get 0 b.h i.toNat
/-- A row by physical index (R15). -/
def Ctx.getV (x : Ctx) (i : BitVec 8) : Row := SMap.get {} x.v i.toNat
/-- A latch (R15). -/
def Ctx.getZ (x : Ctx) (i : BitVec 2) : Row := SMap.get {} x.z i.toNat
/-- A distribution register (R204). -/
def Ctx.getD (x : Ctx) (i : BitVec 4) : Dist := SMap.get {} x.d i.toNat

/-- A scalar register of the issuing context. -/
def rs (s : State) (i : BitVec 6) : Dbl := (cx s).bank.getS i
/-- A predicate of the issuing context, mapped by R28. -/
def rp (s : State) (i : BitVec 5) : Bool := (cx s).bank.getP (physP (cx s).bank i)
/-- A row of the issuing context by logical index. -/
def rv (s : State) (i : BitVec 8) : Row := (cx s).getV (physV (cx s).bank i)
/-- A mask of the issuing context. -/
def rk (s : State) (i : BitVec 4) : Dbl := (cx s).bank.getK i
/-- A shape record of the issuing context. -/
def rh (s : State) (i : BitVec 4) : BitVec 256 := (cx s).bank.getH i
/-- A truth value as 0 or 1. -/
def b2n (b : Bool) : Nat := if b then 1 else 0

/-- TSTAT (R121). -/
def tstat (x : Ctx) : Dbl :=
  BitVec.ofNat 64 (x.bank.ncause.toNat * 2 ^ 32 + b2n x.pend.refo.isSome * 2 ^ 31 + b2n x.pend.late.isSome * 2 ^ 30 +
    b2n x.pend.miss.isSome * 2 ^ 29 + b2n x.pend.atom.isSome * 2 ^ 28 + b2n x.pend.pre * 2 ^ 27 +
    b2n x.bank.nest * 2 ^ 9 + b2n x.bank.inh * 2 ^ 8 + x.snap.length % 128)

/-- A control register as MFC and the bank image give it (R25); pc is what PC reads. -/
def cregRead (x : Ctx) (id : CtxId) (pc : Dbl) (i : BitVec 6) : Dbl :=
  match i.toNat with
  | 0x00 => id.zeroExtend 64
  | 0x01 => pc
  | 0x02 => x.bank.tpc
  | 0x03 => x.bank.tcause
  | 0x04 => x.bank.tval
  | 0x05 => tstat x
  | 0x06 => x.bank.rotb
  | 0x07 => x.bank.vrot
  | 0x08 => x.bank.fidel
  | 0x09 => x.bank.mxstat
  | 0x0A => x.bank.fpcsr
  | 0x0B => x.bank.vrngk
  | 0x0C => x.bank.vrngc
  | 0x0D => x.bank.thand
  | 0x0E => if x.bank.mown then 1 else 0
  | _ => 0

/-- ROTB of two bases (R27). -/
def mkRotb (v p : Nat) : Dbl := BitVec.ofNat 64 (v * 16 + p)

/-- A control-register write: reserved bits and read-only registers are ignored, VBASE is stored modulo N, a write of
VROT clears VBASE (R11, R26, R27, R112). -/
def cregWrite (b : Bank) (i : BitVec 6) (v : Dbl) : Bank :=
  match i.toNat with
  | 0x02 => { b with tpc := v }
  | 0x03 => { b with tcause := v &&& 0xFF }
  | 0x04 => { b with tval := v }
  | 0x06 => { b with rotb := mkRotb (v.toNat / 16 % 64 % rotN b) (v.toNat % 16) }
  | 0x07 => { b with vrot := v &&& 7, rotb := mkRotb 0 (pbase b) }
  | 0x08 => { b with fidel := v &&& 3 }
  | 0x09 => { b with mxstat := v &&& 0xFFFFFFFF000000FF }
  | 0x0A => { b with fpcsr := v &&& 0x7E7 }
  | 0x0B => { b with vrngk := v }
  | 0x0C => { b with vrngc := v }
  | 0x0D => { b with thand := v }
  | _ => b

/-- Flags ORed into FPCSR and MXSTAT (R43, R44, R186). -/
def orFlags (b : Bank) (fp : Fl) (mx : Mx) : Bank :=
  { b with fpcsr := b.fpcsr ||| (fp.zeroExtend 64 <<< 5), mxstat := b.mxstat ||| mx.zeroExtend 64 }

/-- A counter of MXSTAT raised, saturating (R183, R186). -/
def satAdd16 (v : BitVec 16) (n : Nat) : BitVec 16 := BitVec.ofNat 16 (min 0xFFFF (v.toNat + n))
/-- RESC and RNGC raised (R183). -/
def countMx (b : Bank) (resc rngc : Nat) : Bank :=
  let r := satAdd16 (b.mxstat.extractLsb' 48 16) resc
  let g := satAdd16 (b.mxstat.extractLsb' 32 16) rngc
  { b with mxstat := (r ++ g) ++ b.mxstat.extractLsb' 0 32 }

/-! Ticks (R296) -/

/-- The tick at or before the start of the current cycle. -/
def tickNow (s : State) : Nat := s.time / Config.ns
/-- Whether the current cycle has seen tick t: σ(k) ≥ t + 1 ns (R296). -/
def seen (s : State) (t : Nat) : Bool := decide ((t + 1) * Config.ns ≤ s.time)
/-- The end of the current cycle, at the frequency at which it began (R294, R295). -/
def cycleEnd (s : State) : Nat :=
  let p := Config.period (s.cluster.oldFreq.getD s.cluster.freq).toNat
  s.time + (if s.cluster.stretch then p + p / 4 else p)
/-- The start of the cycle that follows the current one: LOCK, if a FREQ write has gated the clock (R294, R295). -/
def nextTime (s : State) : Nat :=
  if s.cluster.lock then cycleEnd s else max (cycleEnd s) (s.cluster.lockAt.getD 0)
/-- The earliest tick at which a value placed in the current cycle is taken: t ns ≥ σ(k+1) + 1 ns (R296). -/
def takenAt (s : State) : Nat := (nextTime s + Config.ns + (Config.ns - 1)) / Config.ns

/-! The black box (R433, R434) -/

/-- The order of entries of one tick: cores by number, then other sources by KIND (R434). -/
def bbKey (e : BBEntry) : Nat := if e.kind.toNat ≤ 5 || e.kind = 10 then e.src.toNat else 2048 + e.kind.toNat
/-- An entry put at index i of the ring, behind those of its tick that stand before it and ahead of the others (R434). -/
def bbPut : Nat → List (Nat × BBEntry) → Nat → BBEntry → List (Nat × BBEntry)
  | 0, r, i, e => SMap.put r i e
  | n + 1, r, i, e =>
    let k := (i + 1021) % 1022
    match r.find? (fun p => p.1 == k) with
    | some (_, p) => if p.tick = e.tick && decide (bbKey e < bbKey p) then bbPut n (SMap.put r i p) k e else SMap.put r i e
    | none => SMap.put r i e
/-- An entry written: when the ring is full the oldest is overwritten, and WRAPS counts that write (R434, log 17). -/
def bbWrite (e : BBEntry) (b : BlackBox) : BlackBox :=
  { b with ring := bbPut 1021 b.ring b.next e, wraps := b.wraps + b2n (b.ring.any (fun p => p.1 == b.next)),
           next := (b.next + 1) % 1022 }
/-- The black-box record of a die (R433). -/
def boxOf (s : State) (die : Nat) : BlackBox := if die = s.myDie then s.blackBox else SMap.get {} s.boxes die
/-- A black-box record changed. -/
def mapBox (die : Nat) (f : BlackBox → BlackBox) (s : State) : State :=
  { s with blackBox := if die = s.myDie then f s.blackBox else s.blackBox,
           boxes := if die = s.myDie then s.boxes else SMap.put s.boxes die (f (boxOf s die)) }
/-- A write of one entry, into the record of its source's die; events of the package are in that of die 0 (R433, R434; log
17). -/
def blackBox (s : State) (kind : BitVec 8) (src : BitVec 11) (seq : Nat) (d0 d1 : Dbl) : State :=
  mapBox (src.toNat / 160) (bbWrite { kind := kind, src := src, seq := BitVec.ofNat 32 seq, d0 := d0, d1 := d1, tick := tickNow s }) s

/-! Code (R106, R147 to R151) -/

/-- The segment table of a plan on this core (R147). -/
def segsOf (s : State) (seq : Nat) : List Seg := SMap.get [] s.segs seq
/-- The segment that holds a code address (R148, R151; log 72). -/
def segAt (s : State) (seq : Nat) (a : Nat) : Option Seg :=
  (segsOf s seq).find? (fun g => decide (g.cbase ≤ a) && decide (a < g.cbase + 12 * g.npkt))
/-- The cause that a code address raises: CODE_ALIGN, CODE_RANGE or none (R106). -/
def codeCause (s : State) (seq : Nat) (a : Dbl) : Option (BitVec 8) :=
  if a.toNat % 4 ≠ 0 then some 0x10 else if (segAt s seq a.toNat).isNone then some 0x11 else none

/-! Results in flight -/

/-- Snapshot entries that a result needs; engine events need none (R129, R191). -/
def Res.entries (r : Res) (fp : Fl) (mx : Mx) : Nat :=
  match r with
  | .dist _ _ _ _ => 7
  | .scratch _ bs => (bs.length + 255) / 256
  | .mirror _ bs => (bs.length + 255) / 256
  | .flags => if fp = 0 && mx = 0 then 0 else 1
  | .mma _ _ _ _ _ step toRow _ _ _ => if step || !toRow then 0 else 1
  | .mdrn _ _ _ snp => if snp.isSome then 0 else 1
  | .stepNan _ => 0
  | .mldb _ _ _ _ => 0
  | .mprogWord _ _ => 0
  | .mprogEntry _ _ => 0
  | _ => 1

/-- Entries of a context's results in flight, its replays to come included (R129). -/
def entriesInFlight (s : State) (c : CtxId) : Nat :=
  let x := getCtx s c
  (if x.replayAt.isSome then x.snap.length else 0) +
    s.flight.foldl (fun n f => if f.ctx == c && decide (s.cycle < f.land) then n + f.res.entries f.fp f.mx else n) 0

/-- A result that a word gives at its issue: its latency, what it writes, its flags. -/
structure Out where
  lat : Nat
  res : Res
  fp : Fl := 0
  mx : Mx := 0
  key : Nat := 0
  lf : List Fl := []
  deriving DecidableEq, Repr

/-- Whether a result is the advance of VRNGC of a drawing word (R63, R456). -/
def Out.draws (o : Out) : Bool :=
  match o.res with
  | .advance _ => true
  | _ => false
/-- The result of a word put in flight (R12). -/
def Out.toFlight (s : State) (o : Out) : Flight :=
  { ctx := s.cur.ctx, land := s.cycle + o.lat, seq := s.seq, slot := s.cur.slot.toNat, res := o.res, fp := o.fp,
    mx := o.mx, key := o.key, lf := o.lf }

/-! The snapshot buffer (R123, R129, R130, R131) -/

/-- A blank entry. -/
def SnapEntry.blank : SnapEntry :=
  { data := 0, addr := 0, len := 0, mxfl := 0, fpfl := 0, index := 0, cls := 11, tag := 0, part := 0, offset := 0,
    order := 0, reduce := none, key := 0 }

/-- Entries of a memory write: one for each 256 bytes or part (R129). -/
def memEntries (cls : BitVec 4) (a : Nat) (e : SnapEntry) : Nat → List Byte → List SnapEntry
  | 0, _ => []
  | _, [] => []
  | fuel + 1, bs =>
    { e with cls := cls, addr := BitVec.ofNat 64 a, len := BitVec.ofNat 16 (min 256 bs.length),
             data := bytesBv 2048 (bs.take 256) } :: memEntries cls (a + 256) e fuel (bs.drop 256)

/-- The row that a partial write leaves, given the row it meets (R153, R174). -/
def mergeRow (old data bits : BitVec 2048) : BitVec 2048 := (old &&& ~~~bits) ||| (data &&& bits)

/-- The NaN row that a refused MMA or STEP writes: such a row has a key (R187). -/
def nanOf (f : Flight) : Bool :=
  match f.res with
  | .row _ t d _ => f.key != 0 && t == 4 && d == nanRow
  | .stepNan _ => true
  | _ => false
/-- The updates of one accumulator row by the MMAs and STEPs in flight to it, in landing order, from the row as it
stands (R203): identity of each by its place in State.flight. -/
def mmaChain (row : BitVec 2048) : List (Nat × Flight) → List (Nat × (BitVec 2048 × Mx))
  | [] => []
  | (k, f) :: t =>
    match f.res with
    | .mma _ _ na w _ _ _ lanes _ _ =>
      let r := mmaRow na w row lanes
      (k, r) :: mmaChain r.1 t
    | _ => if nanOf f then mmaChain nanRow t else mmaChain row t

/-- Insertion into a sorted list: an element goes behind those that precede or equal it. -/
def insertBy {α : Type} (le : α → α → Bool) (x : α) : List α → List α
  | [] => [x]
  | y :: t => if le y x then y :: insertBy le x t else x :: y :: t
/-- A stable sort. -/
def sortBy {α : Type} (le : α → α → Bool) (l : List α) : List α := l.foldl (fun a x => insertBy le x a) []

/-- The MMAs and STEPs of a context on a row that land after cycle t, in landing order. -/
def mmasOn (s : State) (c : CtxId) (vd : BitVec 8) (t : Nat) : List (Nat × Flight) :=
  let l := s.flight.zipIdx.map (fun p => (p.2, p.1))
  let on := l.filter (fun p => p.2.ctx == c && decide (t < p.2.land) && (match p.2.res with
    | .mma v _ _ _ _ _ toRow _ _ _ => v == vd && toRow
    | .row v _ _ _ => v == vd && nanOf p.2
    | .stepNan v => v == vd
    | _ => false))
  sortBy (fun a b => decide (a.2.land ≤ b.2.land)) on

/-- The entries of one result captured at cycle t, its FPFL, MXFL and OFFSET (R123, R130, R174, R203); x holds the rows as
they stand at t. -/
def captureOne (s : State) (x : Ctx) (k : Nat) (f : Flight) (t order : Nat) : List SnapEntry :=
  let e : SnapEntry := { SnapEntry.blank with
    offset := f.land - t, fpfl := f.fp, mxfl := f.mx, order := order, key := f.key }
  let reg := fun (cls : BitVec 4) (i : Nat) (v : BitVec 2048) => { e with cls := cls, index := BitVec.ofNat 8 i, data := v }
  match f.res with
  | .scalar i v => [reg 0 i.toNat (v.zeroExtend 2048)]
  | .pred i b => [reg 1 i.toNat (if b then 1 else 0)]
  | .preds v => [reg 1 0xFF (v.zeroExtend 2048)]
  | .mask i v => [reg 2 i.toNat (v.zeroExtend 2048)]
  | .mparam i v => [reg 6 i.toNat (v.zeroExtend 2048)]
  | .creg i v => [reg 8 i.toNat (v.zeroExtend 2048)]
  | .rotate v => [reg 8 6 (v.zeroExtend 2048)]
  | .advance v => [reg 8 0x0C (v.zeroExtend 2048)]
  | .shape i v => [reg 7 i.toNat (v.zeroExtend 2048)]
  | .row i tag data bits => [{ reg 3 i.toNat (mergeRow (x.getV i).data data bits) with tag := tag }]
  | .latch i tag data => [{ reg 4 i.toNat data with tag := tag }]
  | .reduce i l fn tag v rm draw =>
    [{ reg 4 i.toNat (BitVec.ofNat 2048 (v.toNat + l.toNat * 2 ^ 32 + fn.toNat * 2 ^ 40)) with
        tag := tag, reduce := some (rm, draw) }]
  | .dist i data ss ln =>
    (List.range 6).map (fun p => { reg 5 i.toNat (data.extractLsb' (2048 * p) 2048) with tag := 14, part := BitVec.ofNat 8 p })
      ++ [{ reg 5 i.toNat ((ln ++ ss).zeroExtend 2048) with tag := 14, part := 6 }]
  | .distPart i p data => [{ reg 5 i.toNat data with tag := 14, part := BitVec.ofNat 8 p }]
  | .dtag i ss ln => [{ reg 5 i.toNat ((ln ++ ss).zeroExtend 2048) with tag := 14, part := 6 }]
  | .scratch a bs => memEntries 9 a e (bs.length + 1) bs
  | .mirror a bs => memEntries 10 a e (bs.length + 1) bs
  | .flags => if f.fp = 0 && f.mx = 0 then [] else [e]
  | .mma vd _ _ _ _ step toRow _ _ _ =>
    if step || !toRow then []
    else
      let r := ((mmaChain (x.getV vd).data (mmasOn s f.ctx vd t)).find? (fun p => p.1 == k)).map (·.2)
      [{ reg 3 vd.toNat (r.getD (0, 0)).1 with tag := 4, mxfl := f.mx ||| (r.getD (0, 0)).2 }]
  | .mdrn vd _ _ snp => if snp.isSome then [] else [{ reg 3 vd.toNat 0 with tag := 4, key := f.land * 2 ^ 32 + k + 1 }]
  | .stepNan _ => []
  | .mldb _ _ _ _ => []
  | .mprogWord _ _ => []
  | .mprogEntry _ _ => []

/-- What stays in flight of a captured result: the engine events of an MMA or MDRN, and what is no entry (R203). -/
def keepFlight (k : Nat) (f : Flight) : Option Flight :=
  match f.res with
  | .mma vd a na w sl step toRow lanes rc rg =>
    if step || !toRow then some f else some { f with res := .mma vd a na w sl false false lanes rc rg, mx := 0 }
  | .mdrn vd a sel snp => if snp.isSome then some f else some { f with res := .mdrn vd a sel (some (f.land * 2 ^ 32 + k + 1)) }
  | .stepNan _ => some f
  | .mldb _ _ _ _ => some f
  | .mprogWord _ _ => some f
  | .mprogEntry _ _ => some f
  | _ => none

/-- Issue rank of a bundle among the captured ones. -/
def rankOf (seqs : List Nat) (q : Nat) : Nat := (seqs.filter (fun z => decide (z < q))).length

/-- Quadrant of a scratchpad address (R231). -/
def quadOf (a : Nat) : BitVec 2 := BitVec.ofNat 2 (a / 256)
/-- The port uses of a scratchpad write in flight: cycle and quadrants (R232). -/
def writePorts (f : Flight) : List (Nat × BitVec 2) :=
  match f.res with
  | .scratch a bs => (List.range ((bs.length + 255) / 256)).map (fun j => (f.land, quadOf (a + 256 * j)))
  | _ => []

/-- The port reservations once results in flight no longer make their writes (R123, R233, R259). -/
def portsWithout (gone : List Flight) (s : State) : List Resv :=
  let l := gone.flatMap writePorts
  s.ports.filter (fun r => !(r.write && l.any (fun g => g.1 == r.cycle && g.2 == r.quad)))

/-- A snapshot entry as the result that its replay writes (R130, R131). Of an entry that a record write made, one of CLASS 4
writes its whole latch and one of CLASS 5 the distribution with tag DIST whatever its TAG (DESIGN CHOICE, log 85). -/
def replayRes (e : SnapEntry) : Res :=
  let n := e.index.toNat
  match e.cls.toNat with
  | 0 => .scalar (BitVec.ofNat 6 n) (e.data.extractLsb' 0 64)
  | 1 => if e.index = 0xFF then .preds (e.data.extractLsb' 0 32) else .pred (BitVec.ofNat 5 n) (e.data.getLsbD 0)
  | 2 => .mask (BitVec.ofNat 4 n) (e.data.extractLsb' 0 64)
  | 3 => .row e.index e.tag e.data (BitVec.allOnes 2048)
  | 4 => match e.reduce with
    | some (rm, draw) => .reduce (BitVec.ofNat 2 n) (e.data.extractLsb' 32 6) (e.data.extractLsb' 40 3) e.tag
        (e.data.extractLsb' 0 32) rm draw
    | none => .latch (BitVec.ofNat 2 n) e.tag e.data
  | 5 => if e.part.toNat < 6 then .distPart (BitVec.ofNat 4 n) e.part.toNat e.data
    else .dtag (BitVec.ofNat 4 n) (e.data.extractLsb' 0 32) (e.data.extractLsb' 32 32)
  | 6 => .mparam (BitVec.ofNat 3 n) (e.data.extractLsb' 0 64)
  | 7 => .shape (BitVec.ofNat 4 n) (e.data.extractLsb' 0 256)
  | 8 => .creg (BitVec.ofNat 6 n) (e.data.extractLsb' 0 64)
  | 9 => .scratch e.addr.toNat ((rowBytes e.data).take e.len.toNat)
  | 10 => .mirror e.addr.toNat ((rowBytes e.data).take e.len.toNat)
  | _ => .flags

/-- A replay as a result that lands at a cycle (R131). -/
def replayFlight (c : CtxId) (l : Nat) (e : SnapEntry) : Flight :=
  { ctx := c, land := l, seq := 0, slot := 0, res := replayRes e, fp := e.fpfl, mx := e.mxfl, key := e.key }

/-- ORDER counted anew, 0 for the earliest bundle among the entries (R130). -/
def reRank (l : List SnapEntry) : List SnapEntry :=
  let os := (l.map (·.order)).dedup
  l.map (fun e => { e with order := rankOf os e.order })

/-- Capture at cycle t: every result of the context that lands after t becomes entries of the snapshot buffer, and a
captured write gives its port up, which its replay takes at S + OFFSET. Replays still to come after t keep their distance;
one that lands at t or earlier is written normally (R123, R131, R233). Captures of a second trap join the waiting entries of
the first, past 64 if need be (DESIGN CHOICE, log 59). rows are the vector rows as they stand at t. -/
def capture (s : State) (c : CtxId) (t : Nat) (rows : SMap Row) : State :=
  let x := getCtx s c
  let idx := s.flight.zipIdx.map (fun p => (p.2, p.1))
  let mine := idx.filter (fun p => p.2.ctx == c && decide (t < p.2.land) && (keepFlight p.1 p.2 != some p.2))
  let old := match x.replayAt with
    | some r => (x.snap.filter (fun e => decide (t < r + e.offset))).map (fun e => { e with offset := r + e.offset - t })
    | none => x.snap
  let now := match x.replayAt with
    | some r => (sortBy (fun a b => decide (a.order ≤ b.order)) (x.snap.filter (fun e => !decide (t < r + e.offset)))).map
        (fun e => replayFlight c (r + e.offset) e)
    | none => []
  let base := old.foldl (fun m e => max m (e.order + 1)) 0
  let seqs := (mine.map (fun p => p.2.seq)).dedup
  let es := mine.flatMap (fun p => captureOne s { x with v := rows } p.1 p.2 t (base + rankOf seqs p.2.seq))
  let fl := idx.filterMap (fun p =>
    if p.2.ctx == c && decide (t < p.2.land) then keepFlight p.1 p.2 else some p.2)
  { setCtx s c { x with snap := reRank (old ++ es), replayAt := none } with
    flight := now ++ fl, ports := portsWithout (mine.map (·.2)) s }

/-! Taking an exception (R117 to R128) -/

/-- Causes whose destination is the supervisor (R117). -/
def toSupervisor (code : BitVec 8) : Bool :=
  code == 0x17 || code == 0x20 || code == 0x22 || code == 0x30 || code == 0x31 || code == 0x32 || code == 0x34

/-- The context goes HELD with PC at an address (R33, R125, R126); the banks and tiers of the core stand as at T (R136). -/
def holdAt (s : State) (c : CtxId) (addr : Dbl) : State :=
  let x := getCtx s c
  setCtx s c { x with st := .held, waits := [], fell := false, preHeld := false, held := some (s.vault.banks, s.vault.tiers), bank := { x.bank with pc := addr } }

/-- Escalation of a cause (R125): NEST, NCAUSE, HELD, PC, and the black box (R434). -/
def escalate (s : State) (c : CtxId) (code : BitVec 8) (addr : Dbl) : State :=
  let x := getCtx s c
  let s1 := holdAt (setCtx s c { x with bank := { x.bank with nest := true, ncause := code } }) c addr
  blackBox s1 1 s.self x.plan x.bank.tcause x.bank.tval

/-- TPC, TCAUSE and TVAL of a delivery; a register that an MTC writes in the same cycle keeps that value (R112, R120). -/
def trapRegs (wrote : List (BitVec 6)) (x : Ctx) (code : BitVec 8) (tval addr : Dbl) : Ctx :=
  let b := x.bank
  let b := if wrote.contains 0x02 then b else { b with tpc := addr }
  let b := if wrote.contains 0x03 then b else { b with tcause := code.zeroExtend 64 }
  let b := if wrote.contains 0x04 then b else { b with tval := tval }
  { x with bank := b }

/-- The bank-state words A and B and the tier words, as the frozen record holds them (R250, R251); filled in by
Vault.lean's reading of the counts. -/
def bankOwn (s : State) (seq bank : Nat) : Nat :=
  match planRes s seq with
  | some r =>
    let any := fun (f : CoreRes → BitVec 64) => s.plans.any (fun p => match resOf p s.me with
      | some q => (f q).getLsbD bank
      | none => false)
    if r.owned.getLsbD bank then 0 else if r.served.getLsbD bank || any (·.served) then 1
    else if any (·.owned) then 2 else 3
  | none => 3

/-- Word A of a bank as the plan reads it (R246). -/
def wordA (s : State) (seq bank : Nat) : Dbl :=
  let own := bankOwn s seq bank
  let b := SMap.get {} s.vault.banks bank
  if own = 0 then
    BitVec.ofNat 64 (b.state.toNat * 2 ^ 61 + b.rem * 2 ^ 52 + b.row.toNat * 2 ^ 39 + b.pre * 2 ^ 33 + b.act * 2 ^ 26)
  else BitVec.ofNat 64 (own * 2 ^ 24)
/-- DL of a bank as cycles see it (R252, R296). -/
def VBank.seenDl (b : VBank) : Nat := b.shown.getD b.dl
/-- CLASS of a tier as cycles see it (R252, R296). -/
def VTier.seenCls (t : VTier) : BitVec 2 := t.shown.getD t.cls
/-- Word B of a bank as the plan reads it (R246, R252). -/
def wordB (s : State) (seq bank : Nat) : Dbl :=
  if bankOwn s seq bank = 0 then BitVec.ofNat 64 ((SMap.get {} s.vault.banks bank).seenDl % 2 ^ 20) else 0
/-- A tier word (R247). -/
def tierWord (s : State) (tier : Nat) : Dbl :=
  let t := SMap.get {} s.vault.tiers tier
  BitVec.ofNat 64 (t.seenCls.toNat * 2 ^ 37 + t.faw3 * 2 ^ 31 + t.faw2 * 2 ^ 25 + t.faw1 * 2 ^ 19 + t.faw0 * 2 ^ 13 +
    t.rrd * 2 ^ 10 + t.ccd * 2 ^ 6 + t.wtr)
/-- The bank-state record of R251 as words by offset / 8. -/
def bankRecord (s : State) (seq : Nat) (tval : Dbl) : List (Nat × Dbl) :=
  let m := (List.range 64).foldl (fun m n => SMap.set 0 (SMap.set 0 m n (wordA s seq n)) (64 + n) (wordB s seq n)) []
  let m := (List.range 4).foldl (fun m t => SMap.set 0 m (128 + t) (tierWord s t)) m
  SMap.set 0 m 132 tval

/-- The frozen record taken when VAULT_TIMING is delivered or escalates (R250). -/
def freeze (s : State) (c : CtxId) (code : BitVec 8) (tval : Dbl) : State :=
  if code = 0x16 then
    { s with vault := { s.vault with frozen := bankRecord s (getCtx s c).plan tval, frozenTval := tval } }
  else s

/-- A synchronous cause delivered at cycle t to the trapping bundle at addr: the one operation that takes an
exception (R119 to R125). at0 is the context as it stands at t: rows, THAND, and the control registers that an MTC writes
at t (R112, R120, R122, R174, R203). -/
def deliver (s : State) (c : CtxId) (code : BitVec 8) (tval addr : Dbl) (t : Nat) (at0 : Ctx := getCtx s c) : State :=
  let x := getCtx s c
  let s := freeze s c code tval
  if x.bank.inh && !(code == 0x20 || code == 0x22) then escalate s c code addr
  else
    let s1 := capture (setCtx s c (trapRegs at0.wrote x code tval addr)) c t at0.v
    let y := getCtx s1 c
    let h := at0.bank.thand
    if toSupervisor code then holdAt s1 c addr
    else if h = 0 then escalate s1 c code addr
    else match codeCause s1 y.plan h with
      | some bad => escalate s1 c bad addr
      | none =>
        setCtx s1 c { y with st := .running, waits := [], fell := false, hold := t + 3, restart := false,
                             bank := { y.bank with inh := true, pc := h } }

/-- A context is HELD by PREEMPT, which writes no trap register: a resume goes on at PC (R120, R126, R133). -/
def holdPre (s : State) (c : CtxId) (addr : Dbl) : State :=
  let s1 := holdAt s c addr
  setCtx s1 c { getCtx s1 c with preHeld := true }
/-- PREEMPT delivered at cycle t: the results are captured, the context is HELD, and the trap registers stay (R120). -/
def deliverPreempt (s : State) (c : CtxId) (addr : Dbl) (t : Nat) : State :=
  let x := getCtx s c
  holdPre (capture (setCtx s c { x with delay := t - x.delay }) c t x.v) c addr

/-! Words -/

/-- A cause that a word raises: class, code, TVAL (R117, R118). -/
structure Cause where
  cls : Nat
  code : BitVec 8
  tval : Dbl
  deriving DecidableEq, Repr

/-- The cause to deliver: the lowest class, and within it the first in the order of checks (R118). -/
def pickCause : List Cause → Option Cause
  | [] => none
  | c :: t => match pickCause t with
    | some d => if d.cls < c.cls then some d else some c
    | none => some c

/-- A cause under a condition, as a list. -/
def failIf (b : Bool) (c : Cause) : List Cause := if b then [c] else []

/-- The cause SNAPSHOT_FULL of a bundle that needs n entries (R129). -/
def snapCause (s : State) (need : Nat) : List Cause :=
  failIf (decide (0 < need) && decide (64 < entriesInFlight s s.cur.ctx + need)) ⟨4, 0x0A, BitVec.ofNat 64 need⟩

/-- The word traps: the exception is taken and the bundle's state keeps the cause (R118, R119). -/
def trapWord (s : State) (c : Cause) : State :=
  let s1 := deliver s s.cur.ctx c.code c.tval s.cur.addr s.cycle
  { s1 with cur := { s1.cur with trap := some (c.cls, c.code, c.tval) } }
/-- A context that a cause of class 6 holds at the next cycle: its banks are recorded there (R109, R136). -/
def heldNext (c : CtxId) (s : State) : State :=
  let x := getCtx s c
  if x.st == .held then setCtx s c { x with held := none } else s
/-- The banks and tiers of contexts whose hold has begun at this cycle (R136). -/
def recordHeld (s : State) (c : CtxId) : State :=
  let x := getCtx s c
  if x.st == .held && x.held.isNone then setCtx s c { x with held := some (s.vault.banks, s.vault.tiers) } else s

/-- A word that raises the causes given, in the order of its checks, or else puts its results in flight and has its
other effects (R12, R118, R119, R129). SNAPSHOT_FULL follows the word's own causes of class 4 (log 18). -/
def issue (s : State) (causes : List Cause) (outs : List Out) (eff : State → State) : State :=
  let need := outs.foldl (fun n o => n + o.res.entries o.fp o.mx) 0
  let draws := outs.any Out.draws
  let s0 := { s with cur := { s.cur with
    snapNeed := s.cur.snapNeed + need, draws := if draws then s.cur.draws ++ [s.cur.slot] else s.cur.draws } }
  match pickCause (causes ++ snapCause s need) with
  | some c => trapWord s0 c
  | none => eff { s0 with flight := s0.flight ++ outs.map (Out.toFlight s) }

/-- A word with results only. -/
def results (s : State) (outs : List Out) : State := issue s [] outs id

/-- A word whose context waits: nothing changes but the wait (R33, R114). -/
def waitFor (s : State) (w : Wait) : State :=
  let x := cx s
  let y := { x with st := .blocked, waits := x.waits ++ [w], blockedAt := s.cycle }
  { setCx s y with cur := { s.cur with wait := true } }

/-- Control passes to a target after a gap of cycles (R105). -/
def transfer (t : Dbl) (gap : Nat) (s : State) : State := { s with cur := { s.cur with npc := t, gap := gap } }

/-- The slot field of a TVAL. -/
def slotN (s : State) : Nat := s.cur.slot.toNat

/-! Queues (R114, R145, R146) -/

/-- The entries of a queue that can be popped, oldest first. -/
def queueOf (x : Ctx) (q : BitVec 2) : List (Nat × Dbl) := SMap.get [] x.queues q.toNat
/-- A queue put in its place. -/
def setQueue (x : Ctx) (q : BitVec 2) (l : List (Nat × Dbl)) : Ctx := { x with queues := SMap.set [] x.queues q.toNat l }
/-- A place owed to a queue by the word that issues (R145): the entry keeps the word's place in the order. -/
def owe (q : BitVec 2) (id : Nat) (x : Ctx) : Ctx := { x with owed := x.owed ++ [{ q := q, id := id, val := none, cyc := 0 }] }
/-- An owed entry that is posted at a cycle (R145). -/
def post (id : Nat) (v : Dbl) (cyc : Nat) (x : Ctx) : Ctx :=
  { x with owed := x.owed.map (fun o => if o.id == id && o.val.isNone then { o with val := some v, cyc := cyc } else o) }
/-- A fresh issue number. -/
def fresh (s : State) : State × Nat := ({ s with nextId := s.nextId + 1 }, s.nextId)

end Sys2Proof.Machine
end

