-- ==== Sys2Proof/Machine/Land.lean ====
section
/-! DEFINITION. The landing of results at a cycle (R12, R44, R91, R131, R171, R180, R191, R192): the replays first, then
the results in issue order, then the flags. -/

namespace Sys2Proof.Machine

/-- What is left of a landing: the state, the flags to OR per context, the rows that MMAs of this cycle gave, and the
results as they were written, a sum as its value and an update as its row, in order. -/
structure LandAcc where
  s : State
  flags : List (CtxId × Fl × Mx)
  rows : List (Nat × BitVec 2048)
  log : List Flight := []
  deriving DecidableEq, Repr

/-- A register result written to its context (R12, R16, R153, R226). Other results change nothing here. A partial row write
that lands after a whole write of another tag gives the row its own tag (DESIGN CHOICE, log 53). -/
def landReg (x : Ctx) (r : Res) : Ctx :=
  match r with
  | .scalar i v => { x with bank := { x.bank with s := SMap.set 0 x.bank.s i.toNat v } }
  | .pred i b =>
    if i = 0 then x
    else { x with bank := { x.bank with p := if b then x.bank.p ||| (1#32 <<< i.toNat) else x.bank.p &&& ~~~(1#32 <<< i.toNat) } }
  | .preds v => { x with bank := { x.bank with p := v ||| 1 } }
  | .mask i v => if i = 0 then x else { x with bank := { x.bank with k := SMap.set 0 x.bank.k i.toNat v } }
  | .mparam i v => { x with bank := { x.bank with m := SMap.set 0 x.bank.m i.toNat v } }
  | .creg i v => { x with bank := cregWrite x.bank i v, wrote := i :: x.wrote }
  | .rotate v =>
    -- a VROT write of the same cycle has set VBASE to 0 (R26), and an MTC of ROTB stands (R112)
    if x.wrote.contains 0x06 then x
    else if x.wrote.contains 0x07 then { x with bank := { x.bank with rotb := mkRotb 0 (v.toNat % 16) } }
    else { x with bank := { x.bank with rotb := v } }
  | .advance v => if x.wrote.contains 0x0C then x else { x with bank := { x.bank with vrngc := v } }
  | .shape i v => { x with bank := { x.bank with h := SMap.set 0 x.bank.h i.toNat v } }
  | .row i tag data bits =>
    { x with v := SMap.set {} x.v i.toNat { tag := tag, data := mergeRow (x.getV i).data data bits } }
  | .latch i tag data => { x with z := SMap.set {} x.z i.toNat { tag := tag, data := data } }
  | .dist i data ss ln => { x with d := SMap.set {} x.d i.toNat { tag := 14, data := data, sset := ss, lin := ln } }
  | .distPart i p data =>
    let d := x.getD i
    let m : BitVec 12288 := (BitVec.allOnes 2048).zeroExtend 12288 <<< (2048 * p)
    let e : Dist := { d with tag := 14, data := (d.data &&& ~~~m) ||| (data.zeroExtend 12288 <<< (2048 * p)) }
    { x with d := SMap.set {} x.d i.toNat e }
  | .stepNan i => { x with v := SMap.set {} x.v i.toNat { tag := 4, data := nanRow } }
  | .dtag i ss ln => { x with d := SMap.set {} x.d i.toNat { x.getD i with sset := ss, lin := ln } }
  | _ => x

/-- The lane update of a reduction against the latch as it stands (R171): the new lane and the flags of the addition. -/
def reduceLane (fn : Nat) (tag : Tag) (rm : Rm) (draw : BitVec 32) (old t : Nat) : Nat × Fl :=
  if tag = 4 then
    match fn with
    | 0 => fadd f32 { mode := rm.toNat, draw := draw.toNat } old t
    | 1 => fminmax f32 false old t
    | _ => fminmax f32 true old t
  else
    match fn with
    | 0 => ((old + t) % 2 ^ 32, 0)
    | 1 => (if signedOf 32 t < signedOf 32 old then t else old, 0)
    | _ => (if signedOf 32 old < signedOf 32 t then t else old, 0)

/-- A row with one lane replaced. -/
def setLane (r : BitVec 2048) (w j v : Nat) : BitVec 2048 :=
  mergeRow r ((BitVec.ofNat 2048 (v % 2 ^ w)) <<< (w * j)) ((BitVec.ofNat 2048 (2 ^ w - 1)) <<< (w * j))

/-- The array of a number. -/
def getArr (m : Matrix) (a : BitVec 2) : MArray := SMap.get {} m.arrays a.toNat
/-- An array put in its place. -/
def setArr (m : Matrix) (a : BitVec 2) (x : MArray) : Matrix := { m with arrays := SMap.set {} m.arrays a.toNat x }

/-- A STEP that lands counts in its routine (R201); the key of a STEP names the routine. -/
def countStep (f : Flight) (s : State) : State :=
  let up := fun (r : MRoutine) => if r.id + 1 == f.key then { r with prog := r.prog + 1 } else r
  let m := s.matrix
  let p := if m.run.isNone && m.ending.any (fun r => r.id + 1 == f.key) then m.prog + 1 else m.prog
  let s1 := { s with matrix := { m with run := m.run.map up, ending := m.ending.map up, prog := p } }
  if 0 < f.key then s1 else s

/-- The engine's part of an MMA or STEP: side accumulators and counts (R180, R183). The flags of these additions go
with the word's row: to MXSTAT, or to its snapshot entry (R179, R203). -/
def sideOf (a : LandAcc) (f : Flight) : LandAcc :=
  match f.res with
  | .mma _ arr _ w slices _ toRow lanes resc rngc =>
    let m := getArr a.s.matrix arr
    let (h, g1) := mxRow w MBlock.h m.hin lanes
    let (r, g2) := if slices then mxRow w MBlock.f m.frn lanes else (m.frn, 0)
    let s1 := { a.s with matrix := setArr a.s.matrix arr { m with hin := h, frn := r } }
    let x := getCtx s1 f.ctx
    let b := if x.wrote.contains 0x09 then x.bank else countMx x.bank resc rngc
    let inSnap := !toRow && x.snap.any (fun e => e.key == f.key)
    let sn := if inSnap then x.snap.map (fun e => if e.key == f.key then { e with mxfl := e.mxfl ||| g1 ||| g2 } else e) else x.snap
    { a with s := countStep f (setCtx s1 f.ctx { x with bank := b, snap := sn }),
             flags := a.flags ++ [(f.ctx, 0, if inSnap then 0 else g1 ||| g2)] }
  | .stepNan _ => { a with s := countStep f a.s }
  | .flags => { a with s := countStep f a.s }
  | _ => a

/-- Where an MDRN's row comes from: the side accumulator after every update of this cycle (R192). -/
def drainValue (s : State) (arr : BitVec 2) (sel : Bool) : BitVec 2048 :=
  if sel then (getArr s.matrix arr).frn else (getArr s.matrix arr).hin

/-- An MDRN as the row write that it makes, or the data of its snapshot entry (R192, R203). -/
def drainRes (s : State) (f : Flight) : Flight :=
  match f.res with
  | .mdrn vd arr sel none => { f with res := .row vd 4 (drainValue s arr sel) (BitVec.allOnes 2048) }
  | _ => f

/-- The accumulator emptied at a drain, and the data given to a captured one (R192, R203). -/
def drainClear (s : State) (f : Flight) : State :=
  match f.res with
  | .mdrn _ arr sel snp =>
    let v := drainValue s arr sel
    let m := getArr s.matrix arr
    let s1 := { s with matrix := setArr s.matrix arr (if sel then { m with frn := 0 } else { m with hin := 0 }) }
    match snp with
    | some k =>
      let x := getCtx s1 f.ctx
      setCtx s1 f.ctx { x with snap := x.snap.map (fun e => if e.key == k then { e with data := v } else e) }
    | none => s1
  | _ => s

/-- An update of an accumulator row by the engine: an MMA or STEP, the NaN row of one, or the replay of such a row, which
has a key (R131, R180, R187, R203). -/
def isUpdate (f : Flight) : Bool :=
  match f.res with
  | .mma _ _ _ _ _ _ toRow _ _ _ => toRow
  | .stepNan _ => true
  | .row _ t _ _ => f.key != 0 && t == 4
  | _ => false
/-- The row of a context as the MMAs and NaN rows of this cycle have left it, else as it was before the cycle (R180). -/
def accRow (base : State) (a : LandAcc) (ctx : CtxId) (vd : BitVec 8) : BitVec 2048 :=
  match a.rows.find? (fun p => p.1 == ctx.toNat * 256 + vd.toNat) with
  | some p => p.2
  | none => ((getCtx base ctx).getV vd).data
/-- A result written to its context and to the log. -/
def landAs (f : Flight) (r : Res) (a : LandAcc) : LandAcc :=
  { a with s := setCtx a.s f.ctx (landReg (getCtx a.s f.ctx) r), log := a.log ++ [{ f with res := r }] }
/-- One result landed; base is the state before the cycle. -/
def landOne (base : State) (a : LandAcc) (f : Flight) : LandAcc :=
  let a := { a with flags := a.flags ++ [(f.ctx, f.fp, f.mx)] }
  let put := fun (s : State) => ({ a with s := s, log := a.log ++ [f] } : LandAcc)
  match f.res with
  | .scratch p bs => put (scratchWrite a.s p bs)
  | .mirror p bs => put (mirrorWrite a.s p bs)
  | .reduce i l fn tag t rm draw =>
    let x := getCtx a.s f.ctx
    let z := x.getZ i
    if z.tag ≠ tag then { a with flags := a.flags.dropLast }
    else
      let (v, fl) := reduceLane fn.toNat tag rm draw (lane z.data 32 l.toNat) t.toNat
      { a with s := setCtx a.s f.ctx (landReg x (.latch i tag (setLane z.data 32 l.toNat v))),
               flags := a.flags ++ [(f.ctx, fl, 0)],
               log := a.log ++ [{ f with res := .reduce i l fn tag (BitVec.ofNat 32 v) rm draw }] }
  | .mma vd _ na w _ _ toRow lanes _ _ =>
    if !toRow then a
    else
      let (r, g) := mmaRow na w (accRow base a f.ctx vd) lanes
      let b := landAs f (.row vd 4 r (BitVec.allOnes 2048)) a
      { b with flags := b.flags ++ [(f.ctx, 0, g)], rows := (f.ctx.toNat * 256 + vd.toNat, r) :: b.rows }
  | .mldb arr fmt data scales =>
    let m := getArr a.s.matrix arr
    let m' : MArray := { m with active := { fmt := fmt, data := data, scales := scales }, shadow := m.active, swap := none }
    put { a.s with matrix := setArr a.s.matrix arr m' }
  | .mprogWord i v => put { a.s with matrix := { a.s.matrix with store := SMap.set 0 a.s.matrix.store i v } }
  | .mprogEntry i v => put { a.s with matrix := { a.s.matrix with table := SMap.set 0xFFFF a.s.matrix.table i.toNat v } }
  | .flags => a
  | .mdrn _ _ _ _ => a
  | .stepNan vd =>
    let b := landAs f (.row vd 4 nanRow (BitVec.allOnes 2048)) a
    { b with rows := (f.ctx.toNat * 256 + vd.toNat, nanRow) :: b.rows }
  | .row i tag data bits =>
    let b := landAs f (.row i tag data bits) a
    if isUpdate f then { b with rows := (f.ctx.toNat * 256 + i.toNat, data) :: b.rows } else b
  | r => landAs f r a

/-- Bits of a row that a result writes. -/
def rowBits (ctx : CtxId) (i : BitVec 8) (g : Flight) : BitVec 2048 :=
  if g.ctx != ctx then 0
  else match g.res with
    | .row j _ _ bits => if j == i then bits else 0
    | .stepNan j => if j == i then BitVec.allOnes 2048 else 0
    | .mma j _ _ _ _ _ toRow _ _ _ => if j == i && toRow then BitVec.allOnes 2048 else 0
    | .mdrn j _ _ snp => if j == i && snp.isNone then BitVec.allOnes 2048 else 0
    | _ => 0
/-- Bits of a row that results after one write in the same cycle. -/
def laterBits (ctx : CtxId) (i : BitVec 8) (rest : List Flight) : BitVec 2048 :=
  rest.foldl (fun m g => m ||| rowBits ctx i g) 0
/-- A row whose bits in a set are all written by results that land after it in the same cycle. -/
def rowLost (ctx : CtxId) (i : BitVec 8) (bits : BitVec 2048) (rest : List Flight) : Bool :=
  laterBits ctx i rest &&& bits == bits && bits != 0
/-- The flags of the lanes of a row result that stand: a lane that is wholly lost to later results sets none (R91, R153). -/
def trimFlags (rest : List Flight) (f : Flight) : Flight :=
  match f.res with
  | .row i _ _ bits =>
    let m := laterBits f.ctx i rest
    if f.lf.isEmpty || m = 0 then f
    else
      let w := 2048 / f.lf.length
      let stands := fun (j : Nat) => lane (bits &&& ~~~m) w j != 0
      { f with fp := f.lf.zipIdx.foldl (fun a p => if stands p.2 then a ||| p.1 else a) 0, lf := [] }
  | _ => f
/-- A later result of the cycle writes the register that a result writes: that one is lost and leaves no trace (R91, R153,
R171, R180). Updates of one accumulator row all apply, and are lost to other words only. -/
def lostTo (rest : List Flight) (f : Flight) : Bool :=
  let later (p : Res → Bool) := rest.any (fun g => g.ctx == f.ctx && p g.res)
  match f.res with
  | .scalar i _ => later (fun r => match r with | .scalar j _ => j == i | _ => false)
  | .pred i _ => later (fun r => match r with | .pred j _ => j == i | .preds _ => true | _ => false)
  | .preds _ => later (fun r => match r with | .preds _ => true | _ => false)
  | .mask i _ => later (fun r => match r with | .mask j _ => j == i | _ => false)
  | .mparam i _ => later (fun r => match r with | .mparam j _ => j == i | _ => false)
  | .creg i _ => later (fun r => match r with | .creg j _ => j == i | _ => false)
  | .advance _ => later (fun r => match r with | .advance _ => true | _ => false)
  | .shape i _ => later (fun r => match r with | .shape j _ => j == i | _ => false)
  | .row i _ _ bits => rowLost f.ctx i bits (if isUpdate f then rest.filter (fun g => !isUpdate g) else rest)
  | .stepNan i => rowLost f.ctx i (BitVec.allOnes 2048) (rest.filter (fun g => !isUpdate g))
  | .mma i _ _ _ _ _ toRow _ _ _ =>
    toRow && rowLost f.ctx i (BitVec.allOnes 2048) (rest.filter (fun g => !isUpdate g))
  | .latch i _ _ => later (fun r => match r with | .latch j _ _ => j == i | _ => false)
  | .reduce i _ _ _ _ _ _ => later (fun r => match r with | .latch j _ _ => j == i | _ => false)
  | .dist i _ _ _ => later (fun r => match r with | .dist j _ _ _ => j == i | _ => false)
  | .distPart i p _ => later (fun r => match r with | .dist j _ _ _ => j == i | .distPart j q _ => j == i && q == p | _ => false)
  | .dtag i _ _ => later (fun r => match r with | .dist j _ _ _ => j == i | .dtag j _ _ => j == i | _ => false)
  | _ => false
/-- What is left of a lost result: the engine's part of an MMA (R179, R180), and nothing of another. -/
def traceOf (f : Flight) : Option Flight :=
  match f.res with
  | .mma vd a na w sl step _ lanes rc rg => some { f with res := .mma vd a na w sl step false lanes rc rg }
  | .stepNan _ => some { f with res := .flags, fp := 0, mx := 0 }
  | _ => none
/-- Results of a cycle, before others of the same cycle, without those that are lost (R91). -/
def dropLost (rest : List Flight) : List Flight → List Flight
  | [] => []
  | f :: t => if lostTo (t ++ rest) f then (traceOf f).toList ++ dropLost rest t else trimFlags (t ++ rest) f :: dropLost rest t

/-- The replays of a context that land at this cycle, in ORDER, and the entries that remain (R131). -/
def replaysOf (s : State) (c : CtxId) : List Flight :=
  let x := getCtx s c
  match x.replayAt with
  | some r =>
    let es := sortBy (fun a b => decide (a.order ≤ b.order)) (x.snap.filter (fun e => decide (r + e.offset ≤ s.cycle)))
    es.map (replayFlight c s.cycle)
  | none => []

/-- The replayed entries leave the buffer (R131). -/
def dropReplays (s : State) (c : CtxId) : State :=
  let x := getCtx s c
  match x.replayAt with
  | some r =>
    let keep := x.snap.filter (fun e => !decide (r + e.offset ≤ s.cycle))
    setCtx s c { x with snap := keep, replayAt := if keep.isEmpty then none else some r }
  | none => s

/-- The bytes that a fetch reads, put into the result or entry that waits for them (R242). -/
def fillFetch (s : State) (f : Fetch) : State :=
  let bs := memRead s.mem f.addr f.len
  let fill := fun (g : Flight) => if g.key == f.key then
      (match g.res with
        | .scratch a _ => { g with res := .scratch a bs }
        | .scalar i _ => { g with res := .scalar i (bytesBv 64 bs) }
        | _ => g)
    else g
  let s1 := { s with flight := s.flight.map fill }
  allCtx.foldl (fun s c =>
    let x := getCtx s c
    if x.snap.any (fun e => e.key == f.key) then
      setCtx s c { x with snap := x.snap.map (fun e => if e.key == f.key then { e with data := bytesBv 2048 bs } else e) }
    else s) s1

/-- The fetches of this cycle (R242). -/
def runFetches (s : State) : State :=
  let due := s.fetches.filter (fun f => decide (f.cycle ≤ s.cycle))
  let s1 := due.foldl fillFetch s
  { s1 with fetches := s1.fetches.filter (fun f => !decide (f.cycle ≤ s.cycle)) }

/-- What lands at the current cycle, among the results that meet a test, with the replays if they are asked for (R12,
R44, R91, R131): replays first, then results in issue order, less those lost to a later one of the cycle, then the flags,
then the reads that words in flight make; and the results as they were written, in that order. -/
def landLog (withReplays : Bool) (p : Flight → Bool) (s : State) : State × List Flight :=
  let reps := if withReplays then allCtx.flatMap (replaysOf s) else []
  let due := fun (f : Flight) => decide (f.land ≤ s.cycle)
  let now := s.flight.filter due
  let s0 := { s with flight := s.flight.filter (fun f => !(due f && p f)) }
  let s1 := if withReplays then allCtx.foldl dropReplays s0 else s0
  let all := dropLost now reps ++ (dropLost [] now).filter p
  let a1 := all.foldl sideOf { s := s1, flags := [], rows := [] }
  let all2 := all.map (drainRes a1.s)
  let a2 := all2.foldl (landOne s) { a1 with s := all.foldl drainClear a1.s }
  let s2 := a2.flags.foldl (fun s g =>
    if g.2.1 = 0 && g.2.2 = 0 then s
    else let x := getCtx s g.1; setCtx s g.1 { x with bank := orFlags x.bank g.2.1 g.2.2 }) a2.s
  (runFetches { s2 with ports := s2.ports.filter (fun r => decide (s2.cycle ≤ r.cycle)) }, a2.log)
/-- The state of a landing. -/
def landWith (withReplays : Bool) (p : Flight → Bool) (s : State) : State := (landLog withReplays p s).1
/-- Everything that lands at the current cycle. -/
def land (s : State) : State := landWith true (fun _ => true) s

end Sys2Proof.Machine
end

