-- ==== Sys2Proof/Machine/Operands.lean ====
section
/-! DEFINITION. Operand forms that several families share: rounding modes and draws (R45, R63, R155), tag checks (R21,
R24), groups (R30), shape records (R19), scratchpad addresses and quadrant ports (R231 to R238). -/

namespace Sys2Proof.Machine

/-- What a meaning answers. -/
abbrev Answer := Host.Outcome State Fault Refusal
/-- What a die's supervisor does, which runs once the die has booted (R428). -/
def onDie (die : Nat) (t s : State) : Answer := .next (if s.pkg.boot.getLsbD die then t else s)

/-- The effective rounding mode: DYN is FPCSR.RM at issue (R45); an RM of 5 to 7, which only a record write leaves, rounds as SR
with a draw of 0 (DESIGN CHOICE, log 86). -/
def effMode (s : State) (rm : Rm) : Nat := if rm = 7 then (cx s).bank.fpcsr.toNat % 8 else rm.toNat
/-- The draw of lane i of a drawing word (R63, R155). -/
def drawOf (s : State) (i : Nat) : Nat := (mix (cx s).bank.vrngk ((cx s).bank.vrngc + BitVec.ofNat 64 i)).toNat
/-- The rounding of lane i in a mode. -/
def rndOf (s : State) (mode : Nat) (i : Nat) : Rnd := { mode := mode, draw := if mode = 4 then drawOf s i else 0 }
/-- The advance of VRNGC by n, seen by a word that issues at the next cycle, when a word draws (R63). -/
def advanceOut (s : State) (draws : Bool) (n : Nat) : List Out :=
  if draws then [{ lat := 1, res := .advance ((cx s).bank.vrngc + BitVec.ofNat 64 n) }] else []
/-- That advance for a word with tag checks on its sources: a word whose source fails does not draw (R155, R456). -/
def advanceIf (src : List Cause) (s : State) (draws : Bool) (n : Nat) : List Out :=
  if src.isEmpty then advanceOut s draws n else []

/-- FORMAT_TAG with the TVAL of R24. -/
def fmtTag (s : State) (cls phys logic : Nat) (found : Tag) : Cause :=
  ⟨4, 0x03, BitVec.ofNat 64 (cls * 2 ^ 24 + phys * 2 ^ 16 + logic * 2 ^ 8 + slotN s * 16 + found.toNat)⟩
/-- A row source whose tag must be accepted (R21). -/
def needRow (s : State) (i : BitVec 8) (ok : Tag → Bool) : List Cause :=
  failIf (!ok (rv s i).tag) (fmtTag s 0 (physV (cx s).bank i).toNat i.toNat (rv s i).tag)
/-- A latch whose tag must be accepted (R24, R170). -/
def needLatch (s : State) (i : BitVec 2) (ok : Tag → Bool) : List Cause :=
  failIf (!ok ((cx s).getZ i).tag) (fmtTag s 3 i.toNat i.toNat ((cx s).getZ i).tag)
/-- A distribution source, which must carry DIST (R215). -/
def needDist (s : State) (i : BitVec 4) : List Cause :=
  failIf (((cx s).getD i).tag != 14) (fmtTag s 2 i.toNat i.toNat ((cx s).getD i).tag)
/-- ROT_SPAN of a group of n rows (R30). -/
def needGroup (s : State) (i : BitVec 8) (n : Nat) : List Cause := failIf (rotSpan (cx s).bank i n) ⟨4, 0x04, 0⟩
/-- Row k of a group (R28, R30). -/
def groupRow (i : BitVec 8) (k : Nat) : BitVec 8 := i + BitVec.ofNat 8 k

/-- A scalar result. -/
def scalarOut (lat : Nat) (d : BitVec 6) (v : Dbl) (fp : Fl := 0) : Out := { lat := lat, res := .scalar d v, fp := fp }
/-- A predicate result; one of p0 keeps its flags only (R16, R101). -/
def predOut (s : State) (p : BitVec 5) (v : Bool) (fp : Fl := 0) : Out :=
  { lat := 1, res := if p = 0 then .flags else .pred (physP (cx s).bank p) v, fp := fp }
/-- A mask result; one of k0 keeps its flags only (R16, R160). -/
def maskOut (lat : Nat) (k : BitVec 4) (v : Dbl) (fp : Fl := 0) : Out :=
  { lat := lat, res := if k = 0 then .flags else .mask k v, fp := fp }
/-- A whole row result. -/
def rowOut (s : State) (lat : Nat) (d : BitVec 8) (tag : Tag) (data : BitVec 2048) (fp : Fl := 0) (mx : Mx := 0) : Out :=
  { lat := lat, res := .row (physV (cx s).bank d) tag data (BitVec.allOnes 2048), fp := fp, mx := mx }
/-- A partial row result: the row bits written are given (R153). -/
def partOut (s : State) (lat : Nat) (d : BitVec 8) (tag : Tag) (data bits : BitVec 2048) (fp : Fl := 0) : Out :=
  { lat := lat, res := .row (physV (cx s).bank d) tag data bits, fp := fp }

/-- A row result with the flags of its lanes, from lane 0 up (R44, R153, R154). -/
def withLanes (fs : List Fl) (o : Out) : Out :=
  { o with fp := fs.foldl (· ||| ·) 0, lf := if fs.all (· == 0) then [] else fs }

/-! Shape records (R19) -/

/-- BASE. -/
def shBase (h : BitVec 256) : Nat := (h.extractLsb' 192 64).toNat
/-- STRIDE0, signed. -/
def shStride0 (h : BitVec 256) : Int := (h.extractLsb' 160 32).toInt
/-- STRIDE1, signed. -/
def shStride1 (h : BitVec 256) : Int := (h.extractLsb' 128 32).toInt
/-- STRIDE2, signed. -/
def shStride2 (h : BitVec 256) : Int := (h.extractLsb' 96 32).toInt
/-- DIM0. -/
def shDim0 (h : BitVec 256) : Nat := (h.extractLsb' 80 16).toNat
/-- DIM1. -/
def shDim1 (h : BitVec 256) : Nat := (h.extractLsb' 64 16).toNat
/-- DIM2. -/
def shDim2 (h : BitVec 256) : Nat := (h.extractLsb' 48 16).toNat
/-- SPACE. -/
def shSpace (h : BitVec 256) : Nat := (h.extractLsb' 44 4).toNat
/-- FMT. -/
def shFmt (h : BitVec 256) : Tag := h.extractLsb' 40 4
/-- SCALEH. -/
def shScaleH (h : BitVec 256) : BitVec 4 := h.extractLsb' 36 4
/-- SCV. -/
def shScv (h : BitVec 256) : Bool := h.getLsbD 35
/-- Validity of a shape record: no Reserved bit, no DIM of 0, an assigned SPACE (R19). -/
def shapeOk (h : BitVec 256) : Bool :=
  h.extractLsb' 0 35 == 0 && shDim0 h != 0 && shDim1 h != 0 && shDim2 h != 0 && decide (shSpace h < 5)

/-! Scratchpad ports (R231 to R235) -/

/-- Whether a pending replay of a context writes a quadrant at a cycle (R131, R232). -/
def replayHolds (s : State) (q : BitVec 2) (cyc : Nat) : Bool :=
  allCtx.any (fun c =>
    let x := getCtx s c
    match x.replayAt with
    | some r => x.snap.any (fun e => e.cls == 9 && decide (r + e.offset = cyc) && quadOf e.addr.toNat == q)
    | none => false)

/-- Who holds a port at a cycle: 0 an earlier primary bundle, 1 a secondary bundle, 2 a replay, 3 another word of the
bundle (R233, R235). -/
def portHolder (s : State) (q : BitVec 2) (write : Bool) (cyc : Nat) : Option Nat :=
  match s.ports.find? (fun r => decide (r.cycle = cyc) && r.quad == q && r.write == write) with
  | some r => some r.holder.toNat
  | none => if write && replayHolds s q cyc then some 2 else none

/-- SCRATCH_COLLIDE of an access that needs a port delta cycles after issue (R233, R235). -/
def needPort (s : State) (q : BitVec 2) (write : Bool) (delta : Nat) : List Cause :=
  match portHolder s q write (s.cycle + delta) with
  | some h => [⟨5, 0x15, BitVec.ofNat 64 (delta * 2 ^ 16 + h * 2 ^ 14 + b2n write * 2 ^ 13 + q.toNat * 2 ^ 8 + slotN s)⟩]
  | none => []

/-- The reservation of a port by a word of the bundle; step turns the holder into that of the stream when the bundle
has issued (R233). -/
def takePort (q : BitVec 2) (write : Bool) (delta : Nat) (s : State) : State :=
  { s with ports := { cycle := s.cycle + delta, quad := q, write := write, holder := 3 } :: s.ports }

/-- MEM_ALIGN with an address (R237). -/
def alignIf (b : Bool) (a : Nat) : List Cause := failIf b ⟨5, 0x12, BitVec.ofNat 64 a⟩
/-- MEM_RANGE with an address (R237). -/
def rangeIf (b : Bool) (a : Nat) : List Cause := failIf b ⟨5, 0x13, BitVec.ofNat 64 a⟩

/-- The checks of a scratchpad access of n bytes at a: alignment, then window (R237, R238). -/
def scratchChecks (s : State) (a n align : Nat) : List Cause :=
  alignIf (decide (a % align ≠ 0)) a ++ rangeIf (!inScratch s (cx s).plan a n) a

end Sys2Proof.Machine
end

