-- ==== Sys2Proof/Machine/Control.lean ====
section
/-! DEFINITION. Control and system words (04_context_instructions.md R102 to R110). CKPT and SYS stand in Rollback.lean. -/

namespace Sys2Proof.Machine

/-- CODE_ALIGN or CODE_RANGE of a transfer's target (R106, R116). -/
def targetCause (s : State) (t : Dbl) : List Cause :=
  match codeCause s (cx s).plan t with
  | some code => [⟨5, code, t⟩]
  | none => []
/-- The target of a direct branch (R102). -/
def branchTarget (s : State) (i : BitVec 18) : Dbl := s.cur.addr + i.signExtend 64 * 4
/-- The causes of a transfer that is taken or not (R106). -/
def takenCause (s : State) (taken : Bool) (t : Dbl) : List Cause := if taken then targetCause s t else []
/-- The transfer of a branch that is taken (R105). -/
def takeIf (taken : Bool) (t : Dbl) (s : State) : State := if taken then transfer t 1 s else s

/-- J: transfers when the predicate, inverted by N, is 1 (R102). -/
def execJ (n : Bool) (p : BitVec 5) (i : BitVec 18) (s : State) : Answer :=
  let taken := rp s p != n
  let t := branchTarget s i
  .next (issue s (takenCause s taken t) [] (takeIf taken t))

/-- CALL: as J, and writes the return address to s63 when it transfers (R102). -/
def execCall (n : Bool) (p : BitVec 5) (i : BitVec 18) (s : State) : Answer :=
  let taken := rp s p != n
  let t := branchTarget s i
  .next (issue s (takenCause s taken t)
    (if taken then [scalarOut 1 63 (s.cur.addr + BitVec.ofNat 64 (4 * s.cur.n))] else []) (takeIf taken t))

/-- ROTB after one rotation (R29). -/
def rotated (b : Bank) : Dbl :=
  mkRotb (if rotOn b then (vbase b + rotN b - 1) % rotN b else vbase b) ((pbase b + 15) % 16)

/-- LOOP: rotates the bases, decrements the counter and transfers while the counter read exceeds 1 (R29, R103). -/
def execLoop (c : BitVec 5) (i : BitVec 18) (s : State) : Answer :=
  let n := rs s (c.zeroExtend 6)
  let taken := decide (1 < n.toNat)
  let t := branchTarget s i
  .next (issue s (takenCause s taken t)
    ({ lat := 1, res := .rotate (rotated (cx s).bank) } :: (if n = 0 then [] else [scalarOut 1 (c.zeroExtend 6) (n - 1)]))
    (takeIf taken t))

/-- NOP: no effect (R107). -/
def execNop (s : State) : Answer := .next (results s [])

/-- JR: transfers to the address in a scalar register (R104, R105). -/
def execJr (a : BitVec 6) (s : State) : Answer := .next (issue s (targetCause s (rs s a)) [] (transfer (rs s a) 3))

/-- RET: transfers to s63 (R104, R105). -/
def execRet (s : State) : Answer := .next (issue s (targetCause s (rs s 63)) [] (transfer (rs s 63) 3))

/-- The issuing context as it will stand at the next cycle, when the results of that cycle have landed. -/
def nextCx (s : State) : Ctx :=
  cx (land (setCx { s with cycle := s.cycle + 1 } { cx s with wrote := [] }))
/-- A cause of class 6 after its bundle: delivered at cycle t to the bundle that follows (R109). at0 is the context as it
stands at t. A class A cause that becomes pending for t waits behind it (DESIGN CHOICE, log 75). -/
def softTrap (s : State) (code : BitVec 8) (k : BitVec 12) (t : Nat) (at0 : Ctx) : State :=
  let s1 := deliver s s.cur.ctx code (k.zeroExtend 64) (s.cur.addr + BitVec.ofNat 64 (4 * s.cur.n)) t at0
  { s1 with cur := { s1.cur with trap := some (6, code, k.zeroExtend 64) } }

/-- TRAP: USER_TRAP to the plan trap handler (R109). Its context goes on: T is the cycle at which the bundle that follows
would issue, the next one, so that the results in flight keep their distance from it (DEDUCED, log 75). -/
def execTrap (k : BitVec 12) (s : State) : Answer :=
  .next (heldNext s.cur.ctx (softTrap s 0x21 k (s.cycle + 1) (nextCx s)))
/-- BRK: BREAKPOINT to the supervisor (R109). T is as for TRAP (DEDUCED, log 75). -/
def execBrk (k : BitVec 12) (s : State) : Answer :=
  .next (heldNext s.cur.ctx (softTrap s 0x22 k (s.cycle + 1) (nextCx s)))

/-- The effect of ERET at its issue: INH clears and the restart at TPC is due (R110, R128). -/
def endHandler (s : State) : State :=
  let x := cx s
  setCx s { x with bank := { x.bank with inh := false }, restart := true }

/-- ERET: ends the plan trap handler and restarts at TPC, or ERET_OUTSIDE (R110). -/
def execEret (s : State) : Answer :=
  let t := (cx s).bank.tpc
  .next (issue s (failIf (!(cx s).bank.inh) ⟨4, 0x09, 0⟩ ++ targetCause s t) []
    (fun s => transfer t 3 (endHandler s)))

/-- FENCE: orders the context's variable-latency accesses to the masked spaces (R108, R385). -/
def execFence (m : BitVec 6) (_sc : BitVec 6) (s : State) : Answer :=
  .next (issue s [] [] (fun s =>
    let x := cx s
    setCx { s with nextId := s.nextId + 1 } { x with fences := x.fences ++ [(m, s.nextId)] }))

end Sys2Proof.Machine
end

