-- ==== Sys2Proof/Machine/Outgoing.lean ====
section
/-! DEFINITION. What leaves the core without a fixed latency: the release buffer (R265), fences (R108), tags (R286),
metering (R298, R299), causes of class A that arise in a context (R282, R311), and the quiescence that PBAR, GBAR, REL
and GFENCE wait for (R313, R336, R369). -/

namespace Sys2Proof.Machine

/-- The first failing check only, where the description says that the first failure traps. -/
def firstOf (l : List Cause) : List Cause := l.take 1

/-! Tags (R286) -/

/-- Count of a tag. -/
def tagCount (s : State) (t : Nat) : Nat := (SMap.get 0 s.tags t).toNat
/-- The tag's count rises by 1. -/
def tagUp (t : BitVec 6) (s : State) : State :=
  { s with tags := SMap.set 0 s.tags t.toNat (SMap.get 0 s.tags t.toNat + 1) }
/-- The tag's count falls by 1; one that reaches 0 is seen idle from the next cycle on (R286, R290). -/
def tagDown (t : BitVec 6) (s : State) : State :=
  let v := SMap.get 0 s.tags t.toNat
  if v = 0 then s
  else { s with tags := SMap.set 0 s.tags t.toNat (v - 1), justZero := if v = 1 then t :: s.justZero else s.justZero }
/-- The tags of the context's plan (R286). -/
def planTags (s : State) (c : CtxId) : Dbl :=
  match planRes s (getCtx s c).plan with
  | some r => r.tags
  | none => 0
/-- TAGS as the words that issue at this cycle see it (R286, R290). -/
def idleTags (s : State) : Dbl :=
  BitVec.ofNat 64 ((List.range 64).foldl (fun v j =>
    v + b2n (tagCount s j == 0 && !s.justZero.contains (BitVec.ofNat 6 j)) * 2 ^ j) 0)
/-- Membership of a tag, then room in its count (R286). -/
def tagChecks (s : State) (t : BitVec 6) : List Cause :=
  failIf (!(planTags s s.cur.ctx).getLsbD t.toNat) ⟨5, 0x13, BitVec.ofNat 64 (2 ^ 63 + 2 ^ 61 + t.toNat)⟩ ++
    failIf (decide (tagCount s t.toNat = 255)) ⟨4, 0x0A, BitVec.ofNat 64 (2 ^ 61 + t.toNat)⟩

/-! The release buffer (R265) -/

/-- SNAPSHOT_FULL of a full release buffer (R265). -/
def relRoom (s : State) : List Cause := failIf (decide (64 ≤ (cx s).rel.length)) ⟨4, 0x0A, BitVec.ofNat 64 (2 ^ 63 + 1)⟩
/-- An operation enters the release buffer (R265); with a queue, the word owes it an entry (R145). -/
def enterRel (op : AccOp) (q : Option (BitVec 2)) (s : State) : State :=
  let id := s.nextId
  let x := cx s
  let x := { x with rel := x.rel ++ [{ id := id, op := op }] }
  setCx { s with nextId := id + 1 } (match q with | some q => owe q id x | none => x)
/-- An operation leaves at its issue (R292, R361); with a queue, the word owes it an entry (R145). -/
def leaveNow (op : AccOp) (q : Option (BitVec 2)) (s : State) : State :=
  let id := s.nextId
  let x := cx s
  let x := { x with out := x.out ++ [{ id := id, op := op, tick := takenAt s }] }
  setCx { s with nextId := id + 1 } (match q with | some q => owe q id x | none => x)

/-! What is unperformed, and fences (R108) -/

/-- The space bit of a shape record in the masks of FENCE (R19, R108). -/
def spaceBit (h : BitVec 256) : BitVec 6 :=
  match shSpace h with
  | 0 => 0x01 | 1 => 0x02 | 2 => 0x08 | 3 => 0x10 | 4 => 0x20
  | _ => 0
/-- The spaces that an operation accesses, as FENCE names them (R108). -/
def AccOp.spaces (o : AccOp) : BitVec 6 :=
  match o with
  | .global _ _ _ _ _ _ => 0x10
  | .gws _ _ _ _ _ _ _ _ => 0x11
  | .push _ _ _ => 0x11
  | .gfence => 0
  | .peer _ _ => 0x08
  | .host _ _ => 0x20
  | .copy hd hs _ => spaceBit hd ||| spaceBit hs
  | .frame f _ _ => if f.kind.toNat < 2 then 0x01 else 0
  | .rel _ _ => 0
  | .acquire _ _ => 0
/-- A REL (R108). -/
def AccOp.isRel (o : AccOp) : Bool :=
  match o with
  | .rel _ _ => true
  | _ => false
/-- An access that the release buffer held: a write, an atomic, a copy out, a frame or a REL (R265). -/
def AccOp.released (o : AccOp) : Bool :=
  match o with
  | .global op _ _ _ _ _ => (match op with | .load _ => false | .xread => false | _ => true)
  | .gws _ _ _ _ _ _ _ _ => true
  | .push _ _ _ => true
  | .peer _ st => st.isSome
  | .host _ st => st.isSome
  | .copy _ _ _ => true
  | .frame _ _ _ => true
  | .rel _ _ => true
  | .gfence => false
  | .acquire _ _ => false
/-- An access to memory (R313). -/
def AccOp.memory (o : AccOp) : Bool :=
  match o with
  | .gfence => false
  | .rel _ _ => false
  | .acquire _ _ => false
  | .frame _ _ _ => false
  | _ => true

/-- The same access of a context: one write of one word. -/
def Access.is (a b : Access) : Bool := a.id == b.id && a.sub == b.sub
/-- An access replaced in the list of its context; none removes it. -/
def putOut (c : CtxId) (a : Access) (f : Access → Option Access) (s : State) : State :=
  let x := getCtx s c
  setCtx s c { x with out := x.out.filterMap (fun b => if b.is a then f b else some b) }
/-- An access leaves the core, next in the leaving order (R292, R361). -/
def goOut (c : CtxId) (a : Access) (f : Access → Access) (s : State) : State :=
  let s1 := putOut c a (fun b => some { f b with left := some s.cycle, ord := s.nextId }) s
  { s1 with nextId := s1.nextId + 1 }

/-- Copies of a context in the queue or an engine (R287). -/
def copiesOf (s : State) (c : CtxId) : List CopyReq :=
  (s.copyq ++ s.engines.map (·.2)).filter (fun r => r.ctx == c)
/-- Frames of a context in the transmit queues (R328). -/
def framesOf (s : State) (c : CtxId) : List TxEntry :=
  s.buses.flatMap (fun b => b.2.txq.filter (fun e => e.ctx == c && e.id.isSome))
/-- The operations of a context that are not yet performed: identity, spaces, and whether the release buffer held it. Armed
receives are no such operations (DESIGN CHOICE, log 58). -/
def unperformed (s : State) (c : CtxId) : List (Nat × BitVec 6 × Bool) :=
  let x := getCtx s c
  (x.rel ++ x.out ++ x.side).map (fun a => (a.id, a.op.spaces, a.op.released)) ++
    (copiesOf s c).map (fun r => (r.id, spaceBit r.hd ||| spaceBit r.hs, decide (2 ≤ shSpace r.hd))) ++
    (framesOf s c).map (fun e => (e.id.getD 0, 0x01, true))
/-- Whether a fence of the context holds an operation: an earlier operation to a masked space is unperformed, and this
one is to a masked space or is a REL (R108). -/
def fenceHolds (s : State) (c : CtxId) (a : Access) : Bool :=
  let x := getCtx s c
  x.fences.any (fun f => decide (f.2 < a.id) && (a.op.isRel || a.op.spaces &&& f.1 != 0) &&
    (unperformed s c).any (fun u => decide (u.1 < f.2) && u.2.1 &&& f.1 != 0))
/-- The fences of a context that still hold something (R108). -/
def dropFences (s : State) (c : CtxId) : State :=
  let x := getCtx s c
  if x.fences.isEmpty then s
  else setCtx s c { x with fences := x.fences.filter (fun f =>
    (unperformed s c).any (fun u => decide (u.1 < f.2) && u.2.1 &&& f.1 != 0)) }

/-- A fixed-latency memory write of the context is in flight (R313). -/
def memInFlight (s : State) (c : CtxId) : Bool :=
  s.flight.any (fun f => f.ctx == c && decide (s.cycle < f.land) && (match f.res with
    | .scratch _ _ => true
    | .mirror _ _ => true
    | _ => false)) || s.vault.writes.any (fun w => w.ctx == c && !w.stale) ||
    (getCtx s c).snap.any (fun e => e.cls == 9 || e.cls == 10)
/-- The arrival conditions of PBAR and GBAR (R313, R339). -/
def quiet (s : State) (c : CtxId) : Bool :=
  let x := getCtx s c
  x.rel.isEmpty && x.side.isEmpty && !memInFlight s c && (copiesOf s c).isEmpty && !x.out.any (fun a => a.op.memory) &&
    (framesOf s c).all (fun e => decide (e.frame.len.toNat ≤ e.read) || !decide (e.frame.kind.toNat < 2))

/-! Metering (R298, R299) -/

/-- Flits of n bytes (R299). -/
def flitsOf (n : Nat) : Nat := max 1 ((n + 63) / 64)
/-- Flits of a service access; 0 for what is not metered (R299). -/
def AccOp.flits (o : AccOp) : Nat :=
  match o with
  | .global _ _ _ _ _ _ => 1
  | .push _ _ _ => 1
  | .host _ _ => 1
  | _ => 0
/-- Whether n flits may leave now, given whether the access is at the head of the egress (R298, R299). -/
def mayMeter (s : State) (n : Nat) : Bool :=
  n == 0 || s.cluster.budget == 0xFFFFFF || s.cluster.used == 0 || decide (s.cluster.used.toNat + n ≤ s.cluster.budget.toNat)
/-- Flits counted (R298). -/
def meter (n : Nat) (s : State) : State := { s with cluster := { s.cluster with used := s.cluster.used + BitVec.ofNat 24 n } }
/-- Whether another access stands ahead in the egress (R299). -/
def behind (s : State) (k : Nat × Nat) : Bool := !s.cluster.egress.isEmpty && s.cluster.egress.head? != some k
/-- The access waits at the egress (R299). -/
def toEgress (k : Nat × Nat) (s : State) : State :=
  if s.cluster.egress.contains k then s else { s with cluster := { s.cluster with egress := s.cluster.egress ++ [k] } }
/-- The access has left the egress (R299). -/
def fromEgress (k : Nat × Nat) (s : State) : State :=
  { s with cluster := { s.cluster with egress := s.cluster.egress.filter (fun i => i != k) } }

/-! Ports of copies and arriving accesses (R234) -/

/-- A quadrant's read port was free in the cycle just past, and nothing has been written there in this one (R229, R234). -/
def readFree (s : State) (a : Nat) : Bool :=
  (portHolder s (quadOf a) false (s.cycle - 1)).isNone && !s.ports.any (fun r => r.write && r.quad == quadOf a && r.cycle == s.cycle && r.holder == 2)
/-- A quadrant's write port is free in this cycle (R234). -/
def writeFree (s : State) (a : Nat) : Bool := (portHolder s (quadOf a) true s.cycle).isNone
/-- A port taken by a copy engine, a station or an arriving access (R234). -/
def holdPort (a : Nat) (write : Bool) (s : State) : State :=
  { s with ports := { cycle := if write then s.cycle else s.cycle - 1, quad := quadOf a, write := write, holder := 2 } :: s.ports }

/-! Reports (R327, R354, R358, R372) -/

/-- A report to the supervisor on a plan: a status with which it then ends the plan, and its DETAIL0 and DETAIL1 (R327, R354,
R358, R372, R398, R446). -/
def report (seq : Nat) (code : BitVec 16) (d0 d1 : Dbl) (s : State) : State :=
  if s.reports.contains (seq, code, d0, d1) then s else { s with reports := s.reports ++ [(seq, code, d0, d1)] }

/-! Class A causes of a context (R118, R121) -/

/-- The primary context of the core, if one is loaded; of several, that of the plan whose gateway this is (R138, R311). -/
def primaryCtx (s : State) : Option CtxId :=
  let is := fun (c : CtxId) =>
    let x := getCtx s c
    x.primary && x.st != .empty && x.st != .finished
  match allCtx.find? (fun c => is c && (getCtx s c).plan == s.gate.seq) with
  | some c => some c
  | none => allCtx.find? is
/-- LATE_PUSH becomes pending; a second one merges (R311). -/
def raiseLate (c : CtxId) (tval : Dbl) (s : State) : State :=
  let x := getCtx s c
  if x.pend.late.isSome then s else setCtx s c { x with pend := { x.pend with late := some tval } }
/-- TIMING_MISS becomes pending in the primary context of the core; a second one merges (R282). -/
def raiseMiss (kind port peer slot : Nat) (s : State) : State :=
  match primaryCtx s with
  | some c =>
    let x := getCtx s c
    if x.pend.miss.isSome then s
    else setCtx s c { x with pend := { x.pend with
      miss := some (BitVec.ofNat 64 (kind * 2 ^ 16 + port * 2 ^ 8 + peer * 16 + slot)) } }
  | none => s
/-- REFRESH_OVERRUN becomes pending in a context (R318). -/
def raiseRefo (c : CtxId) (tval : Dbl) (s : State) : State :=
  let x := getCtx s c
  if x.pend.refo.isSome then s else setCtx s c { x with pend := { x.pend with refo := some tval } }
/-- ATOMIC_UNSUP becomes pending; a second one merges (R452). -/
def raiseAtom (c : CtxId) (tval : Dbl) (s : State) : State :=
  let x := getCtx s c
  if x.pend.atom.isSome then s else setCtx s c { x with pend := { x.pend with atom := some tval } }

/-- The context has used a timed port since its last CKPT (R264). -/
def markTimed (s : State) : State := setCx s { cx s with xch := true }
/-- A core of the package is enabled (R320). -/
def enabled (s : State) (core : Nat) : Bool := decide (core < 1280) && !s.pkg.disabled.contains core && !s.pkg.retired.contains core

end Sys2Proof.Machine
end

