-- ==== Sys2Proof/Machine/Vault.lean ====
section
/-! DEFINITION. Vault words of pipe D and the timing checker (10_core_memory.md R243 to R256). -/

namespace Sys2Proof.Machine

/-- A count of R245 at the cluster's frequency: ceil(value × f / 2.0 GHz). -/
def atFreq (freq : BitVec 6) (v : Nat) : Nat := (v * (32 + freq.toNat) + 79) / 80
/-- A count of R245 now: in a cycle in which a FREQ write takes effect, still at the frequency of the cycle (R294). -/
def tim (s : State) (v : Nat) : Nat := atFreq (s.cluster.oldFreq.getD s.cluster.freq) v
/-- A bank of this core's vault. -/
def getBank (v : Vault) (n : Nat) : VBank := SMap.get {} v.banks n
/-- A bank put in its place. -/
def setBank (v : Vault) (n : Nat) (b : VBank) : Vault := { v with banks := SMap.set {} v.banks n b }
/-- A tier of this core's vault. -/
def getTier (v : Vault) (t : Nat) : VTier := SMap.get {} v.tiers t
/-- A tier put in its place. -/
def setTier (v : Vault) (t : Nat) (x : VTier) : Vault := { v with tiers := SMap.set {} v.tiers t x }

/-- Bank states (R246). -/
def stIDLE : BitVec 3 := 0
/-- ACTIVATING (R246). -/
def stACT : BitVec 3 := 1
/-- OPEN (R246). -/
def stOPEN : BitVec 3 := 2
/-- PRECHARGING (R246). -/
def stPRE : BitVec 3 := 3
/-- REFRESHING (R246). -/
def stREF : BitVec 3 := 4

/-- States that a command requires, by F3 (R248). -/
def cmdStates (cmd : Nat) : List (BitVec 3) :=
  match cmd with
  | 0 => [stIDLE]
  | 5 => [stIDLE]
  | 1 => [stOPEN]
  | 2 => [stOPEN]
  | 3 => [stIDLE, stOPEN]
  | _ => [stIDLE, stOPEN, stPRE]
/-- The state in which a phase ends (R246, R249). -/
def phaseEnd (st : BitVec 3) : BitVec 3 := if st = stACT then stOPEN else if st = stPRE then stIDLE else if st = stREF then stIDLE else st
/-- WAIT of a failed STATE check (R248). -/
def stateWait (cmd : Nat) (b : VBank) : Nat :=
  if (b.state == stACT || b.state == stPRE || b.state == stREF) && (cmdStates cmd).contains (phaseEnd b.state) then b.rem else 1023

/-- VAULT_TIMING with the TVAL of R250. -/
def timingCause (s : State) (cmd n check wait : Nat) : Cause :=
  ⟨5, 0x16, BitVec.ofNat 64 (wait * 2 ^ 40 + check * 2 ^ 36 + (getBank s.vault n).state.toNat * 2 ^ 33 + cmd * 2 ^ 30 +
    n * 2 ^ 24 + slotN s)⟩

/-- MEM_RANGE of a bank that the plan does not own (R244). -/
def ownCheck (s : State) (n : Nat) : List Cause :=
  failIf (bankOwn s (cx s).plan n != 0) ⟨5, 0x13, BitVec.ofNat 64 (2 ^ 63 + n * 2 ^ 24)⟩

/-- The timing checks of a command to one bank, in CHECK order (R248); all fail in emergency refresh (R318). -/
def timingChecks (s : State) (cmd n : Nat) : List Cause :=
  let b := getBank s.vault n
  let t := getTier s.vault (n / 16)
  let iv := Config.refreshInterval t.seenCls.toNat
  let act := cmd == 0 || cmd == 5
  let col := cmd == 1 || cmd == 2
  failIf (s.vault.emergency.contains (cx s).plan) (timingCause s cmd n 1 1023) ++
  failIf (!(cmdStates cmd).contains b.state) (timingCause s cmd n 1 (stateWait cmd b)) ++
  failIf (act && b.act != 0) (timingCause s cmd n 2 b.act) ++
  failIf (act && t.rrd != 0) (timingCause s cmd n 3 t.rrd) ++
  failIf (act && t.faw3 != 0) (timingCause s cmd n 4 t.faw3) ++
  failIf (col && t.ccd != 0) (timingCause s cmd n 5 t.ccd) ++
  failIf (cmd == 1 && t.wtr != 0) (timingCause s cmd n 6 t.wtr) ++
  failIf (cmd == 3 && b.state == stOPEN && b.pre != 0) (timingCause s cmd n 7 b.pre) ++
  failIf (cmd == 5 && decide (9 * iv < b.seenDl + iv)) (timingCause s cmd n 8 1023)

/-- The tier's counts after a BACT or BREF (R249). -/
def bumpTier (s : State) (t : VTier) : VTier :=
  { t with rrd := tim s 6, faw3 := t.faw2, faw2 := t.faw1, faw1 := t.faw0, faw0 := tim s 32 }

/-- The effect of BACT on a bank and its tier (R249). -/
def activate (n : Nat) (row : BitVec 13) (s : State) : State :=
  let b := getBank s.vault n
  let b : VBank := { b with state := stACT, rem := tim s 24, row := row, pre := tim s 56, act := tim s 80 }
  { s with vault := setTier (setBank s.vault n b) (n / 16) (bumpTier s (getTier s.vault (n / 16))) }

/-- The effect of BREF on a bank and its tier (R249): DL gains one interval, and the DL still shown to cycles that have not
seen a class change gains one of the class they see (R252, R254). -/
def refresh (n : Nat) (s : State) : State :=
  let b := getBank s.vault n
  let t := getTier s.vault (n / 16)
  let iv := Config.refreshInterval t.cls.toNat
  let sh := b.shown.map (fun d => d + Config.refreshInterval t.seenCls.toNat)
  let b : VBank := { b with state := stREF, rem := tim s 300, dl := b.dl + iv, shown := sh }
  { s with vault := setTier (setBank s.vault n b) (n / 16) (bumpTier s t) }

/-- The effect of a precharge on a bank: an OPEN bank goes PRECHARGING (R249). -/
def precharge (n : Nat) (s : State) : State :=
  let b := getBank s.vault n
  if b.state = stOPEN then { s with vault := setBank s.vault n { b with state := stPRE, rem := tim s 24, row := 0 } } else s

/-- The row of BACT, as an exact integer (R244). -/
def bactRow (s : State) (a : BitVec 6) (i : BitVec 11) : Int := ((rs s a).toNat : Int) + i.toInt

/-- BACT (R244, R248, R249). -/
def execBact (b a : BitVec 6) (i : BitVec 11) (s : State) : Answer :=
  let n := b.toNat
  let r := bactRow s a i
  .next (issue s (ownCheck s n ++
      failIf (decide (r < 0) || decide (8191 < r)) ⟨5, 0x13, BitVec.ofNat 64 (2 ^ 63 + 2 ^ 62 + n * 2 ^ 24 + (r % (2 ^ 24 : Nat)).toNat)⟩ ++
      timingChecks s 0 n)
    [] (activate n (BitVec.ofInt 13 r)))

/-- The scratchpad address of BRD and BWR (R244). -/
def columnAddr (s : State) (a : BitVec 6) (o : BitVec 7) : Nat := (rs s a + o.signExtend 64 * 128).toNat

/-- BRD: column k of the open row lands in scratchpad at c + tRL (R244, R248, R249). -/
def execBrd (b a : BitVec 6) (k : BitVec 4) (o : BitVec 7) (s : State) : Answer :=
  let n := b.toNat
  let p := columnAddr s a o
  let rl := tim s 28
  let x := getBank s.vault n
  let data := memRead s.mem (keyVault s.me n x.row.toNat (128 * k.toNat)) 128
  .next (issue s (ownCheck s n ++ scratchChecks s p 128 128 ++ needPort s (quadOf p) true rl ++ timingChecks s 1 n)
    [{ lat := rl, res := .scratch p data }]
    (fun s =>
      let x := getBank s.vault n
      let t := getTier s.vault (n / 16)
      let v := setTier (setBank s.vault n { x with pre := max x.pre (tim s 10) }) (n / 16) { t with ccd := tim s 8 }
      takePort (quadOf p) true rl { s with vault := v }))

/-- BWR: 128 scratchpad bytes read at issue reach column k of the row at c + tWL (R244, R248, R249). -/
def execBwr (b a : BitVec 6) (k : BitVec 4) (o : BitVec 7) (s : State) : Answer :=
  let n := b.toNat
  let p := columnAddr s a o
  let x := getBank s.vault n
  let w : RowWrite := { ctx := s.cur.ctx, land := s.cycle + tim s 16, bank := b, row := x.row, col := k, bytes := scratchRead s p 128,
                        seq := s.seq, slot := slotN s }
  .next (issue s (ownCheck s n ++ scratchChecks s p 128 128 ++ needPort s (quadOf p) false 0 ++ timingChecks s 2 n) []
    (fun s =>
      let x := getBank s.vault n
      let t := getTier s.vault (n / 16)
      let v := setTier (setBank s.vault n { x with pre := max x.pre (tim s 16 + tim s 30) }) (n / 16)
        { t with ccd := tim s 8, wtr := tim s 16 + tim s 12 }
      takePort (quadOf p) false 0 { s with vault := { v with writes := v.writes ++ [w] } }))

/-- BPRE (R248, R249). -/
def execBpre (b : BitVec 6) (s : State) : Answer :=
  .next (issue s (ownCheck s b.toNat ++ timingChecks s 3 b.toNat) [] (precharge b.toNat))

/-- The plan's own banks of a tier, ascending (R244). -/
def ownedOfTier (s : State) (t : Nat) : List Nat :=
  ((List.range 16).map (fun i => 16 * t + i)).filter (fun n => bankOwn s (cx s).plan n == 0)
/-- The checks of BPREA: check outermost, banks in ascending order within it (R248). -/
def bpreaChecks (s : State) (t : Nat) : List Cause :=
  let l := ownedOfTier s t
  failIf (s.vault.emergency.contains (cx s).plan) (timingCause s 4 (l.headD (16 * t)) 1 1023) ++
  l.flatMap (fun n => failIf (!(cmdStates 4).contains (getBank s.vault n).state) (timingCause s 4 n 1 (stateWait 4 (getBank s.vault n)))) ++
  l.flatMap (fun n => failIf ((getBank s.vault n).state == stOPEN && (getBank s.vault n).pre != 0)
    (timingCause s 4 n 7 (getBank s.vault n).pre))
/-- BPREA: precharges the plan's own banks of a tier (R244, R248, R249). -/
def execBprea (t : BitVec 2) (s : State) : Answer :=
  .next (issue s (bpreaChecks s t.toNat) [] (fun s => (ownedOfTier s t.toNat).foldl (fun s n => precharge n s) s))

/-- BREF (R248, R249, R253). -/
def execBref (b : BitVec 6) (s : State) : Answer :=
  .next (issue s (ownCheck s b.toNat ++ timingChecks s 5 b.toNat) [] (refresh b.toNat))

/-- The value that BSTAT selects (R252). -/
def bstatValue (s : State) (n sel : Nat) : Dbl :=
  match sel with
  | 0 => wordA s (cx s).plan n
  | 1 => wordB s (cx s).plan n
  | 2 => tierWord s (n / 16)
  | 3 => SMap.get 0 s.vault.frozen n
  | 4 => SMap.get 0 s.vault.frozen (64 + n)
  | 5 => SMap.get 0 s.vault.frozen (128 + n / 16)
  | _ => s.vault.frozenTval
/-- BSTAT (R252). -/
def execBstat (b d : BitVec 6) (sel : BitVec 11) (s : State) : Answer :=
  .next (results s [scalarOut 2 d (bstatValue s b.toNat sel.toNat)])

end Sys2Proof.Machine
end

