-- ==== Sys2Proof/Machine/Exchange.lean ====
section
/-! DEFINITION. Timed exchange, cluster sync, cluster-peer words (15_cluster.md), the gateway and PBAR (17_die.md), fo
and fi (25_fabric.md). -/

namespace Sys2Proof.Machine

/-! Exchange ports (R279 to R282) -/

/-- The cluster index of the neighbour on the side of a port, or none at the cluster's edge (R279). -/
def neighbour (idx port : Nat) : Option Nat :=
  match port with
  | 0 => if idx < 4 then none else some (idx - 4)
  | 1 => if idx % 4 = 3 then none else some (idx + 1)
  | 2 => if 12 ≤ idx then none else some (idx + 4)
  | _ => if idx % 4 = 0 then none else some (idx - 1)
/-- The partner core of a port, unless it is an edge port (R279, R320). -/
def partner (s : State) (port : Nat) : Option Nat :=
  match neighbour s.myIndex port with
  | some i => if enabled s (16 * s.myCluster + i) then some i else none
  | none => none
/-- The partner port that a pushed word arrives at (R279). -/
def farPort (port : BitVec 2) : BitVec 2 := port + 2

/-- A push into an exchange port (R281). -/
def pushPort (port : BitVec 2) (v : Dbl) (slot : Nat) (s : State) : State :=
  match partner s port.toNat with
  | some _ => { s with xout := s.xout ++ [{ port := port, arrive := s.cycle + 2, v := v }] }
  | none => raiseMiss 3 port.toNat 0 slot s
/-- The oldest word of a port that has arrived (R281). -/
def oldest (s : State) (port : BitVec 2) : Option XWord :=
  s.xports.find? (fun w => w.port == port && decide (w.arrive ≤ s.cycle))
/-- A list without its first element that meets a test. -/
def eraseFirst {α : Type} (p : α → Bool) : List α → List α
  | [] => []
  | a :: t => if p a then t else a :: eraseFirst p t
/-- A pop of an exchange port (R281). -/
def popPort (port : BitVec 2) (slot : Nat) (s : State) : State :=
  match partner s port.toNat with
  | none => raiseMiss 3 port.toNat 0 slot s
  | some i =>
    match oldest s port with
    | some w => { s with xports := eraseFirst (fun u => u == w) s.xports }
    | none => raiseMiss 2 port.toNat i slot s
/-- What a pop of an exchange port writes (R281). -/
def portValue (s : State) (port : BitVec 2) : Dbl :=
  if (partner s port.toNat).isNone then 0 else ((oldest s port).map (·.v)).getD 0
/-- Words whose window has ended are discarded, each with a cause (R281). -/
def expirePorts (s : State) : State :=
  let due := s.xports.filter (fun w => decide (w.arrive + 4 ≤ s.cycle))
  let s1 := { s with xports := s.xports.filter (fun w => !decide (w.arrive + 4 ≤ s.cycle)),
                     xout := s.xout.filter (fun w => decide (s.cycle ≤ w.arrive)) }
  due.foldl (fun s w => raiseMiss 1 w.port.toNat ((neighbour s.myIndex w.port.toNat).getD 0) 0 s) s1

/-! The gateway (R306 to R312, R438 to R440) -/

/-- The package core of a placement-relative core (R306). -/
def coreOfRel (p : Plan) (r : Nat) : Nat := p.clusters.getD (r / 16) 0 * 16 + r % 16
/-- Hops between two clusters of a die, given by die cluster index (R303, R308). -/
def hops (a b : Nat) : Nat := (max (a % 5) (b % 5) - min (a % 5) (b % 5)) + (max (a / 5) (b / 5) - min (a / 5) (b / 5))
/-- The routes of this core in a step, for xg or for fo (R307, R439). -/
def routesOf (s : State) (p : Plan) (step : Nat) (fab : Bool) : List Route :=
  p.routes.filter (fun r => r.step == step && relCore p s.me == some r.src && r.port.isSome == fab)
/-- A route list with absolute departure ticks (R308). -/
def entriesOf (s : State) (p : Plan) (step rel : Nat) (fab : Bool) : List GEntry :=
  (routesOf s p step fab).zipIdx.map (fun r =>
    { index := r.2, dep := rel + r.1.dep, count := r.1.count, dst := coreOfRel p r.1.dst, link := r.1.port })
/-- Words of an entry taken in time (R311). -/
def inTime (e : GEntry) : List (Nat × Dbl) := e.words.filter (fun w => decide (w.1 ≤ e.dep))
/-- Words that a list still holds (R310, R440). -/
def heldWords (l : List GEntry) : Nat := l.foldl (fun n e => if e.gone then n else n + e.words.length) 0
/-- A word pushed into the first entry with room, with the tick that takes it (R310). -/
def pushEntry (t : Nat) (v : Dbl) : List GEntry → List GEntry
  | [] => []
  | e :: l => if e.words.length < e.count then { e with words := e.words ++ [(t, v)] } :: l else e :: pushEntry t v l
/-- Whether an entry has room (R310). -/
def roomIn (l : List GEntry) : Bool := l.any (fun e => decide (e.words.length < e.count))
/-- TVAL of LATE_PUSH (R311). -/
def lateTval (kind step entry taken slot : Nat) : Dbl :=
  BitVec.ofNat 64 (kind * 2 ^ 36 + step * 2 ^ 24 + entry * 2 ^ 16 + taken * 2 ^ 12 + slot)
/-- The step of the list in use (R311). -/
def stepOf (s : State) : Nat := (s.gate.step.map BitVec.toNat).getD 0
/-- LATE_PUSH of KIND 1 or 2, in the primary context (R311). -/
def lateIn (kind entry taken slot : Nat) (s : State) : State :=
  match primaryCtx s with
  | some c => raiseLate c (lateTval kind (stepOf s) entry taken slot) s
  | none => s
/-- The context is the primary context of a timed plan (R311). -/
def timedPrimary (s : State) : Bool :=
  (cx s).primary && (match findPlan s (cx s).plan with | some p => p.timed | none => false)

/-- The fabric port whose gateway core this is (R438). -/
def myPort (s : State) : Option (BitVec 4) :=
  if s.myIndex ≠ 0 then none
  else if s.myCluster % 10 = 0 then some (BitVec.ofNat 4 (2 * s.myDie))
  else if s.myCluster % 10 = 9 then some (BitVec.ofNat 4 (2 * s.myDie + 1))
  else none
/-- The links of this package, each from its own end (R436). -/
def ownLinks (s : State) : List Link :=
  let me := s.fabric.topo.self.toNat
  s.fabric.topo.links.filterMap (fun l =>
    if l.pkg.toNat = me then some l
    else if l.peer.toNat = me then some { port := l.pport, peer := l.pkg, pport := l.port, pad := l.pad, pkg := l.peer }
    else none)
/-- The link at a port of this package, by the topology table (R436). -/
def linkAt (s : State) (p : BitVec 4) : Option Link := (ownLinks s).find? (fun l => l.port == p)
/-- The route ends at this core: its port is the one at the far end of the link of this gateway core (R438, R439). -/
def routeEnds (s : State) (pl : Plan) (r : Route) : Bool :=
  match myPort s, r.port with
  | some p, some (q, _) => relCore pl s.me == some r.dst && (linkAt s p).any (fun l => l.pport == q)
  | _, _ => false
/-- The context may use fo and fi: the primary context of a timed plan whose routes name the port (R438). -/
def fabricUser (s : State) : Bool :=
  timedPrimary s && (match myPort s, findPlan s (cx s).plan with
    | some p, some pl => pl.routes.any (fun r => match r.port with
      | some (q, _) => (q == p && relCore pl s.me == some r.src) || routeEnds s pl r
      | none => false)
    | _, _ => false)
/-- fo and fi act as edge ports: their link is not in service (R437, R455). -/
def fabricEdge (s : State) : Bool :=
  s.gate.lost || (match myPort s with
    | some p => (SMap.get {} s.fabric.ports p.toNat).state != 2 || decide (tickNow s < (SMap.get {} s.fabric.ports p.toNat).upAt)
    | none => true)

/-- XPUT into xg (R310, R311). -/
def pushGate (v : Dbl) (slot : Nat) (s : State) : State :=
  if !timedPrimary s then raiseLate s.cur.ctx (lateTval 3 0 0 0 slot) s
  else if s.gate.step.isNone || !roomIn s.gate.list || decide (64 ≤ heldWords (s.gate.list ++ s.gate.old)) then lateIn 2 0 0 slot s
  else { s with gate := { s.gate with list := pushEntry (takenAt s) v s.gate.list } }
/-- XPUT into fo (R438, R440, R455). -/
def pushFo (v : Dbl) (slot : Nat) (s : State) : State :=
  if !fabricUser s then raiseLate s.cur.ctx (lateTval 3 0 0 0 slot) s
  else if fabricEdge s then raiseMiss 3 6 0 slot s
  else if s.gate.step.isNone || !roomIn s.gate.foList then lateIn 2 0 0 slot s
  else { s with gate := { s.gate with foList := pushEntry (takenAt s) v s.gate.foList } }
/-- XPUT fo waits for a place (R440). -/
def foFull (s : State) : Bool := fabricUser s && !fabricEdge s && decide (64 ≤ heldWords (s.gate.foList ++ s.gate.foOld))

/-- The head of a receive buffer, if the core has seen its tick (R296, R310). -/
def rxHead (s : State) : List (Nat × Dbl) → Option Dbl
  | [] => none
  | (t, v) :: _ => if seen s t then some v else none
/-- XGET from xg (R310, R311). -/
def popGate (slot : Nat) (s : State) : State :=
  if !timedPrimary s then raiseLate s.cur.ctx (lateTval 3 0 0 0 slot) s
  else match rxHead s s.gate.rx with
    | some _ => { s with gate := { s.gate with rx := s.gate.rx.tail } }
    | none => raiseMiss 2 4 0 slot s
/-- XGET from fi (R438, R440, R455). -/
def popFi (slot : Nat) (s : State) : State :=
  if !fabricUser s then raiseLate s.cur.ctx (lateTval 3 0 0 0 slot) s
  else match rxHead s s.gate.fi with
    | some _ => { s with gate := { s.gate with fi := s.gate.fi.tail } }
    | none => raiseMiss 3 5 0 slot s
/-- XGET fi waits for a word (R440). -/
def fiEmpty (s : State) : Bool := fabricUser s && !fabricEdge s && (rxHead s s.gate.fi).isNone
/-- The value of an XGET (R281, R310, R440). -/
def getValue (s : State) (f : BitVec 3) : Dbl :=
  match f.toNat with
  | 4 => if timedPrimary s then (rxHead s s.gate.rx).getD 0 else 0
  | 5 => if fabricUser s then (rxHead s s.gate.fi).getD 0 else 0
  | _ => portValue s (f.extractLsb' 0 2)

/-- The bundle waits in place, its context RUNNING (R440). -/
def stallFor (s : State) : State := { s with cur := { s.cur with stall := true } }

/-- XPUT: pushes a word into an exchange port, xg or fo (R280, R281, R310, R440). -/
def execXput (f : BitVec 3) (a : BitVec 6) (s : State) : Answer :=
  let v := rs s a
  let slot := slotN s
  match f.toNat with
  | 4 => .next (issue s [] [] (fun s => pushGate v slot (markTimed s)))
  | 6 => if foFull s then .next (stallFor s) else .next (issue s [] [] (fun s => pushFo v slot (markTimed s)))
  | _ => .next (issue s [] [] (fun s => pushPort (f.extractLsb' 0 2) v slot (markTimed s)))

/-- XGET: pops a word from an exchange port, xg or fi (R280, R281, R310, R440). -/
def execXget (d : BitVec 6) (f : BitVec 3) (s : State) : Answer :=
  let slot := slotN s
  let out := [scalarOut 1 d (getValue s f)]
  match f.toNat with
  | 4 => .next (issue s [] out (fun s => popGate slot (markTimed s)))
  | 5 => if fiEmpty s then .next (stallFor s) else .next (issue s [] out (fun s => popFi slot (markTimed s)))
  | _ => .next (issue s [] out (fun s => popPort (f.extractLsb' 0 2) slot (markTimed s)))

/-- An event of the gateway at a tick is due: the cycle has seen it, and no stop of the placement holds it (R296, R315). -/
def dueTick (s : State) (t : Nat) : Bool := seen s t && !s.stop.any (fun p => decide (p.tick ≤ t))
/-- Departures whose tick the cycle has seen: a full entry's flit goes on its way, any other is lost (R308, R311,
R440, R455). -/
def departList (s : State) (fab : Bool) (l : List GEntry) : List GEntry × State :=
  l.foldl (fun a e =>
    if e.gone || !dueTick a.2 e.dep then (a.1 ++ [e], a.2)
    else
      let ws := inTime e
      let e' := { e with gone := true }
      if ws.length < e.count then (a.1 ++ [e'], lateIn 1 e.index ws.length 0 a.2)
      else
        let t := if fab then e.dep + 2 else e.dep + 2 * hops (s.myCluster % 10) (e.dst / 16 % 10) + 2
        let f : Flit := { tick := t, dst := if fab then 2 ^ 16 + e.dst else e.dst, link := e.link, words := ws.map (·.2) }
        if fab && fabricEdge s then (a.1 ++ [e'], a.2)
        else (a.1 ++ [e'], { a.2 with gate := { a.2.gate with flits := a.2.gate.flits ++ [f] } })) ([], s)
/-- All departures of the gateway at this cycle. -/
def departs (s : State) : State :=
  let (l, s) := departList s false s.gate.list
  let (o, s) := departList s false s.gate.old
  let (f, s) := departList s true s.gate.foList
  let (fo, s) := departList s true s.gate.foOld
  { s with gate := { s.gate with list := l, old := o.filter (fun e => !e.gone), foList := f, foOld := fo.filter (fun e => !e.gone) } }

/-- A word that enters a receive buffer; one that finds it full is discarded with a cause (R312, R440). -/
def enterRx (fab : Bool) (t : Nat) (s : State) (v : Dbl) : State :=
  if fab then
    if s.gate.fi.length < 64 then { s with gate := { s.gate with fi := s.gate.fi ++ [(t, v)] } } else raiseMiss 1 5 0 0 s
  else
    if s.gate.rx.length < 64 then { s with gate := { s.gate with rx := s.gate.rx ++ [(t, v)] } } else raiseMiss 1 4 0 0 s
/-- A flit from another core or package at its tick: its words enter the buffer, or are held while the placement is stopped (R308,
R315, R440, R442). -/
def flitIn (link : Option (BitVec 4 × Nat)) (ws : List Dbl) (s : State) : State :=
  if s.stop.isSome then
    let f : Flit := { tick := tickNow s, dst := s.me, link := link, words := ws }
    { s with gate := { s.gate with flits := s.gate.flits ++ [f] } }
  else ws.foldl (enterRx link.isSome (tickNow s)) s
/-- A flit whose link is none, or one with PAD added, ends at this core (R308, R440). -/
def arrives (s : State) : State :=
  let due := s.gate.flits.filter (fun f => dueTick s f.tick)
  let s1 := { s with gate := { s.gate with flits := s.gate.flits.filter (fun f => !dueTick s f.tick) } }
  (due.filter (fun f => f.dst == s.me)).foldl (fun s f => f.words.foldl (enterRx f.link.isSome f.tick) s) s1

/-! Gateways of several plans (R310, R312, R315) -/

/-- What the plan of the gateway has on this core, to be kept. -/
def keepGate (s : State) : Kept :=
  { gate := s.gate, replan := s.replan, pbarTick := s.pbarTick, stop := s.stop, xports := s.xports, xout := s.xout, csync := s.cluster.csync }
/-- The gateway of another plan takes the place of this one. -/
def useGate (k : Kept) (s : State) : State :=
  { s with gate := k.gate, replan := k.replan, pbarTick := k.pbarTick, stop := k.stop, xports := k.xports, xout := k.xout,
           cluster := { s.cluster with csync := k.csync } }
/-- The record of a plan that has nothing on this core yet. -/
def freshKept (seq : Nat) : Kept :=
  { gate := { seq := seq }, replan := {}, pbarTick := none, stop := none, xports := [], xout := [], csync := none }
/-- What a plan has on this core: that of the core's gateway, or a kept record (R310, R313, R319). -/
def recOf (s : State) (seq : Nat) : Kept := if s.gate.seq = seq then keepGate s else SMap.get (freshKept seq) s.kept seq
/-- What a plan's own gateway, re-plan record, barrier and stop undergo; those of the core's gateway stay, unless they are
this plan's (R310, R313). -/
def withPlan (seq : Nat) (f : State → State) (s : State) : State :=
  if s.gate.seq = seq then f s
  else
    let k := recOf s seq
    let t := f { s with gate := k.gate, replan := k.replan, pbarTick := k.pbarTick, stop := k.stop }
    { t with gate := s.gate, replan := s.replan, pbarTick := s.pbarTick, stop := s.stop,
             kept := SMap.put t.kept seq { k with gate := t.gate, replan := t.replan, pbarTick := t.pbarTick, stop := t.stop } }
/-- A plan's gateway is to be the core's: that of another plan that is still placed is kept, and its own, if it was kept,
comes back (R310, R315). -/
def switchGate (seq : Nat) (s : State) : State :=
  if s.gate.seq = seq then s
  else
    let s1 := if (findPlan s s.gate.seq).isSome then { s with kept := SMap.put s.kept s.gate.seq (keepGate s) } else s
    useGate (SMap.get (freshKept seq) s1.kept seq) { s1 with kept := SMap.del s1.kept seq }
/-- The gateways' events that the cycle has seen, a stopped plan's aside (R308, R310, R315). -/
def gateCycle (s : State) : State :=
  (s.kept.map (·.1)).foldl (fun s q => withPlan q (fun s => arrives (departs s)) s) (arrives (departs s))

/-! Clock (R245, R293, R294) -/

/-- A running count at a new frequency (R245). -/
def rescale (old new : BitVec 6) (n : Nat) : Nat := (n * (32 + new.toNat) + (31 + old.toNat)) / (32 + old.toNat)
/-- All running counts of the vault at a new frequency (R245). -/
def rescaleVault (old new : BitVec 6) (v : Vault) : Vault :=
  let r := rescale old new
  let bs := (List.range 64).foldl (fun m n =>
    let b := SMap.get {} v.banks n
    SMap.set {} m n { b with rem := r b.rem, pre := r b.pre, act := r b.act }) []
  let ts := (List.range 4).foldl (fun m n =>
    let t := SMap.get {} v.tiers n
    SMap.set {} m n { t with faw0 := r t.faw0, faw1 := r t.faw1, faw2 := r t.faw2, faw3 := r t.faw3, rrd := r t.rrd,
                             ccd := r t.ccd, wtr := r t.wtr }) []
  { v with banks := bs, tiers := ts }
/-- A FREQ write takes effect: the clock is gated until LOCK, 2 µs later, and the counts rescale then (R294). -/
def setFreq (f : BitVec 6) (s : State) : State :=
  let k := s.cluster
  { s with cluster := { k with
      freq := f, heldFreq := none, oldFreq := some (k.oldFreq.getD k.freq), lock := false,
      lockAt := some (s.time + 2000 * Config.ns) } }
/-- A FREQ write made between two cycles takes effect in the cycle that follows, whose clock runs on to its end (R294, R296). -/
def dueFreq (f : BitVec 6) (s : State) : State := { s with cluster := { s.cluster with dueFreq := some f, heldFreq := none } }
/-- That write takes effect (R294). -/
def takeFreq (s : State) : State :=
  match s.cluster.dueFreq with
  | some f => setFreq f { s with cluster := { s.cluster with dueFreq := none } }
  | none => s
/-- A held FREQ write takes effect (R294). -/
def releaseFreq (s : State) : State :=
  match s.cluster.heldFreq with
  | some f => setFreq f s
  | none => s

/-! Re-planning (R316, R317, R319) -/

/-- RPREC (R319). -/
def rprec (s : State) : Dbl :=
  let r := s.replan
  let age := if r.var.toNat < r.need.toNat then min r.age (2 ^ 32 - 1) else 0
  BitVec.ofNat 64 (age * 2 ^ 32 + r.swc.toNat * 2 ^ 16 + b2n (s.vault.emergency.contains s.gate.seq) * 32 + b2n (r.need != r.var) * 16 +
    r.var.toNat * 4 + r.need.toNat)
/-- The row of the re-plan table that a switch at a step takes: the smallest class at least the needed one for a rising
request, the needed class for a falling one (R317). -/
def variantAt (p : Plan) (step need var : Nat) : Option (Nat × Dbl) :=
  let rows := (p.replan.filter (fun r => r.1 == step)).map (fun r => (r.2.1, r.2.2))
  if var < need then
    (rows.filter (fun r => need ≤ r.1)).foldl (fun b r => match b with
      | some m => if r.1 < m.1 then some r else some m
      | none => some r) none
  else rows.find? (fun r => r.1 == need)
/-- The switch of a re-planning point: every core of the placement finds a variant at its own step, all of one class (R317). -/
def switchAt (s : State) (step : Nat) : Option (Nat × Dbl) :=
  match findPlan s (cx s).plan with
  | none => none
  | some p =>
    let r := (recOf s p.seq).replan
    let row := fun (k : Nat) => variantAt p k r.need.toNat r.var.toNat
    if r.need = r.var then none
    else match row step with
      | none => none
      | some (cls, addr) => if r.steps.all (fun k => (row k.toNat).map (·.1) == some cls) then some (cls, addr) else none
/-- A re-planning point: a pending request switches the variant and transfers as a taken J (R105, R317, R319). -/
def replanPoint (step : Nat) (s : State) : State :=
  match switchAt s step with
  | none => s
  | some (cls, addr) =>
    let s1 := { s with replan := { s.replan with age := 0, var := BitVec.ofNat 2 cls, swc := satAdd16 s.replan.swc 1 } }
    transfer addr 1 (blackBox s1 4 s.self (cx s).plan (rprec s1) (BitVec.ofNat 64 step))
/-- The causes of the transfer that a re-planning point makes, as those of a taken J (R106, R317). -/
def switchCause (s : State) (rp : Bool) (step : Nat) : List Cause :=
  if rp then (match switchAt s step with | some r => targetCause s r.2 | none => []) else []

/-! PBAR (R313 to R315) -/

/-- The release of its plan that the context's registered arrival has, once the cycle has seen its tick (R296, R313). -/
def releaseSeen (s : State) (x : Ctx) : Option Nat :=
  if x.arrived.isNone then none
  else match (recOf s x.plan).pbarTick with
    | some r => if seen s r then some r else none
    | none => none
/-- Entries of a list that have not departed and are not full fail at the next PBAR (R311). -/
def failUnfilled (l : List GEntry) (s : State) : State :=
  l.foldl (fun s e => if e.gone || decide (e.count ≤ e.words.length) then s else lateIn 1 e.index (inTime e).length 0 s) s
/-- Words left in a receive buffer at a PBAR are discarded with a cause (R312, R440). -/
def dropLeft (s : State) : State :=
  let s1 := if s.gate.rx.isEmpty then s else raiseMiss 1 4 0 0 { s with gate := { s.gate with rx := [] } }
  if s1.gate.fi.isEmpty then s1 else raiseMiss 1 5 0 0 { s1 with gate := { s1.gate with fi := [] } }
/-- PBAR issues at its release: the route lists of the step become current (R310, R313, R317). -/
def startStep (rp : Bool) (step : BitVec 12) (rel : Nat) (s : State) : State :=
  let s1 := dropLeft (failUnfilled s.gate.foList (failUnfilled s.gate.list s))
  let full := fun (e : GEntry) => !e.gone && decide (e.count ≤ e.words.length)
  let keep := (s1.gate.list ++ s1.gate.old).filter full
  let keepFo := (s1.gate.foList ++ s1.gate.foOld).filter full
  let lists := match findPlan s1 (cx s1).plan with
    | some p => (entriesOf s1 p step.toNat rel false, entriesOf s1 p step.toNat rel true)
    | none => ([], [])
  let rels := s1.gate.rels.filter (fun t => decide (rel < t + 2 ^ 17)) ++ [rel]
  let g := { s1.gate with list := lists.1, old := keep, foList := lists.2, foOld := keepFo, step := some step, rels := rels }
  let s2 := { s1 with gate := g, pbarTick := none }
  let s3 := setCx s2 { cx s2 with arrived := none }
  if rp then replanPoint step.toNat (releaseFreq s3) else s3

/-- PBAR: joins the superstep barrier of the placement (R313, R314). -/
def execPbar (r : Bool) (k : BitVec 12) (s : State) : Answer :=
  if !(cx s).primary then
    .next (issue s [] [] (fun s => raiseLate s.cur.ctx (lateTval 3 0 0 0 (slotN s)) (markTimed s)))
  else match releaseSeen s (cx s) with
    | some rel => .next (issue s (switchCause s r k.toNat) [] (fun s => withPlan (cx s).plan (startStep r k rel) (markTimed s)))
    | none => .next (waitFor s .barrier)

/-- The context waits at a PBAR. -/
def atBarrier (x : Ctx) : Bool := x.waits.contains .barrier && x.st == .blocked
/-- PBAR's arrival at the first cycle at which nothing is outstanding, unless the placement is stopped (R313, R315). -/
def arriveAt (s : State) (c : CtxId) : State :=
  let x := getCtx s c
  if atBarrier x && x.arrived.isNone && (recOf s x.plan).stop.isNone && quiet s c then setCtx s c { x with arrived := some (takenAt s) } else s
/-- The smallest multiple of 8 at least n. -/
def ceil8 (n : Nat) : Nat := (n + 7) / 8 * 8
/-- The length of a service path: the sum of PAD + 4 over its links (R436). -/
def pathLength (s : State) (l : List Nat) : Nat :=
  l.foldl (fun n i => n + ((s.fabric.topo.links[i]?).map (fun k => k.pad.toNat + 4)).getD 0) 0
/-- The packages of a placement: this one for its clusters below 80, and those of the others (R436). -/
def packagesOf (s : State) (p : Plan) : List Nat :=
  p.clusters.map (fun c => if c < 80 then s.fabric.topo.self.toNat else c / 128 - 1)
/-- Dmax of a placement: the longest service path between two of its packages (R436, R441). -/
def dmax (s : State) (p : Plan) : Nat :=
  let ps := packagesOf s p
  s.fabric.topo.paths.foldl (fun m q => if ps.contains q.1.1 && ps.contains q.1.2 then max m (pathLength s q.2) else m) 0
/-- The least release tick that follows an arrival at tick a (R313, R441). -/
def leastRelease (s : State) (p : Plan) (a : Nat) : Nat :=
  let dies := (p.clusters.map (fun c => c / 10)).dedup
  ceil8 (a + if p.clusters.any (fun c => decide (128 ≤ c)) then 24 + dmax s p else if dies.length ≤ 1 then 8 else 24)
/-- The placement's only primary context stands on this core. -/
def soleArrival (s : State) (p : Plan) : Bool := p.res.all (fun r => !r.prim || relCore p s.me == some r.core)
/-- The release of a placement whose only primary context is here follows from its own arrival (R313). -/
def soleRelease (s : State) (c : CtxId) : State :=
  let x := getCtx s c
  match x.arrived, (recOf s x.plan).pbarTick, findPlan s x.plan with
  | some a, none, some p =>
    if soleArrival s p then withPlan p.seq (fun s => { s with pbarTick := some (leastRelease s p a) }) s else s
  | _, _, _ => s

/-- The class of a tier of a core of the package (R247, R316). -/
def classAt (s : State) (core tier : Nat) : Nat :=
  if core = s.me then (getTier s.vault tier).cls.toNat else (SMap.get 0 s.vault.far (4 * core + tier)).toNat
/-- The needed class of a plan: the highest of the tiers that hold owned banks of its placement (R316). -/
def neededOf (s : State) (p : Plan) : Nat :=
  p.res.foldl (fun m r => ((List.range 64).filter (fun n => r.owned.getLsbD n)).foldl (fun m n =>
    max m (classAt s (coreOfRel p r.core) (n / 16))) m) 0

/-! Cluster sync (R283, R284) -/

/-- Cores of the context's placement in this cluster, as a mask (R283). -/
def clusterMask (s : State) (c : CtxId) : BitVec 16 :=
  match findPlan s (getCtx s c).plan with
  | some p => (List.range 16).foldl (fun m i =>
      if (resOf p (16 * s.myCluster + i)).isSome then m ||| (1#16 <<< i) else m) 0
  | none => 0
/-- The CSYNC becomes outstanding, or a cause arises (R283). -/
def startSync (m : BitVec 16) (t : BitVec 6) (slot : Nat) (s : State) : State :=
  if !m.getLsbD s.myIndex || m &&& ~~~(clusterMask s s.cur.ctx) != 0 then raiseMiss 4 0 0 slot s
  else if s.cluster.csync.isSome then raiseMiss 5 0 0 slot s
  else tagUp t { s with cluster := { s.cluster with csync := some (m, t, s.cycle) } }
/-- CSYNC (R283, R286). -/
def execCsync (a t : BitVec 6) (s : State) : Answer :=
  let m := (rs s a).extractLsb' 0 16
  let slot := slotN s
  .next (issue s (firstOf (tagChecks s t)) [] (fun s => startSync m t slot (markTimed s)))
/-- The release of the outstanding CSYNC (R284). -/
def releaseSync (s : State) : State :=
  match s.cluster.csync with
  | some (_, t, _) => tagDown t { s with cluster := { s.cluster with csync := none } }
  | none => s
/-- A mask of this core alone releases four cycles after its CSYNC (R284). -/
def soleSync (s : State) : State :=
  match s.cluster.csync with
  | some (m, _, c) => if m == (1#16 <<< s.myIndex) && decide (c + 4 ≤ s.cycle) then releaseSync s else s
  | none => s

/-! Cluster-peer words (R291, R292) -/

/-- What the plan has on a core of the package (R228). -/
def planOn (s : State) (seq core : Nat) : Option CoreRes := (findPlan s seq).bind (fun p => resOf p core)
/-- The peer core of a SPACE 2 address (R288). -/
def peerCore (s : State) (p : Nat) : Nat := 16 * s.myCluster + p / 2 ^ 19 % 16
/-- n bytes at a scratchpad address of a peer lie in the plan's window there (R288, R291). -/
def peerOk (s : State) (seq core a n : Nat) : Bool :=
  match planOn s seq core with
  | some r => within r.sbase r.ssize a n
  | none => false
/-- The checks of a peer address in the order of R291; its MEM_ALIGN has TVAL 0 (R120, R291). -/
def peerChecks (s : State) (p : Dbl) : List Cause :=
  rangeIf (decide (2 ^ 23 ≤ p.toNat) || !peerOk s (cx s).plan (peerCore s p.toNat) (p.toNat % 2 ^ 19) 8) p.toNat ++
    failIf (decide (p.toNat % 8 ≠ 0)) ⟨5, 0x12, 0⟩
/-- CLD: 8 bytes of a peer's scratchpad post to qgl (R291, R292). -/
def execCld (a : BitVec 6) (s : State) : Answer :=
  let p := rs s a
  .next (issue s (peerChecks s p) [] (leaveNow (.peer p.toNat none) (some 0)))
/-- CST: 8 bytes to a peer's scratchpad after the commit (R265, R291). -/
def execCst (a b : BitVec 6) (s : State) : Answer :=
  let p := rs s a
  let v := rs s b
  .next (issue s (peerChecks s p ++ relRoom s) [] (enterRel (.peer p.toNat (some v)) none))

end Sys2Proof.Machine
end

