-- ==== Sys2Proof/Machine/Global.lean ====
section
/-! DEFINITION. Global space at issue: translation, the checks and the words of major 0x1E (19_package_memory.md R348 to
R369, 25_fabric.md R443 to R450). -/

namespace Sys2Proof.Machine

/-! Translation (R348 to R350) -/

/-- Package, die, column and offset of an intermediate address (R348). -/
def iaPkg (ia : Nat) : Nat := ia / 2 ^ 40
/-- DIE (R348). -/
def iaDie (ia : Nat) : Nat := ia / 2 ^ 36 % 16
/-- COL (R348). -/
def iaCol (ia : Nat) : Nat := ia / 2 ^ 28 % 256
/-- OFF (R348). -/
def iaOff (ia : Nat) : Nat := ia % 2 ^ 28
/-- The home core of an intermediate address in this package (R348). -/
def iaCore (ia : Nat) : Nat := 160 * iaDie ia + iaCol ia
/-- The package number is in the domain (R348, R436). -/
def inDomain (s : State) (pkg : Nat) : Bool := s.fabric.topo.revs.any (fun r => r.1 == pkg)

/-- VBASE·2^16 of a range (R349). -/
def rgFirst (a : Dbl) : Nat := a.toNat / 2 ^ 16 % 2 ^ 36 * 2 ^ 16
/-- The range covers an address (R350). -/
def covers (x : Ctx) (k v : Nat) : Bool :=
  let a := SMap.get 0 x.rga k
  let b := SMap.get 0 x.rgb k
  a.getLsbD 63 && decide (rgFirst a ≤ v) && decide (v < rgFirst a + b.toNat % 2 ^ 32 * 2 ^ 16)
/-- The lowest range that covers an address (R350). -/
def rangeOf (x : Ctx) (v : Nat) : Option Nat := (List.range 8).find? (fun k => covers x k v)
/-- The intermediate address that a range gives (R350). -/
def iaOf (x : Ctx) (k v : Nat) : Nat := (SMap.get 0 x.rgb k).toNat / 2 ^ 32 * 2 ^ 16 + (v - rgFirst (SMap.get 0 x.rga k))
/-- The translation of a virtual address: intermediate address and range (R350). -/
def translate (s : State) (x : Ctx) (v : Nat) : Option (Nat × Nat) :=
  if 2 ^ 52 ≤ v then none
  else match rangeOf x v with
    | none => none
    | some k =>
      let ia := iaOf x k v
      if 2 ^ 48 ≤ ia || !inDomain s (iaPkg ia) || decide (7 < iaDie ia) || decide (159 < iaCol ia) then none else some (ia, k)
/-- WR of a range (R349). -/
def rangeWr (x : Ctx) (k : Nat) : Bool := (SMap.get 0 x.rga k).getLsbD 62

/-- PERM_FAULT of a write through a range without WR (R351). -/
def permIf (b : Bool) (v : Nat) : List Cause := failIf b ⟨5, 0x17, BitVec.ofNat 64 (2 ^ 63 + v)⟩

/-- The checks of R351: alignment, translation, WR, room in the release buffer. -/
def globalChecks (s : State) (v align : Nat) (write room : Bool) : List Cause :=
  let t := translate s (cx s) v
  firstOf (alignIf (decide (v % align ≠ 0)) v ++ rangeIf t.isNone v ++
    permIf (write && !rangeWr (cx s) ((t.map (·.2)).getD 0)) v ++ (if room then relRoom s else []))

/-- A global word: its checks and its access, through the release buffer or at once (R351, R361, R365). -/
def globalWord (s : State) (a : BitVec 6) (op : GlobalOp) (align : Nat) (write room ret t : Bool) (fn : BitVec 6) : Answer :=
  let v := (rs s a).toNat
  let q := if ret then some 0 else none
  let go := fun (s : State) => match translate s (cx s) v with
    | some (ia, k) => if room then enterRel (.global op ia k ret t fn) q s else leaveNow (.global op ia k ret t fn) q s
    | none => s
  .next (issue s (globalChecks s v align write room) [] go)

/-- GLD (R361, R365). -/
def execGld (a : BitVec 6) (w : Bool) (s : State) : Answer :=
  globalWord s a (.load w) (if w then 4 else 8) false false true false 0x00
/-- GST (R365). -/
def execGst (a b : BitVec 6) (w : Bool) (s : State) : Answer :=
  globalWord s a (.store w (rs s b)) (if w then 4 else 8) true true false false 0x01

/-- An integer atomic (R365, R366). -/
def intAtomic (fn : BitVec 6) (q : Bool) (a b : BitVec 6) (t w : Bool) (cmp : Dbl) (s : State) : Answer :=
  globalWord s a (.atomic fn w (rs s b) cmp) (if w then 4 else 8) true true q t fn
/-- An FP32 or BF16 atomic, on 4 bytes (R365, R366). -/
def fpAtomic (fn : BitVec 6) (q : Bool) (a b : BitVec 6) (t : Bool) (s : State) : Answer :=
  globalWord s a (.atomic fn false (rs s b) 0) 4 true true q t fn

/-- GAADD (R366). -/
def execGaadd (q : Bool) (a b : BitVec 6) (t w : Bool) (s : State) : Answer := intAtomic 0x02 q a b t w 0 s
/-- GAMIN (R366). -/
def execGamin (q : Bool) (a b : BitVec 6) (t w : Bool) (s : State) : Answer := intAtomic 0x03 q a b t w 0 s
/-- GAMAX (R366). -/
def execGamax (q : Bool) (a b : BitVec 6) (t w : Bool) (s : State) : Answer := intAtomic 0x04 q a b t w 0 s
/-- GAAND (R366). -/
def execGaand (q : Bool) (a b : BitVec 6) (t w : Bool) (s : State) : Answer := intAtomic 0x05 q a b t w 0 s
/-- GAOR (R366). -/
def execGaor (q : Bool) (a b : BitVec 6) (t w : Bool) (s : State) : Answer := intAtomic 0x06 q a b t w 0 s
/-- GAXOR (R366). -/
def execGaxor (q : Bool) (a b : BitVec 6) (t w : Bool) (s : State) : Answer := intAtomic 0x07 q a b t w 0 s
/-- GASWP (R366). -/
def execGaswp (q : Bool) (a b : BitVec 6) (t w : Bool) (s : State) : Answer := intAtomic 0x08 q a b t w 0 s
/-- GACAS: always returns the old value (R365, R366). -/
def execGacas (k a b : BitVec 6) (t w : Bool) (s : State) : Answer := intAtomic 0x09 true a b t w (rs s k) s
/-- GAFADD (R366). -/
def execGafadd (q : Bool) (a b : BitVec 6) (t : Bool) (s : State) : Answer := fpAtomic 0x0A q a b t s
/-- GAFMIN (R366). -/
def execGafmin (q : Bool) (a b : BitVec 6) (t : Bool) (s : State) : Answer := fpAtomic 0x0B q a b t s
/-- GAFMAX (R366). -/
def execGafmax (q : Bool) (a b : BitVec 6) (t : Bool) (s : State) : Answer := fpAtomic 0x0C q a b t s
/-- GABADD (R366). -/
def execGabadd (q : Bool) (a b : BitVec 6) (t : Bool) (s : State) : Answer := fpAtomic 0x0D q a b t s
/-- GXADD (R365, R367). -/
def execGxadd (a b : BitVec 6) (t : Bool) (s : State) : Answer :=
  globalWord s a (.xadd ((rs s b).extractLsb' 0 32)) 64 true true false t 0x0E
/-- GXRD (R365, R368). -/
def execGxrd (a : BitVec 6) (s : State) : Answer := globalWord s a .xread 64 false false true false 0x0F

/-- GFENCE: posts to qfx when the context's earlier global and host accesses are performed (R369). -/
def execGfence (s : State) : Answer := .next (issue s [] [] (leaveNow .gfence (some 3)))

/-! GWS (R447, R448) -/

/-- Payload length of a descriptor (R447). -/
def gwsLen (d : Dbl) : Nat := 8 * (d.toNat / 2 ^ 22 % 2 ^ 8 + 1)
/-- OP (R447). -/
def gwsOp (d : Dbl) : Nat := d.toNat / 2 ^ 30 % 4
/-- The flag's address (R447). -/
def gwsFlag (v d : Dbl) : Dbl := v + (d.extractLsb' 2 20).signExtend 64 * 8
/-- MEM_RANGE with a reason in the layout of R331. -/
def reasonCause (id reason : Nat) : Cause := ⟨5, 0x13, BitVec.ofNat 64 (2 ^ 63 + 2 ^ 60 + id * 2 ^ 32 + reason)⟩
/-- n bytes at v lie in one range: their translation (R350, R448). -/
def translateRun (s : State) (x : Ctx) (v n : Nat) : Option (Nat × Nat) :=
  match translate s x v, translate s x (v + n - 1) with
  | some (ia, k), some (_, k') => if k = k' && decide (v + n ≤ 2 ^ 64) then some (ia, k) else none
  | _, _ => none
/-- The checks of GWS in order (R448). -/
def gwsChecks (s : State) (v a d : Dbl) : List Cause :=
  let len := gwsLen d
  let f := gwsFlag v d
  let tp := translateRun s (cx s) v.toNat len
  let tf := translateRun s (cx s) f.toNat 8
  let lap := decide (f.toNat < v.toNat + len) && decide (v.toNat < f.toNat + 8)
  let pkg := fun (t : Option (Nat × Nat)) => t.map (fun p => iaPkg p.1)
  let wr := fun (t : Option (Nat × Nat)) => match t with | some (_, k) => rangeWr (cx s) k | none => false
  firstOf (alignIf (v.toNat % 8 != 0) v.toNat ++ alignIf (a.toNat % 8 != 0) a.toNat ++
    failIf (decide (1 < gwsOp d) || d.toNat % 4 != 0 || lap) (reasonCause 0 2) ++
    rangeIf tp.isNone v.toNat ++ rangeIf (tf.isNone || pkg tp != pkg tf) f.toNat ++
    rangeIf (!inScratch s (cx s).plan a.toNat len) a.toNat ++
    permIf (!wr tp) v.toNat ++ permIf (!wr tf) f.toNat ++ relRoom s)
/-- GWS: a payload and then a flag (R447 to R450). -/
def execGws (k a b : BitVec 6) (s : State) : Answer :=
  let v := rs s a
  let src := rs s b
  let d := rs s k
  let f := gwsFlag v d
  .next (issue s (gwsChecks s v src d) [] (fun s =>
    match translateRun s (cx s) v.toNat (gwsLen d), translateRun s (cx s) f.toNat 8 with
    | some (ia, kp), some (fa, kf) =>
      enterRel (.gws ia kp src.toNat (gwsLen d) fa kf (gwsOp d == 1) ((d.extractLsb' 32 32).signExtend 64)) (some 3) s
    | _, _ => s))

end Sys2Proof.Machine
end

