-- ==== Sys2Proof/Machine/Copy.lean ====
section
/-! DEFINITION. CPY and the tag words (15_cluster.md R286 to R290, 19_package_memory.md R370, R371), host words (R373). -/

namespace Sys2Proof.Machine

/-! Host words (R373) -/

/-- The host windows of a context's plan (R373, R393). -/
def hostWins (s : State) (seq : Nat) : List (Nat × Nat) :=
  match findPlan s seq with
  | some p => p.hostWins
  | none => []
/-- n bytes of host memory lie in one host window of the plan (R371, R373). -/
def inHost (s : State) (seq a n : Nat) : Bool := (hostWins s seq).any (fun w => within w.1 w.2 a n)
/-- The checks of a host address, whose causes have TVAL 0 (R120, R373). -/
def hostChecks (s : State) (h : Nat) : List Cause :=
  failIf (decide (h % 8 ≠ 0)) ⟨5, 0x12, 0⟩ ++ failIf (decide (2 ^ 52 ≤ h) || !inHost s (cx s).plan h 8) ⟨5, 0x13, 0⟩
/-- HLD: 8 bytes of host memory post to qgl (R373). -/
def execHld (a : BitVec 6) (s : State) : Answer :=
  let h := (rs s a).toNat
  .next (issue s (hostChecks s h) [] (leaveNow (.host h none) (some 0)))
/-- HST: 8 bytes to host memory after the commit (R265, R373). -/
def execHst (a b : BitVec 6) (s : State) : Answer :=
  let h := (rs s a).toNat
  let v := rs s b
  .next (issue s (hostChecks s h ++ relRoom s) [] (enterRel (.host h (some v)) none))

/-! Runs of a copy (R288, R289) -/

/-- Address of run (i1, i2) of a record (R288). -/
def runAddr (h : BitVec 256) (i1 i2 : Nat) : Nat :=
  (BitVec.ofInt 64 ((shBase h : Int) + i1 * shStride1 h + i2 * shStride2 h)).toNat
/-- Number of runs (R288). -/
def runCount (h : BitVec 256) : Nat := shDim1 h * shDim2 h
/-- Run number n of a record, in copy order: ascending i2, and within it i1 (R289). -/
def runAt (h : BitVec 256) (n : Nat) : Nat := runAddr h (n % shDim1 h) (n / shDim1 h)

/-- The first byte of a run that fails a test, if any. -/
def firstBad (ok : Nat → Bool) (a : Nat) : Nat → Option Nat
  | 0 => none
  | n + 1 => if ok a then firstBad ok (a + 1) n else some a
/-- The check of one run of a record in a space, in the order of R288; at its first failure it gives the cause. A host run
lies in one window: the first byte that fails is the one after those that the window reaching furthest covers (R371). -/
def runCheck (s : State) (seq : Nat) (h : BitVec 256) (write : Bool) (a n : Nat) : List Cause :=
  match shSpace h with
  | 0 => match firstBad (fun b => inScratch s seq b 1) a n with
    | some b => [⟨5, 0x13, BitVec.ofNat 64 b⟩]
    | none => []
  | 1 => match firstBad (fun b => !mirrorReserved s b 1 && inMirror s seq b 1) a n with
    | some b => [⟨5, if mirrorReserved s b 1 then 0x14 else 0x13, BitVec.ofNat 64 b⟩]
    | none => []
  | 2 =>
    if 2 ^ 23 ≤ shBase h || (planOn s seq (peerCore s (shBase h))).isNone then [⟨5, 0x13, BitVec.ofNat 64 (shBase h)⟩]
    else match firstBad (fun b => decide (b / 2 ^ 19 = shBase h / 2 ^ 19) && peerOk s seq (peerCore s b) (b % 2 ^ 19) 1) a n with
      | some b => [⟨5, 0x13, BitVec.ofNat 64 b⟩]
      | none => []
  | 3 =>
    let x := cx s
    match translate s x a with
    | none => [⟨5, 0x13, BitVec.ofNat 64 a⟩]
    | some (_, k) => match firstBad (fun b => (translate s x b).map (·.2) == some k) a n with
      | some b => [⟨5, 0x13, BitVec.ofNat 64 b⟩]
      | none => permIf (write && !rangeWr x k) a
  | _ =>
    let bad := fun (w : Nat × Nat) => firstBad (fun b => decide (b < 2 ^ 52) && within w.1 w.2 b 1) a n
    let l := (hostWins s seq).map bad
    if l.contains none then []
    else [⟨5, 0x13, BitVec.ofNat 64 (l.foldl (fun m b => max m (b.getD a)) a)⟩]

/-- The checks of the runs of a copy whose spaces meet a test: run order, source before destination (R288). -/
def runChecks (s : State) (hd hs : BitVec 256) (sp : Nat → Bool) : List Cause :=
  (List.range (runCount hd)).flatMap (fun n =>
    (if sp (shSpace hs) then runCheck s (cx s).plan hs false (runAt hs n) (shDim0 hs) else []) ++
    (if sp (shSpace hd) then runCheck s (cx s).plan hd true (runAt hd n) (shDim0 hd) else []))
/-- A copy whose destination is the core's own scratchpad or mirror segment (R287). -/
def localCopy (hd : BitVec 256) : Bool := decide (shSpace hd < 2)
/-- SNAPSHOT_FULL of a full copy queue (R287). -/
def copyRoom (s : State) : List Cause := failIf (decide (64 ≤ s.copyq.length)) ⟨4, 0x0A, BitVec.ofNat 64 (2 ^ 62 + 1)⟩
/-- The checks of CPY in order (R286, R287, R288, R370, R371). -/
def cpyChecks (s : State) (hd hs : BitVec 256) (tag : BitVec 6) : List Cause :=
  let bad := !shapeOk hd || !shapeOk hs || shDim0 hd != shDim0 hs || shDim1 hd != shDim1 hs || shDim2 hd != shDim2 hs
  firstOf (failIf bad ⟨4, 0x05, 0⟩ ++ tagChecks s tag ++
    (if bad then [] else runChecks s hd hs (fun n => decide (n < 3)) ++ runChecks s hd hs (fun n => decide (3 ≤ n))) ++
    (if localCopy hd then copyRoom s else relRoom s))
/-- CPY: a strided copy under a tag (R265, R287, R288). -/
def execCpy (d a : BitVec 4) (t : BitVec 6) (s : State) : Answer :=
  let hd := rh s d
  let hs := rh s a
  .next (issue s (cpyChecks s hd hs t) [] (fun s =>
    let s := tagUp t s
    let x := cx s
    let rs := if shSpace hd = 3 ∨ shSpace hs = 3 then some { rga := x.rga, rgb := x.rgb, rgc := x.rgc } else none
    if localCopy hd then
      let r : CopyReq := { ctx := s.cur.ctx, id := s.nextId, hd := hd, hs := hs, tag := t, left := s.nextId, ranges := rs }
      { s with copyq := s.copyq ++ [r], nextId := s.nextId + 1 }
    else
      let own := fun (a : Access) => if a.id = s.nextId then { a with ranges := rs } else a
      let s1 := enterRel (.copy hd hs t) none s
      setCx s1 { cx s1 with rel := (cx s1).rel.map own }))

/-! Tag words (R290) -/

/-- The mask of a tag word, without bits outside the plan's set (R286, R290). -/
def tagMask (s : State) (a : BitVec 6) : Dbl := rs s a &&& planTags s s.cur.ctx
/-- TWALL: issues when every masked tag is idle (R290). -/
def execTwall (a : BitVec 6) (s : State) : Answer :=
  let m := tagMask s a
  if idleTags s &&& m = m then .next (results s []) else .next (waitFor s (.tagsAll a))
/-- TWANY: issues when a masked tag is idle, or the mask is 0 (R290). -/
def execTwany (d a : BitVec 6) (s : State) : Answer :=
  let m := tagMask s a
  let r := idleTags s &&& m
  if r ≠ 0 ∨ m = 0 then .next (results s [scalarOut 1 d r]) else .next (waitFor s (.tagsAny a))
/-- The lowest set bit, or 64 (R290). -/
def lowestBit (m : Dbl) : Nat := ((List.range 64).find? (fun j => m.getLsbD j)).getD 64
/-- TFFR (R290). -/
def execTffr (d a : BitVec 6) (s : State) : Answer :=
  .next (results s [scalarOut 1 d (BitVec.ofNat 64 (lowestBit (idleTags s &&& tagMask s a)))])

end Sys2Proof.Machine
end

