-- ==== Sys2Proof/Machine/Optical.lean ====
section
/-! DEFINITION. The words of major 0x1D: broadcast, receive, sync objects, group barriers and optical control
(18_package_broadcast.md R330 to R347, 23_program_drift_loop.md R414 to R417). -/

namespace Sys2Proof.Machine

/-- A bus of our station. -/
def getBus (s : State) (b : BitVec 2) : Bus := SMap.get {} s.buses b.toNat
/-- A bus put in its place. -/
def setBus (b : BitVec 2) (x : Bus) (s : State) : State := { s with buses := SMap.set {} s.buses b.toNat x }
/-- The group of an id. -/
def getGroup (s : State) (g : Nat) : Group := SMap.get {} s.groups g
/-- The sync object of an id. -/
def getObj (s : State) (o : Nat) : SyncObj := SMap.get {} s.objs o
/-- Whether the context's plan holds a group (R329). -/
def planGroup (s : State) (g : Nat) : Bool := !(getGroup s g).members.isEmpty && (getGroup s g).plan == (cx s).plan
/-- Whether the context's plan holds a sync object (R335). -/
def planObj (s : State) (o : Nat) : Bool :=
  match findPlan s (cx s).plan with
  | some p => p.objs.contains o
  | none => false

/-! Sending (R331) -/

/-- LEN of a descriptor of OBCST and ORED (R331). -/
def sendLen (d : Dbl) : Nat := d.toNat / 2 ^ 10 % 2 ^ 12
/-- A legal length (R331, R332). -/
def lenOk (n : Nat) : Bool := decide (8 ≤ n) && decide (n ≤ 2048) && n % 8 == 0
/-- The checks of OBCST and ORED in order (R331). -/
def sendChecks (s : State) (red : Bool) (d a : Dbl) (t : BitVec 6) : List Cause :=
  let g := d.toNat % 256
  let fmt := d.toNat / 2 ^ 22 % 4
  let bad := d.extractLsb' 24 8 != 0 || !lenOk (sendLen d) || decide ((if red then 1 else 0) < fmt)
  firstOf (tagChecks s t ++ failIf (!planGroup s g) (reasonCause g 1) ++ failIf bad (reasonCause g 2) ++
    alignIf (a.toNat % 8 != 0) a.toNat ++ rangeIf (!inScratch s (cx s).plan a.toNat (sendLen d)) a.toNat ++ relRoom s)
/-- The frame of a descriptor (R324, R331). -/
def sendFrame (s : State) (red : Bool) (d : Dbl) : Frame :=
  { kind := if red then 1 else 0, utag := d.extractLsb' 32 32, id := (d.extractLsb' 0 8).zeroExtend 12,
    len := d.extractLsb' 10 12, fmt := d.extractLsb' 22 2, bus := d.extractLsb' 8 2, sender := s.self,
    ctx := s.cur.ctx, payload := [] }
/-- OBCST and ORED: the tag's count rises and the frame enters the release buffer (R265, R286, R331). -/
def sendWord (red : Bool) (a b t : BitVec 6) (s : State) : Answer :=
  let d := rs s a
  let p := rs s b
  let f := sendFrame s red d
  .next (issue s (sendChecks s red d p t) [] (fun s => enterRel (.frame f p.toNat t) none (tagUp t s)))
/-- OBCST (R331). -/
def execObcst (a b t : BitVec 6) (s : State) : Answer := sendWord false a b t s
/-- ORED (R331). -/
def execOred (a b t : BitVec 6) (s : State) : Answer := sendWord true a b t s

/-! Receiving (R332) -/

/-- LEN of a receive descriptor (R332). -/
def recvLen (r : Dbl) : Nat := r.toNat / 2 ^ 11 % 2 ^ 12
/-- MODE: reduce (R332). -/
def recvReduce (r : Dbl) : Bool := r.getLsbD 10
/-- Bytes of the destination (R332). -/
def recvSpan (r : Dbl) : Nat := if recvReduce r && r.getLsbD 23 then 2 * recvLen r else recvLen r
/-- The checks of ORECV in order (R332). -/
def recvChecks (s : State) (r a : Dbl) : List Cause :=
  let g := r.toNat % 256
  let bad := r.extractLsb' 25 7 != 0 || !lenOk (recvLen r) || (!recvReduce r && r.getLsbD 23)
  firstOf (failIf (!planGroup s g) (reasonCause g 1) ++ failIf (!(getGroup s g).members.contains s.me) (reasonCause g 5) ++
    failIf bad (reasonCause g 2) ++ alignIf (a.toNat % 8 != 0) a.toNat ++
    rangeIf (!inScratch s (cx s).plan a.toNat (recvSpan r)) a.toNat)
/-- Receives that a context holds as a word of this cycle sees them: one that has posted in it still counts (R115, R332). -/
def armedOf (s : State) (x : Ctx) : Nat := x.recv.length + (x.rcvAt.filter (fun k => decide (s.cycle ≤ k))).length
/-- ORECV: arms a receive at the tick that takes it; waits at sixteen armed receives (R332). -/
def execOrecv (a b : BitVec 6) (s : State) : Answer :=
  let r := rs s a
  let p := rs s b
  let chk := recvChecks s r p
  if chk.isEmpty && decide (16 ≤ armedOf s (cx s)) then .next (waitFor s .receive)
  else
    .next (issue s chk [] (fun s =>
      let x := cx s
      let e : Recv := { id := s.nextId, bus := r.extractLsb' 8 2, group := r.extractLsb' 0 8, len := r.extractLsb' 11 12,
                        reduce := recvReduce r, bf16 := r.getLsbD 23, men := r.getLsbD 24, mtch := r.extractLsb' 32 32,
                        dst := p.toNat, tick := takenAt s }
      setCx { s with nextId := s.nextId + 1 } { x with recv := x.recv ++ [e] }))

/-! Sync objects (R336, R260) -/

/-- MEM_RANGE of an object that is not the plan's (R336). -/
def objCheck (s : State) (v : Dbl) : List Cause :=
  failIf (decide (4096 ≤ v.toNat) || !planObj s v.toNat) (reasonCause (v.toNat % 2 ^ 16) 3)
/-- A qfx entry (R338). -/
def qfxEntry (status kind obj : Nat) : Dbl := BitVec.ofNat 64 (status * 2 ^ 56 + kind * 2 ^ 52 + obj)
/-- An acquire in flight whose word a rollback discarded: it owes no entry (R260). -/
def ghost (x : Ctx) (o : AccOp) (a : Access) : Bool := a.op == o && !x.owed.any (fun w => w.id == a.id && w.val.isNone)
/-- ACQ and ACQS at issue: a grant kept by a rollback posts again, a request still under way is joined, and otherwise a
frame goes out (R260, R336). -/
def startAcquire (obj : BitVec 12) (shared : Bool) (s : State) : State :=
  let x := cx s
  let id := s.nextId
  let op : AccOp := .acquire obj shared
  if x.grants.contains (obj, shared) then
    let y := post id (qfxEntry 0 (b2n shared) obj.toNat) s.cycle (owe 3 id x)
    setCx { s with nextId := id + 1 } { y with grants := y.grants.erase (obj, shared), got := (obj, shared) :: y.got }
  else if x.out.any (ghost x op) then
    let join := fun (a : Access) => if ghost x op a then { a with id := id } else a
    setCx { s with nextId := id + 1 } (owe 3 id { x with out := x.out.map join })
  else leaveNow op (some 3) s
/-- ACQ and ACQS (R336). -/
def acquireWord (shared : Bool) (a : BitVec 6) (s : State) : Answer :=
  let v := rs s a
  .next (issue s (objCheck s v) [] (startAcquire (v.extractLsb' 0 12) shared))
/-- ACQ (R336). -/
def execAcq (a : BitVec 6) (s : State) : Answer := acquireWord false a s
/-- ACQS (R336). -/
def execAcqs (a : BitVec 6) (s : State) : Answer := acquireWord true a s
/-- REL: enters the release buffer with its tag mask (R265, R336). -/
def execRel (a b : BitVec 6) (s : State) : Answer :=
  let v := rs s a
  let m := rs s b
  .next (issue s (firstOf (objCheck s v ++ relRoom s)) [] (enterRel (.rel (v.extractLsb' 0 12) m) (some 3)))

/-! GBAR (R339) -/

/-- The checks of GBAR (R339). -/
def gbarChecks (s : State) (v : Dbl) : List Cause :=
  firstOf (failIf (decide (256 ≤ v.toNat) || !planGroup s v.toNat) (reasonCause (v.toNat % 2 ^ 16) 1) ++
    failIf (!(getGroup s v.toNat).members.contains s.me) (reasonCause v.toNat 5))
/-- GBAR: waits for the release of the group's episode (R339). -/
def execGbar (a : BitVec 6) (s : State) : Answer :=
  let v := rs s a
  let chk := gbarChecks s v
  if chk.isEmpty then
    match (cx s).relTick with
    | some t =>
      if seen s t then .next (issue s [] [] (fun s => setCx s { cx s with relTick := none, mark := none }))
      else .next (waitFor s (.group (v.extractLsb' 0 8)))
    | none => .next (waitFor s (.group (v.extractLsb' 0 8)))
  else .next (issue s chk [] id)

/-! Optical control (R340 to R347, R415) -/

/-- The view of a bus at a tick: the newest whose tick has come (R326, R346). -/
def viewAt (b : Bus) (t : Nat) : BusView :=
  (b.views.filter (fun v => decide (v.tick ≤ t))).getLastD { tick := 0, pos := 0, round := 0, present := 0 }
/-- The view that the current cycle has seen (R296, R346). -/
def viewSeen (s : State) (b : Bus) : BusView :=
  (b.views.filter (fun v => seen s v.tick)).getLastD { tick := 0, pos := 0, round := 0, present := 0 }
/-- OSTAT (R344). -/
def ostat (b : Bus) : Dbl :=
  BitVec.ofNat 64 (b2n b.mbad * 2 ^ 34 + b2n b.mpend * 2 ^ 33 + b.rsat.toNat * 2 ^ 16 + b.tsat.toNat)
/-- LEVEL: 0 as reset leaves it until 256 ticks have passed, then a free value (R343, log 11). -/
def levelReg (s : State) : Dbl := if tickNow s < s.pkg.resetAt + 256 then 0 else (Config.freeLevel s.free).zeroExtend 64
/-- A bus-block register (R341 to R346). -/
def busReg (s : State) (b : Bus) (o : Nat) : Dbl :=
  let v := viewSeen s b
  if o < 0x10 then (SMap.get 2048 b.theat o).zeroExtend 64
  else if o < 0x20 then levelReg s
  else if o < 0x31 then (SMap.get 2048 b.rheat (o - 0x20)).zeroExtend 64
  else if o < 0x51 then levelReg s
  else match o with
    | 0x60 => b.mapL
    | 0x61 => b.mapH
    | 0x62 => b.stagedL
    | 0x63 => b.stagedH
    | 0x64 => ostat b
    | 0x66 => v.present.extractLsb' 0 64
    | 0x67 => (v.present.extractLsb' 64 16).zeroExtend 64
    | 0x68 => b.dropc ++ b.frames
    | 0x69 => v.round ++ BitVec.ofNat 32 v.pos
    | _ => 0
/-- An assigned offset of a bus block (R341). -/
def busOffset (o : Nat) : Bool :=
  decide (o < 0x31) || (decide (0x40 ≤ o) && decide (o < 0x51)) || (decide (0x60 ≤ o) && decide (o ≤ 0x69))
/-- An offset that OSET may write: heaters, staged maps, OSTAT and MAPGO (R341). -/
def busWritable (o : Nat) : Bool :=
  decide (o < 0x10) || (decide (0x20 ≤ o) && decide (o < 0x31)) || (decide (0x62 ≤ o) && decide (o ≤ 0x65))
/-- The agent of a sync object is in this package: a bus's filters, or the fabric sync agent of the package of its
placement's first cluster (R335, R453). -/
def objHome (s : State) (o : Nat) : Bool :=
  (getObj s o).scope != 5 || s.plans.any (fun p => p.objs.contains o && p.clusters.head?.any (fun c => decide (c < 80)))
/-- The object word (R347, R453). -/
def objWord (s : State) (o : Nat) : Dbl :=
  let x := getObj s o
  let st := if x.excl.isSome then 1 else if x.shared.isEmpty then 0 else 2
  let h := match x.excl with | some r => r.core.toNat * 2 ^ 48 + r.ctx.toNat * 2 ^ 44 | none => 0
  if objHome s o then BitVec.ofNat 64 (st * 2 ^ 62 + x.scope.toNat * 2 ^ 59 + h + x.shared.length * 2 ^ 29 + x.waiters.length * 2 ^ 18)
  else BitVec.ofNat 64 (5 * 2 ^ 59)
/-- The group word (R347). -/
def groupWord (s : State) (g : Nat) : Dbl :=
  let x := getGroup s g
  BitVec.ofNat 64 (x.epoch.toNat * 2 ^ 48 + x.marked.length * 2 ^ 16 + x.members.length)
/-- Whether OGET may name an index (R340). -/
def readable (s : State) (v : Nat) : Bool :=
  if v < 0x400 then busOffset (v % 256)
  else if 0x1000 ≤ v && v < 0x2000 then planObj s (v - 0x1000)
  else if 0x2000 ≤ v && v < 0x2100 then planGroup s (v - 0x2000)
  else false
/-- Whether OSET may name an index: a writable bus register, by the cluster's optical service plan (R340). -/
def writable (s : State) (v : Nat) : Bool :=
  decide (v < 0x400) && busWritable (v % 256) && (match findPlan s (cx s).plan with | some p => p.optical | none => false)
/-- The value of an optical control register (R340). -/
def opticalReg (s : State) (v : Nat) : Dbl :=
  if v < 0x400 then busReg s (getBus s (BitVec.ofNat 2 (v / 256))) (v % 256)
  else if v < 0x2000 then objWord s (v - 0x1000)
  else groupWord s (v - 0x2000)
/-- Whether a register is a monitor, which takes a free level (R343). -/
def isMonitor (v : Nat) : Bool :=
  decide (v < 0x400) && ((decide (0x10 ≤ v % 256) && decide (v % 256 < 0x20)) || (decide (0x40 ≤ v % 256) && decide (v % 256 < 0x51)))

/-- A heater code in its range, and whether it was clamped (R342). -/
def clampHeat (v : Dbl) : BitVec 12 × Bool :=
  let c := v.toNat % 2 ^ 12
  if c < 128 then (128, true) else if 3967 < c then (3967, true) else (BitVec.ofNat 12 c, false)
/-- CH(i) of a pair of maps (R345). -/
def chOf (l h : Dbl) (i : Nat) : Nat := if i < 8 then l.toNat / 2 ^ (5 * i) % 32 else h.toNat / 2 ^ (5 * (i - 8)) % 32
/-- Sixteen distinct channels from 0 to 16 (R345). -/
def mapOk (l h : Dbl) : Bool :=
  let cs := (List.range 16).map (chOf l h)
  cs.all (fun c => decide (c ≤ 16)) && cs.dedup.length == 16
/-- The MAP frame of our station (R324, R345). -/
def mapFrame (s : State) (b : BitVec 2) : Frame :=
  { kind := 6, utag := 0, id := 0, len := 16, fmt := 0, bus := b, sender := BitVec.ofNat 11 (16 * s.myCluster), ctx := 0, payload := [] }
/-- A MAP or RESET frame is to enter the transmit queue at the tick that takes it (R296, R328, R345, R395). -/
def enqueueLate (f : Frame) (s : State) : State :=
  let x := getBus s f.bus
  setBus f.bus { x with late := x.late ++ [{ frame := f, tick := takenAt s }] } s
/-- The station is quiet: its quiet period has not ended, or the tick that takes its RESUME has not come (R416). -/
def isQuiet (s : State) (x : Bus) : Bool := x.quiet.isSome || x.resumeAt.any (fun r => decide (s.time < r * Config.ns))
/-- GO of MAPGO; resumed says that the same write ended the quiet period (R345, R415, R416). -/
def mapGo (b : BitVec 2) (quietNext resumed : Bool) (s : State) : State :=
  let x := getBus s b
  if x.mpend then s
  else if (isQuiet s x && !resumed) || !mapOk x.stagedL x.stagedH then setBus b { x with mbad := true } s
  else enqueueLate (mapFrame s b) (setBus b { x with mpend := true, quietNext := quietNext } s)
/-- The end of a quiet period (R415, R416). -/
def endQuiet (b : BitVec 2) (s : State) : State := setBus b { getBus s b with quiet := none } s
/-- RESUME: a quiet period ends at the tick that takes the write (R415, R416). -/
def resume (b : BitVec 2) (s : State) : State :=
  if (getBus s b).quiet.isSome then setBus b { getBus s b with quiet := none, resumeAt := some (takenAt s) } s else s
/-- A write of MAPGO (R345, R415). -/
def writeMapgo (b : BitVec 2) (v : Dbl) (s : State) : State :=
  if v.extractLsb' 3 61 ≠ 0 then s
  else
    let s1 := if v.getLsbD 2 then resume b s else s
    if v.getLsbD 0 then mapGo b (v.getLsbD 1) (v.getLsbD 2) s1 else s1
/-- A write of an optical control register takes effect (R340 to R345). -/
def opticalWrite (idx : Nat) (v : Dbl) (s : State) : State :=
  let b := BitVec.ofNat 2 (idx / 256)
  let x := getBus s b
  let o := idx % 256
  if o < 0x10 then
    let (c, sat) := clampHeat v
    setBus b { x with theat := SMap.set 2048 x.theat o c, tsat := if sat then x.tsat ||| (1#16 <<< o) else x.tsat } s
  else if 0x20 ≤ o && o < 0x31 then
    let (c, sat) := clampHeat v
    setBus b { x with rheat := SMap.set 2048 x.rheat (o - 0x20) c,
                      rsat := if sat then x.rsat ||| (1#17 <<< (o - 0x20)) else x.rsat } s
  else match o with
    | 0x62 => setBus b { x with stagedL := v &&& 0xFFFFFFFFFF } s
    | 0x63 => setBus b { x with stagedH := v &&& 0xFFFFFFFFFF } s
    | 0x64 => setBus b { x with mbad := x.mbad && !v.getLsbD 34, rsat := x.rsat &&& ~~~(v.extractLsb' 16 17),
                                tsat := x.tsat &&& ~~~(v.extractLsb' 0 16) } s
    | 0x65 => writeMapgo b v s
    | _ => s

/-- MEM_RANGE of a refused index (R340). -/
def indexCheck (ok : Bool) (v : Dbl) : List Cause := failIf (decide (2 ^ 16 ≤ v.toNat) || !ok) (reasonCause (v.toNat % 2 ^ 16) 4)
/-- OGET: the register is read at c+1 and lands at c+2 (R340). -/
def execOget (d a : BitVec 6) (s : State) : Answer :=
  let v := rs s a
  .next (issue s (indexCheck (readable s v.toNat) v) [{ scalarOut 2 d 0 with key := s.nextId + 1 }] (fun s =>
    { s with oget := s.oget ++ [(s.cycle + 1, s.nextId + 1, v.toNat)], nextId := s.nextId + 1 }))
/-- OSET: the register is written at c+1 (R340). -/
def execOset (a b : BitVec 6) (s : State) : Answer :=
  let v := rs s a
  let w := rs s b
  .next (issue s (indexCheck (writable s v.toNat) v) [] (fun s => { s with oset := s.oset ++ [(s.cycle + 1, v.toNat, w)] }))

/-- A value read for the result with a key, in flight or in the snapshot buffer (R340). -/
def fillKey (key : Nat) (v : Dbl) (s : State) : State :=
  let fill := fun (f : Flight) => if f.key == key then (match f.res with
    | .scalar i _ => { f with res := .scalar i v }
    | _ => f) else f
  let s1 := { s with flight := s.flight.map fill }
  allCtx.foldl (fun s c =>
    let x := getCtx s c
    if x.snap.any (fun e => e.key == key) then
      setCtx s c { x with snap := x.snap.map (fun e => if e.key == key then { e with data := v.zeroExtend 2048 } else e) }
    else s) s1
/-- The optical writes and then the optical reads of a cycle (R340). -/
def opticalCycle (s : State) : State :=
  let ws := s.oset.filter (fun w => decide (w.1 ≤ s.cycle))
  let gs := s.oget.filter (fun g => decide (g.1 ≤ s.cycle))
  let s1 := { s with oset := s.oset.filter (fun w => !decide (w.1 ≤ s.cycle)), oget := s.oget.filter (fun g => !decide (g.1 ≤ s.cycle)) }
  let s2 := ws.foldl (fun s w => opticalWrite w.2.1 w.2.2 s) s1
  gs.foldl (fun s g =>
    let s3 := fillKey g.2.1 (opticalReg s g.2.2) s
    if isMonitor g.2.2 then { s3 with free := s3.free + 1 } else s3) s2

end Sys2Proof.Machine
end

