-- ==== Sys2Proof/Machine/Matrix.lean ====
section
/-! DEFINITION. The matrix engine (08_matrix_engine.md R175 to R203): block products, fidelity slices, occupancy, the
words of pipe M and the microprogram routines. -/

namespace Sys2Proof.Machine

/-- MXSTAT flags OWN, COLL, FMIS, MPR and FDEM (R186). -/
def mxCOLL : Mx := 0x08
/-- OWN (R186). -/
def mxOWN : Mx := 0x10
/-- FMIS (R186). -/
def mxFMIS : Mx := 0x20
/-- MPR (R186). -/
def mxMPR : Mx := 0x40
/-- FDEM (R186). -/
def mxFDEM : Mx := 0x80

/-- Element width of an MF code (R175). -/
def mfWidth (mf : Nat) : Nat := if mf = 0 then 4 else if mf = 1 then 6 else if mf = 2 then 8 else if mf = 3 then 12 else 16
/-- Elements along k of a copy (R175). -/
def mfK (mf : Nat) : Nat := if mf = 0 then 128 else if mf = 1 then 64 else if mf = 2 then 64 else 32
/-- Container width of a B element in a row of MLDB (R52, R191). -/
def mfCont (mf : Nat) : Nat := if mf = 0 then 4 else if mf = 1 then 8 else if mf = 2 then 8 else 16
/-- Cycles that an MMA occupies its array (R175). -/
def mfPlanes (mf : Nat) : Nat := mfWidth mf
/-- Latency of an MMA or STEP (R175). -/
def mfLatency (mf : Nat) : Nat := mfWidth mf + 4
/-- The MX tag of an MF code; codes 5 to 7 have none and give a tag that no row accepts (R20, R188). -/
def mfTag (mf : Nat) : Option Tag := if mf < 5 then some (BitVec.ofNat 4 (9 + mf)) else none

/-! Block products (R176, R179, R181 to R183) -/

/-- Element b of B at k index j and column n of a copy (R191). -/
def bElem (mf : Nat) (data : BitVec 32768) (j n : Nat) : Int :=
  let c := mfCont mf
  signedOf (mfWidth mf) (data.toNat / 2 ^ (64 * c * j + c * n) % 2 ^ c)
/-- The scale of column n and block b (R177). -/
def bScale (scales : BitVec 2048) (n b : Nat) : BitVec 8 := scales.extractLsb' (8 * (n + 64 * b)) 8
/-- The elements of A that block b of array N meets (R176). -/
def aBlock (mf : Nat) (row : BitVec 2048) (arr b : Nat) : List Int :=
  let c := mfCont mf
  (List.range 32).map (fun i => signedOf (mfWidth mf) (lane row c (arr * mfK mf + 32 * b + i)))
/-- The A scale of block b of array N (R176). -/
def aScale (mf : Nat) (row : BitVec 2048) (arr b : Nat) : BitVec 8 := row.extractLsb' (8 * (arr * mfK mf / 32 + b)) 8
/-- A sum of products. -/
def dot : List Int → List Int → Int
  | a :: s, b :: t => a * b + dot s t
  | _, _ => 0
/-- The value of slice q of a whole-element cell below S3 (R181). -/
def sliceOf (q : Nat) (b : Int) : Int := b / 4 ^ q % 4

/-- One observed partial sum (R183): the free observation is clamped to the range of R182; the counts of clamps and of
residue mismatches. -/
def observe (w : Nat) (ps pobs : Int) : Int × Nat × Nat :=
  let lo : Int := -(96 * 2 ^ (w - 1))
  let hi : Int := 96 * (2 ^ (w - 1) - 1)
  (if pobs < lo then lo else if hi < pobs then hi else pobs, if pobs % 3 = ps % 3 then 0 else 1, if pobs < lo || hi < pobs then 1 else 0)

/-- One block of one lane: the integers S′, H, Fo of R179 and the counts of R183. level is the effective fidelity and
count numbers the free observations (log 14). -/
def blockOf (mf level count arr : Nat) (ng : Bool) (ra rs : BitVec 2048) (c : MCopy) (n b : Nat) : MBlock × Nat × Nat :=
  let w := mfWidth mf
  let as := aBlock mf ra arr b
  let bs := (List.range 32).map (fun i => bElem mf c.data (32 * b + i) n)
  let s := dot as bs
  let sl := (List.range level).map (fun q =>
    let ps := dot as (bs.map (sliceOf q))
    (4 ^ q * ps, q, observe w ps (Config.freeSum count (n * 4 + b) q)))
  let h := s - sl.foldl (fun a x => a + x.1) 0
  let f := sl.foldl (fun a x => a + 4 ^ x.2.1 * x.2.2.1) 0
  let sg : Int := if ng then -1 else 1
  ({ xa := aScale mf rs arr b, xb := bScale c.scales n b, s := sg * (h + f), h := sg * h, f := sg * f },
   sl.foldl (fun a x => a + x.2.2.2.1) 0, sl.foldl (fun a x => a + x.2.2.2.2) 0)

/-- All lanes of an MMA or STEP, each with its blocks in ascending order (R180). -/
def blocksOf (mf level count arr : Nat) (ng : Bool) (ra rs : BitVec 2048) (c : MCopy) : List (List (MBlock × Nat × Nat)) :=
  (List.range 64).map (fun n => (List.range (mfK mf / 32)).map (blockOf mf level count arr ng ra rs c n))

/-- The effective fidelity: the FD field or FIDEL, F0 in a rerun (R182, R262); and whether FDEM is set. -/
def fidelity (x : Ctx) (fd mf : Nat) : Nat × Bool :=
  let want := if fd = 3 then x.bank.fidel.toNat % 4 else fd
  if x.rerun.phase ≠ 0 then (0, false)
  else if want ≠ 0 && (mf = 0 || mf = 3 || mf = 4) then (0, true)
  else (want, false)

/-! Occupancy (R187) -/

/-- Rule 1 or 2 of an MMA to an array at the current cycle (R187). -/
def mmaBlocked (s : State) (arr : BitVec 2) (mf : Nat) : Bool :=
  let m := getArr s.matrix arr
  decide (s.cycle < m.busy) ||
    (match m.swap with
      | some c => decide (s.cycle < c) && decide (c ≤ s.cycle + mfPlanes mf - 1)
      | none => false)
/-- Rule 3: an MLDB to the array has not yet swapped (R187). -/
def mldbBlocked (s : State) (arr : BitVec 2) : Bool :=
  match (getArr s.matrix arr).swap with
  | some c => decide (s.cycle < c)
  | none => false
/-- Rule 4: a routine is running or pending (R187). -/
def routineOn (s : State) : Bool := s.matrix.run.isSome || s.matrix.pend.isSome

/-- The flag that refuses a word, if any: ownership, then collision (R178, R187). -/
def refusal (s : State) (own coll : Bool) : Option Mx :=
  if !own then some mxOWN else if coll || routineOn s then some mxCOLL else none

/-- The array taken by an MMA or STEP that issues at the current cycle (R187). -/
def occupy (arr : BitVec 2) (mf : Nat) (s : State) : State :=
  { s with matrix := setArr s.matrix arr { getArr s.matrix arr with busy := s.cycle + mfPlanes mf },
           nextId := s.nextId + 1, free := s.free + 1 }

/-! The words of pipe M -/

/-- The checks of an MMA at issue, in order (R30, R189). -/
def mmaChecks (s : State) (d a : BitVec 8) (na : Bool) (mf : Nat) : List Cause :=
  needRow s a (fun t => some t == mfTag mf) ++ needRow s (groupRow a 1) (fun t => t == 0) ++
    (if na then [] else needRow s d (fun t => t == 4)) ++ needGroup s a 2

/-- The result of an MMA that computes: the row is that of the physical index given (R179, R180, R182, R183). -/
def mmaRes (s : State) (x : Ctx) (d a : BitVec 8) (arr : BitVec 2) (ng na : Bool) (fd mf : Nat) (step : Bool) : Res × Mx :=
  let ra := (x.getV (physV x.bank a)).data
  let rs := (x.getV (physV x.bank (groupRow a 1))).data
  let (level, dem) := fidelity x fd mf
  let all := blocksOf mf level s.free arr.toNat ng ra rs (getArr s.matrix arr).active
  let cnt := fun (f : MBlock × Nat × Nat → Nat) => all.foldl (fun a l => l.foldl (fun a b => a + f b) a) 0
  (.mma (physV x.bank d) arr na (mfWidth mf) (level != 0) step true (all.map (fun l => l.map (·.1)))
    (cnt (fun b => b.2.1)) (cnt (fun b => b.2.2)), if dem then mxFDEM else 0)

/-- MMA: an MX row times the B tile of an array, added to an FP32 row; refused, colliding and misformatted words write
NaN rows (R178, R187, R188, R189). -/
def execMma (d a : BitVec 8) (w : BitVec 2) (g n : Bool) (f : BitVec 2) (m : BitVec 3) (s : State) : Answer :=
  let mf := m.toNat
  let chk := mmaChecks s d a n mf
  let nan := fun (fl : Mx) => (.next (issue s chk [{ rowOut s (mfLatency mf) d 4 nanRow 0 fl with key := s.nextId + 1 }]
    (fun s => { s with nextId := s.nextId + 1 })) : Answer)
  match refusal s (cx s).bank.mown (mmaBlocked s w mf) with
  | some fl => nan fl
  | none =>
    if (getArr s.matrix w).active.fmt ≠ m then nan mxFMIS
    else
      let (r, fl) := mmaRes s (cx s) d a w g n f.toNat mf false
      .next (issue s chk [{ lat := mfLatency mf, res := r, mx := fl, key := s.nextId + 1 }] (occupy w mf))

/-! MLDB (R191) -/

/-- A shape record with its BASE moved by bytes (R198). -/
def moveBase (h : BitVec 256) (by_ : Int) : BitVec 256 :=
  BitVec.ofInt 64 ((shBase h : Int) + by_) ++ h.extractLsb' 0 192
/-- The MF code that the FMT of a record names (R191). -/
def shMf (h : BitVec 256) : Nat := (shFmt h).toNat - 9
/-- The values that MLDB needs in hb and in its scale record (R19, R191). -/
def mldbShape (h hs : BitVec 256) : Bool :=
  let k := mfK (shMf h)
  shapeOk h && shSpace h == 0 && tagMx (shFmt h) && shDim0 h == 64 && shDim1 h == k && shDim2 h == 1 &&
    shStride0 h == 0 && shStride2 h == 0 &&
    (!shScv h || (shapeOk hs && shSpace hs == 0 && shFmt hs == 0 && shDim0 hs == 64 && shDim1 hs == k / 32 &&
      shDim2 hs == 1 && shStride2 hs == 0))
/-- Bytes of one B row (R191). -/
def bRowBytes (mf : Nat) : Nat := 8 * mfCont mf
/-- The address of B row j (R191). -/
def bRowAddr (h : BitVec 256) (j : Nat) : Nat := (BitVec.ofInt 64 ((shBase h : Int) + j * shStride1 h)).toNat
/-- The address of the scale of column n and block b (R191). -/
def bScaleAddr (hs : BitVec 256) (n b : Nat) : Nat :=
  (BitVec.ofInt 64 ((shBase hs : Int) + n * shStride0 hs + b * shStride1 hs)).toNat
/-- The address checks of MLDB for a plan: rows in ascending j, then scales (R191). -/
def mldbAddrs (s : State) (plan : Nat) (h hs : BitVec 256) : List Cause :=
  let mf := shMf h
  let n := bRowBytes mf
  (List.range (mfK mf)).flatMap (fun j =>
      alignIf (decide (bRowAddr h j % n ≠ 0)) (bRowAddr h j) ++ rangeIf (!inScratch s plan (bRowAddr h j) n) (bRowAddr h j)) ++
    (if shScv h then (List.range 64).flatMap (fun c => (List.range (mfK mf / 32)).flatMap (fun b =>
      rangeIf (!inScratch s plan (bScaleAddr hs c b) 1) (bScaleAddr hs c b))) else [])
/-- The checks of an MLDB (R191). -/
def mldbChecks (s : State) (plan : Nat) (h hs : BitVec 256) : List Cause :=
  if mldbShape h hs then mldbAddrs s plan h hs else [⟨4, 0x05, 0⟩]
/-- What an MLDB reads at its issue (R177, R191). -/
def mldbRes (s : State) (arr : BitVec 2) (h hs : BitVec 256) : Res :=
  let mf := shMf h
  let n := bRowBytes mf
  let data := (List.range (mfK mf)).flatMap (fun j => scratchRead s (bRowAddr h j) n)
  let sc := (List.range (mfK mf / 32)).flatMap (fun b => (List.range 64).flatMap (fun c =>
    if shScv h then scratchRead s (bScaleAddr hs c b) 1 else [0x7F]))
  .mldb arr (BitVec.ofNat 3 mf) (bytesBv 32768 data) (bytesBv 2048 sc)
/-- An MLDB to the array is in flight until its swap (R187, R191). -/
def startSwap (arr : BitVec 2) (s : State) : State :=
  { s with matrix := setArr s.matrix arr { getArr s.matrix arr with swap := some (s.cycle + 20) } }

/-- MLDB: fills the shadow copy of an array and swaps at c+20 (R187, R191). -/
def execMldb (w : BitVec 2) (h : BitVec 4) (s : State) : Answer :=
  let hb := rh s h
  let hs := rh s (shScaleH hb)
  let chk := mldbChecks s (cx s).plan hb hs
  match refusal s (cx s).bank.mown (mldbBlocked s w) with
  | some fl => .next (issue s chk [{ lat := 20, res := .flags, mx := fl }] id)
  | none => .next (issue s chk [{ lat := 20, res := mldbRes s w hb hs }] (startSwap w))

/-- MDRN: drains a side accumulator into a row (R178, R187, R192). -/
def execMdrn (vd : BitVec 8) (sel : Bool) (w : BitVec 2) (s : State) : Answer :=
  match refusal s (cx s).bank.mown false with
  | some fl => .next (results s [rowOut s 6 vd 4 nanRow 0 fl])
  | none => .next (results s [{ lat := 6, res := .mdrn (physV (cx s).bank vd) w sel none }])

/-- MFID: FIDEL.LEVEL (R193). -/
def execMfid (n : BitVec 2) (s : State) : Answer :=
  .next (results s [{ lat := 1, res := .creg 0x08 (n.zeroExtend 64) }])

/-- The write that an MPROG asks for, if its index is allowed (R195). -/
def mprogRes (s : State) (a v : Dbl) : Option Res :=
  if a.extractLsb' 16 47 ≠ 0 then none
  else if a.getLsbD 63 then some (.mprogEntry (a.extractLsb' 0 6) (v.extractLsb' 0 16))
  else if (a.extractLsb' 0 16).toNat < s.matrix.size then some (.mprogWord (a.extractLsb' 0 16).toNat v)
  else none
/-- MPROG: a word of the microprogram store or an entry of the routine table (R178, R187, R195). -/
def execMprog (a b : BitVec 6) (s : State) : Answer :=
  match refusal s (cx s).bank.mown false with
  | some fl => .next (results s [{ lat := 2, res := .flags, mx := fl }])
  | none =>
    match mprogRes s (rs s a) (rs s b) with
    | some r => .next (results s [{ lat := 2, res := r }])
    | none => .next (results s [{ lat := 2, res := .flags, mx := mxMPR }])

/-- Engine status, routine layout (R194, R201). -/
def mstat0 (m : Matrix) : Dbl :=
  let i := fun (r : Option MRoutine) => (r.map (fun x => x.idx.toNat)).getD 0
  let p := (m.run.map (fun x => x.prog)).getD m.prog
  BitVec.ofNat 64 (p.toNat * 2 ^ 32 + i m.pend * 2 ^ 16 + i m.run * 2 ^ 8 + b2n m.pend.isSome * 2 + b2n m.run.isSome)
/-- Engine status, array layout (R194). -/
def mstat1 (s : State) : Dbl :=
  BitVec.ofNat 64 ((List.range 4).foldl (fun v n =>
    let a := getArr s.matrix (BitVec.ofNat 2 n)
    v + b2n (mldbBlocked s (BitVec.ofNat 2 n)) * 2 ^ (28 + n) + b2n (decide (s.cycle < a.busy)) * 2 ^ (24 + n) +
      a.shadow.fmt.toNat * 2 ^ (3 * n + 12) + a.active.fmt.toNat * 2 ^ (3 * n)) 0)
/-- MSTAT (R194). -/
def execMstat (d sel : BitVec 6) (s : State) : Answer :=
  .next (results s [scalarOut 2 d (if sel = 0 then mstat0 s.matrix else mstat1 s)])

/-! Routines (R196 to R201) -/

/-- A qmx entry (R197). -/
def qmxEntry (status : BitVec 8) (idx : BitVec 6) (word : BitVec 16) (steps : BitVec 32) : Dbl :=
  BitVec.ofNat 64 (status.toNat * 2 ^ 56 + idx.toNat * 2 ^ 50 + word.toNat * 2 ^ 32 + steps.toNat)

/-- An MCALL that fails: its entry posts at c+1 (R196). -/
def mcallFail (s : State) (status : BitVec 8) (idx : BitVec 6) (fl : Mx) : Answer :=
  .next (issue s [] [{ lat := 1, res := .flags, mx := fl }] (fun s =>
    let id := s.nextId
    setCx { s with nextId := id + 1 } (post id (qmxEntry status idx 0 0) (s.cycle + 1) (owe 2 id (cx s)))))

/-- MCALL: starts or queues a routine with a copy of m0 to m7 (R178, R196, R199). -/
def execMcall (i : BitVec 6) (s : State) : Answer :=
  let e := SMap.get 0xFFFF s.matrix.table i.toNat
  if !(cx s).bank.mown then mcallFail s 2 i mxOWN
  else if s.matrix.run.isSome && s.matrix.pend.isSome then mcallFail s 1 i mxCOLL
  else if e = 0xFFFF then mcallFail s 3 i 0
  else
    .next (issue s [] [] (fun s =>
      let id := s.nextId
      let r : MRoutine := { idx := i, id := id, m := (cx s).bank.m, next := e.toNat, base := e.toNat, start := s.cycle + 2 }
      let m := s.matrix
      let m' := if m.run.isSome then { m with pend := some r } else { m with run := some r, prog := 0 }
      setCx { s with nextId := id + 1, matrix := m' } (owe 2 id (cx s))))

/-- The owner of the engine among the contexts in a slot (R178). -/
def mxOwner (s : State) : Option CtxId :=
  allCtx.find? (fun c =>
    let x := getCtx s c
    x.bank.mown && (x.st == .running || x.st == .blocked || x.st == .held))

/-- The routine's end or stop at the current cycle (R199): the pending one begins at the next cycle at the earliest. -/
def endRoutine (s : State) (r : MRoutine) (status : BitVec 8) (word : Nat) : State :=
  let r' := { r with status := status, word := if status = 0 then 0 else BitVec.ofNat 16 word }
  let nxt := s.matrix.pend.map (fun p => { p with start := max p.start (s.cycle + 1) })
  let m := { s.matrix with run := nxt, pend := s.matrix.more.head?, more := s.matrix.more.drop 1, ending := s.matrix.ending ++ [r'],
                           prog := if nxt.isSome then 0 else r.prog }
  { s with matrix := m }

/-- The signed 8-bit or 16-bit step of a parameter. -/
def stepBits (v : Dbl) (lo w : Nat) : Int := signedOf w (v.toNat / 2 ^ lo)
/-- A row index of a STEP, modulo 256 (R198). -/
def stepRow (base : Nat) (step : Int) (j : Nat) : BitVec 8 := BitVec.ofInt 8 ((base : Int) + j * step)

/-- A word of an engine put in flight for the owner, ahead of the bundles of the cycle (R91, R199). -/
def engineFlight (s : State) (c : CtxId) (lat : Nat) (r : Res) (mx : Mx) (key : Nat) : State :=
  { s with flight := s.flight ++
      [{ ctx := c, land := s.cycle + lat, seq := s.seq, slot := 0, res := r, fp := 0, mx := mx, key := key }] }

/-- What a routine does next. -/
inductive MNext where
  | wait
  | go (s : State) (r : MRoutine)
  | stop (s : State) (r : MRoutine) (status : BitVec 8) (word : Nat)
  deriving DecidableEq, Repr

/-- A word of a routine has issued: the next one may at the next cycle (R199). -/
def passWord (s : State) (lat : Nat) (r : MRoutine) : MRoutine :=
  { r with next := r.next + 1, issued := true, start := s.cycle + 1, last := max r.last (s.cycle + lat) }
/-- A STEP: the effect of an MMA, with the owner's rows, tags and FIDEL at its own issue. The first word of a routine has a
fixed cycle, so a STEP that is first collides as an MMA does; a later one waits (R187, R189, R199). -/
def stepWord (s : State) (c : CtxId) (r : MRoutine) (w : Dbl) : MNext :=
  let f := fun (lo n : Nat) => w.toNat / 2 ^ lo % 2 ^ n
  let x := getCtx s c
  let arr := BitVec.ofNat 2 (f 58 2)
  let mf := f 55 3
  let p := SMap.get 0 r.m (f 48 3)
  let d := stepRow (p.toNat / 2 ^ 16 % 256) (stepBits p 24 8) r.j
  let a := stepRow (p.toNat % 256) (stepBits p 8 8) r.j
  let tag := fun (i : BitVec 8) => (x.getV (physV x.bank i)).tag
  let na := w.getLsbD 51
  let lat := mfLatency mf
  let nan := fun (fl : Mx) => MNext.go (engineFlight s c lat (.stepNan (physV x.bank d)) fl (r.id + 1)) (passWord s lat r)
  if r.issued && mmaBlocked s arr mf then .wait
  else if !(some (tag a) == mfTag mf) || tag (groupRow a 1) != 0 || (!na && tag d != 4) || rotSpan x.bank a 2 ||
      (rotOn x.bank && a == 255) then
    .stop s r 6 r.next
  else if mmaBlocked s arr mf then nan mxCOLL
  else if (getArr s.matrix arr).active.fmt.toNat ≠ mf then nan mxFMIS
  else
    let (res, fl) := mmaRes s x d a arr (w.getLsbD 52) na (f 53 2) mf true
    .go (occupy arr mf (engineFlight s c lat res fl (r.id + 1))) (passWord s lat r)

/-- A LOAD: the effect of an MLDB with the bases advanced; one that is the first word collides as an MLDB does (R187, R191,
R198, R199). -/
def loadWord (s : State) (c : CtxId) (r : MRoutine) (w : Dbl) : MNext :=
  let f := fun (lo n : Nat) => w.toNat / 2 ^ lo % 2 ^ n
  let x := getCtx s c
  let arr := BitVec.ofNat 2 (f 58 2)
  let p := SMap.get 0 r.m (f 51 3)
  let h0 := x.bank.getH (BitVec.ofNat 4 (f 54 4))
  let h := moveBase h0 (r.j * 64 * stepBits p 48 16)
  let hs := moveBase (x.bank.getH (shScaleH h0)) (r.j * stepBits p 32 16)
  if r.issued && mldbBlocked s arr then .wait
  else if !(mldbChecks s x.plan h hs).isEmpty then .stop s r 5 r.next
  else if mldbBlocked s arr then .go (engineFlight s c 20 .flags mxCOLL (r.id + 1)) (passWord s 20 r)
  else .go (startSwap arr (engineFlight s c 20 (mldbRes s arr h hs) 0 (r.id + 1))) (passWord s 20 r)

/-- One microword (R198, R199). -/
def microWord (s : State) (c : CtxId) (r : MRoutine) : MNext :=
  let w := SMap.get 0 s.matrix.store r.next
  let op := w.toNat / 2 ^ 60
  let bad := MNext.stop s r 4 r.next
  if s.matrix.size ≤ r.next then bad
  else match op with
    | 0 => if w.extractLsb' 0 60 ≠ 0 then bad else .stop s r 0 0
    | 1 => if w.extractLsb' 0 48 ≠ 0 then bad else if s.cycle < r.start then .wait else stepWord s c r w
    | 2 => if w.extractLsb' 0 51 ≠ 0 then bad else if s.cycle < r.start then .wait else loadWord s c r w
    | 3 =>
      let n := (w.extractLsb' 48 12).toNat
      if w.extractLsb' 0 48 ≠ 0 || n = 0 || r.rept.isSome then bad
      else .go s { r with next := r.next + 1, rept := some (r.next + 1), left := n, j := 0 }
    | 4 =>
      match r.rept with
      | some q =>
        if w.extractLsb' 0 60 ≠ 0 then bad
        else if 1 < r.left then .go s { r with next := q, left := r.left - 1, j := r.j + 1 }
        else .go s { r with next := r.next + 1, rept := none, left := 0, j := 0 }
      | none => bad
    | _ => bad

/-- The microwords of one cycle: REPT, NEXT and END take no cycle; a STEP or LOAD ends the cycle's issue (R199). -/
def runWords (c : CtxId) : Nat → State → MRoutine → State
  | 0, s, r => { s with matrix := { s.matrix with run := some r } }
  | fuel + 1, s, r =>
    match microWord s c r with
    | .wait => { s with matrix := { s.matrix with run := some r } }
    | .go s' r' => runWords c fuel s' r'
    | .stop s' r' status word => endRoutine s' r' status word

/-- Whether the routine may go on at this cycle: not before its first word (R199). -/
def begun (s : State) (r : MRoutine) : Bool := decide (r.start ≤ s.cycle) || r.issued

/-- The running routine at a cycle, ahead of its bundles; after a load it waits for S (R135, R199, R202). -/
def routineCycle (s : State) : State :=
  match mxOwner s, s.matrix.run with
  | some c, some r => if !s.matrix.hold && begun s r then runWords c (2 ^ 24) s r else s
  | _, _ => s

/-- The qmx entries of ended routines whose last landing has come: they post at the next cycle (R199). -/
def postEnded (s : State) : State :=
  let due := s.matrix.ending.filter (fun r => decide (r.last ≤ s.cycle))
  let s1 := { s with matrix := { s.matrix with ending := s.matrix.ending.filter (fun r => !decide (r.last ≤ s.cycle)) } }
  allCtx.foldl (fun s c =>
    let x := getCtx s c
    if x.bank.mown then setCtx s c (due.foldl (fun x r => post r.id (qmxEntry r.status r.idx r.word r.prog) (s.cycle + 1) x) x) else s) s1

end Sys2Proof.Machine
end

