-- ==== Sys2Proof/Machine/Rollback.lean ====
section
/-! DEFINITION. Checkpoints, rollback, reruns and retirement (11_core_faults.md R257 to R267), with CKPT (R107) and SYS
(R109), which may end a rerun. -/

namespace Sys2Proof.Machine

/-! Signatures (R263) -/

/-- One bit of CRC-64 with the ECMA-182 polynomial. -/
def crcBit (c : BitVec 64) : BitVec 64 := if c.getLsbD 63 then (c <<< 1) ^^^ 0x42F0E1EBA9EA3693 else c <<< 1
/-- One byte into CRC-64. -/
def crcByte (c : BitVec 64) (b : Byte) : BitVec 64 :=
  crcBit (crcBit (crcBit (crcBit (crcBit (crcBit (crcBit (crcBit (c ^^^ (b.zeroExtend 64 <<< 56)))))))))
/-- Bytes into CRC-64. -/
def crcBytes (c : BitVec 64) (bs : List Byte) : BitVec 64 := bs.foldl crcByte c
/-- A record: destination class, place, bytes (R263; the encoding of the destination is the model's, log 19). -/
def record (cls place : Nat) (bs : List Byte) : List Byte := leBytes 1 cls ++ leBytes 8 place ++ bs
/-- The bytes of a row that a set of bits covers. -/
def writtenBytes (data bits : BitVec 2048) : List Byte :=
  ((rowBytes data).zip (rowBytes bits)).filterMap (fun p => if p.2 = 0 then none else some p.1)
/-- The record of a result as it was written: its destination and its bytes (R263). -/
def resRecord (r : Res) : List Byte :=
  match r with
  | .scalar i v => record 0 i.toNat (leBytes 8 v.toNat)
  | .pred i b => record 1 i.toNat (leBytes 1 (b2n b))
  | .preds v => record 1 255 (leBytes 4 v.toNat)
  | .mask i v => record 2 i.toNat (leBytes 8 v.toNat)
  | .mparam i v => record 6 i.toNat (leBytes 8 v.toNat)
  | .creg i v => record 8 i.toNat (leBytes 8 v.toNat)
  | .rotate v => record 8 6 (leBytes 8 v.toNat)
  | .advance v => record 8 12 (leBytes 8 v.toNat)
  | .shape i v => record 7 i.toNat (leBytes 32 v.toNat)
  | .row i _ d bits => record 3 i.toNat (writtenBytes d bits)
  | .latch i _ d => record 4 i.toNat (rowBytes d)
  | .reduce i l _ _ v _ _ => record 4 i.toNat (leBytes 1 l.toNat ++ leBytes 4 v.toNat)
  | .dist i d _ _ => record 5 i.toNat (leBytes 1536 d.toNat)
  | .distPart i _ d => record 5 i.toNat (rowBytes d)
  | .dtag i a b => record 5 i.toNat (leBytes 4 a.toNat ++ leBytes 4 b.toNat)
  | .scratch a bs => record 9 a bs
  | .mirror a bs => record 10 a bs
  | .flags => []
  | .mma _ _ _ _ _ _ _ _ _ _ => []
  | .mdrn _ _ _ _ => []
  | .stepNan _ => []
  | .mldb _ _ d c => record 12 0 (leBytes 4096 d.toNat ++ leBytes 256 c.toNat)
  | .mprogWord i v => record 13 i (leBytes 8 v.toNat)
  | .mprogEntry i v => record 14 i.toNat (leBytes 2 v.toNat)
/-- The record of a release-buffer entry (R263). -/
def relRecord (o : AccOp) : List Byte :=
  match o with
  | .global op ia rg _ _ fn => record 16 ia (leBytes 1 fn.toNat ++ leBytes 1 rg ++ (match op with
      | .store _ x => leBytes 8 x.toNat
      | .atomic _ _ x c => leBytes 8 x.toNat ++ leBytes 8 c.toNat
      | .xadd x => leBytes 4 x.toNat
      | _ => []))
  | .push _ _ _ => []
  | .gws ia _ src len fa _ add v => record 17 ia (leBytes 8 src ++ leBytes 8 len ++ leBytes 8 fa ++ leBytes 1 (b2n add) ++ leBytes 8 v.toNat)
  | .peer p v => record 18 p (leBytes 8 (v.getD 0).toNat)
  | .host p v => record 19 p (leBytes 8 (v.getD 0).toNat)
  | .copy d a t => record 20 t.toNat (leBytes 32 d.toNat ++ leBytes 32 a.toNat)
  | .frame f p t => record 21 p (leBytes 1 t.toNat ++ leBytes 1 f.kind.toNat ++ leBytes 2 f.id.toNat ++ leBytes 2 f.len.toNat ++
      leBytes 1 f.bus.toNat ++ leBytes 1 f.fmt.toNat ++ leBytes 4 f.utag.toNat)
  | .rel o m => record 22 o.toNat (leBytes 8 m.toNat)
  | .gfence => []
  | .acquire _ _ => []
/-- Bytes into the signature of a context in a rerun (R263). -/
def signCtx (bs : List Byte) (x : Ctx) : Ctx :=
  if x.rerun.phase = 0 then x else { x with rerun := { x.rerun with sig := crcBytes x.rerun.sig bs } }
/-- A write of a cycle for the signatures: context, issue rank, slot, record. -/
abbrev SignedWrite := CtxId × Nat × Nat × List Byte
/-- A landed result as such a write. -/
def signedRes (f : Flight) : SignedWrite := (f.ctx, f.seq, f.slot, resRecord f.res)
/-- A row write of BWR as such a write. -/
def signedRow (w : RowWrite) : SignedWrite :=
  (w.ctx, w.seq, w.slot, record 11 (w.bank.toNat * 2 ^ 17 + w.row.toNat * 16 + w.col.toNat) w.bytes)
/-- The writes of a cycle into the signatures, in issue order and then in slot order; replays and row writes stand where
their words issued (R131, R263). -/
def signWrites (l : List SignedWrite) (s : State) : State :=
  (sortBy (fun a b => decide (a.2.1 < b.2.1) || (a.2.1 == b.2.1 && decide (a.2.2.1 ≤ b.2.2.1))) l).foldl (fun s w =>
    let x := getCtx s w.1
    if x.rerun.phase = 0 then s else setCtx s w.1 (signCtx w.2.2.2 x)) s
/-- The entries that the release buffer of a context has beyond a length into its signature (R263). -/
def signRel (c : CtxId) (old : Nat) (s : State) : State :=
  let x := getCtx s c
  if x.rerun.phase = 0 then s else setCtx s c (signCtx ((x.rel.drop old).flatMap (fun a => relRecord a.op)) x)

/-! Checkpoints (R107, R259, R260) -/

/-- The banks of a plan among those listed (R259). -/
def ownedBanks (s : State) (seq : Nat) : List (Nat × VBank) := s.vault.banks.filter (fun b => bankOwn s seq b.1 == 0)
/-- The engine as a checkpoint copy takes it: a routine that has ended with STEPs still to land is copied as running, so that
it goes on from its progress counter, and those called after it follow (R201, R259; DEDUCED, log 76). -/
def engineCopy (s : State) : Matrix :=
  let m := s.matrix
  let l := m.ending.filter (fun r => decide (s.cycle < r.last)) ++ m.run.toList ++ m.pend.toList ++ m.more
  { m with ending := m.ending.filter (fun r => !decide (s.cycle < r.last)), run := l.head?, pend := l[1]?, more := l.drop 2 }
/-- The checkpoint copy that a context takes at an address (R259). -/
def copyOf (s : State) (c : CtxId) (addr : Dbl) (entry : Bool) : Ckpt :=
  let x := getCtx s c
  { bank := x.bank, pc := addr, id := s.nextId, matrix := if x.bank.mown then some (engineCopy s) else none,
    banks := ownedBanks s x.plan, tiers := s.vault.tiers, entry := entry }
/-- The CKPT takes effect: rollback point and commit (R107, R259, R260). -/
def takeCkpt (c : CtxId) (addr : Dbl) (s : State) : State :=
  let x := getCtx s c
  setCtx s c { x with ckpt := some (copyOf s c addr false), commit := x.rel.length, popped := [], xch := false, got := [],
                      grants := [], rerun := {} }

/-- The cycles at which fixed-latency results of earlier bundles are still to land: the entries of R129 in flight, the
replays, row writes of BWR, and the entries that wait for the end of a handler, which are counted as if the restart were at
the next cycle (R107, R129, R131, R384; log 62). -/
def landsLeft (s : State) (c : CtxId) : List Nat :=
  let x := getCtx s c
  x.snap.map (fun e => x.replayAt.getD (s.cycle + 1) + e.offset) ++
  (s.flight.filter (fun f => f.ctx == c && decide (s.cycle < f.land) && decide (f.seq < s.seq) &&
    decide (0 < f.res.entries f.fp f.mx))).map (·.land) ++
  (s.vault.writes.filter (fun w => w.ctx == c && decide (s.cycle < w.land))).map (·.land)
/-- A fixed-latency result of an earlier bundle to a register or memory has not landed (R107). -/
def inFlight (s : State) (c : CtxId) : Bool := !(landsLeft s c).isEmpty
/-- Cycles until the last of them lands (R116). -/
def flightLeft (s : State) (c : CtxId) : Nat := (landsLeft s c).foldl (fun m l => max m (l - s.cycle)) 0

/-! Rollback (R259 to R261, R264) -/

/-- Rows with their tags UNSET and their bits kept (R259). -/
def unsetRows (l : List (Nat × Row)) : List (Nat × Row) :=
  (l.filter (fun p => p.2.data != 0)).map (fun p => (p.1, { p.2 with tag := 15 }))
/-- Distribution registers with their tags UNSET (R259). -/
def unsetDists (l : List (Nat × Dist)) : List (Nat × Dist) :=
  (l.filter (fun p => p.2.data != 0 || p.2.sset != 0 || p.2.lin != 0)).map (fun p => (p.1, { p.2 with tag := 15 }))
/-- The tags that discarded release-buffer entries release (R286). -/
def discardTags (l : List Access) (s : State) : State :=
  l.foldl (fun s a => match a.op with
    | .copy _ _ t => tagDown t s
    | .frame _ _ t => tagDown t s
    | _ => s) s
/-- The queues as at the CKPT (R260). -/
def restoreQueues (id : Nat) (x : Ctx) : Ctx :=
  let put := fun (x : Ctx) (q : BitVec 2) =>
    let back := (x.popped.filter (fun p => p.1 == q)).map (fun p => (p.2.1, p.2.2))
    setQueue x q ((back ++ queueOf x q).filter (fun e => decide (e.1 < id)))
  let y := [0, 1, 2, 3].foldl put x
  { y with popped := [], owed := y.owed.filter (fun o => decide (o.id < id)),
           arriving := y.arriving.filter (fun a => decide (a.2.1 < id)),
           fences := y.fences.filter (fun f => decide (f.2 < id)), recv := y.recv.filter (fun r => decide (r.id < id)) }
/-- A routine as it stands after its first n STEPs, found from its words: what it issued beyond them is issued again. -/
def afterSteps (store : List (Nat × Dbl)) : Nat → Nat → MRoutine → MRoutine
  | 0, _, r => r
  | fuel + 1, n, r =>
    if n = 0 then r
    else
      let w := SMap.get 0 store r.next
      match w.toNat / 2 ^ 60 with
      | 1 => afterSteps store fuel (n - 1) { r with next := r.next + 1 }
      | 2 => afterSteps store fuel n { r with next := r.next + 1 }
      | 3 => afterSteps store fuel n { r with next := r.next + 1, rept := some (r.next + 1), left := (w.extractLsb' 48 12).toNat, j := 0 }
      | 4 => match r.rept with
        | some q =>
          if 1 < r.left then afterSteps store fuel n { r with next := q, left := r.left - 1, j := r.j + 1 }
          else afterSteps store fuel n { r with next := r.next + 1, rept := none, left := 0, j := 0 }
        | none => r
      | _ => r
/-- A routine at its progress counter, ready to go on at a cycle (R201, R259). -/
def atProgress (store : List (Nat × Dbl)) (start : Nat) (r : MRoutine) : MRoutine :=
  let r0 := { r with next := r.base, rept := none, left := 0, j := 0 }
  { afterSteps store (2 ^ 24) r.prog.toNat r0 with start := start, last := 0 }
/-- The matrix engine with arrays, scales, accumulators and routines as the checkpoint copy holds them and nothing in
flight; the microprogram store and table stay, and the routine goes on at S (R259). -/
def restoreMatrix (m live : Matrix) (start : Nat) : Matrix :=
  let arrs := (List.range 4).foldl (fun l n => SMap.set {} l n { SMap.get {} m.arrays n with busy := 0, swap := none }) []
  { live with arrays := arrs, run := m.run.map (atProgress live.store start), pend := m.pend,
              more := m.more, ending := m.ending.map (fun r => { r with last := 0 }), prog := m.prog, hold := m.run.isSome }

/-- One context goes back to its checkpoint at cycle t and runs in the given phase (R132, R259, R260, R261). -/
def rollCtx (t phase : Nat) (c : CtxId) (s : State) : State :=
  let x := getCtx s c
  let k := x.ckpt.getD { bank := {}, pc := 0, id := 0, matrix := none, banks := [], tiers := [], entry := true }
  let gone := x.rel.filter (fun a => !decide (a.id < k.id))
  let keep := x.rel.filter (fun a => decide (a.id < k.id))
  let y := restoreQueues k.id { x with rel := keep, commit := keep.length }
  let owns := !(ownedBanks s x.plan).isEmpty || !k.banks.isEmpty
  -- the engine of a context that was being loaded is still in its shadow area
  let live := x.matrix.getD s.matrix
  let z := { y with
    matrix := none, fell := false, preHeld := false, sysEnded := false,
    st := .running, waits := [], bank := { k.bank with inh := false, nest := false, ncause := 0, pc := k.pc },
    v := unsetRows y.v, z := unsetRows y.z, d := unsetDists y.d, snap := [], replayAt := none, restart := false,
    hold := t + 17, arrived := none, grants := y.grants ++ y.got, got := [], first := true, held := none,
    restore := if owns then some { banks := k.banks, tiers := k.tiers, bref := true } else none,
    rerun := { x.rerun with phase := phase, start := t + 17, sig := BitVec.allOnes 64, skip := !k.entry, wait := owns, begun := false } }
  let s1 := setCtx (discardTags gone s) c z
  { s1 with flight := s1.flight.filter (fun f => f.ctx != c), ports := portsWithout (s1.flight.filter (fun f => f.ctx == c)) s1,
            stream := s1.stream.filter (fun w => w.ctx != c),
            vault := { s1.vault with writes := s1.vault.writes.map (fun w => if w.ctx = c then { w with stale := true } else w) },
            matrix := (k.matrix.map (fun m => restoreMatrix m live (t + 17))).getD s1.matrix }

/-- Contexts that hold a slot (R33). -/
def slotted (s : State) : List CtxId := allCtx.filter (fun c => (getCtx s c).slot.isSome)

/-- The error record with a field raised or written (R267). -/
def errorField (v : Dbl) (lo w : Nat) (f : Nat → Nat) : Dbl :=
  let old := v.toNat / 2 ^ lo % 2 ^ w
  BitVec.ofNat 64 (v.toNat - old * 2 ^ lo + (f old % 2 ^ w) * 2 ^ lo)
/-- A saturating count in a field of w bits. -/
def satUp (w n : Nat) : Nat := min (2 ^ w - 1) (n + 1)
/-- The column retires: it is disabled, the black box holds it, and the plans with state on it are reported to the supervisor
(R264, R267, R320, R398, R434). -/
def retire (seq : Nat) (s : State) : State :=
  let s0 := blackBox s 3 s.self seq s.error 0
  let s1 := (s0.plans.filter (fun p => (resOf p s0.me).isSome)).foldl (fun s p =>
    report p.seq 0x11 (s.self.zeroExtend 64) (s.error &&& 0x0000FFFFF0000000) s) s0
  { s1 with retired := true, pkg := { s1.pkg with retired := s1.pkg.retired ++ [s1.me] } }

/-- An uncorrectable error detected at the current cycle, from a source of R257 (R259, R264, R267, R434). -/
def uncorrectable (src : BitVec 4) (loc : BitVec 24) (s : State) : State :=
  if src = 0 || 9 < src.toNat then s else
  let e := errorField (errorField (errorField s.error 40 8 (satUp 8)) 28 4 (fun _ => src.toNat)) 0 24 (fun _ => loc.toNat)
  let s := { s with error := e }
  let l := slotted s
  let seq := (l.head?.map (fun c => (getCtx s c).plan)).getD 0
  if src = 9 || l.any (fun c => (getCtx s c).rerun.phase != 0 || (getCtx s c).xch) then retire seq s
  else if l.isEmpty then s
  else
    let s1 := { s with error := errorField s.error 32 8 (satUp 8) }
    let at0 := ((l.head?.bind (fun c => (getCtx s1 c).ckpt)).map (·.pc)).getD 0
    let s2 := blackBox s1 2 s1.self seq s1.error at0
    l.foldl (fun s c => rollCtx s.cycle 1 c s) s2

/-- A context's rerun ends at the current cycle: the phase runs again, or the two runs are compared (R262 to R264).
done is the effect when they agree. -/
def endRerun (c : CtxId) (done : State → State) (s : State) : State :=
  let x := getCtx s c
  let n := s.cycle - x.rerun.start
  if x.rerun.phase = 1 then
    if x.xch then retire x.plan s
    else rollCtx s.cycle 2 c (setCtx s c { x with rerun := { x.rerun with len1 := n, sig1 := x.rerun.sig } })
  else if (!x.primary || n == x.rerun.len1) && x.rerun.sig == x.rerun.sig1 then done s
  else retire x.plan s

/-- A bundle whose effect is replaced by the end of a rerun: no cause, and nothing else of the bundle (R262). -/
def replaced (s : State) : State := { s with cur := { s.cur with trap := some (7, 0, 0) } }

/-- CKPT: the rollback point, or the end of a rerun; the CKPT at the rollback point is passed without effect (R107,
R116, R259, R262, R263). -/
def execCkpt (s : State) : Answer :=
  let c := s.cur.ctx
  let x := cx s
  let chk := failIf (inFlight s c) ⟨4, 0x08, BitVec.ofNat 64 (flightLeft s c)⟩
  if !chk.isEmpty then .next (issue s chk [] id)
  else if x.rerun.skip then .next (issue s [] [] (fun s => setCx s { cx s with rerun := { (cx s).rerun with skip := false } }))
  else if x.rerun.phase = 1 then .next (replaced (endRerun c id s))
  else if x.rerun.phase = 2 && !((!x.primary || s.cycle - x.rerun.start == x.rerun.len1) && x.rerun.sig == x.rerun.sig1) then
    .next (replaced (retire (cx s).plan s))
  else .next (issue s [] [] (takeCkpt c s.cur.addr))

/-- SYSCALL in the cycle of its word: a result that lands at the next cycle comes after delivery (R109, R277; log 75). Code 0
ends the work of its context (R405). -/
def sysTrap (k : BitVec 12) (s : State) : State :=
  let t := softTrap s 0x20 k s.cycle (cx s)
  if k = 0 then setCx t { cx t with sysEnded := true } else t
/-- SYS: SYSCALL to the supervisor (R109); it ends the work or the plan, and so a rerun as a CKPT does (R262, R405). -/
def execSys (k : BitVec 12) (s : State) : Answer :=
  let c := s.cur.ctx
  if (cx s).rerun.phase = 0 then .next (sysTrap k s)
  else if (cx s).rerun.phase = 1 then .next (replaced (endRerun c id s))
  else .next (endRerun c (fun s => sysTrap k (setCx s { cx s with rerun := {} })) s)

/-! The bank restore (R261) -/

/-- Contexts of a plan whose bank restore has yet to end. -/
def waitingOf (s : State) (seq : Nat) : List CtxId :=
  allCtx.filter (fun c => (getCtx s c).rerun.wait && (getCtx s c).plan == seq)
/-- The context whose checkpoint copy a plan's bank restore follows: the primary one, else the first. -/
def restorer (s : State) (seq : Nat) : Option CtxId :=
  let l := waitingOf s seq
  match l.find? (fun c => (getCtx s c).primary) with
  | some c => some c
  | none => l.head?
/-- A plan's own banks, ascending. -/
def ownBanks (s : State) (seq : Nat) : List Nat := (List.range 64).filter (fun n => bankOwn s seq n == 0)
/-- REFAHEAD allows a BREF (R248). -/
def aheadOk (s : State) (n : Nat) : Bool :=
  let iv := Config.refreshInterval (getTier s.vault (n / 16)).seenCls.toNat
  !decide (9 * iv < (getBank s.vault n).seenDl + iv)
/-- A BACT or BREF may issue to an idle bank now (R245, R248). -/
def commandOk (s : State) (n : Nat) : Bool :=
  let t := getTier s.vault (n / 16)
  (getBank s.vault n).state == stIDLE && (getBank s.vault n).act == 0 && t.rrd == 0 && t.faw3 == 0
/-- A BREF may issue to an idle bank now (R245, R248). -/
def refreshOk (s : State) (n : Nat) : Bool := commandOk s n && aheadOk s n
/-- A bank recorded OPEN or ACTIVATING, to be reactivated on its row (R136). -/
def reopens (r : Restore) (n : Nat) : Bool :=
  let b := SMap.get {} r.banks n
  b.state == stOPEN || b.state == stACT
/-- The checker's counts of a bank have run down to the recorded ones, in a state that can stand for the recorded one: OPEN
for a bank that is reactivated, IDLE for another (R136, R261). -/
def bankReady (s : State) (r : Restore) (n : Nat) : Bool :=
  let b := getBank s.vault n
  let k := SMap.get {} r.banks n
  b.state == (if reopens r n then stOPEN else stIDLE) && decide (b.pre ≤ k.pre) && decide (b.act ≤ k.act)
/-- The counts of a tier have run down to the recorded ones (R136, R251). -/
def tierReady (s : State) (r : Restore) (t : Nat) : Bool :=
  let b := getTier s.vault t
  let k := SMap.get {} r.tiers t
  decide (b.rrd ≤ k.rrd) && decide (b.faw0 ≤ k.faw0) && decide (b.faw1 ≤ k.faw1) && decide (b.faw2 ≤ k.faw2) &&
    decide (b.faw3 ≤ k.faw3) && decide (b.ccd ≤ k.ccd) && decide (b.wtr ≤ k.wtr)
/-- One command of a restore on a tier: the first bank that may have its BREF or, once all had theirs, its BACT (R261). -/
def driveTier (own : List Nat) (sr : State × Restore) (t : Nat) : State × Restore :=
  let (s, r) := sr
  let on := own.filter (fun n => n / 16 == t)
  let refs := own.filter (fun n => r.bref && !r.refreshed.contains n && aheadOk s n)
  if !refs.isEmpty then
    match on.find? (fun n => refs.contains n && refreshOk s n) with
    | some n => (refresh n s, { r with refreshed := n :: r.refreshed })
    | none => (s, r)
  else match on.find? (fun n => reopens r n && !r.opened.contains n && commandOk s n) with
    | some n => (activate n (SMap.get {} r.banks n).row s, { r with opened := n :: r.opened })
    | none => (s, r)
/-- One cycle of a restore of the banks listed: precharges first, then one command on each tier, until every count has run
down to the recorded one (R136, R245, R261). -/
def driveBanks (own : List Nat) (s : State) (r : Restore) : State × Restore :=
  let shut := own.filter (fun n =>
    let b := getBank s.vault n
    !r.opened.contains n && (b.state == stOPEN || b.state == stACT))
  if !shut.isEmpty then (shut.foldl (fun s n => if (getBank s.vault n).pre = 0 then precharge n s else s) s, r)
  else
    let (s1, r1) := [0, 1, 2, 3].foldl (driveTier own) (s, r)
    let left := own.any (fun n => r1.bref && !r1.refreshed.contains n && aheadOk s1 n)
    (s1, { r1 with ready := !left && own.all (bankReady s1 r1) && [0, 1, 2, 3].all (tierReady s1 r1) })
/-- The banks and tiers at S: the recorded states and counts; no refresh deadline is nearer than it was, and CLASS stays
(R136, R251, R261). -/
def takeRestore (own : List Nat) (r : Restore) (v : Vault) : Vault :=
  let one := fun (v : Vault) (n : Nat) =>
    let k := SMap.get {} r.banks n
    setBank v n { k with dl := if r.bref then (getBank v n).dl else max k.dl (getBank v n).dl, shown := none }
  let tier := fun (v : Vault) (t : Nat) => setTier v t { SMap.get {} r.tiers t with cls := (getTier v t).cls, shown := (getTier v t).shown }
  [0, 1, 2, 3].foldl tier (own.foldl one v)
/-- The restore of a rollback has done its commands: the plan's contexts may restart (R261). -/
def endRestore (seq : Nat) (s : State) : State :=
  (waitingOf s seq).foldl (fun s d =>
    let y := getCtx s d
    setCtx s d { y with hold := max y.hold (s.cycle + 1), rerun := { y.rerun with wait := false } }) s
/-- What the restore of banks does at a cycle, during a load or after a rollback (R136, R261). -/
def restoreCycle (s : State) (c : CtxId) : State :=
  let x := getCtx s c
  match x.restore with
  | some r =>
    if x.st == .loading then
      if r.ready then s
      else
        let (s1, r1) := driveBanks (ownBanks s x.plan) s r
        setCtx s1 c { getCtx s1 c with restore := some r1 }
    else if !x.rerun.wait then s
    else if restorer s x.plan != some c then s
    else
      let (s1, r1) := driveBanks (ownBanks s x.plan) s r
      let s2 := setCtx s1 c { getCtx s1 c with restore := some r1 }
      if r1.ready then endRestore x.plan s2 else s2
  | none => s
/-- The banks and tiers of a plan take the recorded counts when the first of its contexts issues after the restore (R136,
R261). -/
def takeBanks (seq : Nat) (s : State) : State :=
  allCtx.foldl (fun s d =>
    let y := getCtx s d
    match y.restore with
    | some r =>
      if y.plan == seq && r.ready && y.st != .loading then
        setCtx { s with vault := takeRestore (ownBanks s seq) r s.vault } d { y with restore := none }
      else s
    | none => s) s
/-- A bundle of a context issues at the current cycle. The first of its plan after a bank restore finds the recorded counts;
at the first at the resumption address replays begin and a rerun counts from here (R131, R136, R261, R263). -/
def atResume (c : CtxId) (s : State) : State :=
  let s := takeBanks (getCtx s c).plan s
  let x := getCtx s c
  if !x.first then s
  else
    let u := if x.rerun.begun then x.rerun else { x.rerun with start := s.cycle, begun := true }
    setCtx s c { x with first := false, restore := none, rerun := u }

end Sys2Proof.Machine
end

