-- ==== Sys2Proof/Machine/Home.lean ====
section
/-! DEFINITION. The home side of global space (19_package_memory.md R352 to R364, R372, R449 to R452), host accesses (R374),
peer accesses (R292), and the parts of copies (R289, R370, R371). -/

namespace Sys2Proof.Machine

/-! Home tables (R352, R353) -/

/-- This package's number (R348). -/
def myPkg (s : State) : Nat := s.fabric.topo.self.toNat
/-- Key of an entry of a column's home table (R352). -/
def entryKey (core idx : Nat) : Nat := keyMirror core (0xBF8000 + 8 * idx)
/-- An entry of a home table. -/
def entryAt (s : State) (core idx : Nat) : Dbl := BitVec.ofNat 64 (leNat (memRead s.mem (entryKey core idx) 8))
/-- An entry put in its place. -/
def putEntry (core idx : Nat) (e : Dbl) (s : State) : State := { s with mem := memWrite s.mem (entryKey core idx) (leBytes 8 e.toNat) }
/-- Bits of an entry (R353). -/
def eBits (e : Dbl) (lo n : Nat) : Nat := e.toNat / 2 ^ lo % 2 ^ n
/-- V (R353). -/
def eV (e : Dbl) : Bool := e.getLsbD 63
/-- PS (R353). -/
def ePS (e : Dbl) : Bool := e.getLsbD 62
/-- The page moves or has moved (R353, R363). -/
def eAway (e : Dbl) : Bool := e.getLsbD 58 || e.getLsbD 57
/-- The index of the entry that the walker reads: the first of 32 for a 2 MiB page (R352). -/
def entryIdx (s : State) (core j : Nat) : Nat :=
  let e := entryAt s core (j / 32 * 32)
  if eV e && ePS e then j / 32 * 32 else j
/-- The page of an intermediate address, as one number (R352). -/
def pageOf (s : State) (ia : Nat) : Nat :=
  if iaPkg ia = myPkg s then ia / 2 ^ 28 * 4096 + entryIdx s (iaCore ia) (iaOff ia / 2 ^ 16) else ia / 2 ^ 16
/-- The number of a page of this package by column and entry. -/
def pageNo (s : State) (core idx : Nat) : Nat := ((myPkg s * 16 + core / 160) * 256 + core % 160) * 4096 + entryIdx s core idx

/-- The permission bit of an access (R353). -/
def permBit (op : GlobalOp) : Nat :=
  match op with
  | .load _ => 48
  | .xread => 48
  | .store _ _ => 49
  | .payload _ => 49
  | .flagStore _ => 49
  | .atomic _ _ _ _ => 50
  | .xadd _ => 50
  | .flagAdd _ => 50
  | .copyRead _ => 51
  | .copyWrite _ => 52
/-- An access that writes (R351, R363). -/
def opWrites (op : GlobalOp) : Bool := permBit op != 48 && permBit op != 51
/-- Who asks a home for an access: a core of this package, another package, or the companion over Ebpin (R353, R354). -/
inductive Asker where
  | near
  | far (q : Nat)
  | companion
  deriving DecidableEq, Repr
/-- The package of an asker in another package. -/
def Asker.pkg (w : Asker) : Option Nat :=
  match w with
  | .far q => some q
  | _ => none
/-- The home agent allows an access: the permission bit of its engine, RR or RW for another package, HA for the companion,
and a served bank of an enabled column (R354, R255, R320, R374). -/
def homeAllows (s : State) (core : Nat) (e : Dbl) (op : GlobalOp) (w : Asker) : Bool :=
  (match w with
    | .near => e.getLsbD (permBit op)
    | .far _ => e.getLsbD (permBit op) && e.getLsbD (if opWrites op then 54 else 53)
    | .companion => e.getLsbD 55) && enabled s core &&
    s.plans.any (fun p => match resOf p core with
      | some r => r.served.getLsbD (eBits e 35 6)
      | none => false)

/-- A buffered translation put behind the others of its column; the oldest of 256 leaves (R355). -/
def bufferPut (page : Nat) (e : Dbl) (b : List (Nat × Dbl)) : List (Nat × Dbl) :=
  let mine := b.filter (fun p => p.1 / 4096 == page / 4096)
  (if 256 ≤ mine.length then eraseFirst (fun p => p.1 / 4096 == page / 4096) b else b) ++ [(page, e)]
/-- A buffered translation dropped. -/
def bufferDrop (page : Nat) (s : State) : State :=
  { s with home := { s.home with buffer := s.home.buffer.filter (fun p => p.1 != page) } }
/-- The walk of R355: A is set, and the translation is buffered; none at a fault. -/
def walk (core idx page : Nat) (s : State) : State × Option Dbl :=
  let e := entryAt s core idx
  if !eV e then (s, none)
  else
    let e1 := e ||| 1#64 <<< 61
    let s1 := bufferDrop page (putEntry core idx e1 s)
    ({ s1 with home := { s1.home with buffer := bufferPut page e1 s1.home.buffer } }, some e1)
/-- The translation of a page at its home: buffered, or walked (R355). -/
def homeEntry (core idx page : Nat) (s : State) : State × Option Dbl :=
  match s.home.buffer.find? (fun p => p.1 == page) with
  | some (_, e) => (s, some e)
  | none => walk core idx page s
/-- D is set in the entry and in its buffered copy (R355). -/
def setDirty (core idx page : Nat) (e : Dbl) (s : State) : State :=
  let e1 := e ||| 1#64 <<< 60
  let s1 := putEntry core idx e1 s
  { s1 with home := { s1.home with buffer := s1.home.buffer.map (fun p => if p.1 = page then (page, e1) else p) } }

/-- Where an access finds its bytes at the home. -/
inductive HomeAt where
  | place (key : Nat) (e : Dbl)
  | denied (e : Dbl)
  | fault
  | away (e : Dbl)
  deriving DecidableEq, Repr

/-- Key of the memory byte that an entry gives an intermediate address (R353). -/
def placeOf (core : Nat) (e : Dbl) (ia : Nat) : Nat :=
  keyVault core (eBits e 35 6) (eBits e 22 13) (iaOff ia % (if ePS e then 2 ^ 21 else 2 ^ 16))
/-- Translation, checks, and the write through a clean buffered entry, which walks again and checks again when the table no
longer holds that entry; with fuel (R354, R355). -/
def resolveAt (core idx page ia : Nat) (op : GlobalOp) (w : Asker) : Nat → State → State × HomeAt
  | 0, s => (s, .fault)
  | n + 1, s =>
    match homeEntry core idx page s with
    | (s1, none) => (s1, .fault)
    | (s1, some e) =>
      if eAway e then (s1, .away e)
      else if !homeAllows s1 core e op w then (s1, .denied e)
      else if opWrites op && !e.getLsbD 60 then
        if entryAt s1 core idx = e then (setDirty core idx page e s1, .place (placeOf core e ia) (e ||| 1#64 <<< 60))
        else resolveAt core idx page ia op w n (bufferDrop page s1)
      else (s1, .place (placeOf core e ia) e)
/-- An access of this package's space, translated and checked at its home (R353 to R355, R358, R363). -/
def resolve (ia : Nat) (op : GlobalOp) (w : Asker) (s : State) : State × HomeAt :=
  let core := iaCore ia
  if !enabled s core then (s, .denied 0)
  else resolveAt core (entryIdx s core (iaOff ia / 2 ^ 16)) (pageOf s ia) ia op w 2 s

/-! The operations (R365 to R368) -/

/-- Bytes of an access. -/
def opBytes (op : GlobalOp) : Nat :=
  match op with
  | .load w => if w then 4 else 8
  | .store w _ => if w then 4 else 8
  | .atomic fn w _ _ => if w || decide (0x0A ≤ fn.toNat) then 4 else 8
  | .xadd _ => 64
  | .xread => 64
  | .copyRead n => n
  | .copyWrite bs => bs.length
  | _ => 8
/-- The new memory operand of an atomic of n bytes (R366). -/
def atomicVal (fn : Nat) (n m x cmp : Nat) : Nat :=
  let w := 8 * n
  let x := x % 2 ^ w
  match fn with
  | 0x02 => (m + x) % 2 ^ w
  | 0x03 => if signedOf w x < signedOf w m then x else m
  | 0x04 => if signedOf w m < signedOf w x then x else m
  | 0x05 => m &&& x
  | 0x06 => m ||| x
  | 0x07 => m ^^^ x
  | 0x08 => x
  | 0x09 => if m = cmp % 2 ^ w then x else m
  | 0x0A => (fadd f32 rne m x).1
  | 0x0B => (fminmax f32 false m x).1
  | 0x0C => (fminmax f32 true m x).1
  | _ => (fadd bf16 rne (m % 2 ^ 16) (x % 2 ^ 16)).1 + 2 ^ 16 * (fadd bf16 rne (m / 2 ^ 16) (x / 2 ^ 16)).1
/-- An access performed on its bytes: the memory after, and the value that it returns (R362, R366 to R368). -/
def opPerform (op : GlobalOp) (key : Nat) (m : List Host.Cell) : List Host.Cell × Dbl :=
  let n := opBytes op
  let old := leNat (memRead m key n)
  let put := fun (v : Nat) => memWrite m key (leBytes n v)
  match op with
  | .load _ => (m, BitVec.ofNat 64 old)
  | .store _ x => (put x.toNat, 0)
  | .atomic fn _ x c => (put (atomicVal fn.toNat n old x.toNat c.toNat), BitVec.ofNat 64 old)
  | .xadd x => (put (xaddUpdate (BitVec.ofNat 512 old) x).toNat, 0)
  | .xread => (m, BitVec.ofNat 64 (xaddRead (BitVec.ofNat 512 old)))
  | .payload x => (put x.toNat, 0)
  | .flagStore x => (put x.toNat, 0)
  | .flagAdd x => (put ((old + x.toNat) % 2 ^ 64), 0)
  | .copyRead _ => (m, BitVec.ofNat 64 old)
  | .copyWrite bs => (memWrite m key bs, 0)
/-- What a revision lacks (R451). -/
def lacks (rev : Nat) (op : GlobalOp) : Bool :=
  match op with
  | .xadd _ => decide (rev < 3)
  | .xread => decide (rev < 3)
  | .atomic fn w _ _ => if fn = 0x0D then decide (rev < 3) else decide (rev < 2) && (w || decide (0x0A ≤ fn.toNat))
  | _ => false
/-- A run of writes from one other package (R363). -/
def countRun (page : Nat) (src : Option Nat) (op : GlobalOp) (s : State) : State :=
  let r := SMap.get (0, 0) s.home.runs page
  let r' : Nat × Nat := match src with
    | some q => if opWrites op then (if r.1 = q && 0 < r.2 then (q, r.2 + 1) else (q, 1)) else (if r.1 = q then r else (0, 0))
    | none => (0, 0)
  { s with home := { s.home with runs := SMap.set (0, 0) s.home.runs page r' } }

/-! Poison (R372) -/

/-- Poisoned 8-byte words that n bytes at a key touch (R372). -/
def poisonIn (s : State) (key n : Nat) : List Nat := s.home.poison.filter (fun k => decide (k < key + n) && decide (key < k + 8))
/-- A write of whole poisoned words clears them (R372, log 65). -/
def clearPoison (key n : Nat) (s : State) : State :=
  { s with home := { s.home with poison := s.home.poison.filter (fun k => !(decide (key ≤ k) && decide (k + 8 ≤ key + n))) } }
/-- The 8 bytes at an address are found uncorrectable (R372). -/
def addPoison (ia : Nat) (s : State) : State :=
  match (resolve ia (.load false) .near s).2 with
  | .place key _ => { s with home := { s.home with poison := (key / 8 * 8) :: s.home.poison.erase (key / 8 * 8) } }
  | .denied e => if e = 0 then s else
    { s with home := { s.home with poison := (placeOf (iaCore ia) e ia / 8 * 8) :: s.home.poison.erase (placeOf (iaCore ia) e ia / 8 * 8) } }
  | _ => s
/-- An operation that reads its bytes and writes them anew (R366, R368, R372). -/
def opUpdates (op : GlobalOp) : Bool :=
  match op with
  | .atomic _ _ _ _ => true
  | .xadd _ => true
  | .flagAdd _ => true
  | _ => false

/-- What a home answers. -/
inductive HomeRes where
  | reply (r : Reply)
  | fault
  | away (e : Dbl)
  deriving DecidableEq, Repr

/-- The black-box entry of a denial at a home, for the launch with a SEQ; the record held is that of this core's die (R354,
R433, R434). -/
def denialEntry (ia seq : Nat) (e : Dbl) (s : State) : State :=
  blackBox s 10 (BitVec.ofNat 11 (iaCore ia)) seq (BitVec.ofNat 64 ia) e
/-- An allowed access on the bytes at a key, by the entry that gave it (R362 to R364, R366, R372). -/
def performAt (key : Nat) (e : Dbl) (ia : Nat) (op : GlobalOp) (w : Asker) (s : State) : State × Reply :=
  let bad := !(poisonIn s key (opBytes op)).isEmpty
  if bad && (!opWrites op || opUpdates op) then (countRun (pageOf s ia) w.pkg op s, .poisoned)
  else
    let (m, v) := opPerform op key s.mem
    let s2 := countRun (pageOf s ia) w.pkg op { s with mem := m }
    (if bad then clearPoison key (opBytes op) s2 else s2, .done v (e.getLsbD 59))
/-- One access performed at its home in this package; the revision that counts is that of the package that performs it (R354,
R358, R362 to R364, R372, R434, R451). -/
def performHome (ia : Nat) (op : GlobalOp) (w : Asker) (seq : Nat) (s : State) : State × HomeRes :=
  if lacks s.pkg.rev.toNat op then
    match resolve ia (.load false) w s with
    | (s1, .fault) => (s1, .fault)
    | (s1, .away e) => (s1, .away e)
    | (s1, _) => (s1, .reply .unsupported)
  else match resolve ia op w s with
    | (s1, .fault) => (s1, .fault)
    | (s1, .away e) => (s1, .away e)
    | (s1, .denied e) => (denialEntry ia seq e s1, .reply (.denied e))
    | (s1, .place key e) => let (s2, r) := performAt key e ia op w s1; (s2, .reply r)
/-- The agent of a page of this package reports a fault there (R358). -/
def faultAt (ia : Nat) (s : State) : State :=
  let p := ia / 2 ^ 16 * 2 ^ 16
  if s.home.faults.contains p then s else { s with home := { s.home with faults := s.home.faults ++ [p] } }

/-! This core's global accesses -/

/-- One part of an access: the operation and its intermediate address (R449). -/
structure Part where
  op : GlobalOp
  ia : Nat
  deriving DecidableEq, Repr

/-- What a global access does, and where (R447, R449). -/
def nextPart (a : Access) : Option Part :=
  match a.op with
  | .global op ia _ _ _ _ => some ⟨op, ia⟩
  | _ => none
/-- Key of the order of a host line, and of a peer core (R292, R374). -/
def lineKey (h : Nat) : Nat := 2 ^ 64 + h / 64
/-- See lineKey. -/
def peerKey (core : Nat) : Nat := 2 ^ 80 + core
/-- Pages, host lines and peers that an access has yet to reach (R292, R361, R374). -/
def pagesOf (s : State) (a : Access) : List Nat :=
  match a.op with
  | .global _ ia _ _ _ _ => [pageOf s ia]
  | .push ia _ _ => [pageOf s ia]
  | .host h _ => [lineKey h]
  | .peer p _ => [peerKey (peerCore s p)]
  | _ => []
/-- The global accesses of this core that have left it, in one list (R361). -/
def ownGlobal (s : State) : List (CtxId × Access) :=
  allCtx.flatMap (fun c => ((getCtx s c).out.filter (fun a => a.left.isSome && (nextPart a).isSome)).map (fun a => (c, a)))
/-- The writes that a GWS is: its payload, and the flag behind it (R449). -/
def gwsWrites (a : Access) : List Access :=
  match a.op with
  | .gws ia rg src len fa frg add val =>
    (List.range (len / 8)).map (fun k => { a with sub := k, op := .push (ia + 8 * k) rg (src + 8 * k) }) ++
      [{ a with sub := len / 8, op := .global (if add then .flagAdd val else .flagStore val) fa frg false false 0x11 }]
  | _ => [a]
/-- A 64-bit entry and not the layout of R366. -/
def is64 (op : GlobalOp) : Bool :=
  match op with
  | .load w => !w
  | .atomic fn w _ _ => !w && decide (fn.toNat < 0x0A)
  | _ => false
/-- The qgl entry of a returning word (R366, R452). -/
def returnEntry (op : GlobalOp) (r : Reply) : Dbl :=
  match r with
  | .done v pin => if is64 op then v else BitVec.ofNat 64 (b2n pin * 2 ^ 59 + v.toNat % 2 ^ 32)
  | .unsupported => 1#64 <<< 60
  | .denied _ => if is64 op then 0 else 2#64 <<< 60
  | _ => 0
/-- The reply was given by a pinned page to a write (R364). -/
def metPin (op : GlobalOp) (r : Reply) : Bool :=
  match r with
  | .done _ pin => pin && opWrites op
  | _ => false
/-- TVAL of ATOMIC_UNSUP (R452). -/
def atomTval (fn : BitVec 6) (op : GlobalOp) (ia : Nat) : Dbl :=
  let w := match op with | .atomic _ w _ _ => w | _ => false
  BitVec.ofNat 64 (fn.toNat * 2 ^ 58 + b2n w * 2 ^ 57 + ia)
/-- The STATUS 4 of R369 and R450 when a write met a pinned page. -/
def pinStatus (b : Bool) : Nat := if b then 4 else 0
/-- A write of a context met a pinned page: the earliest is kept (R364, R369). -/
def notePin (pin : Bool) (id : Nat) (x : Ctx) : Ctx :=
  if pin then { x with pinMet := some (match x.pinMet with | some k => min k id | none => id) } else x
/-- The status that a reply has the supervisor give the plan (R354, R372, R398). -/
def reportOf (op : GlobalOp) (r : Reply) : Option (BitVec 16) :=
  match r with
  | .denied _ => some 0x0013
  | .poisoned => if opUpdates op then some 0x0015 else none
  | .fault => some 0x0014
  | _ => none
/-- A reply is reported to the supervisor of the plan of a context, with the address and the entry that denied it (R354, R372,
R398). -/
def reportReply (c : CtxId) (p : Part) (r : Reply) (s : State) : State :=
  match reportOf p.op r with
  | some k => report (getCtx s c).plan k (BitVec.ofNat 64 p.ia) (match r with | .denied e => e | _ => 0) s
  | none => s
/-- LOC of the error that a poisoned delivery is (R372). -/
def poisonLoc (ia : Nat) : BitVec 24 := BitVec.ofNat 24 ia
/-- A poisoned value is delivered to a load: a free value, and an error when its entry arrives (R372, log 65). -/
def postPoison (c : CtxId) (id ia : Nat) (s : State) : State :=
  let x := post id (Config.freeDbl s.free) s.cycle (getCtx s c)
  setCtx { s with free := s.free + 1 } c { x with poison := x.poison ++ [(id, poisonLoc ia)] }
/-- A flag access, which stands behind its payload (R449). -/
def isFlag (op : GlobalOp) : Bool :=
  match op with
  | .flagStore _ => true
  | .flagAdd _ => true
  | _ => false
/-- A write of a GWS (R449). -/
def isGws (op : GlobalOp) : Bool :=
  match op with
  | .payload _ => true
  | _ => isFlag op
/-- The writes of a word take note of a pinned page that one of them met (R364, R450). -/
def spreadPin (pin : Bool) (id : Nat) (x : Ctx) : Ctx :=
  let mark := fun (b : Access) => if b.id = id then { b with pinned := b.pinned || pin } else b
  { x with out := x.out.map mark, side := x.side.map mark }
/-- The writes of a GWS that are left after a denial are not performed (R354, R449, R450). -/
def dropWord (id : Nat) (x : Ctx) : Ctx := { x with out := x.out.filter (fun b => b.id != id), side := x.side.filter (fun b => b.id != id) }
/-- An access has its reply: its entry posts, reports go out, causes arise (R354, R364, R366, R369, R372, R450, R452). -/
def conclude (c : CtxId) (a : Access) (p : Part) (r : Reply) (s : State) : State :=
  let pin := metPin p.op r
  let failed := match r with | .denied _ => true | .poisoned => true | _ => false
  let s := reportReply c p r (setCtx s c (spreadPin pin a.id (notePin pin a.id (getCtx s c))))
  match a.op with
  | .global op ia _ ret t fn =>
    let s1 := if isGws op && failed then setCtx s c (dropWord a.id (getCtx s c))
      else if r = .poisoned then (if ret && !opUpdates op then postPoison c a.id ia s else s)
      else if ret then setCtx s c (post a.id (returnEntry op r) s.cycle (getCtx s c))
      else if isFlag op then setCtx s c (post a.id (qfxEntry (pinStatus (a.pinned || pin)) 4 0) s.cycle (getCtx s c))
      else s
    if r = .unsupported && t then raiseAtom c (atomTval fn op ia) s1 else s1
  | _ => s
/-- An outstanding access has its reply and leaves the list. -/
def settle (c : CtxId) (a : Access) (p : Part) (r : Reply) (s : State) : State :=
  conclude c a p r (putOut c a (fun _ => none) s)
/-- A faulting write enters the side log of its context if there is room, and otherwise waits for it (R358, R360, R449). -/
def enterSide (c : CtxId) (a : Access) (s : State) : State :=
  let x := getCtx s c
  if 128 ≤ x.side.length then putOut c a (fun a => some { a with wait := true }) s
  else putOut c a (fun _ => none) (setCtx s c { x with side := x.side ++ [{ a with wait := false }] })
/-- The first write that waits for room enters the side log (R360). -/
def admitSide (c : CtxId) (s : State) : State :=
  match (getCtx s c).out.find? (·.wait) with
  | some a => enterSide c a s
  | none => s
/-- A page of this package that its home can answer for: its table maps it, or its column is disabled and denies every
access (R353, R354). -/
def mappedAt (s : State) (ia : Nat) : Bool :=
  !enabled s (iaCore ia) || eV (entryAt s (iaCore ia) (entryIdx s (iaCore ia) (iaOff ia / 2 ^ 16)))
/-- See mappedAt. -/
def mapped (s : State) (p : Part) : Bool := mappedAt s p.ia
/-- The entry of a page of this package. -/
def entryOf (s : State) (ia : Nat) : Dbl := entryAt s (iaCore ia) (entryIdx s (iaCore ia) (iaOff ia / 2 ^ 16))
/-- An access of this package's space that the holder of a moved page performs (R363). -/
def movedAway (s : State) (ia : Nat) : Bool := (entryOf s ia).getLsbD 57 && !(entryOf s ia).getLsbD 58

/-! Order (R292, R361, R374, R380) -/

/-- A record of a run, its space, and the parts of the run: by 64 KiB page, by host line, or by 256 bytes, with fuel:
addresses and lengths (R370, R371, log 63). -/
def splitRun (blk : Nat) : Nat → Nat → Nat → List (Nat × Nat)
  | 0, _, _ => []
  | _, _, 0 => []
  | fuel + 1, a, n =>
    let k := min n (blk - a % blk)
    (a, k) :: splitRun blk fuel (a + k) (n - k)
/-- The parts of the run at address a of n bytes in a space; global ones by intermediate address (R370, R371). -/
def partsOf (s : State) (x : Ctx) (space a n : Nat) : List (Nat × Nat) :=
  match space with
  | 3 => match translate s x a with
    | some (ia, _) => splitRun (2 ^ 16) 4 ia n
    | none => []
  | 4 => splitRun 64 1026 a n
  | _ => splitRun 256 258 a n
/-- The context as a copy sees it: with the range registers of its issue (R370). -/
def CopyReq.view (s : State) (r : CopyReq) : Ctx :=
  let x := getCtx s r.ctx
  match r.ranges with
  | some g => { x with rga := g.rga, rgb := g.rgb, rgc := g.rgc }
  | none => x
/-- The record of a side of a copy. -/
def CopyReq.side (r : CopyReq) (wr : Bool) : BitVec 256 := if wr then r.hd else r.hs
/-- The parts of the run that a copy is at, on one side. -/
def CopyReq.parts (s : State) (r : CopyReq) (wr : Bool) : List (Nat × Nat) :=
  partsOf s (r.view s) (shSpace (r.side wr)) (runAt (r.side wr) r.runs) (shDim0 (r.side wr))
/-- Bytes of a part that have been read or written. -/
def CopyReq.moved (r : CopyReq) (wr : Bool) (i : Nat) : Nat :=
  if wr then ((r.put.find? (fun g => g.1 == i)).map (·.2)).getD 0 else ((r.got.find? (fun g => g.1 == i)).map (·.2.length)).getD 0
/-- The part of a run as it has left the core. -/
def CopyReq.leftAs (r : CopyReq) (wr : Bool) (i : Nat) : Option SentPart := r.sent.find? (fun q => q.wr == wr && q.part == i)
/-- The key of the order that a part of a space stands in (R361, R374). -/
def partKey (s : State) (space a : Nat) : Option Nat :=
  match space with
  | 3 => some (pageOf s a)
  | 4 => some (lineKey a)
  | _ => none
/-- A part of a copy is unperformed, and not held at its home: it has left before place ord, for a key (R361, R374). -/
def CopyReq.owes (s : State) (r : CopyReq) (key ord : Nat) (q : SentPart) : Bool :=
  decide (q.ord < ord) && !q.dead && !s.home.held.contains (.copy r.id q.wr q.part) &&
    (match (r.parts s q.wr)[q.part]? with
      | some w => decide (r.moved q.wr q.part < w.2) && partKey s (shSpace (r.side q.wr)) w.1 == some key
      | none => false)
/-- An earlier access of a context to a page or a host line, in leaving order, is unperformed and not held at its home; the
writes of one word, id, have no order among them (R361, R374, R380, R449). -/
def ahead (s : State) (c : CtxId) (key ord id : Nat) : Bool :=
  (getCtx s c).out.any (fun b => b.left.isSome && decide (b.ord < ord) && b.id != id && (pagesOf s b).contains key &&
    !s.home.held.contains (.own c b.id b.sub)) ||
    s.engines.any (fun e => e.2.ctx == c && e.2.sent.any (e.2.owes s key ord))
/-- An earlier access of a context to a peer core, in leaving order: an access, or a copy there (R292, R380). -/
def peerAhead (s : State) (c : CtxId) (peer ord : Nat) : Bool :=
  (getCtx s c).out.any (fun b => b.left.isSome && decide (b.ord < ord) && (pagesOf s b).contains (peerKey peer)) ||
    (copiesOf s c).any (fun r => shSpace r.hd == 2 && peerCore s (shBase r.hd) == peer && decide (r.left < ord))
/-- A write that may enter the side log: it returns nothing (R358). -/
def Access.logs (a : Access) : Bool := a.op.released && !(match a.op with | .global _ _ _ ret _ _ => ret | _ => false)
/-- Entries of the side log of a context for a page, from an access that left before place ord (R360). -/
def sideBefore (s : State) (c : CtxId) (page ord : Nat) : Bool :=
  (getCtx s c).side.any (fun e => decide (e.ord < ord) && (pagesOf s e).contains page)
/-- A write of a context that left before place ord waits for room in the side log (R360). -/
def roomBefore (s : State) (c : CtxId) (ord : Nat) : Bool := (getCtx s c).out.any (fun b => b.wait && decide (b.ord < ord))
/-- The payload of a flag is not yet performed (R449). -/
def payloadBefore (s : State) (c : CtxId) (id : Nat) : Bool :=
  ((getCtx s c).out ++ (getCtx s c).side).any (fun b => b.id == id && (match b.op with
    | .global op _ _ _ _ _ => !isFlag op
    | _ => true))
/-- An access has yet to wait for something of its own context: its way to the home, an earlier access to its page, room in
the side log for itself or for an earlier write, the payload before its flag, or the side log before a load (R304, R358,
R360, R361, R380, R449). -/
def blockedAt (s : State) (c : CtxId) (a : Access) (p : Part) : Bool :=
  a.wait || a.hops != 0 || decide (tickNow s < a.tick) || ahead s c (pageOf s p.ia) a.ord a.id ||
    (a.logs && roomBefore s c a.ord) || (isFlag p.op && payloadBefore s c a.id) ||
    (!a.logs && sideBefore s c (pageOf s p.ia) a.ord)
/-- A part of a copy at an address has yet to wait for something of its own context (R360, R361, R380). -/
def partBlocked (s : State) (r : CopyReq) (q : SentPart) (ia : Nat) : Bool :=
  decide (tickNow s < q.tick) || ahead s r.ctx (pageOf s ia) q.ord r.id || sideBefore s r.ctx (pageOf s ia) q.ord ||
    (q.wr && roomBefore s r.ctx q.ord)
/-- An access of this core on its way to a home of this package: what it is held as, the column, the tick at which it can be
there, and whether it still has to wait for its own context (R362). -/
structure Arrival where
  h : HeldReq
  core : Nat
  tick : Nat
  blocked : Bool
  deriving DecidableEq, Repr
/-- The accesses and copy parts of this core on their way to homes of this package (R362). -/
def arrivals (s : State) : List Arrival :=
  (ownGlobal s).flatMap (fun q => match nextPart q.2 with
    | some w => if iaPkg w.ia = myPkg s then
        [{ h := .own q.1 q.2.id q.2.sub, core := iaCore w.ia, tick := q.2.tick, blocked := blockedAt s q.1 q.2 w }] else []
    | none => []) ++
  s.engines.flatMap (fun e => e.2.sent.flatMap (fun q => match (e.2.parts s q.wr)[q.part]? with
    | some w => if shSpace (e.2.side q.wr) = 3 ∧ iaPkg w.1 = myPkg s ∧ e.2.moved q.wr q.part < w.2 ∧ q.dead = false then
        [{ h := .copy e.2.id q.wr q.part, core := iaCore w.1, tick := q.tick, blocked := partBlocked s e.2 q w.1 }] else []
    | none => []))
/-- Another access of this core reached the same home at an earlier tick and can be performed (R362). -/
def arrivedBefore (s : State) (core tick : Nat) (h : HeldReq) : Bool :=
  (arrivals s).any (fun a => a.h != h && a.core == core && decide (a.tick < tick) && !a.blocked && !s.home.held.contains a.h)

/-! At a home (R358 to R363) -/

/-- An access is held at its home, behind the others (R358, R363). -/
def holdReq (h : HeldReq) (s : State) : State :=
  if s.home.held.contains h then s else { s with home := { s.home with held := s.home.held ++ [h] } }
/-- An access leaves the hold. -/
def freeReq (h : HeldReq) (s : State) : State := { s with home := { s.home with held := s.home.held.filter (fun k => k != h) } }

/-- The page of a held access. -/
def heldPage (s : State) (h : HeldReq) : Option Nat :=
  match h with
  | .own c id sub => ((getCtx s c).out.find? (fun a => a.id == id && a.sub == sub)).bind (fun a => (nextPart a).map (fun p => pageOf s p.ia))
  | .copy id wr i => (s.engines.find? (fun e => e.2.id == id)).bind (fun e => ((e.2.parts s wr)[i]?).map (fun w => pageOf s w.1))
  | .other ia _ _ => some (pageOf s ia)
  | .foreign q => some (pageOf s q.ia.toNat)
/-- Accesses held for a page stand before an access: all of them, if it is not itself held (R358, R362, R363). -/
def heldBefore (s : State) (page : Nat) (h : HeldReq) : Bool :=
  (s.home.held.takeWhile (fun k => k != h)).any (fun k => heldPage s k == some page)
/-- The page is on the move (R363). -/
def moving (s : State) (ia : Nat) : Bool := mappedAt s ia && (entryOf s ia).getLsbD 58
/-- A fault of an access of this core, as its home reports it (R358). -/
def faultReport (c : CtxId) (p : Part) (s : State) : State := faultAt p.ia (reportReply c p .fault s)
/-- An access of this core at a home in this package: a write whose page is not mapped, or whose context has logged a write to
it, goes to the side log; another access waits in arrival order behind those that are held, and while the page moves
(R358 to R363, R449). -/
def performPart (c : CtxId) (a : Access) (p : Part) (s : State) : State :=
  let h : HeldReq := .own c a.id a.sub
  let page := pageOf s p.ia
  let logged := (getCtx s c).side.any (fun e => (pagesOf s e).contains page)
  if blockedAt s c a p || arrivedBefore s (iaCore p.ia) a.tick h then s
  else if a.logs && !moving s p.ia && (logged || !mapped s p || heldBefore s page h) then
    enterSide c a (freeReq h (if mapped s p then s else faultReport c p s))
  else if !mapped s p then holdReq h (faultReport c p s)
  else if heldBefore s page h then holdReq h s
  else match performHome p.ia p.op .near (getCtx s c).plan s with
    | (s1, .reply r) => settle c a p r (freeReq h s1)
    | (s1, .away e) => if e.getLsbD 58 then holdReq h s1 else freeReq h s1
    | (s1, .fault) => s1

/-- The n-th outstanding global access of this core is performed at its home (R361, R362). -/
def performOwn (n : Nat) (s : State) : State :=
  match (ownGlobal s)[n]? with
  | some (c, a) => match nextPart a with
    | some p => if iaPkg p.ia = myPkg s then performPart c a p s else s
    | none => s
  | none => s

/-- A side-log entry is performed at its home, or by the package that holds its page, whose reply is given; entries of one
page go in log order, behind the loads held for it, and a write that waits then enters the log (R358, R360, R449). -/
def replaySide (c : CtxId) (n : Nat) (far : Reply) (s : State) : State :=
  let x := getCtx s c
  match x.side[n]? with
  | none => s
  | some e => match nextPart e with
    | none => s
    | some p =>
      let page := pageOf s p.ia
      let remote := iaPkg p.ia != myPkg s || movedAway s p.ia
      let held := s.home.held.any (fun k => heldPage s k == some page)
      if (x.side.take n).any (fun b => (pagesOf s b).contains page) || (isFlag p.op && payloadBefore s c e.id) ||
          (!remote && (!mapped s p || held)) then s
      else match (if remote then (s, HomeRes.reply far) else performHome p.ia p.op .near x.plan s) with
        | (s1, .reply r) =>
          let rest := (getCtx s1 c).side.eraseIdx n
          let y := { getCtx s1 c with side := rest }
          let last := !rest.any (fun b => (pagesOf s1 b).contains page)
          let z := { y with acks := if last then (page, tickNow s1) :: y.acks.filter (fun k => !seen s1 k.2) else y.acks }
          admitSide c (conclude c e p r (setCtx s1 c z))
        | (s1, _) => s1

/-! Other requesters (R358, R362, R363, R374) -/

/-- An access that is held at a fault; a write goes to the side log of its requester (R358). -/
def holdsAtFault (op : GlobalOp) (ret : Bool) : Bool :=
  match op with
  | .load _ => true
  | .xread => true
  | .copyRead _ => true
  | .copyWrite _ => true
  | .atomic _ _ _ _ => ret
  | _ => false
/-- An access of another requester of this package at its home, for a launch (R358, R362, R363). -/
def performOther (ia : Nat) (op : GlobalOp) (ret : Bool) (seq : Nat) (s : State) : State :=
  let h : HeldReq := .other ia op seq
  if heldBefore s (pageOf s ia) h then (if holdsAtFault op ret || moving s ia then holdReq h s else s)
  else match performHome ia op .near seq s with
    | (s1, .reply _) => freeReq h s1
    | (s1, .away e) => if e.getLsbD 58 then holdReq h s1 else freeReq h s1
    | (s1, .fault) => if holdsAtFault op ret then holdReq h (faultAt ia s1) else faultAt ia s1
/-- A request of another package at its home, which answers, holds or forwards it (R358, R363, R446). -/
def performForeign (q : FabricRequest) (s : State) : State :=
  let h : HeldReq := .foreign q
  let ia := q.ia.toNat
  let answer := fun (r : Reply) (s : State) => freeReq h { s with fabric := { s.fabric with replies := s.fabric.replies ++ [(q, r)] } }
  if heldBefore s (pageOf s ia) h then (if holdsAtFault q.op q.ret || moving s ia then holdReq h s else answer .fault s)
  else match performHome ia q.op (.far q.src.toNat) q.seq s with
    | (s1, .reply p) => answer p s1
    | (s1, .away e) =>
      if e.getLsbD 58 then holdReq h s1
      else freeReq h { s1 with fabric := { s1.fabric with forwards := s1.fabric.forwards ++ [(eBits e 33 8, q)] } }
    | (s1, .fault) => if holdsAtFault q.op q.ret then holdReq h (faultAt ia s1) else answer .fault (faultAt ia s1)
/-- The guest entry of a page of another package that this one holds (R363). -/
def guestOf (s : State) (ia : Nat) : Option Dbl :=
  match SMap.get 0 s.home.guests (ia / 2 ^ 16), SMap.get 0 s.home.guests (ia / 2 ^ 21 * 32) with
  | 0, e => if ePS e then some e else none
  | e, _ => some e
/-- An access that the home of a page forwards to this package, its holder: under the guest entry, with the permissions of the
page (R354, R363, R451). -/
def performGuest (q : FabricRequest) (e : Dbl) (s : State) : State :=
  let ia := q.ia.toNat
  let answer := fun (r : Reply) (s : State) => { s with fabric := { s.fabric with replies := s.fabric.replies ++ [(q, r)] } }
  if lacks s.pkg.rev.toNat q.op then answer .unsupported s
  else if !homeAllows s (iaCore ia) e q.op (.far q.src.toNat) then answer (.denied e) (denialEntry ia q.seq e s)
  else let (s1, r) := performAt (placeOf (iaCore ia) e ia) e ia q.op (.far q.src.toNat) s; answer r s1

/-! Copies (R287, R289, R370, R371) -/

/-- An engine that is free takes the next request, unless a fence holds it (R108, R287). -/
def takeCopy (s : State) : State :=
  match [0, 1].find? (fun e => !s.engines.any (fun p => p.1 == e)), s.copyq with
  | some e, r :: t =>
    if fenceHolds s r.ctx { id := r.id, op := .copy r.hd r.hs r.tag } then s
    else { s with copyq := t, engines := SMap.put s.engines e r }
  | _, _ => s
/-- The first service tick from a tick on (R304). -/
def serviceTick (t : Nat) : Nat := t + (7 + 8 - t % 8) % 8
/-- The tick at which a flit that leaves its cluster at a tick can be at the home of a page of this package (R304). -/
def flitTick (s : State) (t core : Nat) : Nat :=
  let h := b2n (core / 160 != s.myDie) + hops (s.myCluster % 10) (core / 16 % 10)
  if h = 0 then t else serviceTick t + 8 * (h - 1) + (if h = 1 && core / 160 != s.myDie then 4 else 2)
/-- A global or host part leaves the core: neither the side log nor a write that waits for room there holds it, and the
service budget allows it. A part for another package carries the token of its range (R298, R299, R360, R370, R371, R443). -/
def sendPart (r : CopyReq) (wr : Bool) (i space : Nat) (w : Nat × Nat) (s : State) : State × CopyReq :=
  let x := getCtx s r.ctx
  let page := pageOf s w.1
  let k : Nat × Nat := (r.id, 2 * i + b2n wr)
  if (r.leftAs wr i).isSome then (s, r)
  else if space = 3 && (x.side.any (fun e => (pagesOf s e).contains page) || x.acks.any (fun k => k.1 == page && !seen s k.2) ||
      (wr && x.out.any (·.wait))) then (s, r)
  else if behind s k || !mayMeter s (flitsOf w.2) then (toEgress k s, r)
  else
    let near := iaPkg w.1 = myPkg s
    let t := if space = 3 ∧ near then flitTick s (takenAt s) (iaCore w.1) else takenAt s
    let rg := ((translate s (r.view s) (runAt (r.side wr) r.runs)).map (·.2)).getD 0
    let q : SentPart := { wr := wr, part := i, ord := s.nextId, tick := t,
                          token := if space ≠ 3 ∨ near then 0 else SMap.get 0 (r.view s).rgc rg }
    ({ meter (flitsOf w.2) (fromEgress k s) with nextId := s.nextId + 1 }, { r with sent := r.sent ++ [q] })
/-- Bytes of a part read, and the copy that has them. -/
def CopyReq.take (r : CopyReq) (i : Nat) (bs : List Byte) : CopyReq :=
  let old := ((r.got.find? (fun g => g.1 == i)).map (·.2)).getD []
  { r with got := r.got.filter (fun g => g.1 != i) ++ [(i, old ++ bs)] }
/-- Bytes of a part written. -/
def CopyReq.give (r : CopyReq) (i n : Nat) : CopyReq :=
  { r with put := (i, r.moved true i + n) :: r.put.filter (fun g => g.1 != i) }
/-- The bytes that the parts read so far give the run, in part order. -/
def CopyReq.bytes (r : CopyReq) : List Byte := (sortBy (fun a b => decide (a.1 ≤ b.1)) r.got).flatMap (·.2)
/-- The bytes that part i of the write side takes. -/
def CopyReq.slice (r : CopyReq) (ws : List (Nat × Nat)) (i : Nat) : List Byte :=
  (r.bytes.drop (((ws.take i).map (·.2)).foldl (· + ·) 0)).take ((ws[i]?.map (·.2)).getD 0)
/-- A home has denied a part: its bytes are never performed (R354). -/
def CopyReq.kill (r : CopyReq) (wr : Bool) (i : Nat) : CopyReq :=
  { r with sent := r.sent.map (fun q => if q.wr = wr ∧ q.part = i then { q with dead := true } else q) }
/-- Bytes that another package holds: free values (R370, log 20). -/
def farBytes (n : Nat) (s : State) : State × List Byte :=
  ({ s with free := s.free + 1 }, (List.range n).map (Config.freeByte s.free))
/-- Bytes of a part: its number, and the address and the bytes of the piece that is performed now, one or more in ascending
address within the part (R289, R370, R371, R376). -/
structure Piece where
  part : Nat
  addr : Nat
  n : Nat
  bytes : List Byte
  deriving DecidableEq, Repr
/-- A piece of a global part at its home in this package: its new copy state, or it waits; one at another package, or on a
page that is held there, waits for its reply (R354, R358, R361 to R363, R370, R372). -/
def globalPart (r : CopyReq) (wr : Bool) (q : SentPart) (w : Piece) (s : State) : State × CopyReq :=
  let h : HeldReq := .copy r.id wr w.part
  let op : GlobalOp := if wr then .copyWrite w.bytes else .copyRead w.n
  let p : Part := ⟨op, w.addr⟩
  if q.dead ∨ iaPkg w.addr ≠ myPkg s ∨ partBlocked s r q w.addr ∨ arrivedBefore s (iaCore w.addr) q.tick h then (s, r)
  else if !mappedAt s w.addr then (holdReq h (faultReport r.ctx p s), r)
  else if heldBefore s (pageOf s w.addr) h then (holdReq h s, r)
  else match resolve w.addr op .near s with
    | (s1, .place k e) =>
      let s2 := freeReq h (countRun (pageOf s1 w.addr) none op s1)
      let bad := !(poisonIn s2 k w.n).isEmpty
      if wr then
        let s3 := clearPoison k w.n { s2 with mem := memWrite s2.mem k w.bytes }
        (setCtx s3 r.ctx (notePin (e.getLsbD 59) r.id (getCtx s3 r.ctx)), r.give w.part w.n)
      else (if bad then uncorrectable 3 (poisonLoc w.addr) s2 else s2, r.take w.part (memRead s2.mem k w.n))
    | (s1, .away e) => (if e.getLsbD 58 then holdReq h s1 else freeReq h s1, r)
    | (s1, .denied e) => (reportReply r.ctx p (.denied e) (denialEntry w.addr (getCtx s1 r.ctx).plan e (freeReq h s1)), r.kill wr w.part)
    | (s1, .fault) => (s1, r)
/-- A piece of a copy in the core's own memories or in a peer's scratchpad, through ports and the vertical bus; a write to a
peer stands behind the earlier accesses of its context there (R34, R234, R289, R292). -/
def localPart (r : CopyReq) (wr : Bool) (space : Nat) (w : Piece) (s : State) : State × CopyReq :=
  let core := if space = 2 then peerCore s w.addr else s.me
  let off := w.addr % 2 ^ 19
  let own := space != 1 && core == s.me
  let wait := if space = 1 then s.stream.isSome
    else if wr then (own && !writeFree s off) || (space == 2 && peerAhead s r.ctx core r.left)
    else own && !readFree s off
  let key := if space = 1 then keyMirror s.me w.addr else keyScratch core off
  if wait then (s, r)
  else
    let s1 := if own then holdPort off wr s else s
    if wr then ({ s1 with mem := memWrite s1.mem key w.bytes }, r.give w.part w.n)
    else (s1, r.take w.part (memRead s1.mem key w.n))
/-- The host accesses of this core that have left it. -/
def ownHost (s : State) : List (CtxId × Access) :=
  allCtx.flatMap (fun c => ((getCtx s c).out.filter (fun a => a.left.isSome && (match a.op with
    | .host _ _ => true
    | _ => false))).map (fun a => (c, a)))
/-- An access at place ord waited while the companion link was lost, and an earlier host access or part of a copy still waits
(R427). -/
def hostQueue (s : State) (ord : Nat) : Bool :=
  decide (ord < s.pkg.ebpinOrd) &&
    ((ownHost s).any (fun p => decide (p.2.ord < ord)) ||
      s.engines.any (fun e => e.2.sent.any (fun q => decide (q.ord < ord) && shSpace (e.2.side q.wr) == 4 &&
        ((e.2.parts s q.wr)[q.part]?).any (fun w => decide (e.2.moved q.wr q.part < w.2)))))
/-- A piece of a host part at the companion's coherence point (R371, R374, R427). -/
def hostPart (r : CopyReq) (wr : Bool) (q : SentPart) (w : Piece) (s : State) : State × CopyReq :=
  if s.pkg.ebpinDown || hostQueue s q.ord || decide (tickNow s < q.tick) || ahead s r.ctx (lineKey w.addr) q.ord r.id then (s, r)
  else if wr then ({ s with mem := memWrite s.mem (keyHost w.addr) w.bytes }, r.give w.part w.n)
  else (s, r.take w.part (memRead s.mem (keyHost w.addr) w.n))
/-- The piece of n bytes that comes next in a part; 0 for all that is left. -/
def CopyReq.piece (r : CopyReq) (ws : List (Nat × Nat)) (wr : Bool) (i n : Nat) (w : Nat × Nat) : Piece :=
  let off := r.moved wr i
  let k := if n = 0 then w.2 - off else min n (w.2 - off)
  { part := i, addr := w.1 + off, n := k, bytes := if wr then ((r.slice ws i).drop off).take k else [] }
/-- A piece of one part of the run that a copy is at is tried (R289, R370, R371). -/
def tryPart (r : CopyReq) (wr : Bool) (i n : Nat) (s : State) : State × CopyReq :=
  let ws := r.parts s wr
  let space := shSpace (r.side wr)
  match ws[i]? with
  | none => (s, r)
  | some w =>
    if space < 3 then localPart r wr space (r.piece ws wr i n w) s
    else
      let (s1, r1) := sendPart r wr i space w s
      match r1.leftAs wr i with
      | some q => if space = 3 then globalPart r1 wr q (r1.piece ws wr i n w) s1 else hostPart r1 wr q (r1.piece ws wr i n w) s1
      | none => (s1, r1)
/-- The parts of a side that have bytes left. -/
def CopyReq.todo (s : State) (r : CopyReq) (wr : Bool) : List Nat :=
  let ws := r.parts s wr
  (List.range ws.length).filter (fun i => (ws[i]?).any (fun w => decide (r.moved wr i < w.2)))
/-- The side of the run that a copy is at: the whole run is read before any byte is written (R289). -/
def CopyReq.writing (s : State) (r : CopyReq) : Bool := (r.todo s false).isEmpty
/-- Parts of the current side that have bytes left, tried in ascending order until one goes on; or the part named (R289,
R383). -/
def tryParts (wr : Bool) (pick : Option Nat) (n : Nat) (s : State) (r : CopyReq) : State × CopyReq :=
  ((r.todo s wr).filter (fun i => pick.all (fun k => k == i))).foldl (fun q i =>
    if q.2.got ≠ r.got ∨ q.2.put ≠ r.put then q else tryPart q.2 wr i n q.1) (s, r)
/-- A copy goes on to its next run when every part of this one is written; with the last run it completes, and its tag's
count falls (R286, R289). -/
def closeRun (e : Nat) (r : CopyReq) (s : State) : State :=
  let done := r.writing s && (r.todo s true).isEmpty
  let r1 := if done then { r with runs := r.runs + 1, sent := [], got := [], put := [] } else r
  if runCount r.hd ≤ r1.runs then tagDown r.tag { s with engines := SMap.del s.engines e }
  else { s with engines := SMap.put s.engines e r1 }
/-- An engine performs one transfer of its copy: of the part named, if one is, and of n bytes, or all that are left with 0
(R289, R376). -/
def copyStep (e : Nat) (pick : Option Nat) (n : Nat) (s : State) : State :=
  match s.engines.find? (fun p => p.1 == e) with
  | some (_, r) =>
    let (s1, r1) := tryParts (r.writing s) pick n s r
    closeRun e r1 s1
  | none => s
/-- The reply of another package, or of the holder of a moved page, to the rest of a part of a copy: bytes read there are free
values (R354, R358, R361, R364, R370, R372, log 20). -/
def partReply (e : Nat) (wr : Bool) (i : Nat) (f : Reply) (s : State) : State :=
  match s.engines.find? (fun p => p.1 == e) with
  | none => s
  | some (_, r) => match (r.parts s wr)[i]?, r.leftAs wr i with
    | some w, some q =>
      let v := r.piece (r.parts s wr) wr i 0 w
      let p : Part := ⟨if wr then .copyWrite v.bytes else .copyRead v.n, v.addr⟩
      let f := if s.fabric.unreachable.contains (iaPkg w.1) then .denied 0 else f
      if shSpace (r.side wr) ≠ 3 ∨ v.n = 0 ∨ q.dead ∨ (iaPkg w.1 = myPkg s ∧ movedAway s w.1 = false) ∨ partBlocked s r q w.1 then s
      else
        let s1 := reportReply r.ctx p f s
        match f with
        | .done _ pin =>
          if wr then closeRun e (r.give i v.n) (setCtx s1 r.ctx (notePin pin r.id (getCtx s1 r.ctx)))
          else let (s2, bs) := farBytes v.n s1; closeRun e (r.take i bs) s2
        | .poisoned =>
          let (s2, bs) := farBytes v.n (uncorrectable 3 (poisonLoc w.1) s1)
          if wr then s else closeRun e (r.take i bs) s2
        | .denied _ => { s1 with engines := SMap.put s1.engines e (r.kill wr i) }
        | _ => s1
    | _, _ => s

/-! Pages that are mapped or have moved (R358, R363) -/

/-- A held access is performed, forwarded, or stays held (R358, R363). -/
def performHeld (s : State) (h : HeldReq) : State :=
  match h with
  | .own c id sub => match (getCtx s c).out.find? (fun a => a.id == id && a.sub == sub) with
    | some a => match nextPart a with
      | some p => performPart c a p s
      | none => freeReq h s
    | none => freeReq h s
  | .copy id wr i => match s.engines.find? (fun e => e.2.id == id) with
    | some (e, r) => let (s1, r1) := tryPart r wr i 0 s; closeRun e r1 s1
    | none => freeReq h s
  | .other ia op seq => performOther ia op true seq s
  | .foreign q => performForeign q s
/-- The held accesses of a page are performed in arrival order (R358, R363). -/
def performAllHeld (page : Nat) (s : State) : State :=
  s.home.held.foldl (fun s h => if heldPage s h == some page then performHeld s h else s) s
/-- The page of a column's entry is mapped: held accesses are performed in arrival order, side logs replay, and then the
loads that stood behind a write of their own context (R358, R360). -/
def pageNowMapped (core idx : Nat) (s : State) : State :=
  let page := pageNo s core idx
  if !eV (entryAt s core (entryIdx s core idx)) then s
  else
    let s := { s with home := { s.home with faults := s.home.faults.filter (fun a => pageOf s a != page) } }
    performAllHeld page (allCtx.foldl (fun s c => (List.range 128).foldl (fun s _ =>
      match (getCtx s c).side.findIdx? (fun e => (pagesOf s e).contains page) with
      | some n => replaySide c n (.done 0 false) s
      | none => s) s) (performAllHeld page s))

/-- The packages that may perform an access: the holder of a moved page of this package, or, for a page homed elsewhere, any
package of the domain, since it may have moved (R363, R451). -/
def performers (s : State) (ia : Nat) : List Nat :=
  if iaPkg ia = myPkg s then [eBits (entryOf s ia) 33 8] else s.fabric.topo.revs.map (·.1)
/-- A package of the domain lacks an access, by the topology table (R451). -/
def pkgLacks (s : State) (op : GlobalOp) (q : Nat) : Bool :=
  match s.fabric.topo.revs.find? (fun r => r.1 == q) with
  | some r => lacks r.2.toNat op
  | none => false
/-- A reply as the revisions of the domain allow it; none where no package there could give it (R451, R452). -/
def replyBy (s : State) (p : Part) (r : Reply) : Option Reply :=
  let l := (performers s p.ia).map (pkgLacks s p.op)
  match r with
  | .unsupported => if l.contains true then some r else none
  | .done _ _ => if l.contains false then some r else some .unsupported
  | .poisoned => if l.contains false then some r else some .unsupported
  | _ => some r
/-- A reply from another package, or from the holder of a moved page, to the n-th outstanding access, behind the earlier
ones of its context to the page; a fault sends a write to the side log (R358, R361, R363, R451, R452). -/
def takeReply (n : Nat) (r : Reply) (s : State) : State :=
  match (ownGlobal s)[n]? with
  | some (c, a) => match nextPart a with
    | some p => match replyBy s p (if s.fabric.unreachable.contains (iaPkg p.ia) then .denied 0 else r) with
      | none => s
      | some r =>
        if (iaPkg p.ia == myPkg s && !movedAway s p.ia) || blockedAt s c a p then s
        else if a.logs && (getCtx s c).side.any (fun e => (pagesOf s e).contains (pageOf s p.ia)) then enterSide c a s
        else match r with
          | .fault => if a.logs then enterSide c a (reportReply c p .fault s) else reportReply c p .fault s
          | _ => settle c a p r (freeReq (.own c a.id a.sub) s)
    | none => s
  | none => s

/-! Host accesses (R374) -/

/-- The n-th outstanding host access is performed at the companion's coherence point, behind the earlier ones of its
context to the same line, copy parts included; retraining holds it (R371, R374, R427). -/
def performHost (n : Nat) (s : State) : State :=
  match (ownHost s)[n]? with
  | some (c, a) =>
    if s.pkg.ebpinDown || hostQueue s a.ord || decide (tickNow s < a.tick) || (pagesOf s a).any (fun k => ahead s c k a.ord a.id) then s
    else match a.op with
      | .host h none =>
        let v := BitVec.ofNat 64 (leNat (memRead s.mem (keyHost h) 8))
        let s1 := putOut c a (fun _ => none) s
        setCtx s1 c (post a.id v s1.cycle (getCtx s1 c))
      | .host h (some v) => putOut c a (fun _ => none) { s with mem := memWrite s.mem (keyHost h) (leBytes 8 v.toNat) }
      | _ => s
  | none => s

/-! Peer accesses (R292) -/

/-- The peer accesses of this core that have left it. -/
def ownPeer (s : State) : List (CtxId × Access) :=
  allCtx.flatMap (fun c => ((getCtx s c).out.filter (fun a => a.left.isSome && (match a.op with
    | .peer _ _ => true
    | _ => false))).map (fun a => (c, a)))
/-- The cycle in which a peer access that an event or the start of this cycle performs takes its port: a load that of the cycle
just past, whose writes it sees, a store this one (R229, R234). -/
def peerCycle (s : State) (a : Access) : Nat :=
  match a.op with
  | .peer _ none => s.cycle - 1
  | _ => s.cycle
/-- An outstanding peer access is performed at its peer, two cycles after it left at the earliest, behind the earlier ones of
its context to that core; one to this core takes its port (R234, R292). -/
def peerAccess (c : CtxId) (a : Access) (s : State) : State :=
  match a.op with
  | .peer p st =>
    let core := peerCore s p
    let off := p % 2 ^ 19
    let busy := core == s.me && !(if st.isSome then writeFree s off else readFree s off)
    if decide (peerCycle s a < a.left.getD 0 + 2) || busy || peerAhead s c core a.ord then s
    else
      let s := if core = s.me then holdPort off st.isSome s else s
      match st with
      | none =>
        let v := BitVec.ofNat 64 (leNat (memRead s.mem (keyScratch core off) 8))
        let s1 := putOut c a (fun _ => none) s
        setCtx s1 c (post a.id v (peerCycle s a + 2) (getCtx s1 c))
      | some v => putOut c a (fun _ => none) { s with mem := memWrite s.mem (keyScratch core off) (leBytes 8 v.toNat) }
  | _ => s
/-- The n-th outstanding peer access is performed. -/
def performPeer (n : Nat) (s : State) : State :=
  match (ownPeer s)[n]? with
  | some (c, a) => peerAccess c a s
  | none => s
/-- The peer accesses of this core to itself are performed at the first cycle at which they can be (R292). -/
def selfPeers (s : State) : State :=
  (ownPeer s).foldl (fun s q => match q.2.op with
    | .peer p _ => if peerCore s p = s.me then peerAccess q.1 q.2 s else s
    | _ => s) s
/-- An access of a cluster neighbour at this core, when its port is free; or another core's own store. Bytes of a neighbour's
copy lie in one 256-byte block (R231, R234, R292, R376). -/
def performNeighbour (r : PeerReq) (s : State) : State :=
  match r with
  | .own n => performPeer n s
  | .load a => if a.toNat % 8 = 0 && readFree s a.toNat then holdPort a.toNat false s else s
  | .store a v =>
    if a.toNat % 8 = 0 && writeFree s a.toNat then scratchWrite (holdPort a.toNat true s) a.toNat (leBytes 8 v.toNat) else s
  | .copyIn a bs =>
    if a.toNat % 256 + bs.length ≤ 256 && writeFree s a.toNat then scratchWrite (holdPort a.toNat true s) a.toNat bs else s
  | .copyOut a n => if a.toNat % 256 + n ≤ 256 && readFree s a.toNat then holdPort a.toNat false s else s
  | .change core a bs =>
    if core.toNat = s.me || 1279 < core.toNat || 2 ^ 19 < a.toNat + bs.length then s
    else { s with mem := memWrite s.mem (keyScratch core.toNat a.toNat) bs }

end Sys2Proof.Machine
end

