-- ==== Sys2Proof/Machine/Station.lean ====
section
/-! DEFINITION. The station's transmit queues: presence on the buses, the release buffers of the contexts, and how frames
become ready and enter a queue (18_package_broadcast.md R326 to R328, R336; 22_program_allreduce.md R406, R407; R265). -/

namespace Sys2Proof.Machine

/-! Ticks and presence -/

/-- Rounded-up quotient. -/
def ceilDiv (a b : Nat) : Nat := (a + b - 1) / b
/-- The first cycle that sees a tick, with no stretch to come (R296). -/
def cycleSeeing (s : State) (t : Nat) : Nat :=
  s.cycle + ceilDiv ((t + 1) * Config.ns - s.time) (Config.period s.cluster.freq.toNat)
/-- The next cycle begins at or after a tick. -/
def tickBy (s : State) (t : Nat) : Bool := decide (t * Config.ns ≤ nextTime s)
/-- Power state of a cluster of the package (R322). -/
def clusterSt (s : State) (cl : Nat) : PowerSt := SMap.get .active s.pkg.clusters cl
/-- GATE of a cluster's BUSGATE as the writes taken by tick u leave it (R406). -/
def gateAt (s : State) (cl u : Nat) : BitVec 4 :=
  ((s.pkg.gates.filter (fun g => g.1 == cl && decide (g.2.2 ≤ u))).getLast?.map (·.2.1)).getD 0
/-- GATE of a cluster's BUSGATE as last written (R406). -/
def gateReg (s : State) (cl : Nat) : BitVec 4 := ((s.pkg.gates.filter (fun g => g.1 == cl)).getLast?.map (·.2.1)).getD 0
/-- A station may be present on a bus from a round start at tick u on: its cluster is ACTIVE, its receiver has lock, it is
not gated by then, and our own has not left (R327, R406). -/
def mayJoin (s : State) (b : BitVec 2) (u st : Nat) : Bool :=
  (getBus s b).lock.getLsbD st && clusterSt s st == .active && !(gateAt s st u).getLsbD b.toNat &&
    !(st == s.myCluster && (getBus s b).leave)
/-- Presence bits from a round start at tick u on (R327). -/
def presence (s : State) (b : BitVec 2) (u : Nat) : BitVec 80 :=
  (List.range 80).foldl (fun m st => if mayJoin s b u st then m ||| (1#80 <<< st) else m) 0
/-- Our station is present on a bus, in bus order (R327). -/
def ownPresent (s : State) (b : BitVec 2) : Bool := (getBus s b).present.getLsbD s.myCluster
/-- Our station is present on a bus as seen at a tick (R326, R327). -/
def presentAt (s : State) (b : BitVec 2) (t : Nat) : Bool := (viewAt (getBus s b) t).present.getLsbD s.myCluster
/-- The station of a core is absent on a bus as seen at a tick (R327). -/
def absentAt (s : State) (b : BitVec 2) (t core : Nat) : Bool := !(viewAt (getBus s b) t).present.getLsbD (core / 16)
/-- Views that no decision needs any more leave the list. -/
def pruneViews (now applied : Nat) (l : List BusView) : List BusView :=
  let old := fun (v : BusView) => decide (v.tick + 8 ≤ now) && decide (v.tick ≤ applied)
  (l.filter old).getLast?.toList ++ l.filter (fun v => !old v)
/-- The token's place at tick t as every station sees it, four ticks later (R326, R346). -/
def addView (b : BitVec 2) (t : Nat) (s : State) : State :=
  let x := getBus s b
  let v : BusView := { tick := t + 4, pos := x.pos, round := x.round, present := x.present }
  setBus b { x with views := pruneViews (tickNow s) x.applied x.views ++ [v] } s

/-! The transmit queue (R325, R328, R407) -/

/-- The tags of discarded frames fall (R407). -/
def dropFrames (l : List TxEntry) (s : State) : State :=
  l.foldl (fun s e => match e.tag with
    | some t => tagDown t s
    | none => s) s
/-- A DATA or RED frame (R324). -/
def isPayload (e : TxEntry) : Bool := decide (e.frame.kind.toNat < 2)
/-- DATA and RED frames of an absent station are discarded; the others stay, also those of a station that has left (R407,
log 80). -/
def purge (b : BitVec 2) (s : State) : State :=
  let x := getBus s b
  if ownPresent s b then s
  else dropFrames (x.txq.filter isPayload) (setBus b { x with txq := x.txq.filter (fun e => !isPayload e) } s)
/-- A frame enters the transmit queue; DATA and RED are discarded while the station is absent (R328, R407). -/
def enqueue (e : TxEntry) (s : State) : State :=
  let b := e.frame.bus
  if isPayload e && !ownPresent s b then dropFrames [e] s
  else setBus b { getBus s b with txq := (getBus s b).txq ++ [e] } s

/-! The release buffer (R265, R336) -/

/-- The run of a copy touches a region (R335). -/
def runIn (h : BitVec 256) (r : Nat × Nat) : Bool :=
  (List.range (runCount h)).any (fun n => decide (runAt h n < r.1 + r.2) && decide (r.1 < runAt h n + shDim0 h))
/-- A copy writes into a bound region of an object (R336, R384). -/
def bound (s : State) (obj : BitVec 12) (r : CopyReq) : Bool :=
  shSpace r.hd == 3 && (getObj s obj.toNat).regions.any (runIn r.hd)
/-- The conditions under which a committed REL is ready (R336, R384). -/
def relReady (s : State) (c : CtxId) (a : Access) (obj : BitVec 12) (mask : Dbl) : Bool :=
  let x := getCtx s c
  let m := mask &&& planTags s c
  !(x.out.any (fun b => decide (b.id < a.id) && b.op.released && !b.op.isRel)) &&
    !(framesOf s c).any (fun e => decide (e.id.getD 0 < a.id)) && x.side.isEmpty &&
    (List.range 64).all (fun j => !m.getLsbD j || tagCount s j == 0) &&
    !(copiesOf s c).any (fun r => decide (r.id < a.id) && bound s obj r)
/-- The frame of an ACQ, ACQS or REL (R324, R335). -/
def syncFrame (s : State) (c : CtxId) (kind : BitVec 4) (obj : BitVec 12) : Frame :=
  { kind := kind, utag := 0, id := obj, len := 0, fmt := 0, bus := obj.extractLsb' 0 2, sender := s.self, ctx := c, payload := [] }
/-- The object is a fabric sync object (R335, R453). -/
def isSys (s : State) (obj : BitVec 12) : Bool := (getObj s obj.toNat).scope == 5
/-- What becomes of the head of the committed entries. -/
inductive HeadNext where
  | stay (a : Access)
  | leave (s : State)
  deriving DecidableEq, Repr
/-- The head of a context's committed entries at the end of a cycle (R108, R265, R287, R328, R336). -/
def headNext (s : State) (c : CtxId) (a : Access) : HeadNext :=
  let x := getCtx s c
  let out := fun (b : Access) => HeadNext.leave (setCtx s c { x with out := x.out ++ gwsWrites b })
  if fenceHolds s c a then .stay a
  else match a.op with
    | .copy hd hs t =>
      if s.copyq.length < 64 then
        let r : CopyReq := { ctx := c, id := a.id, hd := hd, hs := hs, tag := t, left := s.nextId, ranges := a.ranges }
        .leave { s with copyq := s.copyq ++ [r], nextId := s.nextId + 1 }
      else .stay a
    | .frame _ _ _ => .stay a
    | .rel obj m =>
      if a.tick = 0 then .stay (if relReady s c a obj m then { a with tick := takenAt s } else a)
      else if isSys s obj && tickBy s a.tick then out { a with left := some s.cycle }
      else .stay a
    | _ => out { a with tick := takenAt s, left := none }
/-- The leading committed OBCST and ORED of a context are ready, at one tick (R328, R331). -/
def stampRun (s : State) (c : CtxId) : Nat → List Access → List Access
  | k + 1, a :: l =>
    match a.op with
    | .frame _ _ _ =>
      if fenceHolds s c a then a :: l else (if a.tick = 0 then { a with tick := takenAt s } else a) :: stampRun s c k l
    | _ => a :: l
  | _, l => l
/-- The committed entries of a context leave the buffer in order, as far as they can (R265). -/
def drainRel (c : CtxId) : Nat → State → State
  | 0, s => s
  | n + 1, s =>
    let x := getCtx s c
    match x.rel, x.commit with
    | a :: t, k + 1 =>
      match headNext s c a with
      | .stay b => setCtx s c { x with rel := stampRun s c (k + 1) (b :: t) }
      | .leave s1 => drainRel c n (setCtx s1 c { getCtx s1 c with rel := t, commit := k })
    | _, _ => s
/-- The release buffer of a context at the end of a cycle. -/
def relCycle (s : State) (c : CtxId) : State := drainRel c 65 s

/-! Ready frames (R328) -/

/-- Where a ready frame waits to enter the transmit queue: at the head of a release buffer, among the words of a context
that have yet to leave, or at the station itself. -/
inductive Waiter where
  | rel (c : CtxId)
  | out (c : CtxId) (a : Access)
  | late (n : Nat)
  deriving DecidableEq, Repr
/-- A ready frame: the tick at which it became ready, its core in the cluster and its context, its bus, where it waits and
what it enters the queue as (R328). -/
structure Ready where
  tick : Nat
  core : Nat
  ctx : Nat
  bus : BitVec 2
  waiter : Waiter
  entry : TxEntry
  deriving DecidableEq, Repr
/-- A frame of a context of this core, as it waits. -/
def readyOf (s : State) (c : CtxId) (w : Waiter) (e : TxEntry) : Ready :=
  { tick := e.tick, core := s.self.toNat % 16, ctx := c.toNat, bus := e.frame.bus, waiter := w, entry := { e with ctx := c } }
/-- The ready frame at the head of a context's release buffer (R328, R331, R336). -/
def relFrame (s : State) (c : CtxId) : List Ready :=
  let x := getCtx s c
  match x.rel, x.commit with
  | a :: _, _ + 1 =>
    if a.tick = 0 then []
    else match a.op with
      | .frame f p t => [readyOf s c (.rel c) { frame := f, src := p, tag := some t, id := some a.id, tick := a.tick }]
      | .rel obj _ => if isSys s obj then [] else [readyOf s c (.rel c) { frame := syncFrame s c 4 obj, id := some a.id, tick := a.tick }]
      | _ => []
  | _, _ => []
/-- The ready frames among the words of a context: acquires and marks (R328, R336, R339). -/
def outFrame (s : State) (c : CtxId) (a : Access) : List Ready :=
  if a.left.isSome then []
  else match a.op with
    | .acquire obj sh =>
      if isSys s obj then [] else [readyOf s c (.out c a) { frame := syncFrame s c (if sh then 3 else 2) obj, tick := a.tick }]
    | .frame f _ _ => [readyOf s c (.out c a) { frame := f, tick := a.tick }]
    | _ => []
/-- The ready frames that wait at the station: MAP, RESET and those of the cluster's other cores (R328, R345, R395). -/
def lateFrames (s : State) (b : BitVec 2) : List Ready :=
  (getBus s b).late.mapIdx (fun n e =>
    { tick := e.tick, core := e.frame.sender.toNat % 16, ctx := e.frame.ctx.toNat, bus := b, waiter := .late n, entry := e })
/-- All frames that are ready or have been given their tick. -/
def readyFrames (s : State) : List Ready :=
  [0, 1, 2, 3].flatMap (lateFrames s) ++
    allCtx.flatMap (fun c => (getCtx s c).out.flatMap (outFrame s c) ++ relFrame s c)
/-- A frame enters the queue before another: by tick, then cluster core index, then context (R328). -/
def enters (a b : Ready) : Bool :=
  decide (a.tick < b.tick) || (a.tick == b.tick && (decide (a.core < b.core) || (a.core == b.core && decide (a.ctx ≤ b.ctx))))
/-- A ready frame enters the queue of its bus, by tick t at the earliest (R328). -/
def enter (t : Nat) (r : Ready) (s : State) : State :=
  let e := { r.entry with tick := max t r.tick }
  match r.waiter with
  | .late n => enqueue e (setBus r.bus { getBus s r.bus with late := (getBus s r.bus).late.eraseIdx n } s)
  | .out c a =>
    let gone := fun (a : Access) => match a.op with
      | .frame _ _ _ => none
      | _ => some { a with left := some s.cycle }
    enqueue e (putOut c a gone s)
  | .rel c =>
    let x := getCtx s c
    let sent := (x.rel.take 1).filter (fun a => a.op.isRel)
    let y := { x with rel := x.rel.tail, commit := x.commit - 1, out := x.out ++ sent.map (fun a => { a with left := some s.cycle }) }
    relCycle (enqueue e (setCtx s c y)) c
/-- Room in the transmit queue of a bus (R328). -/
def txRoom (s : State) (b : BitVec 2) : Bool := decide ((getBus s b).txq.length < 64)
/-- Ready frames whose tick meets a test enter the queues one after another, as far as there is room (R328). -/
def takeIn (t : Nat) (ok : Nat → Bool) : Nat → State → State
  | 0, s => s
  | n + 1, s =>
    match (sortBy enters ((readyFrames s).filter (fun r => ok r.tick && txRoom s r.bus))).head? with
    | some r => takeIn t ok n (enter t r s)
    | none => s
/-- The frames that are ready by a tick at which room arises enter the queues (R328). -/
def admitAt (t : Nat) (s : State) : State := takeIn t (fun u => decide (u ≤ tickNow s)) 257 s
/-- The frames that are ready by the next cycle enter the queues (R328). -/
def admitCycle (s : State) : State := takeIn (tickNow s) (tickBy s) 257 s

end Sys2Proof.Machine
end

