-- ==== Sys2Proof/Machine/Bus.lean ====
section
/-! DEFINITION. The prism buses as our station sees them (18_package_broadcast.md R324 to R346, 22_program_allreduce.md
R406 to R408, 23_program_drift_loop.md R415 to R417): the token, the transmit queues, frames, receives and filters. -/

namespace Sys2Proof.Machine

/-! The token (R325) -/

/-- Beats of a frame (R324). -/
def beats (f : Frame) : Nat := if f.kind.toNat < 2 then 1 + ceilDiv f.len.toNat 80 else if f.kind = 6 then 2 else 1
/-- Our station has left a bus after a failed check: the black box has its entry, and the supervisor is to end every plan
with a context on the cluster (R327, R434). -/
def leftBus (b : BitVec 2) (s : State) : State :=
  let s1 := blackBox s 8 (BitVec.ofNat 11 (16 * s.myCluster)) 0 (b.zeroExtend 64) 0
  (s1.plans.filter (fun p => p.clusters.contains s.myCluster)).foldl (fun s p => report p.seq 0x0012 (BitVec.ofNat 64 s.myCluster) (b.zeroExtend 64) s) s1
/-- A round start: ROUND rises, presence changes apply, an absent station discards, and one that leaves the bus has left it
(R325, R327, R407). -/
def roundStart (b : BitVec 2) (s : State) : State :=
  let x := getBus s b
  let s1 := admitAt x.arr (purge b (setBus b { x with round := x.round + 1, present := presence s b x.arr } s))
  if x.leave && x.present.getLsbD s.myCluster then leftBus b s1 else s1
/-- The payload of a frame is at the station (R331). -/
def loaded (e : TxEntry) : Bool := !isPayload e || decide (e.frame.len.toNat ≤ e.read)
/-- The payload of a MAP frame that is being sent is the staged map at its send tick (R417). -/
def loadMap (b : BitVec 2) (s : State) : State :=
  let x := getBus s b
  match x.txq with
  | e :: l =>
    if x.sending && e.frame.kind == 6 && e.frame.payload.isEmpty then
      let bs := leBytes 8 x.stagedL.toNat ++ leBytes 8 x.stagedH.toNat
      setBus b { x with txq := { e with frame := { e.frame with payload := bs } } :: l } s
    else s
  | [] => s
/-- The send tick of a MAP frame has passed when this cycle begins (R325, R417). -/
def mapCycle (s : State) (b : BitVec 2) : State :=
  if ((getBus s b).arr + 1) * Config.ns < s.time then loadMap b s else s
/-- The token reaches the next station, at the tick that its leaving gives; ours sends the head of its queue if it is
present and not quiet. A frame whose payload is not read by its first beat waits for the next visit (R325, R331, R416,
log 66). -/
def tokenStep (b : BitVec 2) (s : State) : State :=
  let x := getBus s b
  if x.sending || tickNow s < x.next then s
  else
    let p := (x.pos + 1) % 80
    let t := x.next
    let s0 := setBus b { x with pos := p, arr := t, next := t + 1 } s
    let s1 := addView b t (if p = 0 then roundStart b s0 else s0)
    let y := getBus s1 b
    match y.txq with
    | e :: _ =>
      if p = s1.myCluster && ownPresent s1 b && y.quiet.isNone && y.resumeAt.all (fun r => decide (r ≤ t)) && decide (e.tick ≤ t) then
        if loaded e then setBus b { y with sending := true } s1 else if tickNow s ≤ t + 1 then s else s1
      else s1
    | [] => s1
/-- A MAP frame has gone out: its map becomes active, and the station may become quiet (R345, R415). -/
def mapSent (now : Nat) (f : Frame) (x : Bus) : Bus :=
  { x with mpend := false, mapL := BitVec.ofNat 64 (leNat (f.payload.take 8)),
           mapH := BitVec.ofNat 64 (leNat ((f.payload.drop 8).take 8)),
           quiet := if x.quietNext then some now else x.quiet, quietNext := false }
/-- The last beat of our frame, at the tick that its length gives: it leaves the queue, its tag's count falls, the token
leaves two ticks later (R290, R324, R325, R331, R345). -/
def lastBeat (b : BitVec 2) (s : State) : State :=
  let s := if seen s ((getBus s b).arr + 1) then loadMap b s else s
  let x := getBus s b
  match x.sending, x.txq with
  | true, e :: t =>
    let u := x.arr + beats e.frame
    if !seen s u then s
    else
      let f : AirFrame := { tick := u + 4, frame := e.frame, mapL := x.mapL, mapH := x.mapH }
      let y : Bus := { x with sending := false, txq := t, air := x.air ++ [f], next := u + 2 }
      let s1 := dropFrames [e] (setBus b (if e.frame.kind = 6 then mapSent u e.frame y else y) s)
      admitAt u { s1 with justZero := s.justZero }
  | _, _ => s
/-- The last beat of a frame that the station with the token has sent on this visit, under its own map (R324, R325, R345). -/
def otherBeat (b : BitVec 2) (f : Frame) (l h : Dbl) (s : State) : State :=
  let x := getBus s b
  let u := x.arr + beats f
  if x.sending || f.bus != b || f.sender.toNat / 16 != x.pos || x.pos == s.myCluster || !x.present.getLsbD x.pos || x.next != x.arr + 1 ||
    decide (tickNow s < u) then s
  else setBus b { x with air := x.air ++ [{ tick := u + 4, frame := f, mapL := l, mapH := h }], next := u + 2 } s
/-- The station reads payload of the first frame that lacks some, up to the end of a 256-byte block through the free read
port of its quadrant (R231, R234, R331, log 66). -/
def payloadOne (b : BitVec 2) (s : State) : State :=
  let x := getBus s b
  let mine := fun (e : TxEntry) => isPayload e && e.frame.sender == s.self && decide (e.read < e.frame.len.toNat)
  match x.txq.find? mine with
  | none => s
  | some e =>
    let a := e.src + e.read
    if (portHolder s (quadOf a) false s.cycle).isSome then s
    else
      let k := min (e.frame.len.toNat - e.read) (256 - a % 256)
      let e1 := { e with frame := { e.frame with payload := e.frame.payload ++ scratchRead s a k }, read := e.read + k }
      let s1 := { s with ports := { cycle := s.cycle, quad := quadOf a, write := false, holder := 2 } :: s.ports }
      setBus b { x with txq := x.txq.takeWhile (fun w => !mine w) ++ e1 :: (x.txq.dropWhile (fun w => !mine w)).tail } s1
/-- What the station reads for a bus in a cycle: the four quadrants at most (R231, R331). -/
def payloadCycle (s : State) (b : BitVec 2) : State := payloadOne b (payloadOne b (payloadOne b (payloadOne b s)))

/-! Receives (R332 to R334, R408) -/

/-- A qbc entry (R334). -/
def qbcEntry (status bus who len : Nat) (utag : BitVec 32) : Dbl :=
  BitVec.ofNat 64 (status * 2 ^ 60 + bus * 2 ^ 58 + who * 2 ^ 47 + len * 2 ^ 32 + utag.toNat)
/-- A receive put in the place of the one with its identity. -/
def putRecv (c : CtxId) (r : Recv) (s : State) : State :=
  let x := getCtx s c
  setCtx s c { x with recv := x.recv.map (fun q => if q.id = r.id then r else q) }
/-- An event completes a receive: its entry is fixed, and its place among the completions (R333, R334). -/
def completeRecv (c : CtxId) (r : Recv) (v : Dbl) (s : State) : State :=
  putRecv c { r with armed := true, full := true, fin := some (v, s.nextId) } { s with nextId := s.nextId + 1 }
/-- A completed receive leaves the list, and its entry posts at the cycle (R334). -/
def endRecv (c : CtxId) (r : Recv) (v : Dbl) (s : State) : State :=
  let x := getCtx s c
  setCtx s c { x with recv := x.recv.filter (fun q => q.id != r.id), rcvAt := s.cycle :: x.rcvAt.filter (fun k => decide (s.cycle ≤ k)),
                      owed := x.owed ++ [{ q := 1, id := r.id, val := some v, cyc := s.cycle }] }
/-- The entry of a receive that ends because a station is absent or all members are accounted for (R334, R408). -/
def recvEntry (absent : Bool) (r : Recv) : Dbl :=
  qbcEntry (b2n absent) r.bus.toNat (if r.reduce then r.accepted.length else 0) r.len.toNat r.mtch
/-- Conditions of R333 on what a frame and a receive share. -/
def sameKind (f : Frame) (r : Recv) : Bool :=
  (r.group.zeroExtend 12 == f.id) && r.bus == f.bus && (!r.men || r.mtch == f.utag) &&
    (if r.reduce then f.kind == 1 && r.len == f.len && f.fmt == (if r.bf16 then 1 else 0)
     else f.kind == 0 && decide (f.len.toNat ≤ r.len.toNat))
/-- A receive that takes a frame seen at tick t (R332, R333). -/
def takes (s : State) (f : Frame) (t : Nat) (r : Recv) : Bool :=
  !r.full && decide (r.tick ≤ t) && (r.armed || presentAt s r.bus r.tick) && sameKind f r &&
    (!r.reduce || ((getGroup s f.id.toNat).members.contains f.sender.toNat && !r.accepted.contains f.sender))
/-- The FP32 lanes of a RED payload, as bytes (R333). -/
def redLanes (bf : Bool) (bs : List Byte) : List Byte :=
  if bf then (List.range (bs.length / 2)).flatMap (fun j => [0, 0] ++ (bs.drop (2 * j)).take 2) else bs
/-- Lanes added to the destination at an address; before the first frame they are −0 (R59, R333). -/
def addLanes (s : State) (first : Bool) (a : Nat) (bs : List Byte) : List Byte :=
  (List.range (bs.length / 4)).flatMap (fun j =>
    let old := if first then 2 ^ 31 else leNat (scratchRead s (a + 4 * j) 4)
    leBytes 4 (fadd f32 rne old (leNat ((bs.drop (4 * j)).take 4))).1)
/-- Every member has been accepted or is absent at a tick (R333). -/
def reduceDone (s : State) (r : Recv) (t : Nat) : Bool :=
  (getGroup s r.group.toNat).members.all (fun m => r.accepted.contains (BitVec.ofNat 11 m) || absentAt s r.bus t m)
/-- A member is absent and not accepted (R334). -/
def reduceShort (s : State) (r : Recv) : Bool :=
  (getGroup s r.group.toNat).members.any (fun m => !r.accepted.contains (BitVec.ofNat 11 m))
/-- Bytes of a receive are on their way into the scratchpad (R333). -/
def writing (s : State) (c : CtxId) (r : Recv) : Bool := s.rxjobs.any (fun j => j.ctx == c && j.id == r.id)
/-- A receive completed before another on the same bus (R334). -/
def doneBefore (q r : Recv) : Bool :=
  match q.fin, r.fin with
  | some (_, m), some (_, n) => q.bus == r.bus && decide (m < n)
  | _, _ => false
/-- The entry of a completed receive posts after its last write, behind those that completed before it on its bus (R334). -/
def postRecv (c : CtxId) (s : State) (r : Recv) : State :=
  match r.fin with
  | some (v, _) => if writing s c r || (getCtx s c).recv.any (fun q => doneBefore q r) then s else endRecv c r v s
  | none => s
/-- The receives of a context that may post do. -/
def postRecvs (s : State) (c : CtxId) : State :=
  let le := fun (q r : Recv) => decide ((q.fin.map (·.2)).getD 0 ≤ (r.fin.map (·.2)).getD 0)
  (sortBy le ((getCtx s c).recv.filter (fun r => r.fin.isSome))).foldl (postRecv c) s
/-- An event seen at tick t completes a reduce receive when every member has been accepted or is absent (R333). -/
def checkReduce (b : BitVec 2) (t : Nat) (c : CtxId) (s : State) (r : Recv) : State :=
  if r.bus == b && r.reduce && r.armed && !r.full && decide (r.tick ≤ t) && reduceDone s r t then
    completeRecv c r (recvEntry (reduceShort s r) r) s
  else s
/-- The reduce receives of all contexts at an event of their bus (R333). -/
def checkReduces (b : BitVec 2) (t : Nat) (s : State) : State :=
  allCtx.foldl (fun s c => (getCtx s c).recv.foldl (checkReduce b t c) s) s
/-- A frame seen at tick t goes to the receive of a context that takes it: its bytes follow those of the frames before it
into the scratchpad (R333, R334). -/
def intoRecv (f : Frame) (c : CtxId) (r : Recv) (s : State) : State :=
  let j : RxJob :=
    { ctx := c, id := r.id, dst := r.dst, off := 0, reduce := r.reduce, first := r.accepted.isEmpty,
      bytes := if r.reduce then redLanes r.bf16 f.payload else f.payload.take f.len.toNat }
  let s1 := { s with rxjobs := s.rxjobs ++ [j] }
  if r.reduce then putRecv c { r with accepted := r.accepted ++ [f.sender], armed := true } s1
  else completeRecv c r (qbcEntry 0 f.bus.toNat f.sender.toNat f.len.toNat f.utag) s1
/-- Bytes at the head of what the receives write enter the scratchpad, up to the end of a 256-byte block through the free
write port of its quadrant (R231, R234, R333). -/
def rxOne (s : State) : State :=
  match s.rxjobs with
  | [] => s
  | j :: rest =>
    let a := j.dst + j.off
    if !writeFree s a then s
    else
      let k := min j.bytes.length (256 - a % 256)
      let bs := j.bytes.take k
      let s1 := scratchWrite (holdPort a true s) a (if j.reduce then addLanes s j.first a bs else bs)
      let j1 := { j with off := j.off + k, bytes := j.bytes.drop k }
      { s1 with rxjobs := if j1.bytes.isEmpty then rest else j1 :: rest }
/-- What the receives write in a cycle (R333). -/
def rxCycle (s : State) : State := allCtx.foldl postRecvs (rxOne (rxOne (rxOne (rxOne s))))
/-- Contexts of the plan of a group on this core. -/
def planCtxs (s : State) (seq : Nat) : List CtxId :=
  allCtx.filter (fun c => (getCtx s c).st != .empty && (getCtx s c).plan == seq)
/-- A count of 32 bits that rises by n and saturates (R346). -/
def satAdd32 (v : BitVec 32) (n : Nat) : BitVec 32 := BitVec.ofNat 32 (min (2 ^ 32 - 1) (v.toNat + n))
/-- Other cores of our station's cluster that are members of a group (R333). -/
def otherMembers (s : State) (g : Group) : Nat := (g.members.filter (fun m => m / 16 == s.myCluster && m != s.me)).length
/-- A DATA or RED frame seen at tick t: at this core to the oldest receive that takes it in each context of the plan, or
dropped; drops is the number of the station's other member cores at which it is dropped (R333, R346). -/
def deliverFrame (f : Frame) (drops : BitVec 4) (t : Nat) (s : State) : State :=
  let g := getGroup s f.id.toNat
  let here := g.members.contains s.me
  let hit := if here then (planCtxs s g.plan).filterMap (fun c => ((getCtx s c).recv.find? (takes s f t)).map (fun r => (c, r))) else []
  let n := min drops.toNat (otherMembers s g) + b2n (here && hit.isEmpty)
  let s1 := setBus f.bus { getBus s f.bus with dropc := satAdd32 (getBus s f.bus).dropc n } s
  checkReduces f.bus t (hit.foldl (fun s h => intoRecv f h.1 h.2 s) s1)
/-- A receive is armed by tick t if its own tick has come, and it ends if its station is absent at its arming or at t
(R332, R408). -/
def armRecv (t : Nat) (c : CtxId) (s : State) (r : Recv) : State :=
  if r.full || decide (t < r.tick) then s
  else if !r.armed && !presentAt s r.bus r.tick then completeRecv c { r with accepted := [] } (recvEntry true { r with accepted := [] }) s
  else if !presentAt s r.bus t then completeRecv c r (recvEntry true r) s
  else putRecv c { r with armed := true } s
/-- The receives of a bus at a tick that is seen (R332, R408). -/
def armBus (b : BitVec 2) (t : Nat) (s : State) : State :=
  allCtx.foldl (fun s c => ((getCtx s c).recv.filter (fun r => r.bus == b)).foldl (armRecv t c) s) s

/-! Sync objects (R337, R338) -/

/-- This core's own requester. -/
def isMine (s : State) (r : Requester) : Bool := r.core == s.self && r.pkg == s.fabric.topo.self
/-- An acquire that the filters have yet to decide, or one that they have queued (R336, R337). -/
def acqOf (obj : BitVec 12) (shared queued : Bool) (a : Access) : Bool :=
  a.op == .acquire obj shared && a.left.isSome && (a.parts == b2n queued)
/-- A status decided at tick t posts for an acquire of this core; a grant is kept across rollback: that of a word that has
issued since the checkpoint is posted again when the word issues again (R260, R337, R338). -/
def answerAcq (r : Requester) (obj : BitVec 12) (shared queued : Bool) (status t : Nat) (s : State) : State :=
  if !isMine s r then s
  else
    let x := getCtx s r.ctx
    match x.out.find? (acqOf obj shared queued) with
    | none => s
    | some a =>
      let y := { x with out := x.out.filter (fun b => b.id != a.id) }
      if x.owed.any (fun w => w.id == a.id && w.val.isNone) then
        let z := post a.id (qfxEntry status (b2n shared) obj.toNat) (cycleSeeing s t) y
        setCtx s r.ctx (if status = 0 && decide ((x.ckpt.map (·.id)).getD 0 ≤ a.id) then { z with got := (obj, shared) :: z.got } else z)
      else setCtx s r.ctx (if status = 0 then { y with grants := (obj, shared) :: y.grants } else y)
/-- An acquire of this core that the filters have queued (R337). -/
def queueAcq (r : Requester) (obj : BitVec 12) (shared : Bool) (s : State) : State :=
  if !isMine s r then s
  else
    let x := getCtx s r.ctx
    match x.out.find? (acqOf obj shared false) with
    | none => s
    | some a => setCtx s r.ctx { x with out := x.out.map (fun b => if b.is a then { b with parts := 1 } else b) }
/-- A status posts for a REL of this core (R337, R338). -/
def answerRel (r : Requester) (obj : BitVec 12) (status t : Nat) (s : State) : State :=
  if !isMine s r then s
  else
    let x := getCtx s r.ctx
    match x.out.find? (fun a => a.left.isSome && (match a.op with | .rel o _ => o == obj | _ => false)) with
    | none => s
    | some a =>
      setCtx s r.ctx (post a.id (qfxEntry status 2 obj.toNat) (cycleSeeing s t)
        { x with out := x.out.filter (fun b => b.id != a.id) })
/-- A sync object put in its place. -/
def setObj (o : Nat) (x : SyncObj) (s : State) : State := { s with objs := SMap.set {} s.objs o x }
/-- Waiters of the bus that is home to an object; fabric sync objects have their own home (R335, R453). -/
def busWaiters (s : State) (o : Nat) : Nat :=
  s.objs.foldl (fun n p => if p.1 % 4 = o % 4 && p.2.scope != 5 then n + p.2.waiters.length else n) 0
/-- A requester holds an object (R337). -/
def holds (x : SyncObj) (r : Requester) : Bool := x.excl == some r || x.shared.contains r
/-- The scope instance of a requester, as a number (R378). -/
def instanceOf (scope : BitVec 3) (r : Requester) : Nat :=
  match scope.toNat with
  | 0 => r.core.toNat * 16 + r.ctx.toNat
  | 1 => r.core.toNat
  | 2 => r.core.toNat / 16
  | 3 => r.core.toNat / 160
  | _ => 0
/-- The requester is of the instance that the object's first acquire has fixed (R378). -/
def inScope (x : SyncObj) (r : Requester) : Bool :=
  match x.inst with
  | some q => instanceOf x.scope q == instanceOf x.scope r
  | none => true
/-- ACQ or ACQS is decided; a fabric sync object has no limit of waiters (R337, R378, R453, log 81). -/
def decideAcq (o : BitVec 12) (r : Requester) (shared : Bool) (t : Nat) (s : State) : State :=
  let old := getObj s o.toNat
  if !inScope old r then answerAcq r o shared false 5 t s else
  let x := { old with inst := some (old.inst.getD r) }
  let s := setObj o.toNat x s
  let free := x.excl.isNone && x.shared.isEmpty && x.waiters.isEmpty
  if holds x r || x.waiters.any (fun w => w.1 == r) then answerAcq r o shared false 1 t s
  else if x.scope ≠ 5 ∧ 1024 ≤ busWaiters s o.toNat then answerAcq r o shared false 2 t s
  else if free && !shared then answerAcq r o shared false 0 t (setObj o.toNat { x with excl := some r } s)
  else if shared && x.excl.isNone && x.waiters.isEmpty then
    answerAcq r o shared false 0 t (setObj o.toNat { x with shared := x.shared ++ [r] } s)
  else queueAcq r o shared (setObj o.toNat { x with waiters := x.waiters ++ [(r, shared)] } s)
/-- The object goes to the head of its queue: one ACQ, or every consecutive ACQS (R337). -/
def handover (o : BitVec 12) (t : Nat) (s : State) : State :=
  let x := getObj s o.toNat
  match x.waiters with
  | [] => setObj o.toNat { x with excl := none, shared := [] } s
  | (r, false) :: l => answerAcq r o false true 0 t (setObj o.toNat { x with excl := some r, shared := [], waiters := l } s)
  | (_, true) :: _ =>
    let run := x.waiters.takeWhile (·.2)
    run.foldl (fun s w => answerAcq w.1 o true true 0 t s)
      (setObj o.toNat { x with excl := none, shared := run.map (·.1), waiters := x.waiters.dropWhile (·.2) } s)
/-- REL is decided (R337, R378). -/
def decideRel (o : BitVec 12) (r : Requester) (t : Nat) (s : State) : State :=
  let x := getObj s o.toNat
  if !inScope x r then answerRel r o 5 t s
  else if x.excl = some r then handover o t (answerRel r o 0 t s)
  else if x.shared.contains r then
    if 1 < x.shared.length then setObj o.toNat { x with shared := x.shared.erase r } (answerRel r o 0 t s)
    else handover o t (answerRel r o 0 t s)
  else answerRel r o 3 t s
/-- RESET: the object is FREE and has no waiters (R337). -/
def resetObj (o : Nat) (s : State) : State := setObj o { getObj s o with excl := none, shared := [], waiters := [], inst := none } s
/-- The requester of a frame (R324, R337). -/
def frameReq (s : State) (f : Frame) : Requester := { pkg := s.fabric.topo.self, core := f.sender, ctx := f.ctx }

/-! Group barriers (R339) -/

/-- The members of this core's contexts that have joined an episode are released at a tick (R339). -/
def releaseGroup (g : BitVec 8) (t : Nat) (s : State) (c : CtxId) : State :=
  let x := getCtx s c
  if x.mark = some g then setCtx s c { x with relTick := some t } else s
/-- The episode of a group ends: every member that waits is released at tick r (R339). -/
def endEpisode (g r : Nat) (s : State) : State :=
  let x := getGroup s g
  let s1 := { s with groups := SMap.set {} s.groups g { x with epoch := x.epoch + 1, marked := [], doneAt := none, others := none } }
  allCtx.foldl (releaseGroup (BitVec.ofNat 8 g) r) s1
/-- The release tick of a group over several packages whose last completion tick is a (R441, R454). -/
def wideRelease (s : State) (x : Group) (a : Nat) : Nat :=
  match findPlan s x.plan with
  | some p => leastRelease s p a
  | none => a
/-- The episode of a group is complete when every member of this package is marked or absent; it releases then, or for a
group over several packages once the others are complete as well. An absent station sees no event (R339, R407, R454). -/
def checkGroup (g t : Nat) (s : State) : State :=
  let x := getGroup s g
  if !presentAt s (BitVec.ofNat 2 g) t || x.marked.isEmpty || !x.members.all (fun m => x.marked.contains m || absentAt s (BitVec.ofNat 2 g) t m) then s
  else if !x.wide then endEpisode g t s
  else
    let d := x.doneAt.getD t
    match x.others with
    | some o => endEpisode g (wideRelease s x (max d o)) s
    | none => { s with groups := SMap.set {} s.groups g { x with doneAt := some d } }
/-- The other packages report the last completion tick of a group's episode (R454). -/
def othersDone (g a : Nat) (s : State) : State :=
  let x := getGroup s g
  if x.wide then checkGroup g (tickNow s - 1) { s with groups := SMap.set {} s.groups g { x with others := some a } } else s
/-- A mark of a core (R339). -/
def markGroup (g core t : Nat) (s : State) : State :=
  let x := getGroup s g
  if !x.members.contains core || x.marked.contains core then s
  else checkGroup g t { s with groups := SMap.set {} s.groups g { x with marked := x.marked ++ [core] } }

/-! Round starts as seen (R326, R327) -/

/-- A round start of a bus is seen at tick t: receives of an absent station end, and what waited for members that are absent
now completes (R326, R333, R339, R408). -/
def roundSeen (b : BitVec 2) (t : Nat) (s : State) : State :=
  let s1 := checkReduces b t (armBus b t s)
  (s1.groups.filter (fun g => g.1 % 4 == b.toNat)).foldl (fun s g => checkGroup g.1 t s) s1
/-- The round starts seen by a tick have their effect, in bus order (R326). -/
def applyViews (b : BitVec 2) (lim : Nat) (s : State) : State :=
  let x := getBus s b
  let vs := x.views.filter (fun v => v.pos == 0 && decide (x.applied < v.tick) && decide (v.tick ≤ lim))
  vs.foldl (fun s v => roundSeen b v.tick s) (setBus b { x with applied := max x.applied lim } s)
/-- What a cycle sees of a bus before anything else of it: the round starts ahead of the next frame, and the receives whose
tick has come (R296, R326, R332). -/
def busCycle (s : State) (b : BitVec 2) : State :=
  let lim := match (getBus s b).air.head? with
    | some f => min (tickNow s - 1) (f.tick - 1)
    | none => tickNow s - 1
  armBus b (tickNow s - 1) (applyViews b lim s)

/-! Frames as seen (R324, R327) -/

/-- A frame fails its check at our station, which leaves the bus at the next round start (R327, R434). -/
def leaveBus (b : BitVec 2) (s : State) : State :=
  blackBox (setBus b { getBus s b with leave := true } s) 8 (BitVec.ofNat 11 (16 * s.myCluster)) 0 (b.zeroExtend 64) 0
/-- The header of a frame without its CRC, bits 95:0 (R324). -/
def headerBits (f : Frame) : Nat :=
  f.utag.toNat * 2 ^ 64 + f.id.toNat * 2 ^ 52 + f.len.toNat * 2 ^ 40 + f.fmt.toNat * 2 ^ 38 + f.bus.toNat * 2 ^ 36 +
    f.sender.toNat * 2 ^ 25 + f.ctx.toNat * 2 ^ 21 + f.kind.toNat * 2 ^ 17
/-- One bit of the CRC-32 of IEEE 802.3, in its reflected form (R324). -/
def crc32Bit (c : BitVec 32) (b : Bool) : BitVec 32 := if c.getLsbD 0 != b then c >>> 1 ^^^ 0xEDB88320 else c >>> 1
/-- CRC-32 over bytes, lowest bit first (R324). -/
def crc32 (bs : List Byte) : BitVec 32 :=
  ~~~(bs.foldl (fun c (b : Byte) => (List.range 8).foldl (fun c i => crc32Bit c (b.getLsbD i)) c) (BitVec.allOnes 32))
/-- CRC of a frame: over header bits 95:0 and the payload (R324). -/
def frameCrc (f : Frame) : BitVec 32 := crc32 (leBytes 12 (headerBits f) ++ f.payload)
/-- The header of a frame as it is sent (R324). -/
def frameHeader (f : Frame) : BitVec 128 := BitVec.ofNat 128 ((frameCrc f).toNat * 2 ^ 96 + headerBits f)
/-- The map under which our receiver decodes the lanes of a station (R345). -/
def laneMap (x : Bus) (st : Nat) : Dbl × Dbl :=
  ((x.laneMaps.find? (fun m => m.1 == st)).map (·.2)).getD (0x398A418820, 0x7B9AC5A928)
/-- A frame is received whole: its lanes are decoded from the channels they were sent on, and its CRC is right (R324, R327,
R345). -/
def received (x : Bus) (a : AirFrame) (crc : BitVec 32) : Bool :=
  crc == frameCrc a.frame && laneMap x (a.frame.sender.toNat / 16) == (a.mapL, a.mapH)
/-- The oldest frame of a bus is seen at our station, by the first cycle that sees its tick: an absent or leaving station
sees nothing; a failed check makes it leave (R324, R326, R327, R347, R407). -/
def frameSeen (kind : BitVec 4) (f : Frame) (crc : BitVec 32) (act : Nat → State → State) (s : State) : State :=
  let b := f.bus
  let x := getBus s b
  match x.air with
  | [] => s
  | a :: l =>
    if f.kind ≠ kind || a.frame != f || !seen s a.tick then s
    else
      let s1 := armBus b a.tick (applyViews b a.tick (setBus b { x with air := l } s))
      if !presentAt s1 b a.tick || x.leave then s1
      else if !received x a crc then leaveBus b s1
      else act a.tick (setBus b { getBus s1 b with frames := (getBus s1 b).frames + 1 } s1)

/-- A DATA frame is seen (R333). -/
def execFrameData (f : Frame) (crc : BitVec 32) (s : State) (drops : BitVec 4 := 0) : Answer :=
  .next (frameSeen 0 f crc (deliverFrame f drops) s)
/-- A RED frame is seen (R333). -/
def execFrameRed (f : Frame) (crc : BitVec 32) (s : State) (drops : BitVec 4 := 0) : Answer :=
  .next (frameSeen 1 f crc (deliverFrame f drops) s)
/-- An ACQ frame is seen (R337). -/
def execFrameAcq (f : Frame) (crc : BitVec 32) (s : State) : Answer :=
  .next (frameSeen 2 f crc (decideAcq f.id (frameReq s f) false) s)
/-- An ACQS frame is seen (R337). -/
def execFrameAcqs (f : Frame) (crc : BitVec 32) (s : State) : Answer :=
  .next (frameSeen 3 f crc (decideAcq f.id (frameReq s f) true) s)
/-- A REL frame is seen (R337). -/
def execFrameRel (f : Frame) (crc : BitVec 32) (s : State) : Answer :=
  .next (frameSeen 4 f crc (decideRel f.id (frameReq s f)) s)
/-- A mark is seen (R339). -/
def execFrameMark (f : Frame) (crc : BitVec 32) (s : State) : Answer :=
  .next (frameSeen 5 f crc (markGroup f.id.toNat f.sender.toNat) s)
/-- A MAP frame is seen: the lane map of its station changes (R345, R417). -/
def execFrameMap (f : Frame) (crc : BitVec 32) (s : State) : Answer :=
  .next (frameSeen 6 f crc (fun _ s =>
    let x := getBus s f.bus
    let m : Dbl × Dbl := (BitVec.ofNat 64 (leNat (f.payload.take 8)), BitVec.ofNat 64 (leNat ((f.payload.drop 8).take 8)))
    setBus f.bus { x with laneMaps := SMap.put x.laneMaps (f.sender.toNat / 16) m } s) s)
/-- A RESET frame is seen (R337). -/
def execFrameReset (f : Frame) (crc : BitVec 32) (s : State) : Answer := .next (frameSeen 7 f crc (fun _ => resetObj f.id.toNat) s)

/-! Events of the station -/

/-- The token reaches the next station (R325). -/
def execTokenArrive (bus : BitVec 2) (s : State) : Answer := .next (tokenStep bus s)
/-- The last beat of the frame that our station sends, or of one that another station sends (R325). -/
def execFrameLastBeat (bus : BitVec 2) (s : State) (other : Option (Frame × Dbl × Dbl) := none) : Answer :=
  .next (match other with
    | none => lastBeat bus s
    | some (f, l, h) => otherBeat bus f l h s)
/-- A station's receiver reports lock, or leaves the bus (R327). -/
def execReceiverLock (bus : BitVec 2) (st : BitVec 7) (s : State) (up : Bool := true) : Answer :=
  let x := getBus s bus
  let bit := if st.toNat < 80 then 1#80 <<< st.toNat else 0
  .next (setBus bus { x with lock := if up then x.lock ||| bit else x.lock &&& ~~~bit,
                             leave := if st.toNat = s.myCluster then !up else x.leave } s)
/-- A write of the BUSGATE of a cluster, our own by default: it is taken at a tick, and the black box has it. D0 of the
entry is the value as written, reserved bits included (R296, R406, R434; DESIGN CHOICE, log 82: R11 says that a write
of 1 to a reserved bit leaves no trace). -/
def busgateWrite (k : Nat) (v : Dbl) (s : State) : State :=
  let u := takenAt s
  let old := s.pkg.gates.filter (fun g => g.1 == k && decide (g.2.2 ≤ tickNow s))
  let gs := s.pkg.gates.filter (fun g => !(g.1 == k && decide (g.2.2 ≤ tickNow s)))
  if 80 ≤ k then s
  else blackBox { s with pkg := { s.pkg with gates := old.getLast?.toList ++ gs ++ [(k, v.extractLsb' 0 4, u)] } } 9
    (BitVec.ofNat 11 (16 * k)) 0 v 0
/-- A write of BUSGATE by the supervisor of the cluster's die (R406, R428). D0 of the black-box entry is the value as written
(DESIGN CHOICE, log 82). -/
def execBusgateWrite (v : Dbl) (s : State) (cl : Option (BitVec 7) := none) : Answer :=
  let k := (cl.map BitVec.toNat).getD s.myCluster
  onDie (k / 10) (busgateWrite k v s) s
/-- A heater write (R342). -/
def execTheatWrite (idx : BitVec 16) (v : Dbl) (s : State) : Answer :=
  let o := idx.toNat % 256
  .next (if idx.toNat < 0x400 && (decide (o < 0x10) || (decide (0x20 ≤ o) && decide (o < 0x31))) then
      opticalWrite idx.toNat v s else s)
/-- GO of MAPGO (R345). -/
def execMapgoGo (bus : BitVec 2) (s : State) : Answer := .next (mapGo bus false false s)
/-- GO and QUIET of MAPGO (R415). -/
def execMapgoQuiet (bus : BitVec 2) (s : State) : Answer := .next (mapGo bus true false s)
/-- RESUME of MAPGO (R415). -/
def execMapgoResume (bus : BitVec 2) (s : State) : Answer := .next (resume bus s)
/-- The end of quiet periods of 65,536 ticks (R416). -/
def quietCycle (s : State) (b : BitVec 2) : State :=
  match (getBus s b).quiet with
  | some t => if t + 65536 ≤ tickNow s then endQuiet b s else s
  | none => s
/-- A quiet period ends after 65,536 ticks (R416). -/
def execQuietTimeout (bus : BitVec 2) (s : State) : Answer := .next (quietCycle s bus)

end Sys2Proof.Machine
end

