-- ==== Sys2Proof/Machine/Launches.lean ====
section
/-! DEFINITION. Launches as the launch agent keeps them: the completion part of a slot and every change of STATE, and the
fields of an image (21_package_launch.md R392 to R395, R399 to R401). -/

namespace Sys2Proof.Machine

/-! The fields of an image (R399 to R401; log 13) -/

/-- n bytes of the header of an image, little-endian (R399). -/
def Image.field (im : Image) (o n : Nat) : Nat := leNat ((im.header.drop o).take n)
/-- FLAGS (R399). -/
def Image.flag (im : Image) (b : Nat) : Bool := im.field 6 2 / 2 ^ b % 2 == 1
/-- TIMED (R399). -/
def Image.timed (im : Image) : Bool := im.flag 0
/-- SIGNED (R399). -/
def Image.signed (im : Image) : Bool := im.flag 1
/-- MATRIX (R178, R399). -/
def Image.matrix (im : Image) : Bool := im.flag 2
/-- OPTICAL (R340, R399). -/
def Image.optical (im : Image) : Bool := im.flag 3
/-- FREQ (R294, R399). -/
def Image.freq (im : Image) : BitVec 6 := BitVec.ofNat 6 (im.field 0x12 1)
/-- CODERES, in units of 64 KiB (R399). -/
def Image.codeRes (im : Image) : Nat := im.field 0x14 4
/-- NCORE (R399). -/
def Image.ncore (im : Image) : Nat := im.field 0x10 2
/-- The cores of a bitmap, ascending (R400). -/
def mapCores (m : BitVec 1280) : List Nat := (List.range (m.toNat.log2 + 1)).filter m.getLsbD
/-- The declaration of each core, by its section's bitmap (R400). -/
def Image.cores (im : Image) : List CoreRes := im.sects.flatMap (fun q => (mapCores q.map).map (fun n => { q.decl with sect := q.sect, core := n }))
/-- KIND of a section (R399). -/
def sectKind (e : BitVec 128) : Nat := (e.extractLsb' 0 16).toNat
/-- ARG of a section (R399). -/
def sectArg (e : BitVec 128) : Nat := (e.extractLsb' 16 16).toNat
/-- OFFSET of a section (R399). -/
def sectOff (e : BitVec 128) : Nat := (e.extractLsb' 32 32).toNat
/-- SIZE of a section (R399). -/
def sectSize (e : BitVec 128) : Nat := (e.extractLsb' 64 32).toNat
/-- KIND of a relocation (R401). -/
def Reloc.kind (r : Reloc) : Nat := (r.entry.extractLsb' 108 4).toNat
/-- H and L, when BITS is 1 (R401). -/
def Reloc.bits (r : Reloc) : Option (Nat × Nat) :=
  if r.entry.getLsbD 127 then some ((r.entry.extractLsb' 102 6).toNat, (r.entry.extractLsb' 96 6).toNat) else none
/-- The section that holds the site (R401). -/
def Reloc.target (r : Reloc) : Nat := (r.entry.extractLsb' 112 15).toNat
/-- ADDEND (R401). -/
def Reloc.addend (r : Reloc) : Int := (r.entry.extractLsb' 64 32).toInt
/-- SYM (R401). -/
def Reloc.sym (r : Reloc) : Nat := (r.entry.extractLsb' 32 32).toNat
/-- SITE (R401). -/
def Reloc.site (r : Reloc) : Nat := (r.entry.extractLsb' 0 32).toNat
/-- The space of a relocation's site, 3 for code: its section is a SEGMENT or a DATA section of the same cores (R399, R401). -/
def siteSpace (im : Image) (r : Reloc) : Option Nat :=
  match im.table[r.target]? with
  | some e =>
    if sectKind e = 3 && sectArg e == r.core then some 3
    else if sectKind e = 4 && sectArg e / 4 == r.core then some (sectArg e % 4)
    else none
  | none => none

/-! Slots and STATE -/

/-- The launch in a slot of the window. -/
def getLaunch (s : State) (k : Nat) : Option Launch := (s.launches.find? (fun p => p.1 == k)).map (·.2)
/-- The launch of a SEQ that has not ended, with its slot. -/
def liveLaunch (s : State) (seq : Nat) : Option (Nat × Launch) := s.launches.find? (fun p => p.2.seq == seq && p.2.st != .ended)
/-- The code of STATE (R394). -/
def stCode (st : LaunchSt) : Nat :=
  match st with
  | .waiting => 1
  | .queued => 2
  | .placing => 3
  | .running => 4
  | .preempted => 5
  | .ended => 6
/-- A value that saturates at 32 bits. -/
def sat32 (n : Nat) : Nat := min n (2 ^ 32 - 1)
/-- The completion part of a launch (R394, R426). -/
def completion (l : Launch) : List Byte :=
  let over_ := l.st == .ended
  leBytes 8 l.seq ++ leBytes 2 (stCode l.st) ++ leBytes 2 (if over_ then l.status.code.toNat else 0) ++
    leBytes 4 (if over_ then l.status.core.toNat else 0xFFFFFFFF) ++ leBytes 8 (if over_ then l.status.d0.toNat else 0) ++
    leBytes 8 (if over_ then l.status.d1.toNat else 0) ++ leBytes 8 l.start ++ leBytes 8 l.fin ++
    leBytes 4 (sat32 (l.nj / 1000)) ++ leBytes 4 (sat32 l.preempts) ++ leBytes 8 0
/-- Address of byte o of slot k, by key, when the window is registered (R392). -/
def slotKey (s : State) (k o : Nat) : Option Nat := s.pkg.window.map (fun w => keyHost (w + 512 * k + o))
/-- A launch in a slot, with its completion part written, once the companion link carries it (R394, R395, R427). -/
def moveLaunch (k : Nat) (l : Launch) (s : State) : State :=
  let s1 := { s with launches := SMap.put s.launches k l }
  match slotKey s k 0x100 with
  | some a =>
    if s1.pkg.ebpinDown then { s1 with pkg := { s1.pkg with hostOut := s1.pkg.hostOut ++ [(a, completion l)] } }
    else { s1 with mem := memWrite s1.mem a (completion l) }
  | none => s1

end Sys2Proof.Machine
end

