-- ==== Sys2Proof/Machine/Record.lean ====
section
/-! DEFINITION. The context state record (01_context_state.md R35 to R37) byte by byte: what each offset holds, as read and
as written through management access, with the snapshot image of R130, the scale memory of R177 and the routine state of
R201. -/

namespace Sys2Proof.Machine

/-- What an offset of a record is a byte of (R35, R36). -/
inductive RecAt where
  | row (i j : Nat)
  | dist (i j : Nat)
  | latch (i j : Nat)
  | rowTag (j : Nat)
  | distTag (j : Nat)
  | latchTag (j : Nat)
  | lineage (i j : Nat)
  | snap (k j : Nat)
  | array (n : Nat) (shadow : Bool) (j : Nat)
  | scale (j : Nat)
  | routine (j : Nat)
  | scalar (i j : Nat)
  | pred (j : Nat)
  | mask (i j : Nat)
  | mparam (i j : Nat)
  | shape (i j : Nat)
  | creg (i j : Nat)
  | reserved
  deriving DecidableEq, Repr

/-- The place of an offset (R35, R36). -/
def recAt (o : Nat) : RecAt :=
  if o < 0x10000 then .row (o / 256) (o % 256)
  else if o < 0x16000 then .dist ((o - 0x10000) / 1536) ((o - 0x10000) % 1536)
  else if o < 0x16400 then .latch ((o - 0x16000) / 256) (o % 256)
  else if o < 0x16480 then .rowTag (o - 0x16400)
  else if o < 0x16488 then .distTag (o - 0x16480)
  else if o < 0x1648A then .latchTag (o - 0x16488)
  else if o < 0x16500 then .reserved
  else if o < 0x16580 then .lineage ((o - 0x16500) / 8) (o % 8)
  else if o < 0x16800 then .reserved
  else if o < 0x1B000 then .snap ((o - 0x16800) / 288) ((o - 0x16800) % 288)
  else if o < 0x23000 then .array ((o - 0x1B000) / 0x2000) ((o - 0x1B000) / 0x1000 % 2 == 1) ((o - 0x1B000) % 0x1000)
  else if o < 0x25000 then .scale (o - 0x23000)
  else if o < 0x25100 then .routine (o - 0x25000)
  else if o < 0x26000 then .reserved
  else if o < 0x26200 then .scalar ((o - 0x26000) / 8) (o % 8)
  else if o < 0x26208 then .pred (o - 0x26200)
  else if o < 0x26288 then .mask ((o - 0x26208) / 8) (o % 8)
  else if o < 0x262C8 then .mparam ((o - 0x26288) / 8) (o % 8)
  else if o < 0x26300 then .reserved
  else if o < 0x26500 then .shape ((o - 0x26300) / 32) (o % 32)
  else if o < 0x26700 then .creg ((o - 0x26500) / 8) (o % 8)
  else .reserved

/-- Byte j of a number. -/
def byteAt (v j : Nat) : Byte := BitVec.ofNat 8 (v / 256 ^ j)
/-- A number with byte j replaced. -/
def withByte (v j : Nat) (b : Byte) : Nat := v - v / 256 ^ j % 256 * 256 ^ j + b.toNat * 256 ^ j
/-- A bit vector with byte j replaced. -/
def bvByte {w : Nat} (v : BitVec w) (j : Nat) (b : Byte) : BitVec w := BitVec.ofNat w (withByte v.toNat j b)

/-- The header of a snapshot entry (R130). -/
def snapHeader (e : SnapEntry) : Nat :=
  e.addr.toNat * 2 ^ 192 + e.len.toNat * 2 ^ 176 + e.mxfl.toNat * 2 ^ 160 + e.fpfl.toNat * 2 ^ 154 + e.index.toNat * 2 ^ 40 +
    e.cls.toNat * 2 ^ 36 + e.tag.toNat * 2 ^ 32 + e.part.toNat * 2 ^ 24 + e.offset % 256 * 2 ^ 8 + e.order % 64 * 4 + 1
/-- The bytes of an entry as one number: data, then header (R130). -/
def snapImage (e : SnapEntry) : Nat := e.data.toNat + snapHeader e * 2 ^ 2048
/-- An entry with the bytes of a number; what the image does not hold stays. That a record write reaches PC, TSTAT.NEST, INH
and NCAUSE and the snapshot headers, and leaves CTXID, SNAP and MOWN, is a choice (DESIGN CHOICE, log 52). -/
def snapFrom (v : Nat) (e : SnapEntry) : SnapEntry :=
  let h := v / 2 ^ 2048
  let f := fun (lo n : Nat) => h / 2 ^ lo % 2 ^ n
  { e with data := BitVec.ofNat 2048 v, addr := BitVec.ofNat 64 (f 192 64), len := BitVec.ofNat 16 (f 176 16),
           mxfl := BitVec.ofNat 16 (f 160 16), fpfl := BitVec.ofNat 6 (f 154 6), index := BitVec.ofNat 8 (f 40 8),
           cls := BitVec.ofNat 4 (f 36 4), tag := BitVec.ofNat 4 (f 32 4), part := BitVec.ofNat 8 (f 24 8), offset := f 8 8,
           order := f 2 6 }

/-- The tags of two registers in one byte (R35). -/
def tagPair (f : Nat → Tag) (j : Nat) : Byte := BitVec.ofNat 8 ((f (2 * j)).toNat + 16 * (f (2 * j + 1)).toNat)

/-- A slot of the scale memory: array, and which of active scales, shadow scales, HIN and FRN (R177). -/
def scaleSlot (j : Nat) : Option (Nat × Nat) :=
  if j < 0x800 then some (j / 0x200, j / 0x100 % 2) else if j < 0x1000 then some ((j - 0x800) / 0x200, 2 + j / 0x100 % 2) else none
/-- The bits of a slot. -/
def slotBits (a : MArray) (k : Nat) : BitVec 2048 :=
  if k = 0 then a.active.scales else if k = 1 then a.shadow.scales else if k = 2 then a.hin else a.frn
/-- The bits of a slot written. -/
def setSlotBits (a : MArray) (k : Nat) (v : BitVec 2048) : MArray :=
  if k = 0 then { a with active := { a.active with scales := v } }
  else if k = 1 then { a with shadow := { a.shadow with scales := v } }
  else if k = 2 then { a with hin := v } else { a with frn := v }

/-- The parameters of a routine as 64 bytes. -/
def paramBytes (r : Option MRoutine) (j : Nat) : Byte :=
  match r with
  | some x => byteAt (SMap.get 0 x.m (j / 8)).toNat (j % 8)
  | none => 0
/-- The words of the routine state below its parameters, as one number (R201). -/
def routineWords (m : Matrix) : Nat :=
  let g := fun (f : MRoutine → Nat) => (m.run.map f).getD 0
  let fmts := (List.range 4).foldl (fun v n =>
    let a := getArr m (BitVec.ofNat 2 n)
    v + (a.active.fmt.toNat + 8 * a.shadow.fmt.toNat) * 64 ^ n) 0
  (mstat0 m).toNat % 4 + g (fun r => r.idx.toNat) * 2 ^ 8 + ((m.pend.map (fun r => r.idx.toNat)).getD 0) * 2 ^ 16 +
    (mstat0 m).toNat / 2 ^ 32 * 2 ^ 64 + g (fun r => r.next % 2 ^ 16) * 2 ^ 96 +
    g (fun r => r.rept.getD 0 % 2 ^ 16) * 2 ^ 112 + g (fun r => r.left % 2 ^ 16) * 2 ^ 128 + g (fun r => r.j % 2 ^ 16) * 2 ^ 144 +
    fmts * 2 ^ 160

/-! The cells of an array copy (R175, R181; log 68) -/

/-- The cell of row j / 64 and column j mod 64: two MXINT4 elements, the even k low; one element of 6 or 8 bits,
sign-extended; the low cell of a wider element, and its high cell in the next row. -/
def cellByte (c : MCopy) (j : Nat) : Byte :=
  let r := j / 64
  let n := j % 64
  let e := fun (mf k : Nat) => bElem mf c.data k n
  match c.fmt.toNat with
  | 0 => BitVec.ofInt 8 (e 0 (2 * r) % 16 + 16 * e 0 (2 * r + 1))
  | 1 => BitVec.ofInt 8 (e 1 r)
  | 3 => BitVec.ofInt 8 (e 3 (r / 2) / 256 ^ (r % 2))
  | 4 => BitVec.ofInt 8 (e 4 (r / 2) / 256 ^ (r % 2))
  | _ => byteAt c.data.toNat j
/-- The data of a copy with a cell written. -/
def setCell (mf : Nat) (data : BitVec 32768) (j : Nat) (b : Byte) : BitVec 32768 :=
  let r := j / 64
  let n := j % 64
  if mf = 0 then
    let put := fun (d : BitVec 32768) (k v : Nat) =>
      let z := 256 * k + 4 * n
      (d &&& ~~~(BitVec.ofNat 32768 15 <<< z)) ||| (BitVec.ofNat 32768 (v % 16) <<< z)
    put (put data (2 * r) b.toNat) (2 * r + 1) (b.toNat / 16)
  else bvByte data (if mf = 3 || mf = 4 then 2 * (64 * (r / 2) + n) + r % 2 else j) b

/-- A byte of the record of a context that holds a plan, as its state stands (R35, R36); the matrix parts are there for the
owner alone (R34). -/
def stateByte (x : Ctx) (c : CtxId) (o : Nat) : Byte :=
  let m := x.matrix.getD {}
  match recAt o with
  | .row i j => byteAt (x.getV (BitVec.ofNat 8 i)).data.toNat j
  | .dist i j => byteAt (x.getD (BitVec.ofNat 4 i)).data.toNat j
  | .latch i j => byteAt (x.getZ (BitVec.ofNat 2 i)).data.toNat j
  | .rowTag j => tagPair (fun i => (x.getV (BitVec.ofNat 8 i)).tag) j
  | .distTag j => tagPair (fun i => (x.getD (BitVec.ofNat 4 i)).tag) j
  | .latchTag j => tagPair (fun i => (x.getZ (BitVec.ofNat 2 i)).tag) j
  | .lineage i j => byteAt ((x.getD (BitVec.ofNat 4 i)).lin ++ (x.getD (BitVec.ofNat 4 i)).sset).toNat j
  | .snap k j => match x.snap[k]? with
    | some e => byteAt (snapImage e) j
    | none => 0
  | .array n sh j => if x.bank.mown then
      let a := getArr m (BitVec.ofNat 2 n)
      cellByte (if sh then a.shadow else a.active) j else 0
  | .scale j => match scaleSlot j with
    | some (n, k) => if x.bank.mown then byteAt (slotBits (getArr m (BitVec.ofNat 2 n)) k).toNat (j % 256) else 0
    | none => 0
  | .routine j =>
    if !x.bank.mown then 0
    else if j < 0x17 then byteAt (routineWords m) j
    else if 0x40 ≤ j && j < 0x80 then paramBytes m.run (j - 0x40)
    else if 0x80 ≤ j && j < 0xC0 then paramBytes m.pend (j - 0x80)
    else 0
  | .scalar i j => byteAt (x.bank.getS (BitVec.ofNat 6 i)).toNat j
  | .pred j => byteAt (x.bank.p ||| 1).toNat j
  | .mask i j => byteAt (x.bank.getK (BitVec.ofNat 4 i)).toNat j
  | .mparam i j => byteAt (x.bank.getM (BitVec.ofNat 3 i)).toNat j
  | .shape i j => byteAt (x.bank.getH (BitVec.ofNat 4 i)).toNat j
  | .creg i j => byteAt (cregRead x c x.bank.pc (BitVec.ofNat 6 i)).toNat j
  | .reserved => 0
/-- A byte of a context's record: one that management access has written and that no load has taken up yet, else the
state's; the record of an EMPTY context was cleared to 0 (R33, R37). -/
def recByte (s : State) (c : CtxId) (o : Nat) : Byte :=
  let x := getCtx s c
  match x.raw.find? (fun p => p.1 == o) with
  | some p => p.2
  | none => if x.st == .empty then 0 else stateByte x c o

/-! Writes (R11, R37; log 52) -/

/-- The bits of a byte of the record that a write reaches: reserved bits, hard-wired registers and the fields that name
what the context is (CTXID, MOWN, SNAP, the pending bits) are left out. -/
def recMask (o : Nat) : Byte :=
  match recAt o with
  | .reserved => 0
  | .snap _ j =>
    if j = 256 then 0xFD else if j = 258 || (262 ≤ j && j < 275) then 0 else if j = 275 then 0xFC else 0xFF
  | .scale j => if (scaleSlot j).isSome then 0xFF else 0
  | .routine j =>
    if j = 0 then 3 else if j < 3 then 0x3F else if (8 ≤ j && j < 0x17) || (0x40 ≤ j && j < 0xC0) then 0xFF else 0
  | .pred j => if j < 4 then 0xFF else 0
  | .mask i _ => if i = 0 then 0 else 0xFF
  | .creg i j =>
    let m : Nat := match i with
      | 0x03 => 0xFF
      | 0x05 => 0xFF00000300
      | 0x06 => 0x3FF
      | 0x07 => 7
      | 0x08 => 3
      | 0x09 => 0xFFFFFFFF000000FF
      | 0x0A => 0x7E7
      | 0x00 => 0
      | _ => if i < 0x0E then 0xFFFFFFFFFFFFFFFF else 0
    byteAt m j
  | _ => 0xFF

/-- A control register of the bank image written whole: the fields that the register has, VBASE kept at a write of VROT
and stored modulo N by the load that takes it up (R25 to R27, R36, R37, R121). A value that MTC may not write is stored as it
is (DESIGN CHOICE, log 85). -/
def cregImage (b : Bank) (i : Nat) (v : Dbl) : Bank :=
  match i with
  | 0x01 => { b with pc := v }
  | 0x05 => { b with ncause := v.extractLsb' 32 8, nest := v.getLsbD 9, inh := v.getLsbD 8 }
  | 0x06 => { b with rotb := v &&& 0x3FF }
  | 0x07 => { b with vrot := v &&& 7 }
  | _ => cregWrite b (BitVec.ofNat 6 i) v
/-- A byte written into the bank image. -/
def bankByte (x : Ctx) (c : CtxId) (p : RecAt) (b : Byte) : Bank :=
  let k := x.bank
  match p with
  | .scalar i j => { k with s := SMap.set 0 k.s i (bvByte (k.getS (BitVec.ofNat 6 i)) j b) }
  | .pred j => if j < 4 then { k with p := bvByte k.p j b ||| 1 } else k
  | .mask i j => if i = 0 then k else { k with k := SMap.set 0 k.k i (bvByte (k.getK (BitVec.ofNat 4 i)) j b) }
  | .mparam i j => { k with m := SMap.set 0 k.m i (bvByte (k.getM (BitVec.ofNat 3 i)) j b) }
  | .shape i j => { k with h := SMap.set 0 k.h i (bvByte (k.getH (BitVec.ofNat 4 i)) j b) }
  | .creg i j => cregImage k i (bvByte (cregRead x c k.pc (BitVec.ofNat 6 i)) j b)
  | _ => k
/-- A row, latch or distribution tag of a byte of two. -/
def pairTag (b : Byte) (hi : Bool) : Tag := if hi then b.extractLsb' 4 4 else b.extractLsb' 0 4
/-- A byte written into the large state of a context. -/
def largeByte (x : Ctx) (p : RecAt) (b : Byte) : Ctx :=
  let setV := fun (x : Ctx) (i : Nat) (r : Row) => { x with v := SMap.set {} x.v i r }
  let setZ := fun (x : Ctx) (i : Nat) (r : Row) => { x with z := SMap.set {} x.z i r }
  let setD := fun (x : Ctx) (i : Nat) (r : Dist) => { x with d := SMap.set {} x.d i r }
  let v := fun (x : Ctx) (i : Nat) => x.getV (BitVec.ofNat 8 i)
  let z := fun (x : Ctx) (i : Nat) => x.getZ (BitVec.ofNat 2 i)
  let d := fun (x : Ctx) (i : Nat) => x.getD (BitVec.ofNat 4 i)
  match p with
  | .row i j => setV x i { v x i with data := bvByte (v x i).data j b }
  | .dist i j => setD x i { d x i with data := bvByte (d x i).data j b }
  | .latch i j => setZ x i { z x i with data := bvByte (z x i).data j b }
  | .rowTag j => [false, true].foldl (fun x h => setV x (2 * j + b2n h) { v x (2 * j + b2n h) with tag := pairTag b h }) x
  | .distTag j => [false, true].foldl (fun x h => setD x (2 * j + b2n h) { d x (2 * j + b2n h) with tag := pairTag b h }) x
  | .latchTag j => [false, true].foldl (fun x h => setZ x (2 * j + b2n h) { z x (2 * j + b2n h) with tag := pairTag b h }) x
  | .lineage i j =>
    let w := bvByte ((d x i).lin ++ (d x i).sset) j b
    setD x i { d x i with sset := w.extractLsb' 0 32, lin := w.extractLsb' 32 32 }
  | _ => x
/-- A byte written into the scale memory of the owner (R177). -/
def scaleByte (m : Matrix) (j : Nat) (b : Byte) : Matrix :=
  match scaleSlot j with
  | some (n, k) =>
    let a := getArr m (BitVec.ofNat 2 n)
    setArr m (BitVec.ofNat 2 n) (setSlotBits a k (bvByte (slotBits a k) (j % 256) b))
  | none => m
/-- A byte of a record written; what a write does not reach is ignored. The snapshot buffer, the arrays and the routine
state, and all of an EMPTY context's record, stand as written bytes until the next load (R37). -/
def recSet (c : CtxId) (o : Nat) (b : Byte) (s : State) : State :=
  let x := getCtx s c
  let p := recAt o
  let m := recMask o
  let v := (stateByte x c o &&& ~~~m) ||| (b &&& m)
  let keep := setCtx s c { x with raw := SMap.put x.raw o (b &&& m) }
  if m = 0 then s
  else if x.st = .empty then keep
  else match p with
  | .reserved => s
  | .snap _ _ => keep
  | .array _ _ _ => if x.bank.mown then keep else s
  | .routine _ => if x.bank.mown then keep else s
  | .scale j => if x.bank.mown then setCtx s c { x with matrix := x.matrix.map (fun m => scaleByte m j b) } else s
  | .scalar _ _ => setCtx s c { x with bank := bankByte x c p v }
  | .pred _ => setCtx s c { x with bank := bankByte x c p v }
  | .mask _ _ => setCtx s c { x with bank := bankByte x c p v }
  | .mparam _ _ => setCtx s c { x with bank := bankByte x c p v }
  | .shape _ _ => setCtx s c { x with bank := bankByte x c p v }
  | .creg _ _ => setCtx s c { x with bank := bankByte x c p v }
  | _ => setCtx s c (largeByte x p v)
/-- Bytes of a record written from an offset up. -/
def recWrite (c : CtxId) (o : Nat) : List Byte → State → State
  | [], s => s
  | b :: t, s => recWrite c (o + 1) t (recSet c o b s)

/-! The load that takes the written bytes up (R37) -/

/-- A number with the written bytes of a range of the record in their places. -/
def rawInto (x : Ctx) (base len v : Nat) : Nat :=
  x.raw.foldl (fun v p => if base ≤ p.1 && p.1 < base + len then withByte v (p.1 - base) p.2 else v) v
/-- A byte of a range was written. -/
def rawIn (x : Ctx) (base len : Nat) : Bool := x.raw.any (fun p => decide (base ≤ p.1) && decide (p.1 < base + len))
/-- An entry of the snapshot buffer before its fields are known. -/
def blankEntry : SnapEntry :=
  { data := 0, addr := 0, len := 0, mxfl := 0, fpfl := 0, index := 0, cls := 0, tag := 0, part := 0, offset := 0, order := 0,
    reduce := none, key := 0 }
/-- The snapshot buffer with its written bytes: an entry is in use where its VALID says so (R130, R37). -/
def rawSnap (x : Ctx) : List SnapEntry :=
  if !rawIn x 0x16800 0x4800 then x.snap
  else
    (List.range 64).filterMap (fun k =>
      let e := (x.snap[k]?).getD blankEntry
      if !rawIn x (0x16800 + 288 * k) 288 then x.snap[k]?
      else
        let v := rawInto x (0x16800 + 288 * k) 288 (if (x.snap[k]?).isSome then snapImage e else 0)
        if v / 2 ^ 2048 % 2 = 1 then some (snapFrom v e) else none) ++ x.snap.drop 64
/-- An array copy with its written cells, and the format code that the routine state gives it (R201). -/
def rawCopy (x : Ctx) (base : Nat) (fmt : BitVec 3) (c : MCopy) : MCopy :=
  if fmt = c.fmt && !rawIn x base 0x1000 then c
  else
    let cells := rawInto x base 0x1000 ((List.range 0x1000).foldr (fun j v => v * 256 + (cellByte c j).toNat) 0)
    { c with fmt := fmt, data := (List.range 0x1000).foldl (fun d j => setCell fmt.toNat d j (byteAt cells j)) c.data }
/-- The parameters of a routine with their written bytes. -/
def rawParams (x : Ctx) (base : Nat) (m : List (Nat × Dbl)) : List (Nat × Dbl) :=
  (List.range 8).foldl (fun m i =>
    SMap.set 0 m i (BitVec.ofNat 64 (rawInto x (base + 8 * i) 8 (SMap.get 0 m i).toNat))) m
/-- The routine that the record names: the one that was there, or a new one with an identity of its own. -/
def rawCall (x : Ctx) (base id : Nat) (there : Bool) (idx : Nat) (r : Option MRoutine) : Option MRoutine :=
  if !there then none
  else
    let q := r.getD { idx := 0, id := id, m := [], next := 0, base := 0, start := 0 }
    some { q with idx := BitVec.ofNat 6 idx, m := rawParams x base q.m }
/-- The matrix state with the written bytes of its cells and of the routine state (R201); a routine that they end takes its
entry with it, one that they begin owes one. -/
def rawMatrix (x : Ctx) (id : Nat) (m : Matrix) : Matrix :=
  let v := rawInto x 0x25000 0x17 (routineWords m)
  let f := fun (lo n : Nat) => v / 2 ^ lo % 2 ^ n
  let arrs := (List.range 4).foldl (fun m n =>
    let a := getArr m (BitVec.ofNat 2 n)
    setArr m (BitVec.ofNat 2 n)
      { a with active := rawCopy x (0x1B000 + 0x2000 * n) (BitVec.ofNat 3 (f (160 + 6 * n) 3)) a.active,
               shadow := rawCopy x (0x1C000 + 0x2000 * n) (BitVec.ofNat 3 (f (163 + 6 * n) 3)) a.shadow }) m
  if !rawIn x 0x25000 0x100 then arrs
  else
    let run := (rawCall x 0x25040 id (f 0 1 = 1) (f 8 6) m.run).map (fun r =>
      { r with prog := BitVec.ofNat 32 (f 64 32), next := f 96 16, rept := if f 128 16 = 0 then none else some (f 112 16),
               left := f 128 16, j := f 144 16 })
    let pend := rawCall x 0x25080 (id + 1) (f 1 1 = 1) (f 16 6) m.pend
    let p := pend.map (fun r => if m.pend.isSome then r else
      { r with next := (SMap.get 0xFFFF m.table r.idx.toNat).toNat, base := (SMap.get 0xFFFF m.table r.idx.toNat).toNat })
    { arrs with run := run, pend := p, prog := BitVec.ofNat 32 (f 64 32) }
/-- A context as a load takes it up: the bytes of its record that were written since, and ROTB.VBASE modulo N (R27, R37). -/
def applyRaw (id : Nat) (x : Ctx) : Ctx :=
  if x.raw.isEmpty then { x with bank := { x.bank with rotb := mkRotb (vbase x.bank % rotN x.bank) (pbase x.bank) } }
  else
    let m := x.matrix.map (rawMatrix x id)
    let ids := fun (m : Option Matrix) => ((m.map (fun m => m.run.toList ++ m.pend.toList)).getD []).map (fun r => r.id)
    let gone := (ids x.matrix).filter (fun i => !(ids m).contains i)
    let come := (ids m).filter (fun i => !(ids x.matrix).contains i)
    let y := { x with
      bank := { x.bank with rotb := mkRotb (vbase x.bank % rotN x.bank) (pbase x.bank) }, snap := rawSnap x, matrix := m, raw := [],
      owed := x.owed.filter (fun o => !(o.q == 2 && gone.contains o.id)) }
    come.foldl (fun y i => owe 2 i y) y

/-- The record of a context may be accessed (R37). -/
def recOpen (x : Ctx) : Bool := x.st == .resident || x.st == .finished || x.st == .empty

end Sys2Proof.Machine
end

