-- ==== Sys2Proof/Machine/Slots.lean ====
section
/-! DEFINITION. Slots and their streams (R33, R34, R138, R142), the delivery of queue entries and the end of waits
(R114, R146), the segments in the loop buffers (R147 to R151). -/

namespace Sys2Proof.Machine

/-! Queues and waits -/

/-- Entries on their way to a queue. -/
def arrivingIn (x : Ctx) (q : BitVec 2) : Nat := (x.arriving.filter (fun a => a.1 == q)).length
/-- The entries that arrived at the cycle before can be popped (R115, R145). -/
def takeArrived (x : Ctx) : Ctx :=
  { x.arriving.foldl (fun x a => setQueue x a.1 (queueOf x a.1 ++ [a.2])) x with arriving := [] }
/-- The oldest owed entry of a queue arrives, if it is posted and the queue has room (R145, R146). -/
def deliverOne (k : Nat) (q : BitVec 2) (x : Ctx) : Ctx :=
  match x.owed.find? (fun o => o.q == q) with
  | some o =>
    match o.val with
    | some v =>
      if o.cyc ≤ k && decide ((queueOf x q).length + arrivingIn x q < Config.queueDepth q.toNat) then
        { x with owed := eraseFirst (fun w => w.q == q) x.owed, arriving := x.arriving ++ [(q, o.id, v)] }
      else x
    | none => x
  | none => x
/-- All entries that arrive in a queue at this cycle. -/
def deliverMany (k : Nat) (q : BitVec 2) : Nat → Ctx → Ctx
  | 0, x => x
  | n + 1, x => deliverMany k q n (deliverOne k q x)
/-- The queues of a context at the start of a cycle. -/
def queueCycle (s : State) (c : CtxId) : State :=
  let x := getCtx s c
  if x.arriving.isEmpty && x.owed.isEmpty then s
  else setCtx s c ([0, 1, 2, 3].foldl (fun x q => deliverMany s.cycle q 64 x) (takeArrived x))

/-- The condition of a tag word in a blocked bundle holds with the registers and tags as they stand; any other wait has none
(R290). -/
def tagHolds (s : State) (x : Ctx) (w : Wait) : Bool :=
  let mask := fun (a : BitVec 6) => x.bank.getS a &&& ((planRes s x.plan).map (·.tags)).getD 0
  match w with
  | .tagsAll a => idleTags s &&& mask a == mask a
  | .tagsAny a => idleTags s &&& mask a != 0 || mask a == 0
  | _ => true
/-- What the tag words of a blocked bundle find as the cycle before ended: their entry arrived then, and the bundle issues in
this one (R290). The mask of a RESIDENT context is read from its record, so a record write of it counts (R37; DESIGN CHOICE,
log 79). -/
def seeTags (s : State) (c : CtxId) : State :=
  let x := getCtx s c
  if x.waits.isEmpty then s else setCtx s c { x with tagSeen := x.waits.all (tagHolds s x) }
/-- The condition of a wait holds (R33, R114, R290, R313, R332, R339); of a RESIDENT context, with the mask that stands in its
record (DESIGN CHOICE, log 79). -/
def waitOver (s : State) (x : Ctx) (w : Wait) : Bool :=
  match w with
  | .queue q => !(queueOf x q).isEmpty
  | .tagsAll _ => x.tagSeen
  | .tagsAny _ => x.tagSeen
  | .receive => decide (armedOf s x < 16)
  | .barrier => (releaseSeen s x).isSome
  | .group _ => match x.relTick with
    | some t => seen s t
    | none => false
/-- A blocked context whose waits are over runs again (R33). -/
def wake (s : State) (c : CtxId) : State :=
  let x := getCtx s c
  if x.st = .blocked && x.waits.all (waitOver s x) then setCtx s c { x with st := .running, waits := [] } else s

/-! Loop buffers (R150, R151) -/

/-- Place of a half in State.halves. -/
def halfKey (k : BitVec 2) (h : Bool) : Nat := 2 * k.toNat + b2n h
/-- The content of a half. -/
def getHalf (s : State) (k : BitVec 2) (h : Bool) : Option Half := (s.halves.find? (fun p => p.1 == halfKey k h)).map (·.2)
/-- The half of a slot that holds a segment, if any. -/
def halfWith (s : State) (k : BitVec 2) (cbase : Nat) : Option Bool :=
  [false, true].find? (fun h => (getHalf s k h).map (·.cbase) == some cbase)
/-- The segment is being expanded, or waits to be, for a slot. -/
def expanding (s : State) (k : BitVec 2) (cbase : Nat) : Bool := s.expansions.any (fun e => e.slot == k && e.cbase == cbase)
/-- The loop buffer of a slot emptied, its expansions abandoned. -/
def clearSlot (k : BitVec 2) (s : State) : State :=
  { s with halves := SMap.del (SMap.del s.halves (halfKey k false)) (halfKey k true),
           expansions := s.expansions.filter (fun e => e.slot != k) }
/-- The halves lose what they held to the expansions that have begun in them. The segment that the next bundle transfers into
keeps its words until that bundle has issued, at the cycle of R105 or R124 (R150, R151; DEDUCED, log 77). -/
def dropHalves (s : State) : State :=
  s.expansions.foldl (fun s e =>
    let awaited := match allCtx.find? (fun c => (getCtx s c).slot == some e.slot) with
      | some c =>
        let x := getCtx s c
        (segAt s x.plan x.bank.pc.toNat).any (fun g => x.seg != some g.cbase && (getHalf s e.slot e.half).any (fun h => h.cbase == g.cbase))
      | none => false
    if e.begun && !awaited then { s with halves := SMap.del s.halves (halfKey e.slot e.half) } else s) s
/-- The code of the segment of a plan that holds an address, when a slot's loop buffer holds it. -/
def codeAt (s : State) (k : BitVec 2) (seq a : Nat) : Option (Seg × List Word) :=
  match segAt s seq a with
  | some g =>
    match halfWith s k g.cbase with
    | some h => (getHalf s k h).map (fun b => (g, b.words))
    | none => none
  | none => none

/-- The three words of a packet of 12 bytes (R65). -/
def packetWords (v : BitVec 96) : List Word := [v.extractLsb' 0 32, v.extractLsb' 32 32, v.extractLsb' 64 32]
/-- A token stream expanded: n packets from a byte address, i tokens after the last flag byte f (R149). -/
def expandTokens (byte : Nat → Byte) (dict : List (BitVec 96)) : Nat → Nat → Nat → Nat → List Word
  | 0, _, _, _ => []
  | n + 1, i, f, a =>
    let g := if i = 0 then (byte a).toNat else f
    let b := if i = 0 then a + 1 else a
    if g / 2 ^ i % 2 = 0 then
      packetWords (dict.getD (byte b).toNat 0) ++ expandTokens byte dict n ((i + 1) % 8) g (b + 1)
    else
      packetWords (bytesBv 96 ((List.range 12).map (fun j => byte (b + j)))) ++ expandTokens byte dict n ((i + 1) % 8) g (b + 12)
/-- The words of a segment of this core, from the code area and the plan's dictionary bank (R147 to R149). -/
def segWords (s : State) (g : Seg) : List Word :=
  expandTokens (fun a => memGet s.mem (keyMirror s.me a)) (SMap.get [] s.dicts g.dict) g.npkt 0 0 (g.hdr + 16)
/-- The context in a slot. -/
def slotCtx (s : State) (k : BitVec 2) : Option CtxId := allCtx.find? (fun c => (getCtx s c).slot == some k)
/-- An expansion that has ended fills its half (R150). -/
def fillHalf (s : State) (e : Expansion) : State :=
  match slotCtx s e.slot with
  | some c => match segAt s (getCtx s c).plan e.cbase with
    | some g => { s with halves := SMap.put s.halves (halfKey e.slot e.half) { cbase := e.cbase, words := segWords s g } }
    | none => s
  | none => s
/-- The expansions whose last cycle has passed (R150). -/
def endExpansions (s : State) : State :=
  let due := s.expansions.filter (fun e => e.left == 0)
  due.foldl fillHalf { s with expansions := s.expansions.filter (fun e => e.left != 0) }
/-- One cycle of the first expansion that meets a test. -/
def runFirst (p : Expansion → Bool) : List Expansion → List Expansion
  | [] => []
  | e :: t => if p e then { e with left := e.left - 1, begun := true } :: t else e :: runFirst p t
/-- One cycle of the prefetch engine: an expansion of the primary slot goes ahead of the queue of the others (R150). -/
def expandCycle (s : State) : State :=
  let p := fun (e : Expansion) => !s.expansions.any (·.primary) || e.primary
  { s with expansions := runFirst p s.expansions }
/-- A fresh expansion of a segment (R150). -/
def newExpansion (k : BitVec 2) (h : Bool) (g : Seg) (primary : Bool) : Expansion :=
  { slot := k, half := h, cbase := g.cbase, left := 24 + g.npkt, primary := primary }
/-- The prefetch that the first bundle from a segment asks for (R151). -/
def prefetch (c : CtxId) (g : Seg) (s : State) : State :=
  let x := getCtx s c
  match x.slot, (segsOf s x.plan).find? (fun n => n.hdr == g.next) with
  | some k, some n =>
    let h := !((halfWith s k g.cbase).getD true)
    if halfWith s k n.cbase == some h || s.expansions.any (fun e => e.slot == k && e.half == h && e.cbase == n.cbase) then s
    else
      let e := newExpansion k h n x.primary
      if s.expansions.any (fun o => o.slot == k && o.half == h) then
        { s with expansions := s.expansions.map (fun o => if o.slot == k && o.half == h then e else o) }
      else { s with expansions := s.expansions ++ [e] }
  | _, _ => s
/-- The expansion that the next bundle of a running context needs (R137, R151). -/
def wantCode (s : State) (c : CtxId) : State :=
  let x := getCtx s c
  match x.slot, segAt s x.plan x.bank.pc.toNat with
  | some k, some g =>
    if x.st != .running || (halfWith s k g.cbase).isSome || expanding s k g.cbase then s
    else
      let h := match x.seg with
        | some b => !((halfWith s k b).getD true)
        | none => false
      { s with expansions := s.expansions.filter (fun e => e.slot != k) ++ [newExpansion k h g x.primary] }
  | _, _ => s

/-! Streams and the choice of a context (R33, R34, R138, R142) -/

/-- Cycles of an unload or a load (R34, R202). -/
def streamLen (x : Ctx) : Nat := if x.bank.mown then 593 else 432
/-- A context begins to load into a slot (R33, R34). -/
def beginLoad (c : CtxId) (k : BitVec 2) (s : State) : State :=
  let x := getCtx s c
  let x := applyRaw s.nextId x
  let y := { x with
    st := .loading, slot := some k, readyAt := none, seg := none, saved := none,
    restore := x.saved.map (fun p => { banks := p.1, tiers := p.2, bref := false }) }
  let s1 := clearSlot k (setCtx { s with nextId := s.nextId + 2 } c y)
  { s1 with stream := some { ctx := c, slot := k, unload := false, left := streamLen x, after := none } }
/-- A context begins to unload; another may follow it into the slot (R33, R34). -/
def beginUnload (c : CtxId) (after : Option CtxId) (s : State) : State :=
  let x := getCtx s c
  let s1 := setCtx s c { x with st := .unloading }
  { s1 with stream := some { ctx := c, slot := x.slot.getD 0, unload := true, left := streamLen x, after := after } }
/-- A context evicted while another stream runs begins its unload when the stream ends (R33, R142). -/
def pendingUnload (s : State) : State :=
  if s.stream.isSome then s
  else match allCtx.find? (fun c => (getCtx s c).st == .unloading) with
    | some c => beginUnload c none s
    | none => s
/-- The load stream has ended, and the bank restore with it: the context runs from the next cycle on. The load has the
meaning of a resume: NEST and NCAUSE clear, and the snapshot entries are replayed unless a handler goes on at PC after an
escalation (R33, R127, R131, R135, R136); a context evicted in its handler, with NEST 0, has them replayed too (DESIGN CHOICE,
log 88). -/
def finishLoad (s : State) : State :=
  match s.stream with
  | some t =>
    let x := getCtx s t.ctx
    if t.unload || t.left != 0 || x.restore.any (fun r => !r.ready) then s
    else
      let b := { x.bank with nest := false, ncause := 0 }
      -- work that SYS 0 has ended stays ended (R405)
      let y := { x with st := if x.sysEnded then .held else .running, hold := max x.hold (s.cycle + 1), waits := [], first := true, bank := b,
                        restart := !(x.bank.nest && x.bank.inh) && !x.snap.isEmpty && x.replayAt.isNone }
      let m := match x.matrix with
        | some m => { m with hold := m.run.isSome }
        | none => s.matrix
      setCtx { s with stream := none, matrix := m } t.ctx { y with matrix := none }
  | none => s
/-- The unload stream has ended: RESIDENT or FINISHED, the owner's matrix state in its shadow area, and the next context
loads (R33, R34, R202). -/
def finishUnload (s : State) : State :=
  match s.stream with
  | some t =>
    if !t.unload || t.left != 0 then s
    else
      let x := getCtx s t.ctx
      let y := { x with st := if x.ended || (x.sysEnded && !x.primary) then .finished else .resident, slot := none,
                        matrix := if x.bank.mown then some s.matrix else x.matrix }
      let s1 := setCtx { s with stream := none, matrix := if x.bank.mown then {} else s.matrix } t.ctx y
      match t.after with
      | some c => beginLoad c t.slot s1
      | none => clearSlot t.slot s1
  | none => s
/-- One cycle of the stream. -/
def streamCycle (s : State) : State := { s with stream := s.stream.map (fun t => { t with left := t.left - 1 }) }

/-- The launch of a context is pre-empted or being pre-empted, so that its plan waits for the distributor (R133, R395). -/
def preempted (s : State) (seq : Nat) : Bool :=
  s.launches.any (fun l => l.2.seq == seq && (l.2.st == .preempted || l.2.st == .placing || l.2.preempting.isSome))
/-- A RESIDENT context is ready: no queue that its bundle pops is empty (R142). -/
def ready (s : State) (x : Ctx) : Bool := x.st == .resident && !preempted s x.plan && x.waits.all (waitOver s x)
/-- The cycle at which each context became ready (R142). -/
def markReady (s : State) (c : CtxId) : State :=
  let x := getCtx s c
  if x.st != .resident then s
  else setCtx s c { x with readyAt := if ready s x then some (x.readyAt.getD s.cycle) else none }
/-- Slot 0 is reserved for a primary context (R138, R142). -/
def reserved0 (s : State) : Bool :=
  allCtx.any (fun c => let x := getCtx s c; x.primary && x.st != .empty && x.st != .finished)
/-- The slots that may be given to a context that is not primary. -/
def openSlots (s : State) : List (BitVec 2) := if reserved0 s then [1, 2, 3] else [0, 1, 2, 3]
/-- The blocked context that is unloaded for another: earliest blocked, then lowest slot (R142). -/
def victim (s : State) : Option (BitVec 2 × CtxId) :=
  (openSlots s).foldl (fun b k =>
    match slotCtx s k with
    | some c =>
      if (getCtx s c).st != .blocked then b
      else match b with
        | some (_, d) => if (getCtx s c).blockedAt < (getCtx s d).blockedAt then some (k, c) else b
        | none => some (k, c)
    | none => b) none
/-- The slot that can be chosen for a ready context, with the context to unload from it (R142). -/
def slotFor (s : State) (x : Ctx) : Option (BitVec 2 × Option CtxId) :=
  if x.primary then (if (slotCtx s 0).isNone then some (0, none) else none)
  else match (openSlots s).find? (fun k => (slotCtx s k).isNone) with
    | some k => some (k, none)
    | none => (victim s).map (fun p => (p.1, some p.2))
/-- Ready contexts in the order in which they became ready, then by CTXID (R142). -/
def readyList (s : State) : List CtxId :=
  sortBy (fun a b => decide (((getCtx s a).readyAt.getD 0) ≤ ((getCtx s b).readyAt.getD 0)))
    (allCtx.filter (fun c => (getCtx s c).readyAt.any (fun t => decide (t ≤ s.cycle)) && ready s (getCtx s c)))
/-- The selection of a context for a slot (R142). -/
def selectSlot (s : State) : State :=
  if s.stream.isSome || s.retired then s
  else match (readyList s).find? (fun c => (slotFor s (getCtx s c)).isSome) with
    | some c => match slotFor s (getCtx s c) with
      | some (k, none) => beginLoad c k s
      | some (_, some b) => beginUnload b (some c) s
      | none => s
    | none => s

/-! Pre-emption (R133, R395) -/

/-- Contexts of a plan on this core. -/
def planHere (s : State) (seq : Nat) : List CtxId :=
  allCtx.filter (fun c => (getCtx s c).st != .empty && (getCtx s c).plan == seq)
/-- A context holds a slot. -/
def inSlot (x : Ctx) : Bool := x.slot.isSome
/-- PREEMPT becomes pending in a context that runs, is blocked, is held or loads; one that is RESIDENT or UNLOADING has no
bundle boundary and gets none (R118, R133; DESIGN CHOICE, log 89). -/
def raisePreempt (s : State) (c : CtxId) : State :=
  let x := getCtx s c
  if x.st == .running || x.st == .blocked || x.st == .held || x.st == .loading then
    setCtx s c { x with pend := { x.pend with pre := true }, delay := s.cycle }
  else s
/-- A pre-emption at a superstep boundary reaches this core: the primary context that waits at PBAR is HELD there, and
PREEMPT becomes pending in the plan's other contexts, which issue no PBAR (R133; that, DESIGN CHOICE, log 60). -/
def boundaryStop (s : State) (seq : Nat) : State :=
  let l := planHere s seq
  match l.find? (fun c => (getCtx s c).primary) with
  | some c =>
    let x := getCtx s c
    if x.waits.contains .barrier && x.st == .blocked && (releaseSeen s x).isNone then
      (l.filter (fun d => d != c)).foldl raisePreempt (holdPre s c x.bank.pc)
    else s
  | none => l.foldl raisePreempt s
/-- Boundary pre-emptions at a cycle. -/
def boundaryCycle (s : State) : State :=
  s.launches.foldl (fun s p => if p.2.st == .running && p.2.preempting == some false then boundaryStop s p.2.seq else s) s
/-- The first cycle that sees the tick of an urgent pre-emption: PREEMPT becomes pending in the plan's contexts, and the
cluster's links and sync unit, as far as they serve the plan, stop (R133, R285, R296). -/
def urgentStop (s : State) (p : Nat × Launch) : State :=
  let l := p.2
  if l.st == .running && l.preempting == some true && l.preTick.any (seen s) then
    let cs := planHere s l.seq
    let s1 := cs.foldl raisePreempt { s with launches := SMap.put s.launches p.1 { l with preTick := none } }
    withPlan l.seq (fun s =>
      if cs.isEmpty || s.stop.isSome then s
      else { s with stop := some { seq := l.seq, cycle := s.cycle, tick := l.preTick.getD 0 } }) s1
  else s
/-- Urgent pre-emptions at a cycle. -/
def urgentCycle (s : State) : State := s.launches.foldl urgentStop s
/-- A context of a restarted placement goes on at S as many cycles after it as its stop came after the cluster's (R285). -/
def startAt (s : State) (c : CtxId) : State :=
  let x := getCtx s c
  if x.start.any (seen s) && x.delay != 0 then setCtx s c { x with hold := s.cycle + x.delay, delay := 0 } else s
/-- A pre-emption is complete when no context of the plan holds a slot (R133, R395, R402). -/
def preemptDone (s : State) (p : Nat × Launch) : State :=
  let l := p.2
  if l.st == .running && l.preempting.isSome && !(planHere s l.seq).any (fun c => inSlot (getCtx s c)) then
    moveLaunch p.1 { l with st := .preempted, preempts := l.preempts + 1, since := tickNow s, preempting := none }
      { s with pkg := { s.pkg with pass := true } }
  else s
/-- Completed pre-emptions at a cycle. -/
def preemptCycle (s : State) : State := s.launches.foldl preemptDone s

end Sys2Proof.Machine
end

