-- ==== Sys2Proof/Machine/Cycle.lean ====
section
/-! DEFINITION. What a cycle does before and after the issue of bundles: arrivals, landings and tick events on one side;
barrier arrivals, the release buffer, departures, counts and time on the other. -/

namespace Sys2Proof.Machine

/-- A step over all contexts. -/
def eachCtx (f : State → CtxId → State) (s : State) : State := allCtx.foldl f s

/-! Landings -/

/-- Row writes of BWR whose cycle has come. -/
def rowsDue (s : State) : List RowWrite := s.vault.writes.filter (fun w => decide (w.land ≤ s.cycle))
/-- The row writes of BWR that are due enter their rows (R249). -/
def putRows (s : State) : State :=
  let put := fun (s : State) (w : RowWrite) =>
    { s with mem := memWrite s.mem (keyVault s.me w.bank.toNat w.row.toNat (128 * w.col.toNat)) w.bytes }
  (rowsDue s).foldl put { s with vault := { s.vault with writes := s.vault.writes.filter (fun w => !decide (w.land ≤ s.cycle)) } }
/-- The row writes that count for the signatures: those of no rolled-back run (R259, R263). -/
def rowsSigned (s : State) : List SignedWrite := ((rowsDue s).filter (fun w => !w.stale)).map signedRow
/-- Row writes alone, with their signatures (R249, R263). -/
def rowWrites (s : State) : State := signWrites (rowsSigned s) (putRows s)
/-- Results that meet a test land, and they enter the signatures of reruns (R91, R131, R263). -/
def landingsOf (withReplays : Bool) (p : Flight → Bool) (s : State) : State :=
  let r := landLog withReplays p s
  signWrites (r.2.map signedRes) r.1
/-- Everything that lands at the cycle, replays first, with the row writes of BWR, signed together (R263). -/
def landings (s : State) : State :=
  let r := landLog true (fun _ => true) s
  signWrites (r.2.map signedRes ++ rowsSigned s) (putRows r.1)

/-! Urgent pre-emption (R285, R315) -/

/-- A tick of a placement that was stopped at tick tp for dt ticks (R315). -/
def shiftTick (dt tp t : Nat) : Nat := if tp ≤ t then t + dt else t
/-- Cycles and ticks of a stopped placement move by the length of its stop (R285, R315). -/
def shiftStop (dc dt tp : Nat) (k : Kept) : Kept :=
  let tick := shiftTick dt tp
  let entry := fun (e : GEntry) => { e with dep := tick e.dep, words := e.words.map (fun w => (tick w.1, w.2)) }
  let g := k.gate
  { k with
    xports := k.xports.map (fun w => { w with arrive := w.arrive + dc }),
    xout := k.xout.map (fun w => { w with arrive := w.arrive + dc }),
    csync := k.csync.map (fun c => (c.1, c.2.1, c.2.2 + dc)),
    gate := { g with list := g.list.map entry, old := g.old.map entry, foList := g.foList.map entry, foOld := g.foOld.map entry,
                     rels := g.rels ++ g.rels.map (· + dt),
                     rx := g.rx.map (fun w => (tick w.1, w.2)), fi := g.fi.map (fun w => (tick w.1, w.2)),
                     flits := g.flits.map (fun f => { f with tick := tick f.tick }) },
    pbarTick := k.pbarTick.map tick }
/-- The stop that ends at this cycle, the first that sees the restart tick (R285, R296). -/
def endingStop (s : State) (k : Kept) : Option (Stop × Nat) :=
  match k.stop with
  | some p => match p.resume with
    | some sp => if seen s sp then some (p, sp) else none
    | none => none
  | none => none
/-- A plan's record after its stop (R285, R315). -/
def restarted (s : State) (k : Kept) (e : Stop × Nat) : Kept :=
  shiftStop (s.cycle - e.1.cycle) (e.2 - e.1.tick) e.1.tick { k with stop := none }
/-- The registered arrivals of a restarted plan move with it (R315). -/
def shiftArrivals (e : Stop × Nat) (s : State) : State :=
  { s with ctxs := s.ctxs.map (fun p =>
      if p.2.plan = e.1.seq then (p.1, { p.2 with arrived := p.2.arrived.map (shiftTick (e.2 - e.1.tick) e.1.tick) }) else p) }
/-- Stopped placements restart at the first cycle that sees their restart tick (R285, R315). -/
def endStop (s : State) : State :=
  let s1 := match endingStop s (keepGate s) with
    | some e => useGate (restarted s (keepGate s) e) (shiftArrivals e s)
    | none => s
  s1.kept.foldl (fun s k => match endingStop s k.2 with
    | some e => shiftArrivals e { s with kept := SMap.put s.kept k.1 (restarted s k.2 e) }
    | none => s) s1
/-- Exchange, cluster sync and the gateway at a cycle; a stop holds them (R281, R284, R308, R313, R315). -/
def linkCycle (s : State) : State :=
  let s1 := endStop s
  -- a window that ended before T ended there, and its cause stops the bundle of T
  let s2 := eachCtx startAt (urgentCycle (if s1.stop.isSome then s1 else expirePorts s1))
  eachCtx (fun s c => if (recOf s (getCtx s c).plan).stop.isSome then s else soleRelease s c)
    (gateCycle (if s2.stop.isSome then s2 else soleSync s2))

/-! Emergency refresh (R254, R318) -/

/-- Banks of this core that a plan owns (R244, R255). -/
def banksOf (s : State) (p : Plan) : List Nat :=
  (List.range 64).filter (fun n => match resOf p s.me with
    | some r => r.owned.getLsbD n
    | none => false)
/-- Banks of this core that plans own (R244, R255). -/
def compilerBanks (s : State) : List Nat := (List.range 64).filter (fun n => s.plans.any (fun p => (banksOf s p).contains n))
/-- TVAL of REFRESH_OVERRUN of a plan (R318). -/
def refoTval (s : State) (reason bank seq : Nat) : Dbl :=
  let r := (recOf s seq).replan
  BitVec.ofNat 64 (reason * 2 ^ 16 + r.need.toNat * 2 ^ 12 + r.var.toNat * 2 ^ 10 + bank)
/-- The primary context of a plan on this core. -/
def primaryOf (s : State) (seq : Nat) : Option CtxId :=
  allCtx.find? (fun c =>
    let x := getCtx s c
    x.primary && x.st != .empty && x.st != .finished && x.plan == seq)
/-- Emergency refresh of a plan begins (R254, R318, R434). -/
def startEmergency (reason bank seq : Nat) (s : State) : State :=
  if s.vault.emergency.contains seq then s
  else
    let v := refoTval s reason bank seq
    let s1 := { s with vault := { s.vault with emergency := seq :: s.vault.emergency, lastRef := [] } }
    let s2 := match primaryOf s1 seq with
      | some c => raiseRefo c v s1
      | none => s1
    blackBox s2 5 s2.self seq v 0
/-- A rising re-plan request of 2,000,000 ticks, as the first cycle that sees that tick finds it (R296, R318). -/
def agedOut (r : Replan) : Bool := r.var.toNat < r.need.toNat && decide (2000000 < r.age)
/-- Plans whose rising request has aged out enter emergency refresh (R318). -/
def agedPlans (s : State) : State :=
  let s0 := if agedOut s.replan then startEmergency 1 0 s.gate.seq s else s
  (s0.kept.filter (fun k => agedOut k.2.replan)).foldl (fun s k => startEmergency 1 0 k.1 s) s0
/-- The plan that owns a bank of this core. -/
def ownerOf (s : State) (n : Nat) : Nat := ((s.plans.find? (fun p => (banksOf s p).contains n)).map (·.seq)).getD 0
/-- The conditions of R318 at a cycle. -/
def checkEmergency (s : State) : State :=
  let s1 := agedPlans s
  ((compilerBanks s1).filter (fun n => (getBank s1.vault n).dl == 0)).foldl (fun s n => startEmergency 2 n (ownerOf s n) s) s1
/-- BREFs that the vault has given a bank in this emergency. -/
def emergencyCount (s : State) (n : Nat) : Nat := SMap.get 0 s.vault.lastRef n
/-- A bank is due for a BREF of the emergency: it has had none, or fewer than two intervals are left (R318). -/
def emergencyDue (s : State) (n : Nat) : Bool :=
  emergencyCount s n == 0 || decide ((getBank s.vault n).dl < 2 * Config.refreshInterval (recOf s (ownerOf s n)).replan.need.toNat)
/-- The vault's own commands at a cycle of an emergency: precharges, and one BREF in ascending N of a round (R318). -/
def emergencyCycle (s : State) : State :=
  if s.vault.emergency.isEmpty then s
  else
    let own := (List.range 64).filter (fun n => s.plans.any (fun p => s.vault.emergency.contains p.seq && (banksOf s p).contains n))
    let s1 := own.foldl (fun s n =>
      let b := getBank s.vault n
      if b.state == stOPEN && b.pre == 0 then precharge n s else s) s
    let l := sortBy (fun a b => decide (emergencyCount s1 a ≤ emergencyCount s1 b)) (own.filter (emergencyDue s1))
    match l.head? with
    | some n =>
      if refreshOk s1 n then
        let s2 := refresh n s1
        { s2 with vault := { s2.vault with lastRef := SMap.set 0 s2.vault.lastRef n (emergencyCount s1 n + 1) } }
      else s1
    | none => s1

/-! Poisoned deliveries (R372) -/

/-- A poisoned entry that arrives is an uncorrectable error with SRC 3 at this core (R259, R372). -/
def poisonCycle (s : State) (c : CtxId) : State :=
  let x := getCtx s c
  let here := fun (p : Nat × BitVec 24) => x.arriving.any (fun a => a.2.1 == p.1)
  (x.poison.filter here).foldl (fun s p => uncorrectable 3 p.2 s) (if x.poison.isEmpty then s
    else setCtx s c { x with poison := x.poison.filter (fun p => !here p && x.owed.any (fun o => o.id == p.1)) })

/-! Before the issue -/

/-- All that a cycle does before bundles issue. -/
def prologue (s : State) : State :=
  let s := [0, 1, 2, 3].foldl mapCycle ([0, 1, 2, 3].foldl busCycle (eachCtx seeTags (takeFreq s)))
  let s := eachCtx postRecvs s
  let s := landings (rxCycle (selfPeers (eachCtx poisonCycle (eachCtx queueCycle (eachCtx recordHeld s)))))
  let s := linkCycle (opticalCycle s)
  let s := emergencyCycle (checkEmergency s)
  let s := eachCtx restoreCycle ([0, 1, 2, 3].foldl quietCycle s)
  let s := eachCtx wake (expandCycle (endExpansions s))
  let s := preemptCycle (pendingUnload (finishLoad (finishUnload s)))
  let s := boundaryCycle (streamCycle (selectSlot (eachCtx markReady s)))
  postEnded (routineCycle s)

/-! Marks of GBAR (R339) -/

/-- The group that a context waits for. -/
def groupWait (x : Ctx) : Option (BitVec 8) :=
  x.waits.findSome? (fun w => match w with
    | .group g => some g
    | _ => none)
/-- Another context of the core has sent the mark of the episode, which has not been released (R339). -/
def markSent (s : State) (g : BitVec 8) : Bool := allCtx.any (fun c => (getCtx s c).mark == some g && (getCtx s c).relTick.isNone)
/-- The MARK frame of a core (R324, R339). -/
def markFrame (s : State) (c : CtxId) (g : BitVec 8) : Frame :=
  { kind := 5, utag := 0, id := g.zeroExtend 12, len := 0, fmt := 0, bus := g.extractLsb' 0 2, sender := s.self, ctx := c,
    payload := [] }
/-- A GBAR marks at the first cycle at which its context has nothing outstanding, seated or not (R142, R339). -/
def markAt (s : State) (c : CtxId) : State :=
  let x := getCtx s c
  match groupWait x with
  | some g =>
    if x.st == .empty || x.st == .held || x.mark.isSome || !quiet s c then s
    else
      let y := { x with mark := some g }
      if markSent s g then setCtx s c y
      else
        let a : Access := { id := s.nextId, op := .frame (markFrame s c g) 0 0, tick := takenAt s }
        setCtx { s with nextId := s.nextId + 1 } c { y with out := y.out ++ [a] }
  | none => s

/-! Departures (R292, R298, R299, R328, R361) -/

/-- An access is one of the service network. -/
def isService (a : Access) : Bool := a.op.flits != 0
/-- A service access may leave: no fence holds it, no earlier access of its context to its pages has yet to leave, and
a word that returns a value neither passes the side log nor leaves before the cycle that sees its last acknowledgement
(R108, R296, R299, R360, R361). -/
def mayLeave (s : State) (c : CtxId) (a : Access) : Bool :=
  let x := getCtx s c
  let ps := pagesOf s a
  let meets := fun (b : Access) => (pagesOf s b).any (fun p => ps.contains p)
  !fenceHolds s c a && !(x.out.takeWhile (fun b => !b.is a)).any (fun b => isService b && b.left.isNone && b.id != a.id && meets b) &&
    (a.logs || (!x.side.any meets && !x.acks.any (fun k => ps.contains k.1 && !seen s k.2)))
/-- The range and the address of a global access (R349, R443). -/
def rangeAddr (a : Access) : Option (Nat × Nat) :=
  match a.op with
  | .global _ ia rg _ _ _ => some (rg, ia)
  | .push ia rg _ => some (rg, ia)
  | _ => none
/-- The grant token of the range that an access to another package used (R443). -/
def tokenOf (s : State) (x : Ctx) (a : Access) : Dbl :=
  match rangeAddr a with
  | some (rg, ia) => if iaPkg ia = myPkg s then 0 else SMap.get 0 x.rgc rg
  | none => 0
/-- Link hops of a service flit to a home of this package: the interposer, then along x and y (R303, R304). -/
def hopsTo (s : State) (core : Nat) : Nat :=
  b2n (core / 160 != s.myDie) + hops (s.myCluster % 10) (core / 16 % 10)
/-- Hops that a global access has to make before its home has it (R304). -/
def hopsOf (s : State) (a : Access) : Nat :=
  match rangeAddr a with
  | some (_, ia) => if iaPkg ia = myPkg s then hopsTo s (iaCore ia) else 0
  | none => 0
/-- The source bytes of a payload write are read when it leaves, through the read port of their quadrant (R234, R449). -/
def sourceFree (s : State) (a : Access) : Bool :=
  match a.op with
  | .push _ _ src => (portHolder s (quadOf src) false s.cycle).isNone
  | _ => true
/-- That port taken. -/
def takeSource (a : Access) (s : State) : State :=
  match a.op with
  | .push _ _ src => { s with ports := { cycle := s.cycle, quad := quadOf src, write := false, holder := 2 } :: s.ports }
  | _ => s
/-- The access as it leaves: a payload write with the bytes read (R449). -/
def sourced (s : State) (a : Access) : AccOp :=
  match a.op with
  | .push ia rg src => .global (.payload (BitVec.ofNat 64 (leNat (scratchRead s src 8)))) ia rg false false 0x11
  | o => o
/-- One access of a context at the end of a cycle. -/
def leaveOne (c : CtxId) (s : State) (a : Access) : State :=
  let x := getCtx s c
  if a.left.isSome then s
  else match a.op with
    | .gfence => s
    | .rel _ _ => s
    | .copy _ _ _ => s
    | .frame _ _ _ => s
    | .acquire obj _ => if isSys s obj && tickBy s a.tick then goOut c a id s else s
    | .peer _ _ => if fenceHolds s c a then s else goOut c a id s
    | _ =>
      let n := a.op.flits
      if !mayLeave s c a || !sourceFree s a then s
      else if behind s (a.id, a.sub) || !mayMeter s n then toEgress (a.id, a.sub) s
      else
        let go := fun (b : Access) => { b with op := sourced s a, tick := takenAt s, token := tokenOf s x a, hops := hopsOf s a }
        takeSource a (goOut c a go (meter n (fromEgress (a.id, a.sub) s)))
/-- The accesses of a context leave in order. -/
def leaveCycle (s : State) (c : CtxId) : State := (getCtx s c).out.foldl (leaveOne c) s

/-! GFENCE (R369) -/

/-- What a GFENCE waits for: global and host accesses, and copies that write there (R369). -/
def fenced (o : AccOp) : Bool :=
  match o with
  | .copy hd _ _ => decide (3 ≤ shSpace hd)
  | _ => o.spaces &&& 0x30 != 0
/-- A GFENCE of a context is due: no earlier access that it waits for is unperformed (R369). -/
def gfenceDue (s : State) (c : CtxId) (a : Access) : Bool :=
  let x := getCtx s c
  !(x.rel ++ x.out ++ x.side).any (fun b => decide (b.id < a.id) && fenced b.op) &&
    !(copiesOf s c).any (fun r => decide (r.id < a.id) && decide (3 ≤ shSpace r.hd))
/-- A GFENCE posts (R338, R369). -/
def gfenceOne (c : CtxId) (s : State) (a : Access) : State :=
  if a.op = .gfence && gfenceDue s c a then
    let s1 := putOut c a (fun _ => none) s
    let x := getCtx s1 c
    setCtx s1 c (post a.id (qfxEntry (pinStatus (x.pinMet.any (fun k => decide (k < a.id)))) 3 0) (s1.cycle + 1) x)
  else s
/-- The GFENCEs of a context. -/
def gfenceCycle (s : State) (c : CtxId) : State := (getCtx s c).out.foldl (gfenceOne c) s

/-! Counts and time -/

/-- A bank's counts one cycle on (R245, R246). -/
def bankTick (b : VBank) : VBank :=
  { b with state := if b.rem = 1 then phaseEnd b.state else b.state, rem := b.rem - 1, pre := b.pre - 1, act := b.act - 1 }
/-- A tier's counts one cycle on (R247). -/
def tierTick (t : VTier) : VTier :=
  { t with faw0 := t.faw0 - 1, faw1 := t.faw1 - 1, faw2 := t.faw2 - 1, faw3 := t.faw3 - 1, rrd := t.rrd - 1,
           ccd := t.ccd - 1, wtr := t.wtr - 1 }
/-- The counts of the vault one cycle on. -/
def vaultTick (v : Vault) : Vault :=
  { v with banks := v.banks.foldl (fun m p => SMap.set {} m p.1 (bankTick p.2)) [],
           tiers := v.tiers.foldl (fun m p => SMap.set {} m p.1 (tierTick p.2)) [] }
/-- Refresh deadlines of the owned banks n ticks on (R253). -/
def deadlines (n : Nat) (s : State) : State :=
  if n = 0 then s
  else
    let one := fun (v : Vault) (k : Nat) => let b := getBank v k; setBank v k { b with dl := b.dl - n }
    { s with vault := (compilerBanks s).foldl one s.vault }
/-- The next tick has come: cycles see the last changes of the tiers' classes (R252, R296). -/
def seeChanges (s : State) : State :=
  { s with vault := { s.vault with banks := s.vault.banks.foldl (fun m b => SMap.set {} m b.1 { b.2 with shown := none }) [],
                                   tiers := s.vault.tiers.foldl (fun m t => SMap.set {} m t.1 { t.2 with shown := none }) [] } }
/-- A plan on this core has yet to issue its first bundle here (R316). -/
def unstarted (s : State) (seq : Nat) : Bool :=
  let l := (planHere s seq).map (getCtx s)
  !l.isEmpty && l.all (fun x => x.start.isSome && x.seg.isNone)
/-- What counts in ticks, from the current start to a new one: deadlines, the age of a rising request, the interval of
the service budget (R253, R298, R316). A deadline is held as the core has seen it, one tick behind (R252, R296). The age
starts with the plan's first bundle. -/
def passTicks (t' : Nat) (s : State) : State :=
  let a := tickNow s
  let b := t' / Config.ns
  let s1 := if b = a then s else seeChanges (deadlines (b - a) s)
  let older := fun (seq : Nat) (r : Replan) =>
    if r.var.toNat < r.need.toNat && !unstarted s seq then { r with age := r.age + (b - a) } else r
  let used := if a / 1000 < b / 1000 then 0 else s.cluster.used
  { s1 with time := t', replan := older s1.gate.seq s1.replan,
            kept := s1.kept.map (fun k => (k.1, { k.2 with replan := older k.1 k.2.replan })), cluster := { s1.cluster with used := used } }
/-- The cycle ends: STRC counts a stretched one, and the next one begins (R293, R295). -/
def endCycle (s : State) : State :=
  let t' := cycleEnd s
  let s1 := passTicks t' s
  let k := s1.cluster
  let strc := if k.stretch then satAdd16 k.strc 1 else k.strc
  { s1 with cycle := s1.cycle + 1, cluster := { k with strc := strc, stretch := k.stretchNext, stretchNext := false } }

/-- All that a cycle does after bundles have issued. -/
def epilogue (s : State) : State :=
  let s := eachCtx arriveAt s
  let s := admitCycle (eachCtx (fun s c => leaveCycle (relCycle s c) c) (eachCtx markAt s))
  let s := [0, 1, 2, 3].foldl payloadCycle (eachCtx gfenceCycle s)
  let s := eachCtx dropFences (takeCopy (takeCopy s))
  let s := eachCtx wantCode (dropHalves { s with vault := vaultTick s.vault })
  let s := eachCtx (fun s c => if (getCtx s c).wrote.isEmpty then s else setCtx s c { getCtx s c with wrote := [] }) s
  endCycle { s with justZero := [] }

end Sys2Proof.Machine
end

