-- ==== Sys2Proof/Machine/CoreEvents.lean ====
section
/-! DEFINITION. Events of the core, its matrix engine, vault, cluster and gateway: each does at once what the cycle does
when the event's time comes, and leaves the state as it is when its condition does not hold. -/

namespace Sys2Proof.Machine

/-! Class A causes -/

/-- The context is not held back by time (R105, R124, R141, R404). -/
def timeOk (s : State) (x : Ctx) : Bool :=
  decide (x.hold ≤ s.cycle) && (match x.start with | some t => seen s t | none => true) && !x.rerun.wait

/-- The class A cause that stops the next bundle of a context: the highest in the table of R117, and while INH is 1
only PREEMPT (R118, R125). -/
def asyncCause (x : Ctx) : Option (BitVec 8 × Dbl) :=
  let p := x.pend
  let other : Option (BitVec 8 × Dbl) := if x.bank.inh then none
    else match p.refo, p.late, p.miss, p.atom with
      | some v, _, _, _ => some (0x30, v)
      | none, some v, _, _ => some (0x31, v)
      | none, none, some v, _ => some (0x32, v)
      | none, none, none, some v => some (0x33, v)
      | none, none, none, none => none
  match other with
  | some r => some r
  | none => if p.pre then some (0x34, 0) else none
/-- A pending bit cleared by its delivery. -/
def clearPend (code : BitVec 8) (p : Pend) : Pend :=
  if code = 0x30 then { p with refo := none } else if code = 0x31 then { p with late := none }
  else if code = 0x32 then { p with miss := none } else if code = 0x33 then { p with atom := none }
  else { p with pre := false }
/-- A class A cause stops the next bundle of a context; a blocked bundle is stopped where it waits (R118, R285, R315). -/
def stopAsync (s : State) (c : CtxId) : State :=
  let x := getCtx s c
  if !(x.st == .running || x.st == .blocked) || x.slot.isNone || !timeOk s x || s.retired then s
  else match asyncCause x with
    | some (code, v) =>
      let s1 := setCtx s c { x with pend := clearPend code x.pend }
      if code = 0x34 then deliverPreempt s1 c x.bank.pc s.cycle else deliver s1 c code v x.bank.pc s.cycle
    | none => s
/-- A pending class A cause is delivered to a context (R118, R126). -/
def execAsyncCauseDeliver (c : CtxId) (s : State) : Answer := .next (stopAsync s c)

/-! Landings (R91, R131, R171, R180, R191, R192, R249) -/

/-- The results of a kind. -/
def resKind (p : Res → Bool) (f : Flight) : Bool := p f.res
/-- Fixed-latency results are written at their landing cycle (R91). -/
def execResultLanding (s : State) : Answer := .next (landingsOf false (fun _ => true) s)
/-- Snapshot entries are written at S + OFFSET (R131). -/
def execSnapshotReplay (s : State) : Answer := .next (landingsOf true (fun _ => false) s)
/-- A reduction adds its tree result into its latch lane (R171). -/
def execReductionUpdate (s : State) : Answer :=
  .next (landingsOf false (resKind (fun r => match r with | .reduce _ _ _ _ _ _ _ => true | _ => false)) s)
/-- MMAs and STEPs update their rows and side accumulators (R180, R183). -/
def execMmaLand (s : State) : Answer :=
  .next (landingsOf false (resKind (fun r => match r with
    | .mma _ _ _ _ _ _ _ _ _ _ => true
    | .stepNan _ => true
    | _ => false)) s)
/-- A drain writes its row and clears the side accumulator (R192). -/
def execMdrnLand (s : State) : Answer :=
  .next (landingsOf false (resKind (fun r => match r with | .mdrn _ _ _ _ => true | _ => false)) s)
/-- The shadow copy is written and the copies of the array exchange roles (R191). -/
def execMldbSwap (s : State) : Answer :=
  .next (landingsOf false (resKind (fun r => match r with | .mldb _ _ _ _ => true | _ => false)) s)
/-- A column read lands in scratchpad: 128 bytes (R249). -/
def execBrdLand (s : State) : Answer :=
  .next (landingsOf false (resKind (fun r => match r with | .scratch _ bs => bs.length == 128 | _ => false)) s)

/-! Routines (R199) -/

/-- The next microword of the running routine, if it has one of the operations given. -/
def microEvent (ops : List Nat) (s : State) : State :=
  match mxOwner s, s.matrix.run with
  | some c, some r =>
    if s.matrix.hold || !begun s r || !ops.contains ((SMap.get 0 s.matrix.store r.next).toNat / 2 ^ 60) then s
    else match microWord s c r with
      | .wait => s
      | .go s' r' => { s' with matrix := { s'.matrix with run := some r' } }
      | .stop s' r' status word => endRoutine s' r' status word
  | _, _ => s
/-- The engine issues a STEP (R199). -/
def execRoutineStep (s : State) : Answer := .next (microEvent [1] s)
/-- The engine issues a LOAD (R199). -/
def execRoutineLoad (s : State) : Answer := .next (microEvent [2] s)
/-- A routine ends, and its entry posts after its last landing (R199). -/
def execRoutineEnd (s : State) : Answer := .next (postEnded (microEvent [0] s))

/-! The vault (R246, R249, R253, R254, R258, R318) -/

/-- Write data enter their rows (R249). -/
def execBwrRowWrite (s : State) : Answer := .next (rowWrites s)
/-- Phases whose count is 0 end (R246). -/
def phaseEnds (v : Vault) : Vault :=
  { v with banks := v.banks.foldl (fun m p => SMap.set {} m p.1 (if p.2.rem = 0 then { p.2 with state := phaseEnd p.2.state } else p.2)) [] }
/-- Bank phases end (R246). -/
def execBankPhaseEnd (s : State) : Answer := .next { s with vault := phaseEnds s.vault }
/-- The refresh deadline of an owned bank has come, on this core or on another one of a placement (R254, R318). -/
def execRefreshDeadlineExpire (bank : BitVec 6) (s : State) (core : BitVec 11 := 0) : Answer :=
  let n := bank.toNat
  let owns := fun (p : Plan) => (resOf p s.me).isSome && (match resOf p core.toNat with
    | some r => r.owned.getLsbD n
    | none => false)
  .next (if core.toNat = s.me then
      (if (compilerBanks s).contains n && (getBank s.vault n).dl == 0 then startEmergency 2 n (ownerOf s n) s else s)
    else match s.plans.find? owns with
      | some p => startEmergency 2 n p.seq s
      | none => s)
/-- The vault precharges and refreshes by itself (R318). -/
def execEmergencyRefresh (s : State) : Answer := .next (emergencyCycle s)
/-- A re-plan request has aged out (R318). -/
def execReplanAgeExpire (s : State) : Answer := .next (agedPlans s)
/-- The needed class of a placement by its launch (R316). -/
def neededClass (s : State) (seq : Nat) : Nat := ((findPlan s seq).map (neededOf s)).getD 0
/-- The request evaluated anew; its age starts when it becomes rising and ends when it no longer is (R316). -/
def reevaluate (s : State) : State :=
  let anew := fun (r : Replan) (n : Nat) =>
    let was := decide (r.var.toNat < r.need.toNat)
    { r with need := BitVec.ofNat 2 n, age := if was && decide (r.var.toNat < n) then r.age else 0 }
  { s with
    replan := anew s.replan (neededClass s s.gate.seq),
    kept := s.kept.map (fun k => (k.1, { k.2 with replan := anew k.2.replan (neededClass s k.1) })) }
/-- Deadlines of a tier at a higher class. The tick of the change is yet to be seen: until a cycle sees it, cycles see the
deadlines as they were (R252, R253, R296). -/
def scaleTier (t old new : Nat) (v : Vault) : Vault :=
  (List.range 16).foldl (fun v i =>
    let b := getBank v (16 * t + i)
    setBank v (16 * t + i) { b with
      dl := (b.dl - 1) * Config.refreshInterval new / Config.refreshInterval old + 1
      shown := some b.seenDl }) v
/-- A tier's temperature class changes, on this core or on another one (R253, R316). -/
def execTierClassChange (tier cls : BitVec 2) (s : State) (core : BitVec 11 := 0) : Answer :=
  if core.toNat ≠ s.me then
    .next (reevaluate { s with vault := { s.vault with far := SMap.set 0 s.vault.far (4 * core.toNat + tier.toNat) cls } })
  else
  let t := getTier s.vault tier.toNat
  let v := if t.cls.toNat < cls.toNat then scaleTier tier.toNat t.cls.toNat cls.toNat s.vault else s.vault
  .next (reevaluate { s with vault := setTier v tier.toNat { t with cls := cls, shown := some t.seenCls } })
/-- An error is corrected and counted: by a read of the scratchpad, of the mirror segment or of a column, or by scrub, which uses
the refresh windows of compiler-owned banks and works on other banks while they are not OPEN (R257, R258, R267). -/
def execPatrolScrub (r : Corrected) (s : State) : Answer :=
  let up := { s with error := errorField s.error 48 16 (satUp 16) }
  .next (match r with
    | .scrub bank =>
      let st := (getBank s.vault bank.toNat).state
      if (if (compilerBanks s).contains bank.toNat then st == stREF else st != stOPEN) then up else s
    | _ => up)

/-! Errors and rollback (R259, R261) -/

/-- An uncorrectable error is detected (R259, R264). -/
def execUncorrectableError (src : BitVec 4) (loc : BitVec 24) (s : State) : Answer := .next (uncorrectable src loc s)
/-- The bank restore goes on, and the reruns start when it ends (R261). -/
def execRollbackRestoreDone (s : State) : Answer := .next (eachCtx restoreCycle s)

/-! Slots, code and queues (R33, R142, R146, R150) -/

/-- A ready context is selected for a slot (R142). -/
def execSlotSelect (s : State) : Answer := .next (selectSlot (eachCtx markReady s))
/-- A load stream that has ended (R33). -/
def execLoadStreamDone (s : State) : Answer := .next (finishLoad s)
/-- An unload stream that has ended (R33). -/
def execUnloadStreamDone (s : State) : Answer := .next (finishUnload s)
/-- Expansions that have ended become issuable (R150). -/
def execSegmentExpanded (s : State) : Answer := .next (endExpansions s)
/-- The oldest posted entry of a queue is delivered if it has room (R146). -/
def execQueueEntryDeliver (c : CtxId) (q : BitVec 2) (s : State) : Answer :=
  .next (setCtx s c (deliverOne (s.cycle - 1) q (getCtx s c)))

/-! Exchange and cluster sync (R281, R284) -/

/-- A neighbour's word arrives at a port that is no edge port, one a cycle (R281). -/
def execXchgWordArrive (port : BitVec 2) (v : Dbl) (s : State) : Answer :=
  let taken := s.xports.any (fun w => w.port == port && w.arrive == s.cycle)
  .next (if (partner s port.toNat).isNone || taken then s
    else { s with xports := s.xports ++ [{ port := port, arrive := s.cycle, v := v }] })
/-- Words whose window has ended are discarded (R281). -/
def execXchgWindowExpire (s : State) : Answer := .next (if s.stop.isSome then s else expirePorts s)
/-- The sync unit releases the outstanding CSYNC at G = L + 4, L being the issue cycle of the last core's CSYNC with the
same mask; the others' are not this core's to see (R284, log 45). -/
def execCsyncRelease (s : State) (last : Nat := 0) : Answer :=
  .next (match s.cluster.csync with
    | some (m, _, c) =>
      if m != (1#16 <<< s.myIndex) && c ≤ last && last + 4 = s.cycle && s.stop.isNone then releaseSync s else s
    | none => s)
/-- A tag is idle, and blocked tag words whose condition holds go on (R290). -/
def execTagCountZero (t : BitVec 6) (s : State) : Answer := .next (if tagCount s t.toNat = 0 then eachCtx wake (eachCtx seeTags s) else s)

/-! Copies and peers (R287, R289, R292) -/

/-- A free engine takes the next copy (R287). -/
def execCopyTake (s : State) : Answer := .next (takeCopy s)
/-- An engine performs a transfer of its copy, which completes with its last byte (R289). -/
def execCopyComplete (engine : Bool) (s : State) (part : Option Nat := none) (bytes : Nat := 0) : Answer :=
  .next (copyStep (b2n engine) part bytes s)
/-- A peer access is performed: one of this core, a neighbour's at this core, or another core's own store (R234, R292,
R376). -/
def execPeerAccessPerform (r : PeerReq) (s : State) : Answer := .next (performNeighbour r s)

/-! Clock and service traffic (R294, R295, R298, R299, R304) -/

/-- A droop stretches the next cycle, at most 16 in any 1,024 cycles (R295). -/
def execDroopStretch (s : State) : Answer :=
  let k := s.cluster
  let l := k.droops.filter (fun c => decide (s.cycle < c + 1023))
  .next (if k.stretchNext || 16 ≤ l.length then s
    else { s with cluster := { k with stretchNext := true, droops := (s.cycle + 1) :: l } })
/-- The FLL locks 2 µs after a frequency change, and the clock resumes (R294). -/
def fllLock (s : State) : State :=
  if s.cluster.lock then s
  else
    let s1 := passTicks (max s.time (s.cluster.lockAt.getD s.time)) s
    let k := s1.cluster
    { s1 with vault := rescaleVault (k.oldFreq.getD k.freq) k.freq s1.vault,
              cluster := { k with lock := true, lockAt := none, oldFreq := none } }
/-- FLL lock (R294). -/
def execFllLock (s : State) : Answer := .next (fllLock s)
/-- An interval of 1,000 ticks starts: USED is 0 (R298). -/
def execSvcbudInterval (s : State) : Answer :=
  .next (if tickNow s % 1000 = 0 then { s with cluster := { s.cluster with used := 0 } } else s)
/-- The other cores of the cluster have sent flits, and the access at the head of the egress leaves if the budget allows
(R298, R299). -/
def execServiceEgress (s : State) (others : BitVec 24 := 0) : Answer :=
  let s := { s with cluster := { s.cluster with used := BitVec.ofNat 24 (min 0xFFFFFF (s.cluster.used.toNat + others.toNat)) } }
  let go := fun (s : State) (c : CtxId) =>
    (getCtx s c).out.foldl (fun s a => if s.cluster.egress.head? = some (a.id, a.sub) then leaveOne c s a else s) s
  .next (eachCtx go s)
/-- The link on which a flit for a core leaves the station where it stands with h hops left: die, station and direction,
the interposer links after those of the mesh (R303, R304). -/
def hopLink (s : State) (core h : Nat) : Nat × Nat × Nat :=
  let a := s.myCluster % 10
  let b := core / 16 % 10
  let k := hops a b - h
  if hops a b < h then (s.myDie, a, 4 + core / 160)
  else if k < max (a % 5) (b % 5) - min (a % 5) (b % 5) then
    (core / 160, if a % 5 < b % 5 then a + k else a - k, b2n (decide (b % 5 < a % 5)))
  else (core / 160, 5 * (a / 5) + b % 5, 2 + b2n (decide (b / 5 < a / 5)))
/-- The link that an access of this core takes with h hops left. -/
def linkWith (s : State) (a : Access) (h : Nat) : Option (Nat × Nat × Nat) :=
  (rangeAddr a).map (fun r => hopLink s (iaCore r.2) h)
/-- A flit can leave its station in this tick: it has arrived there, no flit of this core left on its link in this tick, and
none that arrived before it waits for that link (R304). -/
def mayHop (s : State) (a : Access) : Bool :=
  let link := linkWith s a a.hops
  a.hops != 0 && decide (a.tick ≤ tickNow s) && !(ownGlobal s).any (fun p =>
    (decide (tickNow s < p.2.tick) && p.2.hops != hopsOf s p.2 && linkWith s p.2 (p.2.hops + 1) == link) ||
    (p.2.hops != 0 && linkWith s p.2 p.2.hops == link &&
      (decide (p.2.tick < a.tick) || (p.2.tick == a.tick && decide (p.2.ord < a.ord)))))
/-- The first flit of this core that can move makes its next hop, on a service tick: two ticks a mesh link, four the
interposer (R304). -/
def execServiceFlitHop (s : State) : Answer :=
  let due := (ownGlobal s).find? (fun p => mayHop s p.2)
  .next (match due with
    | some (c, a) =>
      if tickNow s % 8 ≠ 7 then s
      else
        let far := (rangeAddr a).any (fun r => iaCore r.2 / 160 != s.myDie)
        let d := if far && a.hops == hopsOf s a then 4 else 2
        putOut c a (fun a => some { a with hops := a.hops - 1, tick := tickNow s + d }) s
    | none => s)

/-! Routes and the barrier (R308, R313) -/

/-- Route entries whose departure tick has come depart (R308, R311). -/
def execRouteFlitDepart (s : State) : Answer := .next (departs s)
/-- The plan that an event names; 0 stands for the one of the core's gateway. -/
def namedPlan (s : State) (seq : Nat) : Nat := if seq = 0 then s.gate.seq else seq
/-- The words of a flit from another core enter the receive buffer of its plan; what comes while the placement is stopped
enters as late as the stop makes it (R308, R310, R312, R315). -/
def execRouteFlitArrive (ws : List Dbl) (s : State) (seq : Nat := 0) : Answer :=
  .next (withPlan (namedPlan s seq) (flitIn none (ws.take 8)) s)
/-- A waiting PBAR registers its arrival (R313). -/
def execPbarArrive (c : CtxId) (s : State) : Answer := .next (arriveAt s c)
/-- The release tick that follows a context's arrival may be r: a multiple of 8, no earlier than the least (R313). -/
def releaseOk (s : State) (r : Nat) (c : CtxId) : Bool :=
  let x := getCtx s c
  match x.arrived, findPlan s x.plan with
  | some a, some p => r % 8 == 0 && decide (leastRelease s p a ≤ r)
  | _, _ => false
/-- The barrier of a plan releases at a tick; the other cores of the placement are at the given steps (R313, R317). -/
def execPbarRelease (r : Nat) (s : State) (steps : List (BitVec 12) := []) (seq : Nat := 0) : Answer :=
  let q := namedPlan s seq
  .next (if (recOf s q).pbarTick.isNone && allCtx.any (fun c => (getCtx s c).plan == q && releaseOk s r c) then
      withPlan q (fun s => { s with pbarTick := some r, replan := { s.replan with steps := steps } }) s
    else s)

end Sys2Proof.Machine
end

