-- ==== Sys2Proof/Machine/CoreMem.lean ====
section
/-! DEFINITION. Scratchpad and mirror-segment words of pipe L (10_core_memory.md R231 to R242). -/

namespace Sys2Proof.Machine

/-- The address of a scalar scratchpad word (R237). -/
def scalarAddr (s : State) (a : BitVec 6) (i : BitVec 11) : Nat := (rs s a + i.signExtend 64).toNat

/-- A scratchpad load of n bytes into a scalar (R237). -/
def loadScalar (d a : BitVec 6) (i : BitVec 11) (n : Nat) (s : State) : Answer :=
  let p := scalarAddr s a i
  .next (issue s (scratchChecks s p n n ++ needPort s (quadOf p) false 0)
    [scalarOut 4 d (bytesBv 64 (scratchRead s p n))] (takePort (quadOf p) false 0))

/-- A scratchpad store of n bytes from a scalar (R237). -/
def storeScalar (b a : BitVec 6) (i : BitVec 11) (n : Nat) (s : State) : Answer :=
  let p := scalarAddr s a i
  .next (issue s (scratchChecks s p n n ++ needPort s (quadOf p) true 2)
    [{ lat := 2, res := .scratch p (leBytes n (rs s b).toNat) }] (takePort (quadOf p) true 2))

/-- LDB (R236, R237). -/
def execLdb (d a : BitVec 6) (i : BitVec 11) (s : State) : Answer := loadScalar d a i 1 s
/-- LDH (R236, R237). -/
def execLdh (d a : BitVec 6) (i : BitVec 11) (s : State) : Answer := loadScalar d a i 2 s
/-- LDW (R236, R237). -/
def execLdw (d a : BitVec 6) (i : BitVec 11) (s : State) : Answer := loadScalar d a i 4 s
/-- LDD (R236, R237). -/
def execLdd (d a : BitVec 6) (i : BitVec 11) (s : State) : Answer := loadScalar d a i 8 s
/-- STB (R236, R237). -/
def execStb (b a : BitVec 6) (i : BitVec 11) (s : State) : Answer := storeScalar b a i 1 s
/-- STH (R236, R237). -/
def execSth (b a : BitVec 6) (i : BitVec 11) (s : State) : Answer := storeScalar b a i 2 s
/-- STW (R236, R237). -/
def execStw (b a : BitVec 6) (i : BitVec 11) (s : State) : Answer := storeScalar b a i 4 s
/-- STD (R236, R237). -/
def execStd (b a : BitVec 6) (i : BitVec 11) (s : State) : Answer := storeScalar b a i 8 s

/-- The address of LDV and STV (R238). -/
def rowAddr (s : State) (a : BitVec 6) (i : BitVec 7) : Nat := (rs s a + i.signExtend 64 * 256).toNat

/-- LDV: a whole row with tag T4 (R238). -/
def execLdv (v : BitVec 8) (a : BitVec 6) (t : Tag) (i : BitVec 7) (s : State) : Answer :=
  let p := rowAddr s a i
  .next (issue s (scratchChecks s p 256 256 ++ needPort s (quadOf p) false 0)
    [rowOut s 4 v t (bytesBv 2048 (scratchRead s p 256))] (takePort (quadOf p) false 0))

/-- STV: the row's bytes; an UNSET row traps FORMAT_TAG (R21, R238). -/
def execStv (v : BitVec 8) (a : BitVec 6) (i : BitVec 7) (s : State) : Answer :=
  let p := rowAddr s a i
  .next (issue s (needRow s v (fun t => t != 15) ++ scratchChecks s p 256 256 ++ needPort s (quadOf p) true 2)
    [{ lat := 2, res := .scratch p (rowBytes (rv s v).data) }] (takePort (quadOf p) true 2))

/-- LDSHP: a shape record from 32 bytes (R239). -/
def execLdshp (h : BitVec 4) (a : BitVec 6) (s : State) : Answer :=
  let p := (rs s a).toNat
  .next (issue s (scratchChecks s p 32 32 ++ needPort s (quadOf p) false 0)
    [{ lat := 4, res := .shape h (bytesBv 256 (scratchRead s p 32)) }] (takePort (quadOf p) false 0))

/-- STSHP: the 32 bytes of a shape record (R239). -/
def execStshp (h : BitVec 4) (a : BitVec 6) (s : State) : Answer :=
  let p := (rs s a).toNat
  .next (issue s (scratchChecks s p 32 32 ++ needPort s (quadOf p) true 2)
    [{ lat := 2, res := .scratch p (leBytes 32 (rh s h).toNat) }] (takePort (quadOf p) true 2))

/-- The checks of a mirror offset: alignment, reserved range, window (R240, R242). -/
def mirrorChecks (s : State) (m n : Nat) : List Cause :=
  alignIf (decide (m % n ≠ 0)) m ++ failIf (mirrorReserved s m n) ⟨5, 0x14, BitVec.ofNat 64 m⟩ ++
    rangeIf (!inMirror s (cx s).plan m n) m

/-- The identity that a read in flight gives its result (R242). -/
def fetchKey (s : State) : Nat := s.nextId + 1
/-- The mirror read of an LDM eight cycles after issue (R242). -/
def addFetch (m n : Nat) (s : State) : State :=
  { s with fetches := s.fetches ++ [{ cycle := s.cycle + 8, key := fetchKey s, addr := keyMirror s.me m, len := n }],
           nextId := s.nextId + 1 }

/-- LDM, block form: 256 mirror bytes read at c+8 and written to scratchpad at c+24 (R242). -/
def execLdmBlock (a m : BitVec 6) (s : State) : Answer :=
  let p := (rs s a).toNat
  let o := (rs s m).toNat
  .next (issue s (scratchChecks s p 256 256 ++ mirrorChecks s o 256 ++ needPort s (quadOf p) true 24)
    [{ lat := 24, res := .scratch p (List.replicate 256 0), key := fetchKey s }]
    (fun s => addFetch o 256 (takePort (quadOf p) true 24 s)))

/-- LDM, scalar form: 8 mirror bytes read at c+8 and written to a scalar at c+24 (R242). -/
def execLdmScalar (d m : BitVec 6) (s : State) : Answer :=
  let o := (rs s m).toNat
  .next (issue s (mirrorChecks s o 8) [{ lat := 24, res := .scalar d 0, key := fetchKey s }] (addFetch o 8))

/-- STM, block form: 256 scratchpad bytes read at issue and written to the mirror segment at c+16 (R242). -/
def execStmBlock (a m : BitVec 6) (s : State) : Answer :=
  let p := (rs s a).toNat
  let o := (rs s m).toNat
  .next (issue s (scratchChecks s p 256 256 ++ mirrorChecks s o 256 ++ needPort s (quadOf p) false 0)
    [{ lat := 16, res := .mirror o (scratchRead s p 256) }] (takePort (quadOf p) false 0))

/-- STM, scalar form: a scalar written to 8 mirror bytes at c+16 (R242). -/
def execStmScalar (a m : BitVec 6) (s : State) : Answer :=
  let o := (rs s m).toNat
  .next (issue s (mirrorChecks s o 8) [{ lat := 16, res := .mirror o (leBytes 8 (rs s a).toNat) }] id)

end Sys2Proof.Machine
end

