-- ==== Sys2Proof/Machine/Flags.lean ====
section
/-! DEFINITION. The flags that the scalar and vector words compute beside their results (R38, R44, R94): saturation and
division by zero of the integer words, and the OR over lanes. -/

namespace Sys2Proof.Machine

/-- Least and greatest integer of w bits, signed or unsigned (R38). -/
def intMin (w : Nat) (u : Bool) : Int := if u then 0 else -(2 ^ (w - 1) : Nat)
/-- Greatest integer of w bits (R38). -/
def intMax (w : Nat) (u : Bool) : Int := if u then (2 ^ w : Nat) - 1 else (2 ^ (w - 1) : Nat) - 1
/-- Clamping to the range of a w-bit format, with SAT (R38, R94). -/
def clampInt (w : Nat) (u : Bool) (v : Int) : Int × Fl :=
  if v < intMin w u then (intMin w u, flSAT) else if v > intMax w u then (intMax w u, flSAT) else (v, 0)
/-- DZ of a division (R94). -/
def divFlag (b : Int) : Fl := if b = 0 then flDZ else 0
/-- The flags of several lanes, ORed (R44, R154). -/
def orFl (l : List Fl) : Fl := l.foldl (· ||| ·) 0

end Sys2Proof.Machine
end

