-- ==== Sys2Proof/Machine/DistNum.lean ====
section
/-! DEFINITION. Distribution elements, the lens, moments and the piecewise-linear CDF (09_distribution_registers.md). -/

namespace Sys2Proof.Machine

/-- An element: 8 points of FP32 code and weight (R204). -/
abbrev Elem := List (Nat × Nat)

/-- Element e of a register's data in the layout of R35. -/
def elemAt (d : BitVec 12288) (e : Nat) : Elem :=
  let n := d.toNat / 2 ^ (384 * e) % 2 ^ 384
  (List.range 8).map (fun i => (n / 2 ^ (32 * i) % 2 ^ 32, n / 2 ^ (256 + 16 * i) % 2 ^ 16))
/-- The elements of a register. -/
def elems (d : BitVec 12288) : List Elem := (List.range 32).map (elemAt d)
/-- An element as a number in the layout of R35. -/
def elemNat (x : Elem) : Nat := lanesNat 32 (x.map (·.1)) % 2 ^ 256 + 2 ^ 256 * (lanesNat 16 (x.map (·.2)) % 2 ^ 128)
/-- A register's data of 32 elements. -/
def distData (l : List Elem) : BitVec 12288 := BitVec.ofNat 12288 (lanesNat 384 (l.map elemNat))
/-- An invalid element as the device stores it (R205). -/
def badElem : Elem := List.replicate 8 (f32.nan, 8192)
/-- A NaN point makes an element invalid (R205). -/
def elemValid (x : Elem) : Bool := x.all (fun p => !(unpack f32 p.1).isNan)

/-- A result for one element: the element, or none when it is invalid, and flags. -/
abbrev ElemR := Option Elem × Fl
/-- A register's data and flags of its element results (R205, R215). -/
def distOf (l : List ElemR) : BitVec 12288 × Fl := (distData (l.map (fun r => r.1.getD badElem)), orFl (l.map (·.2)))

/-- The checks that DLD and DFROM make of an element (R206). -/
def checkElem (x : Elem) : ElemR :=
  let sig := x.any (fun p => (unpack f32 p.1).snan != 0)
  let sum := (x.map (·.2)).sum
  if sig || sum != 65536 then (none, flNV) else if elemValid x then (some x, 0) else (none, 0)

/-- The five pairing operations (R208). -/
inductive DOp where
  | add | sub | mul | max | min
  deriving DecidableEq, Repr

/-- The exact sum of two values; none for ∞ − ∞ (R208). -/
def exactAdd (a b : FV) : Option FV :=
  match a, b with
  | .inf n, .inf k => if n = k then some (.inf n) else none
  | .inf n, .fin _ _ _ => some (.inf n)
  | .fin _ _ _, .inf n => some (.inf n)
  | .fin n1 m1 e1, .fin n2 m2 e2 =>
    let e := if e1 ≤ e2 then e1 else e2
    let v := sgn n1 (m1 * 2 ^ (e1 - e).toNat) + sgn n2 (m2 * 2 ^ (e2 - e).toNat)
    if v = 0 then some (.fin (n1 && n2 && m1 == 0 && m2 == 0) 0 e) else some (.fin (v < 0) v.natAbs e)
  | _, _ => none
/-- Value order with −0 below +0, for maximumNumber and minimumNumber (R50). -/
def below (a b : FV) : Bool := ltV a b || (!ltV b a && a.negative && !b.negative)
/-- The exact value of a pair; none for ∞ − ∞ and 0 × ∞ (R208). -/
def pairValue (op : DOp) (a b : FV) : Option FV :=
  match op with
  | .add => exactAdd a b
  | .sub => exactAdd a b.negate
  | .mul => match mulV a b with
    | (.nan _, _) => none
    | (v, _) => some v
  | .max => some (if below a b then b else a)
  | .min => some (if below b a then b else a)

/-- A weighted exact value. -/
abbrev WV := FV × Nat

/-- The finite values of a list as integers over a common exponent. -/
def commonExp (l : List WV) : Int :=
  l.foldl (fun e p => match p.1 with | .fin _ _ x => if x < e then x else e | _ => e) 0
/-- A finite value as an integer over an exponent not above its own. -/
def overExp (e : Int) (v : FV) : Int :=
  match v with
  | .fin n m x => sgn n (m * 2 ^ (x - e).toNat)
  | _ => 0

/-- The mass of each pair in bin b, in order: pairs (lo, hi) walk up the weights (R209). -/
def binMass (b : Nat) : Nat → List WV → List WV
  | _, [] => []
  | lo, (v, w) :: t =>
    let hi := lo + w
    let m := min hi ((b + 1) * 2 ^ 29) - max lo (b * 2 ^ 29)
    if m = 0 then binMass b hi t else (v, m) :: binMass b hi t

/-- Point b of the lens from the pairs of its bin (R209). -/
def binPoint (l : List WV) : Option Nat × Fl :=
  let hasP := l.any (fun p => p.1 == .inf false)
  let hasN := l.any (fun p => p.1 == .inf true)
  if hasP && hasN then (none, flNV)
  else if hasP then (some (f32.infCode false), 0)
  else if hasN then (some (f32.infCode true), 0)
  else
    let e := commonExp l
    let sum : Int := l.foldl (fun a p => a + overExp e p.1 * p.2) 0
    if sum = 0 then
      (some (f32.signed (l.all (fun p => match p.1 with | .fin n m _ => n && m == 0 | _ => false)) 0), 0)
    else
      let r := round f32 rne { neg := sum < 0, man := sum.natAbs, exp := e - 29 }
      (some r.1, r.2)

/-- The lens over the 64 pairs of one element (R209). -/
def lens (pairs : List WV) : ElemR :=
  let sorted := sortBy (fun a b => !ltV b.1 a.1) pairs
  let pts := (List.range 8).map (fun b => binPoint (binMass b 0 sorted))
  let fl := orFl (pts.map (·.2))
  if pts.any (fun p => p.1.isNone) then (none, fl) else (some (pts.map (fun p => (p.1.getD 0, 8192))), fl)

/-- The all-pairing form on one element (R208, R209). -/
def pairElem (op : DOp) (x y : Elem) : ElemR :=
  if !(elemValid x && elemValid y) then (none, 0)
  else
    let ps := x.flatMap (fun p => y.map (fun q => (pairValue op (unpack f32 p.1) (unpack f32 q.1), p.2 * q.2)))
    if ps.any (fun p => p.1.isNone) then (none, flNV)
    else lens (ps.map (fun p => (p.1.getD (.fin false 0 0), p.2)))

/-- The .same form on one point (R212). -/
def samePoint (op : DOp) (a b : Nat) : Nat × Fl :=
  match op with
  | .add => fadd f32 rne a b
  | .sub => fsub f32 rne a b
  | .mul => fmul f32 rne a b
  | .max => fminmax f32 true a b
  | .min => fminmax f32 false a b
/-- The .same form on one element (R212). -/
def sameElem (op : DOp) (x y : Elem) : ElemR :=
  if !(elemValid x && elemValid y) then (none, 0)
  else
    let ps := List.zipWith (fun p q => (samePoint op p.1 q.1, p.2)) x y
    let fl := orFl (ps.map (fun p => p.1.2))
    if ps.any (fun p => (unpack f32 p.1.1).isNan) then (none, fl ||| flNV)
    else (some (ps.map (fun p => (p.1.1, p.2))), fl)

/-- DAFF on one element (R216). -/
def affElem (a b : Nat) (x : Elem) : ElemR :=
  if !elemValid x then (none, 0)
  else
    let ps := x.map (fun p => (ffma f32 rne a p.1 b, p.2))
    let fl := orFl (ps.map (fun p => p.1.2))
    if ps.any (fun p => (unpack f32 p.1.1).isNan) then (none, fl ||| flNV)
    else (some (ps.map (fun p => (p.1.1, p.2))), fl)

/-- A value with its flags. -/
abbrev LaneV := Nat × Fl

/-- Mean, variance and third central moment of one element, each with its flags (R222). The NV of an infinite point goes with
the variance and the third moment, and with a mean that is NaN (DEDUCED, log 74). -/
def moments (x : Elem) : LaneV × LaneV × LaneV :=
  if !elemValid x then ((f32.nan, 0), (f32.nan, 0), (f32.nan, 0))
  else
    let l : List WV := (x.map (fun p => (unpack f32 p.1, p.2))).filter (fun p => p.2 != 0)
    let hasP := l.any (fun p => p.1 == .inf false)
    let hasN := l.any (fun p => p.1 == .inf true)
    if hasP || hasN then
      (if hasP && hasN then (f32.nan, flNV) else (f32.infCode hasN, 0), (f32.nan, flNV), (f32.nan, flNV))
    else
      let e := commonExp l
      let xs := l.map (fun p => (overExp e p.1, p.2))
      let s1 : Int := xs.foldl (fun a p => a + p.1 * p.2) 0
      let cen := fun (k : Nat) => xs.foldl (fun a p => a + (65536 * p.1 - s1) ^ k * p.2) (0 : Int)
      let rnd := fun (v : Int) (q : Int) => round f32 rne { neg := v < 0, man := v.natAbs, exp := q }
      (rnd s1 (e - 16), rnd (cen 2) (2 * e - 48), rnd (cen 3) (3 * e - 64))

/-- A point of the CDF: its value, and its knot over 131,072 (R223). -/
abbrev Knot := FV × Nat

/-- The knots of an element in value order (R223). -/
def knotsFrom : Nat → List WV → List Knot
  | _, [] => []
  | c, (v, w) :: t => (v, c + (c + w)) :: knotsFrom (c + w) t
/-- The knots of an element. -/
def knots (x : Elem) : List Knot :=
  knotsFrom 0 (sortBy (fun a b => !ltV b.1 a.1) (x.map (fun p => (unpack f32 p.1, p.2))))

/-- The finite value n / d × 2^e of an integer ratio, rounded (R223, R225). -/
def roundRatio (n : Int) (d : Nat) (e : Int) : Nat × Fl :=
  if n = 0 then (0, 0) else round f32 rne (quotEx (decide (n < 0)) n.natAbs e d 0)

/-- Whether a value is finite. -/
def FV.isFin : FV → Bool
  | .fin _ _ _ => true
  | _ => false

/-- F(x) on the knots: the segment is the last whose lower end is not above x (R223, R224). -/
def cdfAt (x : FV) : List Knot → Nat × Fl
  | (a, ma) :: (b, mb) :: t =>
    if !ltV x b then cdfAt x ((b, mb) :: t)
    else if !(a.isFin && b.isFin && x.isFin) then roundRatio ma 131072 0
    else
      let e := commonExp [(a, 0), (b, 0), (x, 0)]
      let d := (overExp e b - overExp e a).toNat
      roundRatio ((ma : Int) * d + ((mb : Int) - ma) * (overExp e x - overExp e a)) (131072 * d) 0
  | _ => round f32 rne { neg := false, man := 1, exp := 0 }

/-- DCDF of one element and one argument (R223, R224). -/
def cdfElem (x : Elem) (a : Nat) : Nat × Fl :=
  let v := unpack f32 a
  if v.isNan then (f32.nan, v.snan)
  else if !elemValid x then (f32.nan, 0)
  else
    let ks := knots x
    match ks with
    | [] => (0, 0)
    | (f, _) :: _ => if ltV v f then (0, 0) else cdfAt v ks

/-- The code of an exact FP32 value. -/
def codeF32 (v : FV) : Nat := (pack f32 rne v).1

/-- Q on the knots for m × 2^−s: the segment is the last whose knot is not above q (R225). -/
def quantAt (q s : Nat) : List Knot → Nat × Fl
  | (a, ma) :: (b, mb) :: t =>
    if decide (mb * 2 ^ s ≤ q * 131072) then quantAt q s ((b, mb) :: t)
    else
      let at0 := decide (ma * 2 ^ s = q * 131072)
      match a, b with
      | .fin _ _ _, .fin _ _ _ =>
        let e := commonExp [(a, 0), (b, 0)]
        let xa := overExp e a
        let xb := overExp e b
        let den := (mb - ma) * 2 ^ s
        roundRatio (xa * den + (xb - xa) * ((q * 131072 : Nat) - (ma * 2 ^ s : Nat) : Int)) den e
      | .inf n, .fin _ _ _ => (f32.infCode n, 0)
      | .fin _ _ _, .inf n => if at0 then (codeF32 a, 0) else (f32.infCode n, 0)
      | .inf n, .inf k =>
        if n == k || at0 then (f32.infCode n, 0) else (f32.nan, flNV)
      | _, _ => (f32.nan, 0)
  | [(a, _)] => (codeF32 a, 0)
  | [] => (0, 0)

/-- DQNT of one element and one probability (R225). -/
def quantElem (x : Elem) (a : Nat) : Nat × Fl :=
  if !elemValid x then (f32.nan, 0)
  else
    let bad := (f32.nan, flNV)
    match unpack f32 a with
    | .fin n m e =>
      let s := (-e).toNat
      let q := m * 2 ^ e.toNat
      if (n && m != 0) || decide (2 ^ s < q) then bad
      else
        let ks := knots x
        match ks with
        | [] => (0, 0)
        | (f, m1) :: _ => if decide (q * 131072 ≤ m1 * 2 ^ s) then (codeF32 f, 0) else quantAt q s ks
    | _ => bad

end Sys2Proof.Machine
end

