-- ==== Sys2Proof/Machine/Dist.lean ====
section
/-! DEFINITION. Distribution words of pipe Z (09_distribution_registers.md R211 to R227). -/

namespace Sys2Proof.Machine

/-- A distribution register of the issuing context. -/
def rd (s : State) (i : BitVec 4) : Dist := (cx s).getD i

/-- DEP_CONFLICT with the TVAL of R213. -/
def depCause (s : State) (common : BitVec 32) (reason : Nat) (a b : BitVec 4) : Cause :=
  ⟨4, 0x06, BitVec.ofNat 64 (common.toNat * 2 ^ 32 + reason * 2 ^ 16 + b.toNat * 2 ^ 12 + a.toNat * 2 ^ 8 + slotN s * 16)⟩

/-- Weights of elements valid in both sources that differ (R212). -/
def weightsDiffer (x y : Dist) : Bool :=
  (List.zipWith (fun p q => elemValid p && elemValid q && p.map (·.2) != q.map (·.2)) (elems x.data) (elems y.data)).any id

/-- The dependence check of a pairing word (R211, R212, R213). -/
def depCheck (s : State) (a b : BitVec 4) (same : Bool) : List Cause :=
  let x := rd s a
  let y := rd s b
  if same then
    failIf (x.sset != y.sset) (depCause s (x.sset ^^^ y.sset) 2 a b) ++
    failIf (x.lin != y.lin || x.lin == 0) (depCause s 0 3 a b) ++
    failIf (weightsDiffer x y) (depCause s 0 4 a b)
  else failIf ((x.sset &&& y.sset) != 0) (depCause s (x.sset &&& y.sset) 1 a b)

/-- A pairing word (R208 to R215). -/
def pairing (op : DOp) (d a b : BitVec 4) (same : Bool) (s : State) : Answer :=
  let x := rd s a
  let y := rd s b
  let r := distOf (List.zipWith (if same then sameElem op else pairElem op) (elems x.data) (elems y.data))
  .next (issue s (needDist s a ++ needDist s b ++ depCheck s a b same)
    [{ lat := 24, fp := r.2,
       res := .dist d r.1 (if same then x.sset else x.sset ||| y.sset) (if same then x.lin else 0) }] id)

/-- DADD (R208, R215). -/
def execDadd (d a b : BitVec 4) (m : Bool) (s : State) : Answer := pairing .add d a b m s
/-- DSUB (R208, R215). -/
def execDsub (d a b : BitVec 4) (m : Bool) (s : State) : Answer := pairing .sub d a b m s
/-- DMUL (R208, R215). -/
def execDmul (d a b : BitVec 4) (m : Bool) (s : State) : Answer := pairing .mul d a b m s
/-- DMAX (R208, R215). -/
def execDmax (d a b : BitVec 4) (m : Bool) (s : State) : Answer := pairing .max d a b m s
/-- DMIN (R208, R215). -/
def execDmin (d a b : BitVec 4) (m : Bool) (s : State) : Answer := pairing .min d a b m s

/-- The low FP32 argument of a scalar. -/
def argLo (v : Dbl) : Nat := v.toNat % 2 ^ 32
/-- The high FP32 argument of a scalar. -/
def argHi (v : Dbl) : Nat := v.toNat / 2 ^ 32

/-- DAFF: a × x + b on every point, keeping weights, tag and lineage (R216). -/
def execDaff (d a : BitVec 4) (b : BitVec 6) (s : State) : Answer :=
  let x := rd s a
  let r := distOf ((elems x.data).map (affElem (argLo (rs s b)) (argHi (rs s b))))
  .next (issue s (needDist s a) [{ lat := 4, fp := r.2, res := .dist d r.1 x.sset x.lin }] id)

/-- The six 256-byte pieces of a distribution access, each checked as LDV checks its address (R217). -/
def pieceChecks (s : State) (a : Dbl) : List Cause :=
  (List.range 6).flatMap (fun k => scratchChecks s (a + BitVec.ofNat 64 (256 * k)).toNat 256 256)
/-- The ports of all four quadrants (R217, R232). -/
def allPorts (s : State) (write : Bool) (delta : Nat) : List Cause :=
  (List.range 4).flatMap (fun q => needPort s (BitVec.ofNat 2 q) write delta)
/-- The reservation of the ports of all four quadrants (R217, R232). -/
def takeAll (write : Bool) (delta : Nat) (s : State) : State :=
  (List.range 4).foldl (fun s q => takePort (BitVec.ofNat 2 q) write delta s) s

/-- DLD: 1,536 bytes with the checks of R206 (R217). -/
def execDld (d : BitVec 4) (a b : BitVec 6) (s : State) : Answer :=
  let bytes := scratchRead s (rs s a).toNat 1536
  let r := distOf ((elems (bytesBv 12288 bytes)).map checkElem)
  .next (issue s (pieceChecks s (rs s a) ++ allPorts s false 0)
    [{ lat := 6, fp := r.2, res := .dist d r.1 ((rs s b).extractLsb' 0 32) ((rs s b).extractLsb' 32 32) }]
    (takeAll false 0))

/-- DST: the 1,536 bytes of a register (R217). -/
def execDst (x : BitVec 4) (a : BitVec 6) (s : State) : Answer :=
  .next (issue s (needDist s x ++ pieceChecks s (rs s a) ++ allPorts s true 2)
    [{ lat := 2, res := .scratch (rs s a).toNat (leBytes 1536 (rd s x).data.toNat) }] (takeAll true 2))

/-- DTAG: source-set tag and lineage (R218). -/
def execDtag (d : BitVec 4) (a : BitVec 6) (s : State) : Answer :=
  .next (issue s (needDist s d)
    [{ lat := 1, res := .dtag d ((rs s a).extractLsb' 0 32) ((rs s a).extractLsb' 32 32) }] id)

/-- The value that DPT selects (R219). -/
def dptValue (x : Dist) (sel : Dbl) : Dbl :=
  if sel.getLsbD 8 then x.lin ++ x.sset
  else
    let p := (elemAt x.data (sel.toNat / 8 % 32)).getD (sel.toNat % 8) (0, 0)
    BitVec.ofNat 64 (p.1 + p.2 * 2 ^ 32)
/-- DPT: one point or the metadata (R219). -/
def execDpt (d : BitVec 6) (x : BitVec 4) (b : BitVec 6) (s : State) : Answer :=
  .next (issue s (needDist s x) [scalarOut 2 d (dptValue (rd s x) (rs s b))] id)

/-- DMOM: mean, variance and third central moment of every element (R222). -/
def execDmom (d : BitVec 8) (x : BitVec 4) (s : State) : Answer :=
  let ms := (elems (rd s x).data).map moments
  let out := fun (d : BitVec 8) (l : List LaneV) => withLanes (l.map (·.2)) (rowOut s 12 d 4 (ofLanes 32 (l.map (·.1))))
  .next (issue s (needDist s x ++ needGroup s d 2)
    [out d (ms.map (fun m => m.1) ++ ms.map (fun m => m.2.1)),
     out (groupRow d 1) (ms.map (fun m => m.2.2) ++ List.replicate 32 (0, 0))] id)

/-- A word that gives two FP32 results for every element, one for each argument (R224, R225). -/
def twoArgs (f : Elem → Nat → Nat × Fl) (d : BitVec 8) (x : BitVec 4) (b : BitVec 6) (s : State) : Answer :=
  let es := elems (rd s x).data
  let l := es.map (fun e => f e (argLo (rs s b))) ++ es.map (fun e => f e (argHi (rs s b)))
  .next (issue s (needDist s x) [withLanes (l.map (·.2)) (rowOut s 10 d 4 (ofLanes 32 (l.map (·.1))))] id)
/-- DQNT (R225). -/
def execDqnt (d : BitVec 8) (x : BitVec 4) (b : BitVec 6) (s : State) : Answer := twoArgs quantElem d x b s
/-- DCDF (R224). -/
def execDcdf (d : BitVec 8) (x : BitVec 4) (b : BitVec 6) (s : State) : Answer := twoArgs cdfElem d x b s

/-- The register of DFROM: points from four FP32 rows, weights from two INT16 rows (R221). -/
def fromElem (s : State) (v : BitVec 8) (e : Nat) : Elem :=
  (List.range 8).map (fun i =>
    let q := 8 * e + i
    (lane (rv s (groupRow v (q / 64))).data 32 (q % 64), lane (rv s (groupRow v (4 + q / 128))).data 16 (q % 128)))
/-- DFROM (R221). -/
def execDfrom (v : BitVec 8) (d : BitVec 4) (a : BitVec 6) (s : State) : Answer :=
  let tags := (List.range 6).flatMap (fun k =>
    needRow s (groupRow v k) (fun t => if k < 4 then t == 4 else t == 2))
  let r := distOf ((List.range 32).map (fun e => checkElem (fromElem s v e)))
  .next (issue s (tags ++ needGroup s v 6)
    [{ lat := 6, fp := r.2, res := .dist d r.1 ((rs s a).extractLsb' 0 32) ((rs s a).extractLsb' 32 32) }] id)

end Sys2Proof.Machine
end

