-- ==== Sys2Proof/Machine/Hash.lean ====
section
/-! DEFINITION. SHA-512 and HMAC-SHA-512, which 25_fabric.md R444 names and does not give: as FIPS 180-4 and FIPS 198-1 have
them (PRESUMED, log 10); and the authentication code of a grant token (R444). -/

namespace Sys2Proof.Machine

/-- The highest a + b below a + 2^k whose p-th power is at most n, bit by bit. -/
def rootBits (p n : Nat) : Nat → Nat → Nat
  | 0, a => a
  | k + 1, a => if (a + 2 ^ k) ^ p ≤ n then rootBits p n k (a + 2 ^ k) else rootBits p n k a
/-- The primes below 410: the first 80. -/
def shaPrimes : List Nat := (List.range 410).filter (fun n => decide (2 ≤ n) && (List.range n).all (fun d => decide (d < 2) || n % d != 0))
/-- The first 64 bits of the fraction of the p-th root of n. -/
def rootFraction (p n : Nat) : Dbl := BitVec.ofNat 64 (rootBits p (n * 2 ^ (64 * p)) 69 0)
/-- The round constants. -/
def shaK : List Dbl := shaPrimes.map (rootFraction 3)
/-- The initial hash value. -/
def shaInit : List Dbl := (shaPrimes.take 8).map (rootFraction 2)
/-- Big-endian words of 64 bits. -/
def shaWords : Nat → List Byte → List Dbl
  | 0, _ => []
  | n + 1, l => BitVec.ofNat 64 (leNat (l.take 8).reverse) :: shaWords n (l.drop 8)
/-- The message schedule, newest word first. -/
def shaSchedule : Nat → List Dbl → List Dbl
  | 0, w => w
  | n + 1, w =>
    let a := w.getD 14 0
    let b := w.getD 1 0
    let s0 := a.rotateRight 1 ^^^ a.rotateRight 8 ^^^ (a >>> 7)
    let s1 := b.rotateRight 19 ^^^ b.rotateRight 61 ^^^ (b >>> 6)
    shaSchedule n ((s1 + w.getD 6 0 + s0 + w.getD 15 0) :: w)
/-- One round. -/
def shaRound (h : List Dbl) (kw : Dbl × Dbl) : List Dbl :=
  match h with
  | [a, b, c, d, e, f, g, x] =>
    let t1 := x + (e.rotateRight 14 ^^^ e.rotateRight 18 ^^^ e.rotateRight 41) + ((e &&& f) ^^^ (~~~e &&& g)) + kw.1 + kw.2
    let t2 := (a.rotateRight 28 ^^^ a.rotateRight 34 ^^^ a.rotateRight 39) + ((a &&& b) ^^^ (a &&& c) ^^^ (b &&& c))
    [t1 + t2, a, b, c, d + t1, e, f, g]
  | _ => h
/-- One block of 128 bytes. -/
def shaBlock (h : List Dbl) (b : List Byte) : List Dbl :=
  let w := (shaSchedule 64 (shaWords 16 b).reverse).reverse
  ((shaK.zip w).foldl shaRound h).zipWith (· + ·) h
/-- Blocks in turn. -/
def shaBlocks : Nat → List Dbl → List Byte → List Dbl
  | 0, h, _ => h
  | n + 1, h, l => shaBlocks n (shaBlock h (l.take 128)) (l.drop 128)
/-- SHA-512. -/
def sha512 (l : List Byte) : List Byte :=
  let zeros := (239 - l.length % 128) % 128
  let m := l ++ [0x80] ++ List.replicate zeros 0 ++ (leBytes 16 (8 * l.length)).reverse
  (shaBlocks (m.length / 128) shaInit m).flatMap (fun w => (leBytes 8 w.toNat).reverse)
/-- HMAC-SHA-512 under a key of at most 128 bytes. -/
def hmac512 (key msg : List Byte) : List Byte :=
  let k := key ++ List.replicate (128 - key.length) 0
  sha512 (k.map (· ^^^ 0x5C) ++ sha512 (k.map (· ^^^ 0x36) ++ msg))
/-- The first three bytes of HMAC-SHA-512 of an 8-byte message under an ingress key (R444). -/
def mac (key : BitVec 512) (m : Dbl) : BitVec 24 :=
  BitVec.ofNat 24 (leNat ((hmac512 (leBytes 64 key.toNat) (leBytes 8 m.toNat)).take 3))

end Sys2Proof.Machine
end

