-- ==== Sys2Proof/Machine/Validate.lean ====
section
/-! DEFINITION. What the launch agent checks: the record (21_package_launch.md R397), the image (R148, R149, R309, R329,
R335, R350, R399, R400, R439, R457) and the values of relocations (R86, R401). -/

namespace Sys2Proof.Machine

/-- A status that no core reported (R394, R398). -/
def failWith (code : BitVec 16) (d0 d1 : Nat) : LaunchStatus :=
  { code := code, core := 0xFFFFFFFF, d0 := BitVec.ofNat 64 d0, d1 := BitVec.ofNat 64 d1 }
/-- The status DONE (R398). -/
def statusDone : LaunchStatus := failWith 0x0000 0 0
/-- The status CANCELLED (R398). -/
def statusCancelled : LaunchStatus := failWith 0x0003 0 0
/-- The first status of a list of checks. -/
def firstFail (l : List (Option LaunchStatus)) : Option LaunchStatus := l.findSome? id
/-- A status under a condition. -/
def failWhen (b : Bool) (st : LaunchStatus) : Option LaunchStatus := if b then some st else none

/-! Token streams (R149) -/

/-- The byte offset at which the stream of n packets ends, and whether the last flag byte has a bit beyond them. -/
def tokenEnd (toks : List Byte) : Nat → Nat → Nat → Nat → Nat × Bool
  | 0, i, f, a => (a, i != 0 && f / 2 ^ i != 0)
  | n + 1, i, f, a =>
    let g := if i = 0 then (toks.getD a 0).toNat else f
    let b := if i = 0 then a + 1 else a
    tokenEnd toks n ((i + 1) % 8) g (if g / 2 ^ i % 2 = 0 then b + 1 else b + 12)
/-- The byte offset of packet n when it is literal. -/
def literalAt (toks : List Byte) : Nat → Nat → Nat → Nat → Option Nat
  | n, i, f, a =>
    let g := if i = 0 then (toks.getD a 0).toNat else f
    let b := if i = 0 then a + 1 else a
    let lit := g / 2 ^ i % 2 = 1
    match n with
    | 0 => if lit then some b else none
    | m + 1 => literalAt toks m ((i + 1) % 8) g (if lit then b + 12 else b + 1)
/-- The segment of a core section that holds a code address (R148). -/
def imgSegAt (im : Image) (sect a : Nat) : Option ImgSeg :=
  im.segs.find? (fun g => g.core == sect && decide (g.cbase ≤ a) && decide (a < g.cbase + 12 * g.npkt))
/-- The byte of a segment's token stream at which the word at a code address stands, in a literal packet (R149, R401). -/
def wordAt (g : ImgSeg) (a : Nat) : Option Nat :=
  (literalAt g.toks ((a - g.cbase) / 12) 0 0 0).map (fun b => b + (a - g.cbase) % 12)

/-! The image (R399, R400) -/

/-- LOAD_FORMAT for byte o of the image, outside every section; the spec does not state its DETAIL fields (R398, log 13). -/
def formatAt (o : Nat) : LaunchStatus := { failWith 0x0104 0 0 with d0 := (Config.formatDetail o).1, d1 := (Config.formatDetail o).2 }
/-- LOAD_FORMAT for an entry of the section table: its section, and a DETAIL1 that the spec does not state (R398, log 13). -/
def entryBad (i : Nat) : LaunchStatus := { failWith 0x0104 i 0 with d1 := (Config.formatDetail (64 + 16 * i)).2 }
/-- LOAD_FORMAT of the header (R399). -/
def headerFault (im : Image) : Option LaunchStatus :=
  let f := im.field
  let bad : List (Nat × Bool) :=
    [(0x00, im.header.length != 64 || f 0 4 != 0x4D48414F), (0x04, f 4 2 != 1), (0x06, f 6 2 / 16 != 0),
     (0x08, f 8 4 == 0 || decide (4096 < f 8 4) || f 8 4 != im.table.length),
     (0x0C, f 0xC 4 % 16 != 0 || decide (im.len < f 0xC 4 + 16 * f 8 4)),
     (0x10, im.ncore == 0 || decide (1280 < im.ncore)), (0x12, decide (56 < f 0x12 1) || (!im.timed && f 0x12 1 != 0)),
     (0x13, f 0x13 1 != 0), (0x14, im.codeRes == 0 || decide (192 < im.codeRes)), (0x18, f 0x18 40 != 0)]
  (bad.find? (fun c => c.2)).map (fun c => formatAt c.1)
/-- The number of a CORE section (R399). -/
def isCore (im : Image) (i : Nat) : Bool := (im.table[i]?).any (fun e => sectKind e == 1)
/-- An entry of the section table breaks its table or the size that its kind has (R399, R401). -/
def entryFault (im : Image) (e : BitVec 128) : Bool :=
  let k := sectKind e
  let a := sectArg e
  let n := sectSize e
  k == 0 || decide (13 < k) || e.extractLsb' 96 32 != 0 || decide (im.len < sectOff e + n) ||
    (if k = 2 || k = 3 || k = 7 || k = 10 || k = 11 then !isCore im a else if k = 4 then a % 4 == 3 || !isCore im (a / 4) else a != 0) ||
    (k == 2 && n != 3072) || (k == 3 && decide (n < 16)) || (k == 5 && n % 12 != 0) || (k == 6 && n % 8 != 0) ||
    (k == 11 && n % 16 != 0) || (k == 13 && n != 140)
/-- LOAD_FORMAT of the section table (R399). -/
def tableFault (im : Image) : Option LaunchStatus := im.table.zipIdx.findSome? (fun e => failWhen (entryFault im e.1) (entryBad e.2))
/-- The signature is right: its section is the last one and the last 140 bytes, its key is held, and it signs the digest
(R399). -/
def signatureGood (im : Image) : Bool :=
  match im.sign, im.table.getLast? with
  | some g, some e => sectKind e == 13 && sectOff e + 140 == im.len && Config.signingKeys.contains g.key && Config.signatureOk g.key g.digest g.r g.s
  | _, _ => false

/-- LOAD_FORMAT of a segment (R148, R149). -/
def segFault (g : ImgSeg) : Option LaunchStatus :=
  let (len, bits) := tokenEnd g.toks g.npkt 0 0 0
  firstFail [failWhen (g.cbase % 4 ≠ 0) (failWith 0x0104 g.sect 0),
    failWhen (g.npkt = 0 || 682 < g.npkt) (failWith 0x0104 g.sect 8),
    failWhen (g.high ≠ 0) (failWith 0x0104 g.sect 10),
    failWhen (len ≠ g.toks.length || bits) (failWith 0x0104 g.sect 16)]
/-- LOAD_FORMAT of a relocation: its kind, its bit range, its section, a code site outside a literal packet of that section;
with the RELOC section and the entry's offset there (R398, R401). -/
def relocFault (im : Image) (r : Reloc) : Option LaunchStatus :=
  let bits := match r.bits with | some (h, l) => decide (h < l) | none => false
  let site := match siteSpace im r with
    | none => true
    | some 3 => (match imgSegAt im r.core r.site with
      | some g => g.sect != r.target || (wordAt g r.site).isNone || r.site % 4 != 0
      | none => true)
    | some _ => false
  failWhen (decide (8 < r.kind) || bits || site || decide (im.syms.length ≤ r.sym)) (failWith 0x0104 r.sect (16 * r.num))
/-- A core stands in two CORE sections (R400). -/
def twice (im : Image) (c : CoreRes) : Bool := im.cores.any (fun d => d.core == c.core && d.sect != c.sect)
/-- The checks of a core's declaration, in the order of R400. -/
def coreFault (im : Image) (c : CoreRes) : Option LaunchStatus :=
  firstFail [
    failWhen (twice im c || decide (im.ncore ≤ c.core)) (failWith 0x0104 c.sect 0),
    failWhen (c.ctxs = 0 || 16 < c.ctxs) (failWith 0x0106 c.sect c.ctxs),
    failWhen (c.entries.length ≠ c.ctxs || c.entries.any (fun e => (imgSegAt im c.sect e.toNat).isNone || e.toNat % 4 != 0))
      (failWith 0x0104 c.sect 0),
    failWhen (c.prim && (im.segs.find? (fun g => g.core == c.sect)).map (·.cbase) != (c.entries.head?).map (·.toNat)) (failWith 0x0104 c.sect 0),
    failWhen (c.thand ≠ 0 && ((imgSegAt im c.sect c.thand.toNat).isNone || c.thand.toNat % 4 != 0)) (failWith 0x0104 c.sect 0),
    failWhen (0x70000 < c.ssize || c.ssize % 256 ≠ 0) (failWith 0x0107 c.sect c.ssize),
    failWhen (0xBF8000 < c.msize + im.codeRes * 65536 || c.msize % 256 ≠ 0) (failWith 0x0108 c.sect c.msize),
    failWhen (c.owned &&& c.served ≠ 0 || decide (32 < ((List.range 64).filter (fun n => c.served.getLsbD n)).length))
      (failWith 0x0109 c.sect c.served.toNat),
    failWhen (2048 < c.mwords) (failWith 0x010B c.sect c.mwords)]
/-- LOAD_VAULT_DATA: vault data in a bank that the core does not own (R230, R399). -/
def dataFault (im : Image) (d : ImgData) : Option LaunchStatus :=
  if d.space ≠ 2 || d.bytes.isEmpty then none
  else
    let lo := d.first / 2 ^ 24
    let hi := (d.first + d.bytes.length - 1) / 2 ^ 24
    (im.cores.filter (fun c => c.sect == d.core)).findSome? (fun c =>
      ((List.range (hi - lo + 1)).map (fun i => lo + i)).findSome? (fun b =>
        failWhen (63 < b || !c.owned.getLsbD b) (failWith 0x0114 c.core b)))
/-- Two routes of one step conflict under every placement (R439, R457). -/
def routesClash (a b : Route) : Bool :=
  a.step == b.step && a.dep == b.dep && (match a.port, b.port with
    | none, none => a.src / 16 == b.src / 16 && a.dst / 16 == b.dst / 16
    | some p, some q => p == q && a.src == b.src
    | _, _ => false)
/-- The faults of a route at validation (R307, R309, R439, R457). -/
def routeFault (im : Image) (i : Nat) (r : Route) : Option LaunchStatus :=
  let core := fun (n : Nat) => im.cores.any (fun c => c.core == n)
  let mine := im.routes.filter (fun q => q.step == r.step && q.src == r.src && q.port.isSome == r.port.isSome)
  let chan := match r.port with | some (_, c) => decide (5 < c) | none => false
  let service := r.dep % 8 == 7 && (r.port.isSome || r.src / 16 != r.dst / 16)
  let clash := im.routes.zipIdx.any (fun q => q.2 != i && routesClash r q.1)
  firstFail [
    failWhen (decide (4095 < r.step) || decide (65535 < r.dep) || r.count == 0 || decide (8 < r.count) || chan ||
        !core r.src || !core r.dst || !im.timed || decide (256 < mine.length)) (failWith 0x0112 i r.step),
    failWhen service (failWith 0x0110 i r.step),
    failWhen clash (failWith 0x0111 i r.step)]
/-- LOAD_GROUP_LIMIT (R329). -/
def groupFault (im : Image) : Option LaunchStatus :=
  if 256 < im.groups.length then some (failWith 0x010C 256 0xFFFFFFFF)
  else im.groups.zipIdx.findSome? (fun g => g.1.findSome? (fun c =>
    failWhen (4 < ((im.groups.take (g.2 + 1)).filter (fun h => h.contains c)).length) (failWith 0x010C g.2 c)))
/-- LOAD_SYNC_RANGE (R335). -/
def syncFault (i : Nat) (o : BitVec 3 × List (Nat × Nat)) : Option LaunchStatus :=
  o.2.zipIdx.findSome? (fun r =>
    failWhen (8 ≤ r.2 || r.1.1 % 64 ≠ 0 || r.1.2 % 64 ≠ 0 || r.1.2 < 64) (failWith 0x010D i r.2))
/-- Two valid ranges overlap (R350). -/
def rangesMeet (a b : Dbl × Dbl) : Bool :=
  a.1.getLsbD 63 && b.1.getLsbD 63 && decide (rgFirst a.1 < rgFirst b.1 + b.2.toNat % 2 ^ 32 * 2 ^ 16) &&
    decide (rgFirst b.1 < rgFirst a.1 + a.2.toNat % 2 ^ 32 * 2 ^ 16)
/-- LOAD_RANGE_OVERLAP of a core (R350). -/
def rangeFault (c : CoreRes) : Option LaunchStatus :=
  c.ranges.zipIdx.findSome? (fun x => x.1.zipIdx.findSome? (fun r =>
    failWhen ((x.1.take r.2).any (rangesMeet r.1)) (failWith 0x010E x.2 r.2)))
/-- The validation of an image, in the order of R399. -/
def validate (im : Image) : Option LaunchStatus :=
  firstFail [
    headerFault im,
    tableFault im,
    im.segs.findSome? segFault,
    im.relocs.findSome? (relocFault im),
    failWhen (if im.signed then !signatureGood im else Config.requireSigned) (failWith 0x0105 0 0),
    im.cores.findSome? (coreFault im),
    im.data.findSome? (dataFault im),
    im.routes.zipIdx.findSome? (fun r => routeFault im r.2 r.1),
    groupFault im,
    im.syncs.zipIdx.findSome? (fun o => syncFault o.2 o.1),
    im.cores.findSome? rangeFault]

/-! The record (R393, R397) -/

/-- A field of a record: n bytes at an offset. -/
def recField (bs : List Byte) (o n : Nat) : Nat := leNat ((bs.drop o).take n)
/-- The host windows of a record that are used (R393). -/
def recWins (bs : List Byte) : List (Nat × Nat) :=
  ((List.range 8).map (fun i => (recField bs (0x58 + 16 * i) 8, recField bs (0x60 + 16 * i) 8))).filter (fun w => w.2 != 0)
/-- The offset of the first malformed field of a record, in offset order (R393, R397; log 73). -/
def recBad (bs : List Byte) : Option Nat :=
  let f := recField bs
  let img := f 0x08 8
  let len := f 0x18 4
  let prio := f 0x1C 1
  let arg := f 0x40 8
  let alen := f 0x48 4
  let wins := (List.range 8).find? (fun i =>
    f (0x60 + 16 * i) 8 != 0 && (decide (2 ^ 52 < f (0x58 + 16 * i) 8) || decide (2 ^ 52 < f (0x58 + 16 * i) 8 + f (0x60 + 16 * i) 8)))
  let argIn := alen == 0 || (recWins bs).any (fun w => within w.1 w.2 arg alen)
  let checks : List (Nat × Bool) :=
    [(0x08, img % 64 != 0), (0x10, f 0x10 8 == 0), (0x18, decide (len < 64) || decide (2 ^ 28 < len)), (0x1C, prio / 8 % 16 != 0),
     (0x1D, f 0x1D 1 / 16 != 0), (0x1E, decide (4095 < f 0x1E 2)), (0x40, arg % 8 != 0 || !argIn),
     (0x48, decide (65536 < alen) || alen % 8 != 0), (0x4D, f 0x4D 3 != 0), (0x58 + 16 * wins.getD 0, wins.isSome), (0xE0, f 0xE0 32 != 0)]
  (checks.find? (fun c => c.2)).map (fun c => c.1)
/-- The launch of a record as it is taken (R393). -/
def recLaunch (bs : List Byte) (now : Nat) : Launch :=
  let f := recField bs
  { seq := f 0 8, imgAddr := f 0x08 8, version := f 0x10 8, imgLen := f 0x18 4, prio := BitVec.ofNat 3 (f 0x1C 1),
    urgent := f 0x1C 1 / 128 % 2 == 1, depOk := BitVec.ofNat 8 (f 0x1D 1), account := f 0x1E 2,
    deps := (List.range 4).map (fun j => f (0x20 + 8 * j) 8), argAddr := f 0x40 8, argLen := f 0x48 4,
    dieMask := BitVec.ofNat 8 (f 0x4C 1), near := f 0x50 8, hostWins := recWins bs, st := .waiting, status := statusDone,
    since := now, start := 0, fin := 0, nj := 0, preempts := 0, clusters := [] }
/-- A SEQ is live or among the last 4,096 ended ones (R397). -/
def knownSeq (s : State) (q : Nat) : Bool :=
  s.launches.any (fun p => p.2.seq == q && p.2.st != .ended) || s.history.any (fun h => h.1 == q)
/-- The check of a record when it is taken (R397). -/
def recordFault (s : State) (bs : List Byte) : Option LaunchStatus :=
  let l := recLaunch bs 0
  firstFail [
    (recBad bs).map (fun o => failWith 0x0100 o 0),
    failWhen (l.seq ≤ s.lastSeq) (failWith 0x0100 0 0),
    l.deps.findSome? (fun d => failWhen (d ≠ 0 && (l.seq ≤ d || !knownSeq s d)) (failWith 0x0101 d 0))]

/-! Relocations (R86, R401) -/

/-- The value of a symbol on a core of a plan (R401). -/
def symValue (l : Launch) (p : Plan) (r : CoreRes) (y : Sym) : Int :=
  match y with
  | .absolute v => v
  | .scratch v => (r.sbase + v : Nat)
  | .mirror v => (r.mbase + v : Nat)
  | .group i => (p.groups.getD i 0 : Nat)
  | .sync i => (p.objs.getD i 0 : Nat)
  | .args => (l.argAddr : Nat)
  | .argn => (l.argLen : Nat)
/-- The x of a relocation on a core (R86, R401). -/
def relocValue (l : Launch) (p : Plan) (im : Image) (c : CoreRes) (r : Reloc) : Int :=
  let x := symValue l p c (im.syms.getD r.sym (.absolute 0)) + r.addend
  match r.bits with
  | some (h, lo) => x / (2 ^ lo : Nat) % (2 ^ (h - lo + 1) : Nat)
  | none => x
/-- The value fits the field of a kind (R401). -/
def kindFits (kind : Nat) (x : Int) : Bool :=
  let mid := fun (lo hi : Int) => decide (lo ≤ x) && decide (x ≤ hi)
  match kind with
  | 0 => mid (-128) 255
  | 1 => mid (-32768) 65535
  | 2 => mid (-2147483648) 4294967295
  | 3 => mid (-9223372036854775808) 18446744073709551615
  | 4 => mid (-131072) 131071
  | 5 => mid 0 262143
  | 6 => mid (-1024) 1023
  | 7 => mid (-16384) 16128 && x % 256 == 0
  | _ => mid (-8192) 8064 && x % 128 == 0
/-- DETAIL1 of a site (R401). -/
def siteDetail (space : Nat) (r : Reloc) : Nat := if space = 3 then r.site else 2 ^ 63 + space * 2 ^ 60 + r.site
/-- The first relocation that does not fit: entries in order, and for each the cores of its section in order (R401). -/
def relocFail (l : Launch) (p : Plan) (im : Image) : Option LaunchStatus :=
  im.relocs.findSome? (fun r => (p.res.filter (fun c => c.sect == r.core)).findSome? (fun c =>
    if kindFits r.kind (relocValue l p im c r) then none
    else
      let st := failWith 0x010F (r.sym + r.kind * 2 ^ 32) (siteDetail ((siteSpace im r).getD 3) r)
      some { st with core := BitVec.ofNat 32 c.core }))

end Sys2Proof.Machine
end

