-- ==== Sys2Proof/Machine/Placing.lean ====
section
/-! DEFINITION. The choice of a placement (21_package_launch.md R402 to R404): windows, links, the candidates in the
order of R403, and the launches that go before others. -/

namespace Sys2Proof.Machine

/-! What is in use -/

/-- Plans with resources: the placed ones, and those chosen for launches that are PLACING (R404). -/
def holding (s : State) : List Plan := s.plans ++ s.launches.filterMap (fun p => if p.2.st == .placing then p.2.plan else none)
/-- The launch of a plan is PREEMPTED, so that it keeps its resources but runs nowhere (R133, R395). -/
def evicted (s : State) (p : Plan) : Bool := s.launches.any (fun l => l.2.seq == p.seq && l.2.st == .preempted)
/-- Plans that run or will run where they stand. -/
def active (s : State) (ps : List Plan) : List Plan := ps.filter (fun p => !evicted s p)
/-- What plans have on a core. -/
def resAt (ps : List Plan) (core : Nat) : List CoreRes := ps.filterMap (fun p => resOf p core)
/-- The units of 64 KiB from which a range of a size overlaps no other; the lowest one (R404). -/
def placeWindow (lo hi size : Nat) (used : List (Nat × Nat)) : Option Nat :=
  ((List.range ((hi - lo) / 65536 + 1)).map (fun i => lo + 65536 * i)).find? (fun b =>
    decide (b + size ≤ hi) && used.all (fun w => size == 0 || w.2 == 0 || decide (b + size ≤ w.1) || decide (w.1 + w.2 ≤ b)))
/-- Bytes that a core section needs in a code area: the dictionary and its segments (R147, R458). -/
def codeBytes (im : Image) (sect : Nat) : Nat :=
  (im.segs.filter (fun g => g.core == sect)).foldl (fun n g => n + 16 + g.toks.length) 3072
/-- A core's declaration with its windows and the place of its code on a core, when they fit (R404). -/
def fitCore (ps : List Plan) (im : Image) (core : Nat) (r : CoreRes) : Option CoreRes :=
  let l := resAt ps core
  let size := match l with | [] => im.codeRes * 65536 | q :: _ => q.csize
  let code := match l with
    | [] => some 0
    | _ => placeWindow 0 size (im.codeRes * 65536) (l.map (fun q => (q.cbase, q.clen)))
  match code, placeWindow 0x10000 0x80000 r.ssize (l.map (fun q => (q.sbase, q.ssize))),
    placeWindow ((size + 65535) / 65536 * 65536) 0xBF8000 r.msize (l.map (fun q => (q.mbase, q.msize))) with
  | some c, some sb, some mb => some { r with sbase := sb, mbase := mb, cbase := c, clen := codeBytes im r.sect, csize := size }
  | _, _, _ => none
/-- A core can offer what is declared for it (R178, R228, R400, R403). -/
def coreOffers (s : State) (ps : List Plan) (im : Image) (core : Nat) (r : CoreRes) : Bool :=
  let l := resAt ps core
  let act := active s ps
  let banks := l.foldl (fun m q => m ||| q.owned ||| q.served) (0 : BitVec 64)
  let tags := l.foldl (fun m q => m ||| q.tags) (0 : BitVec 64)
  enabled s core && decide (l.length < 4) && banks &&& (r.owned ||| r.served) == 0 && tags &&& r.tags == 0 &&
    decide (l.foldl (fun n q => n + q.ctxs) r.ctxs ≤ 16) && !(r.prim && (resAt act core).any (·.prim)) &&
    !(im.matrix && act.any (fun p => p.matrix && (resOf p core).isSome))

/-! Clusters (R306, R320, R403); a cluster of another package of the domain is numbered 128 (package + 1) + index -/

/-- Package of a cluster number. -/
def clusterPkg (s : State) (cl : Nat) : Nat := if cl < 80 then myPkg s else cl / 128 - 1
/-- A cluster number within its package. -/
def localCluster (cl : Nat) : Nat := cl % 128
/-- The die of a cluster of the domain: 0 to 7 in this package, and a number of its own in another one. -/
def dieOf (cl : Nat) : Nat := if cl < 80 then cl / 10 else 8 * (cl / 128) + localCluster cl / 10
/-- All 16 columns of a cluster are enabled (R320). -/
def complete (s : State) (cl : Nat) : Bool := (List.range 16).all (fun i => enabled s (16 * cl + i))
/-- A plan uses a cluster. -/
def onCluster (p : Plan) (cl : Nat) : Bool := p.clusters.contains cl
/-- The declarations of an image for the cores of its q-th cluster (R306). -/
def coresOf (im : Image) (q : Nat) : List CoreRes := im.cores.filter (fun c => c.core / 16 == q)
/-- Clusters of an image. -/
def clusterCount (im : Image) : Nat := (im.ncore + 15) / 16
/-- A cluster of this package may be the q-th of a placement (R178, R320, R340, R403). -/
def clusterFits (s : State) (ps : List Plan) (l : Launch) (im : Image) (q cl : Nat) : Bool :=
  let act := (active s ps).filter (fun p => onCluster p cl)
  (l.dieMask == 0 || l.dieMask.getLsbD (cl / 10)) &&
    (if im.timed then complete s cl && act.isEmpty else !act.any (·.timed)) && !(im.optical && act.any (·.optical)) &&
    (coresOf im q).all (fun r => coreOffers s ps im (16 * cl + r.core % 16) r && (fitCore ps im (16 * cl + r.core % 16) r).isSome)

/-! Links (R303 to R305, R308, R438, R439, R457) -/

/-- The next station in dimension order: along x, then along y (R304, R308). -/
def nextStation (a b : Nat) : Nat :=
  if a % 5 < b % 5 then a + 1 else if b % 5 < a % 5 then a - 1 else if a / 5 < b / 5 then a + 5 else if b / 5 < a / 5 then a - 5 else a
/-- The hops of a path between two stations of a die. -/
def pathOf : Nat → Nat → Nat → List (Nat × Nat)
  | 0, _, _ => []
  | n + 1, a, b => if a = b then [] else (a, nextStation a b) :: pathOf n (nextStation a b) b
/-- A link direction: die and two stations, or 1024 + package, port and 0 for a fabric port. -/
abbrev LinkDir := Nat × Nat × Nat
/-- The link directions of a route in a placement, with the ticks after the release at which it uses them (R308, R440). -/
def routeHops (s : State) (cls : List Nat) (r : Route) : List (LinkDir × Nat) :=
  let a := cls.getD (r.src / 16) 0
  let b := cls.getD (r.dst / 16) 0
  match r.port with
  | some (p, _) => [((1024 + clusterPkg s a, p.toNat, 0), r.dep)]
  | none => (pathOf 6 (localCluster a % 10) (localCluster b % 10)).zipIdx.map (fun h => ((dieOf a, h.1.1, h.1.2), r.dep + 2 * h.2))
/-- The link directions that a plan holds (R305). -/
def planLinks (s : State) (p : Plan) : List LinkDir := (p.routes.flatMap (routeHops s p.clusters)).map (·.1)
/-- The gateway core of a fabric port, by cluster of the package (R438). -/
def gatewayCluster (p : Nat) : Nat := 10 * (p / 2) + (if p % 2 = 1 then 9 else 0)
/-- A fabric route stands between the gateway cores of its link (R436, R439). -/
def fabricRouteOk (s : State) (cls : List Nat) (r : Route) (p : BitVec 4) : Bool :=
  let a := cls.getD (r.src / 16) 0
  let b := cls.getD (r.dst / 16) 0
  let is := fun (cl n port : Nat) => n % 16 == 0 && localCluster cl == gatewayCluster port
  let pa := clusterPkg s a
  let pb := clusterPkg s b
  pa != pb && is a r.src p.toNat && s.fabric.topo.links.any (fun k =>
    (k.pkg.toNat == pa && k.port == p && k.peer.toNat == pb && is b r.dst k.pport.toNat) ||
      (k.peer.toNat == pa && k.pport == p && k.pkg.toNat == pb && is b r.dst k.port.toNat))
/-- Routes under a placement: one die, no service tick, the right gateways (R457). -/
def routeOk (s : State) (cls : List Nat) (r : Route) : Bool :=
  match r.port with
  | some (p, _) => fabricRouteOk s cls r p
  | none => dieOf (cls.getD (r.src / 16) 0) == dieOf (cls.getD (r.dst / 16) 0) && (routeHops s cls r).all (fun h => h.2 % 8 != 7)
/-- Two routes of a plan use one link direction at one tick of one step (R457). -/
def hopsClash (s : State) (cls : List Nat) (a b : Route) : Bool :=
  a.step == b.step && a.port.isNone && b.port.isNone && (routeHops s cls a).any (fun h => (routeHops s cls b).contains h)
/-- All routes of an image under a placement (R305, R457). -/
def routesOk (s : State) (ps : List Plan) (im : Image) (cls : List Nat) : Bool :=
  let busy := ((active s ps).filter (·.timed)).flatMap (planLinks s)
  im.routes.all (routeOk s cls) &&
    !im.routes.zipIdx.any (fun a => im.routes.zipIdx.any (fun b => decide (b.2 < a.2) && hopsClash s cls a.1 b.1)) &&
    !(im.routes.flatMap (routeHops s cls)).any (fun h => busy.contains h.1)

/-! Groups and objects (R329, R335) -/

/-- The image that a launch uses (R399). -/
def imageOf (s : State) (l : Launch) : Option Image := (s.images.find? (fun p => p.1 == l.version)).map (·.2)
/-- The cores of this package in a group of a plan (R306, R454). -/
def membersOf (p : Plan) (g : List Nat) : List Nat := (g.map (coreOfRel p)).filter (fun c => decide (c < 1280))
/-- The groups of plans that are still PLACING. -/
def placingGroups (s : State) : List (List Nat) :=
  s.launches.flatMap (fun q => match q.2.st, q.2.plan, imageOf s q.2 with
    | .placing, some p, some im => im.groups.map (membersOf p)
    | _, _, _ => [])
/-- Groups that a core is in. -/
def groupLoad (s : State) (core : Nat) : Nat :=
  (s.groups.filter (fun g => g.2.members.contains core)).length + ((placingGroups s).filter (fun g => g.contains core)).length
/-- Ids of a table that no plan holds, ascending. -/
def freeIds (size : Nat) (ids : Plan → List Nat) (ps : List Plan) : List Nat :=
  (List.range size).filter (fun i => !ps.any (fun p => (ids p).contains i))
/-- The plan that a launch would have on clusters, when every core can hold its part, with ids that are free in every package
of the placement (R329, R335, R404, R453, R454). -/
def planFor (s : State) (ps : List Plan) (l : Launch) (im : Image) (cls : List Nat) : Option Plan :=
  let res := im.cores.filterMap (fun r =>
    let cl := cls.getD (r.core / 16) 0
    if cl < 80 then fitCore ps im (16 * cl + r.core % 16) r else some r)
  let pkgs := (cls.map (clusterPkg s)).filter (fun k => k != myPkg s)
  let g := (freeIds 256 Plan.groups ps).filter (fun i => !s.fabric.farGroups.any (fun p => p.2 == i && pkgs.contains p.1))
  let o := (freeIds 4096 Plan.objs ps).filter (fun i => !s.fabric.farObjs.any (fun p => p.2 == i && pkgs.contains p.1))
  let p : Plan := { seq := l.seq, timed := im.timed, matrix := im.matrix, optical := im.optical, clusters := cls, res := res,
                    groups := g.take im.groups.length, objs := o.take im.syncs.length, routes := im.routes, replan := im.replan,
                    hostWins := l.hostWins }
  let gs := im.groups.map (membersOf p)
  let crowded := gs.flatten.any (fun c => decide (4 < groupLoad s c + (gs.filter (fun m => m.contains c)).length))
  if res.length = im.cores.length && im.groups.length ≤ g.length && im.syncs.length ≤ o.length && !crowded then some p else none

/-! The candidates and their order (R403) -/

/-- Lists of n distinct elements, in order. -/
def picks {α : Type} [DecidableEq α] (ok : Nat → α → Bool) (l : List α) : Nat → List (List α)
  | 0 => [[]]
  | n + 1 => (picks ok l n).flatMap (fun p => (l.filter (fun c => ok n c && !p.contains c)).map (fun c => p ++ [c]))
/-- The clusters from which a placement is formed: this package's, and for an image with fabric routes those of the other
packages of the domain (R403, R439). -/
def pool (s : State) (im : Image) : List Nat :=
  List.range 80 ++ (if im.routes.any (fun r => r.port.isSome) then
    (s.fabric.topo.revs.filter (fun r => r.1 != myPkg s)).flatMap (fun r => (List.range 80).map (fun c => 128 * (r.1 + 1) + c)) else [])
/-- The placements that an image could have with some plans in place. -/
def placements (s : State) (ps : List Plan) (l : Launch) (im : Image) : List (List Nat) :=
  (picks (fun q cl => decide (80 ≤ cl) || clusterFits s ps l im q cl) (pool s im) (clusterCount im)).filter (fun cls =>
    cls.any (fun c => decide (c < 80)) && routesOk s ps im cls && (planFor s ps l im cls).isSome)
/-- A die is not ON. -/
def dieDown (s : State) (d : Nat) : Bool := SMap.get .active s.pkg.dies d != .active
/-- A cluster has to be woken. -/
def asleep (s : State) (cl : Nat) : Bool := decide (cl < 80) && (clusterSt s cl != .active || dieDown s (cl / 10))
/-- The start of a placement in ticks from now (R403). -/
def startDelay (s : State) (cls : List Nat) : Nat :=
  if cls.any (fun c => decide (c < 80) && dieDown s (c / 10)) then 120000 else if cls.any (asleep s) then 18000 else 0
/-- Dies of clusters. -/
def diesOf (cls : List Nat) : List Nat := (cls.map dieOf).dedup
/-- Dies shared with the launch that NEAR names (R393, R403). -/
def nearDies (s : State) (l : Launch) (cls : List Nat) : Nat :=
  match liveLaunch s l.near with
  | some (_, n) => ((diesOf cls).filter (fun d => (diesOf n.clusters).contains d)).length
  | none => 0
/-- The order of placements as one list of numbers, compared from its head: start, clusters woken, dies not shared with
NEAR, die indexes, clusters (R403). -/
def placeKey (s : State) (l : Launch) (cls : List Nat) : List Nat :=
  [startDelay s cls, (cls.filter (asleep s)).length, 8 - nearDies s l cls] ++ cls.map dieOf ++ cls
/-- Comparison from the head. -/
def lexLt : List Nat → List Nat → Bool
  | [], [] => false
  | [], _ :: _ => true
  | _ :: _, [] => false
  | a :: s, b :: t => decide (a < b) || (a == b && lexLt s t)
/-- The first placement in the order of R403. -/
def bestOf (s : State) (l : Launch) : List (List Nat) → Option (List Nat)
  | [] => none
  | c :: t => match bestOf s l t with
    | some d => if lexLt (placeKey s l d) (placeKey s l c) then some d else some c
    | none => some c
/-- The placement of a launch with some plans in place, on clusters outside a list: its own cores for a pre-empted one,
and none once timed launches are held back (R402, R403, R422). -/
def findPlace (s : State) (ps : List Plan) (l : Launch) (im : Image) (shut : List Nat) : Option (List Nat) :=
  let act := (active s ps).filter (fun p => p.seq != l.seq)
  if im.timed && s.pkg.noTimed then none
  else if l.st = .preempted then
    let mine := fun (cl : Nat) =>
      !shut.contains cl && (!im.timed || complete s cl) &&
        !act.any (fun p => onCluster p cl && (p.timed || im.timed || (p.optical && im.optical))) &&
        (coresOf im (l.clusters.findIdx (fun c => c == cl))).all (fun r =>
          let core := 16 * cl + r.core % 16
          enabled s core && !(r.prim && (resAt act core).any (·.prim)) && !(im.matrix && act.any (fun p => p.matrix && (resOf p core).isSome)))
    let busy := (act.filter (·.timed)).flatMap (planLinks s)
    if l.clusters.all mine && !(im.routes.flatMap (routeHops s l.clusters)).any (fun h => busy.contains h.1) then some l.clusters else none
  else bestOf s l ((placements s ps l im).filter (fun cls => cls.all (fun c => !shut.contains c)))
/-- Clusters that a launch could use (R402). -/
def couldUse (s : State) (l : Launch) (im : Image) : List Nat :=
  if l.st = .preempted then l.clusters
  else (List.range 80).filter (fun cl => (l.dieMask == 0 || l.dieMask.getLsbD (cl / 10)) && (!im.timed || complete s cl))
/-- A placement could be formed on an idle package (R403, R457). -/
def couldEver (s : State) (l : Launch) (im : Image) : Bool :=
  let idle := { s with plans := [], launches := [], groups := [] }
  !(placements idle [] l im).isEmpty

/-! The order of launches (R402) -/

/-- Effective priority (R402). -/
def effPrio (s : State) (l : Launch) : Nat :=
  if l.prio = 7 then 7
  else if l.st = .queued || l.st = .preempted then min 6 (l.prio.toNat + (tickNow s - l.since) / 2 ^ 20)
  else l.prio.toNat
/-- QUEUED and PREEMPTED launches, highest effective priority first, then by SEQ (R402). -/
def inLine (s : State) : List (Nat × Launch) :=
  sortBy (fun a b => decide (effPrio s b.2 < effPrio s a.2) || (effPrio s a.2 == effPrio s b.2 && decide (a.2.seq ≤ b.2.seq)))
    (s.launches.filter (fun p => p.2.st == .queued || p.2.st == .preempted))
/-- Running launches that a launch may pre-empt: lowest effective priority first, then highest SEQ (R402). -/
def victims (s : State) (l : Launch) : List (Nat × Launch) :=
  sortBy (fun a b => decide (effPrio s a.2 < effPrio s b.2) || (effPrio s a.2 == effPrio s b.2 && decide (b.2.seq ≤ a.2.seq)))
    (s.launches.filter (fun p => p.2.st == .running && p.2.preempting.isNone && decide (effPrio s p.2 < effPrio s l)))
/-- Sublists of n elements, those of earlier elements first. -/
def choose {α : Type} : Nat → List α → List (List α)
  | 0, _ => [[]]
  | _ + 1, [] => []
  | n + 1, a :: t => (choose n t).map (fun c => a :: c) ++ choose (n + 1) t
/-- The state with launches that meet a test taken for pre-empted. -/
def without (p : Nat → Bool) (s : State) : State :=
  { s with launches := s.launches.map (fun q => if p q.1 then (q.1, { q.2 with st := .preempted }) else q) }
/-- The fewest launches whose pre-emption, beside those under way, lets one fit (R402). -/
def toPreempt (s : State) (l : Launch) (im : Image) (shut : List Nat) : Option (List (Nat × Launch)) :=
  let vs := victims s l
  let going := fun (k : Nat) => s.launches.any (fun q => q.1 == k && q.2.preempting.isSome)
  (List.range (vs.length + 1)).findSome? (fun n => (choose n vs).find? (fun c =>
    (findPlace (without (fun k => going k || c.any (fun v => v.1 == k)) s) (holding s) l im shut).isSome))

end Sys2Proof.Machine
end

