-- ==== Sys2Proof/Machine/Launching.lean ====
section
/-! DEFINITION. The launch agent and the distributor (21_package_launch.md R392 to R405, R457; R133, R136, R147, R178,
R230, R256, R294, R328, R329, R335): the events of a launch from its record to its end. -/

namespace Sys2Proof.Machine

/-! The end of a plan (R132, R146, R395, R405) -/

/-- Frames of contexts that wait in a transmit queue leave it; one that is being sent goes out (R325). -/
def dropOwn (s : State) (cs : List CtxId) (x : Bus) : Bus :=
  let mine := fun (e : TxEntry) => decide (e.frame.kind.toNat < 6) && e.frame.sender == s.self && cs.contains e.frame.ctx
  let head := if x.sending then x.txq.take 1 else []
  let tail := if x.sending then x.txq.drop 1 else x.txq
  { x with txq := head ++ tail.filter (fun e => !mine e) }
/-- The contexts of a plan become EMPTY, and all that they have under way is discarded (R33, R132, R146). -/
def discardCtxs (s : State) (cs : List CtxId) : State :=
  let mine := fun (c : CtxId) => cs.contains c
  let ids := cs.flatMap (fun c => (getCtx s c).out.map (·.id))
  let copies := cs.flatMap (fun c => (copiesOf s c).map (·.id))
  let owner := cs.any (fun c => (getCtx s c).bank.mown && (getCtx s c).matrix.isNone)
  let prim := cs.any (fun c => (getCtx s c).primary && (getCtx s c).plan == s.gate.seq)
  let s1 := cs.foldl (fun s c => match (getCtx s c).slot with | some k => clearSlot k s | none => s) s
  { s1 with
    ctxs := s1.ctxs.filter (fun p => !mine (BitVec.ofNat 4 p.1)),
    flight := s1.flight.filter (fun f => !mine f.ctx),
    stream := match s1.stream with
      | some t => if mine t.ctx then none
                  else some { t with after := match t.after with | some c => if mine c then none else some c | none => none }
      | none => none
    copyq := s1.copyq.filter (fun r => !mine r.ctx),
    engines := s1.engines.filter (fun p => !mine p.2.ctx),
    vault := { s1.vault with writes := s1.vault.writes.filter (fun w => !mine w.ctx) },
    buses := s1.buses.map (fun p => (p.1, dropOwn s cs p.2)),
    rxjobs := s1.rxjobs.filter (fun j => !mine j.ctx),
    home := { s1.home with held := s1.home.held.filter (fun h => match h with
      | .own c _ _ => !mine c
      | .copy id _ _ => !copies.contains id
      | _ => true) },
    cluster := { s1.cluster with egress := s1.cluster.egress.filter (fun i => !ids.contains i.1 && !copies.contains i.1),
                                 csync := if prim then none else s1.cluster.csync },
    matrix := if owner then {} else s1.matrix,
    pbarTick := if prim then none else s1.pbarTick }
/-- The RESET frame of a sync object (R324, R395). -/
def resetFrame (s : State) (o : Nat) : Frame :=
  { kind := 7, utag := 0, id := BitVec.ofNat 12 o, len := 0, fmt := 0, bus := BitVec.ofNat 2 o,
    sender := BitVec.ofNat 11 (16 * s.myCluster), ctx := 0, payload := [] }
/-- The resources of a plan are free: windows, banks, tags, dictionary bank, segments, gateway, groups, objects (R395,
R416); what its end lets happen does: the held FREQ write, the end of a quiet period and of emergency refresh (R294, R318). -/
def freePlan (p : Plan) (s : State) : State :=
  let here := resOf p s.me
  let tags := (here.map (·.tags)).getD 0
  let banks := (segsOf s p.seq).map (·.dict)
  let s1 := { s with
    plans := s.plans.filter (fun q => q.seq != p.seq),
    tags := s.tags.filter (fun t => !tags.getLsbD t.1),
    dicts := s.dicts.filter (fun d => !banks.contains d.1),
    segs := SMap.del s.segs p.seq,
    groups := s.groups.filter (fun g => !p.groups.contains g.1),
    objs := s.objs.filter (fun o => !p.objs.contains o.1),
    gate := if s.gate.seq = p.seq then {} else s.gate,
    kept := SMap.del s.kept p.seq,
    reports := s.reports.filter (fun r => r.1 != p.seq),
    stop := match s.stop with | some t => if t.seq = p.seq then none else some t | none => none
    pbarTick := if s.gate.seq = p.seq then none else s.pbarTick
    replan := if s.gate.seq = p.seq then {} else s.replan }
  let s2 := if p.clusters.head? = some s.myCluster then
      p.objs.foldl (fun s o => enqueueLate (resetFrame s o) s) s1 else s1
  let s3 := if p.optical && onCluster p s.myCluster then [0, 1, 2, 3].foldl (fun s b => endQuiet b s) s2 else s2
  let s4 := if p.timed && onCluster p s.myCluster then (match s3.cluster.heldFreq with | some f => dueFreq f s3 | none => s3) else s3
  { s4 with vault := { s4.vault with emergency := s4.vault.emergency.filter (fun q => q != p.seq) } }
/-- All of a plan on this core and in the package's tables is discarded, with its held accesses (R359, R395). -/
def discardPlan (seq : Nat) (s : State) : State :=
  let s0 := discardCtxs s (planHere s seq)
  let s1 := { s0 with home := { s0.home with held := s0.home.held.filter (fun h => match h with
    | .other _ _ q => q != seq
    | .foreign q => q.seq != seq
    | _ => true) } }
  match findPlan s1 seq with
  | some p => freePlan p s1
  | none => s1
/-- The stored images that a live launch uses (R399). -/
def dropImages (s : State) : State :=
  { s with images := s.images.filter (fun i => s.launches.any (fun p => p.2.version == i.1 && p.2.st != .ended)) }
/-- Codes of a rejection under R397 or R399 (R426). -/
def rejectCode (c : BitVec 16) : Bool :=
  c = 0x100 || c = 0x101 || (decide (0x103 ≤ c.toNat) && decide (c.toNat ≤ 0x10E)) || (decide (0x110 ≤ c.toNat) && decide (c.toNat ≤ 0x112)) ||
    c = 0x114
/-- A launch that waits for one that ends with a code (R396). -/
def tellEnd (seq : Nat) (c : BitVec 16) (l : Launch) : Launch :=
  if l.st = .waiting && l.deps.contains seq then { l with met := l.met ++ [(seq, c)] } else l
/-- A launch ends: its charge goes to its account, launches that wait for it are told, the completion part is written, the
image store drops what no launch uses, and the distributor decides again (R395 to R397, R399, R402, R403, R426). -/
def endLaunch (k : Nat) (l : Launch) (st : LaunchStatus) (s : State) : State :=
  let s1 := if l.st = .running || l.st = .preempted || l.st = .placing then discardPlan l.seq s else s
  let h := s1.history ++ [(l.seq, st.code)]
  let nj := if rejectCode st.code then 0 else l.nj
  let a := SMap.set 0 s1.pkg.accounts l.account (SMap.get 0 s1.pkg.accounts l.account + nj)
  let idle := l.clusters.foldl (fun m c => SMap.put m c (tickNow s)) s1.pkg.idleAt
  let s2 := { s1 with history := h.drop (h.length - 4096), launches := s1.launches.map (fun p => (p.1, tellEnd l.seq st.code p.2)),
                      pkg := { s1.pkg with accounts := a, pass := true, idleAt := idle } }
  dropImages (moveLaunch k { l with st := .ended, status := st, fin := tickNow s, nj := nj, plan := none, preempting := none } s2)

/-! The record (R393, R397) -/

/-- The record bytes of a slot. -/
def slotBytes (s : State) (k : Nat) : List Byte :=
  match slotKey s k 0 with
  | some a => memRead s.mem a 256
  | none => []
/-- A write of SEQ to a slot whose launch has not ended: its bit is set in the record of die 0, which has the events of the
package (R393, R434; log 17). -/
def overrun (k seq : Nat) (s : State) : State :=
  blackBox (mapBox 0 (fun b => { b with overrun := b.overrun ||| (1#256 <<< k) }) s) 12 0 0
    (BitVec.ofNat 64 k) (BitVec.ofNat 64 seq)
/-- A record is taken, checked, and its launch is WAITING or has ended (R393, R395, R397). -/
def takeRecord (k : Nat) (bs : List Byte) (s : State) : State :=
  let l0 := recLaunch bs (tickNow s)
  let met := l0.deps.filterMap (fun d =>
    if s.launches.any (fun p => p.2.seq == d && p.2.st != .ended) then none else s.history.reverse.find? (fun h => h.1 == d))
  let l := { l0 with met := met }
  let s1 := { s with lastSeq := max s.lastSeq l.seq }
  match recordFault s bs with
  | some st => endLaunch k l st s1
  | none => moveLaunch k l s1
/-- CSEQ of a slot (R394). -/
def slotCseq (s : State) (k : Nat) : Nat :=
  match slotKey s k 0x100 with
  | some a => leNat (memRead s.mem a 8)
  | none => 0
/-- The launch of a slot has not ended. -/
def slotLive (s : State) (k : Nat) : Bool := (getLaunch s k).any (fun l => l.st != .ended)
/-- The agent looks at SEQ of a slot, and acts when it has changed since it last looked (R392, R393, R427, R428). -/
def execLaunchRecordTake (slot : BitVec 8) (s : State) : Answer :=
  let k := slot.toNat
  let bs := slotBytes s k
  let seq := recField bs 0 8
  let s1 := { s with pkg := { s.pkg with seen := SMap.set 0 s.pkg.seen k seq } }
  .next (if s.pkg.boot ≠ 0xFF || s.pkg.inReset || s.pkg.ebpinDown || SMap.get 0 s.pkg.seen k = seq then s
    else if seq = 0 || slotCseq s k = seq then s1
    else if slotLive s k then overrun k seq s1
    else takeRecord k bs s1)
/-- CANCEL of a slot has been seen, or stands in its record and the companion link carries it (R393, R427). -/
def cancelSeen (s : State) (k : Nat) (l : Launch) : Bool :=
  l.cancel || (!s.pkg.ebpinDown && recField (slotBytes s k) 0xD8 8 != 0)
/-- CANCEL is seen; while the launch is PLACING it is remembered (R393, R395). -/
def execLaunchCancel (slot : BitVec 8) (s : State) : Answer :=
  let k := slot.toNat
  .next (match getLaunch s k with
    | some l =>
      if !cancelSeen s k l || l.st = .ended then s
      else if l.st = .placing then { s with launches := SMap.put s.launches k { l with cancel := true } }
      else endLaunch k l statusCancelled s
    | none => s)
/-- A launch that has left PLACING ends if CANCEL was seen meanwhile (R395). -/
def applyCancel (k : Nat) (s : State) : State :=
  match getLaunch s k with
  | some l => if l.cancel && l.st = .running then endLaunch k l statusCancelled s else s
  | none => s

/-! Dependences and validation (R395, R396, R399) -/

/-- The status with which a dependence of a launch ended, if it has (R396). -/
def endedWith (l : Launch) (seq : Nat) : Option (BitVec 16) := (l.met.find? (fun h => h.1 == seq)).map (·.2)
/-- The first dependence that had to end with DONE and did not (R395). -/
def depFailed (l : Launch) : Option LaunchStatus :=
  l.deps.zipIdx.findSome? (fun d => match endedWith l d.1 with
    | some c => failWhen (d.1 ≠ 0 && l.depOk.getLsbD d.2 && c ≠ 0) (failWith 0x0102 d.1 c.toNat)
    | none => none)
/-- Every dependence has ended (R396). -/
def depsEnded (l : Launch) : Bool := l.deps.all (fun d => d == 0 || (endedWith l d).isSome)
/-- The image of a launch in the store, copied there if its VERSION is not and it is valid; or the status of the failing check
(R399). -/
def storeImage (l : Launch) (s : State) : State × Option LaunchStatus :=
  match s.images.find? (fun p => p.1 == l.version) with
  | some (_, im) =>
    (s, failWhen (im.addr ≠ l.imgAddr || im.len ≠ l.imgLen) (failWith 0x0103 l.version im.addr))
  | none =>
    match s.hostImages.find? (fun p => p.1 == l.imgAddr) with
    | some (_, im) =>
      let cp := { im with version := l.version, addr := l.imgAddr, len := l.imgLen }
      match validate cp with
      | some st => (s, some st)
      | none => ({ s with images := s.images ++ [(l.version, cp)] }, none)
    | none => (s, some (formatAt 0))
/-- The dependences of a WAITING launch have ended: it is QUEUED, and its image is stored and validated; CANCEL goes first (R395,
R396, R399, R402, R427). -/
def execLaunchDepsMet (slot : BitVec 8) (s : State) : Answer :=
  let k := slot.toNat
  .next (match getLaunch s k with
    | some l =>
      if l.st ≠ .waiting then s
      else if cancelSeen s k l then endLaunch k l statusCancelled s
      else match depFailed l with
        | some st => endLaunch k l st s
        | none =>
          if !depsEnded l || (s.pkg.ebpinDown && !s.images.any (fun p => p.1 == l.version)) then s
          else
            let q := { l with st := .queued, since := tickNow s }
            let (s1, bad) := storeImage q (moveLaunch k q s)
            match bad with
            | some st => endLaunch k q st s1
            | none => { s1 with pkg := { s1.pkg with pass := true } }
    | none => s)

/-! The distributor (R402, R403) -/

/-- A GATED cluster of a die that is ON begins to wake (R322). -/
def wakeCluster (cl : Nat) (s : State) : State :=
  if clusterSt s cl = .gated && SMap.get .active s.pkg.dies (cl / 10) = .active then
    { s with pkg := { s.pkg with clusters := SMap.set .active s.pkg.clusters cl .waking, wakeAt := SMap.put s.pkg.wakeAt cl (tickNow s) } }
  else s
/-- A GATED die begins to wake (R322). -/
def wakeDie (d : Nat) (s : State) : State :=
  if SMap.get .active s.pkg.dies d = .gated then
    { s with pkg := { s.pkg with dies := SMap.set .active s.pkg.dies d .waking, dieWakeAt := SMap.put s.pkg.dieWakeAt d (tickNow s) } }
  else s
/-- What a placement needs is woken (R322, R395). -/
def wakeFor (cls : List Nat) (s : State) : State :=
  (cls.filter (fun c => decide (c < 80))).foldl (fun s c => wakeCluster c (wakeDie (c / 10) s)) s
/-- A launch is chosen: it is PLACING on its clusters (R395). -/
def placeLaunch (k : Nat) (l : Launch) (im : Image) (cls : List Nat) (s : State) : State :=
  let p := if l.st = .preempted then none else planFor s (holding s) l im cls
  wakeFor cls (moveLaunch k { l with st := .placing, clusters := cls, plan := p } s)
/-- A running launch is to be pre-empted. Urgently, PREEMPT becomes pending in its contexts at the first cycle that sees the
current tick; at a superstep boundary, its contexts stop where PBAR waits (R133, R285, R296, R315). -/
def startPreempt (k : Nat) (urgent : Bool) (s : State) : State :=
  match getLaunch s k with
  | some l =>
    if l.st ≠ .running || l.preempting.isSome then s
    else
      let t := if urgent then some (tickNow s) else none
      { s with launches := SMap.put s.launches k { l with preempting := some urgent, preTick := t } }
  | none => s
/-- What the distributor's pass has found: the state, and the launches that wait, by effective priority, with the
clusters that they could use. -/
structure Pass where
  s : State
  shut : List (Nat × List Nat) := []
  deriving DecidableEq, Repr
/-- One launch of a pass; CANCEL goes first (R395, R402, R403). -/
def tryLaunch (a : Pass) (p : Nat × Launch) : Pass :=
  let (k, l) := p
  let e := effPrio a.s l
  if cancelSeen a.s k l then { a with s := endLaunch k l statusCancelled a.s }
  else match imageOf a.s l with
  | none => a
  | some im =>
    if a.shut.any (fun b => b.1 != e) then a
    else
      let shut := a.shut.flatMap (·.2)
      match findPlace a.s (holding a.s) l im shut with
      | some cls => { a with s := placeLaunch k l im cls a.s }
      | none =>
        if l.st = .queued && !couldEver a.s l im then { a with s := endLaunch k l (failWith 0x0113 0 0) a.s }
        else
          let vs := (toPreempt a.s l im shut).getD []
          { s := vs.foldl (fun s v => startPreempt v.1 l.urgent s) a.s, shut := a.shut ++ [(e, couldUse a.s l im)] }
/-- The distributor tries the launches in line (R402). -/
def distributorPass (s : State) : State := ((inLine s).foldl tryLaunch { s := { s with pkg := { s.pkg with pass := false } } }).s
/-- The distributor decides, as often as launches enter QUEUED or end, and once pre-emptions have completed (R402). -/
def distribute : Nat → State → State
  | 0, s => s
  | n + 1, s => if s.pkg.pass then distribute n (distributorPass s) else s
/-- The distributor decides at the current tick, if a launch has entered QUEUED or has ended (R402). -/
def distributorCycle (s : State) : State := distribute (s.launches.length + 1) s
/-- The distributor decides (R402). -/
def execDistributorDecide (s : State) : Answer := .next (distributorCycle s)
/-- The distributor pre-empts a launch (R133, R402). -/
def execPreemptRequest (seq : Nat) (urgent : Bool) (s : State) : Answer :=
  .next (match liveLaunch s seq with
    | some (k, _) => startPreempt k urgent s
    | none => s)

/-! Loading (R401, R404) -/

/-- The bytes of a range of keys are 0. -/
def memClear (m : List Host.Cell) (a n : Nat) : List Host.Cell := m.filter (fun p => decide (p.1 < a) || decide (a + n ≤ p.1))
/-- Key of a byte of a space of a core's part of a plan (R230). -/
def spaceKey (core : Nat) (r : CoreRes) (space v : Nat) : Nat :=
  if space = 0 then keyScratch core (r.sbase + v) else if space = 1 then keyMirror core (r.mbase + v) else keyVault core 0 0 v
/-- The windows and owned banks of a core hold 0 (R230). -/
def clearCore (core : Nat) (r : CoreRes) (m : List Host.Cell) : List Host.Cell :=
  let m1 := memClear (memClear m (keyScratch core r.sbase) r.ssize) (keyMirror core r.mbase) r.msize
  ((List.range 64).filter (fun n => r.owned.getLsbD n)).foldl (fun m n => memClear m (keyVault core n 0 0) (2 ^ 24)) m1
/-- The segments of a core section with the offsets of their headers from the start of the plan's code (R147, R458). -/
def segPlaces (im : Image) (sect : Nat) : List (ImgSeg × Nat) :=
  ((im.segs.filter (fun g => g.core == sect)).foldl (fun (a : List (ImgSeg × Nat) × Nat) g => (a.1 ++ [(g, a.2)], a.2 + 16 + g.toks.length))
    ([], 3072)).1
/-- The dictionary of a core section. -/
def imgDict (im : Image) (sect : Nat) : List (BitVec 96) := ((im.dicts.find? (fun d => d.1 == sect)).map (·.2)).getD []
/-- The header of a segment in the code area (R148). -/
def segHeader (g : ImgSeg) : List Byte := leBytes 4 g.cbase ++ leBytes 4 g.next ++ leBytes 2 g.npkt ++ leBytes 6 g.high.toNat
/-- The code of a core: dictionary, then segments (R147, R148, R458). -/
def writeCode (core : Nat) (im : Image) (r : CoreRes) (m : List Host.Cell) : List Host.Cell :=
  let d := (imgDict im r.sect).flatMap (fun v => leBytes 12 v.toNat)
  (segPlaces im r.sect).foldl (fun m g => memWrite m (keyMirror core (r.cbase + g.2)) (segHeader g.1 ++ g.1.toks))
    (memWrite m (keyMirror core r.cbase) d)
/-- Key of the site of a relocation on a core (R401). -/
def siteAt (core : Nat) (im : Image) (r : CoreRes) (q : Reloc) : Option Nat :=
  let space := (siteSpace im q).getD 3
  if space ≠ 3 then some (spaceKey core r space q.site)
  else ((segPlaces im r.sect).find? (fun g => decide (g.1.cbase ≤ q.site) && decide (q.site < g.1.cbase + 12 * g.1.npkt))).bind (fun g =>
    (wordAt g.1 q.site).map (fun o => keyMirror core (r.cbase + g.2 + 16 + o)))
/-- The bytes of a site with the value in its field (R401). -/
def patched (kind : Nat) (x : Int) (old : Nat) : List Byte :=
  let field := fun (w : Nat) (v : Int) => leBytes 4 (old / 2 ^ w * 2 ^ w + (v % (2 ^ w : Nat)).toNat)
  let data := fun (n : Nat) => leBytes n (x % (2 ^ (8 * n) : Nat)).toNat
  match kind with
  | 0 => data 1
  | 1 => data 2
  | 2 => data 4
  | 3 => data 8
  | 4 => field 18 x
  | 5 => field 18 x
  | 6 => field 11 x
  | 7 => field 7 (x / 256)
  | _ => field 7 (x / 128)
/-- The memory of one core at a plan load (R230, R401, R404). -/
def fillCore (l : Launch) (p : Plan) (im : Image) (core : Nat) (r : CoreRes) (m : List Host.Cell) : List Host.Cell :=
  let m1 := (im.data.filter (fun d => d.core == r.sect)).foldl
    (fun m d => memWrite m (spaceKey core r d.space d.first) d.bytes) (clearCore core r m)
  (im.relocs.filter (fun q => q.core == r.sect)).foldl (fun m q => match siteAt core im r q with
    | some a => memWrite m a (patched q.kind (relocValue l p im r q) (leNat (memRead m a 4)))
    | none => m) (writeCode core im r m1)
/-- The memory of the package at a plan load. -/
def fillAll (l : Launch) (p : Plan) (im : Image) (m : List Host.Cell) : List Host.Cell :=
  p.res.foldl (fun m r => if coreOfRel p r.core < 1280 then fillCore l p im (coreOfRel p r.core) r m else m) m
/-- The segment table of a plan on this core (R147, R151). -/
def planSegs (im : Image) (r : CoreRes) (bank : Nat) : List Seg :=
  (segPlaces im r.sect).map (fun g =>
    { cbase := g.1.cbase, npkt := g.1.npkt, hdr := r.cbase + g.2, dict := bank,
      next := if g.1.next = 0xFFFFFFFF then g.1.next else r.cbase + g.1.next })
/-- The owned banks and the tiers of this core at a plan load (R256). -/
def freshBanks (r : CoreRes) (v : Vault) : Vault :=
  -- the tick of the load is yet to be seen (R252, R296)
  let one := fun (v : Vault) (n : Nat) => setBank v n { dl := Config.refreshInterval (getTier v (n / 16)).cls.toNat + 1 }
  let v1 := ((List.range 64).filter (fun n => r.owned.getLsbD n)).foldl one { v with frozen := [], frozenTval := 0 }
  if r.owned = 0 then v1 else [0, 1, 2, 3].foldl (fun v t => setTier v t { cls := (getTier v t).cls, shown := (getTier v t).shown }) v1
/-- The matrix engine of a plan at its load: microprogram store, routine table and declared size (R195, R200, R404). -/
def freshMatrix (im : Image) (r : CoreRes) : Matrix :=
  let rs := im.routines.filter (fun q => q.1 == r.sect)
  let place := (rs.foldl (fun (a : List (Nat × BitVec 16 × List Dbl) × Nat) q =>
    (a.1 ++ [(q.2.1, BitVec.ofNat 16 a.2, q.2.2)], a.2 + q.2.2.length)) ([], 0)).1
  let table := place.foldl (fun t q => SMap.set 0xFFFF t q.1 q.2.1) []
  let store := (place.flatMap (fun q => q.2.2)).zipIdx.foldl (fun t w => SMap.set 0 t w.2 w.1) []
  { store := store, table := table, size := r.mwords }
/-- The i-th context of a plan on this core as the loader leaves it (R33, R122, R178, R349, R404). -/
def freshCtx (p : Plan) (r : CoreRes) (i : Nat) (start : Nat) : Ctx :=
  let rg := r.ranges.getD i []
  let put := fun (f : Dbl × Dbl → Dbl) => rg.zipIdx.foldl (fun t q => SMap.set 0 t q.2 (f q.1)) []
  { st := .resident, plan := p.seq, primary := r.prim && i == 0, start := some start,
    bank := { pc := r.entries.getD i 0, thand := r.thand, mown := p.matrix && i == 0 },
    rga := put (·.1), rgb := put (·.2) }
/-- The slot that the loader gives a context, if one is free (R138, R142, R404). -/
def loaderSlot (s : State) (x : Ctx) : Option (BitVec 2) :=
  if x.primary then (if (slotCtx s 0).isNone then some 0 else none) else (openSlots s).find? (fun k => (slotCtx s k).isNone)
/-- A context put into a slot by the loader, with its entry segment in the loop buffer (R150, R404; log 34). -/
def seatCtx (c : CtxId) (k : BitVec 2) (s : State) : State :=
  let x := getCtx s c
  let s1 := clearSlot k (setCtx s c { x with st := .running, slot := some k, readyAt := none })
  match segAt s1 x.plan x.bank.pc.toNat with
  | some g => { s1 with halves := SMap.put s1.halves (halfKey k false) { cbase := g.cbase, words := segWords s1 g } }
  | none => s1
/-- A context of a plan is loaded: its record, its slot if it gets one, its entry bundle as rollback point (R259, R404). -/
def loadCtx (p : Plan) (im : Image) (r : CoreRes) (start : Nat) (s : State) (q : CtxId × Nat) : State :=
  let x := { freshCtx p r q.2 start with readyAt := some (s.cycle + 1) }
  let s1 := setCtx s q.1 x
  let m := freshMatrix im r
  let s2 := match loaderSlot s1 x with
    | some k => let s3 := seatCtx q.1 k s1; if x.bank.mown then { s3 with matrix := m } else s3
    | none => if x.bank.mown then setCtx s1 q.1 { x with matrix := some m } else s1
  setCtx s2 q.1 { getCtx s2 q.1 with ckpt := some { copyOf s2 q.1 x.bank.pc true with matrix := if x.bank.mown then some m else none } }
/-- The plan of the core's gateway is gone or pre-empted. -/
def gateFree (s : State) : Bool := (findPlan s s.gate.seq).isNone || preempted s s.gate.seq
/-- This core's part of a plan load (R404). -/
def loadHere (p : Plan) (im : Image) (r : CoreRes) (start : Nat) (s : State) : State :=
  let ids := (allCtx.filter (fun c => (getCtx s c).st == .empty)).take r.ctxs
  let bank := ([0, 1, 2, 3].find? (fun b => !s.dicts.any (fun d => d.1 == b))).getD 0
  let s1 := { s with
    dicts := SMap.put s.dicts bank (imgDict im r.sect), segs := SMap.set [] s.segs p.seq (planSegs im r bank),
    codeSize := r.csize, tags := s.tags.filter (fun t => !r.tags.getLsbD t.1), vault := freshBanks r s.vault }
  -- a plan that is not timed takes the core's gateway only from one that is gone or pre-empted
  let s2 := ids.zipIdx.foldl (loadCtx p im r start) (if p.timed || gateFree s then switchGate p.seq s1 else s1)
  withPlan p.seq (fun s => { s with replan := { need := BitVec.ofNat 2 (neededOf s p) } }) s2
/-- The tables of the package at a plan load: the groups and the sync objects (R329, R335). -/
def loadTables (p : Plan) (im : Image) (s : State) : State :=
  let gs := (p.groups.zip im.groups).foldl (fun t g => SMap.put t g.1
    { plan := p.seq, members := membersOf p g.2, wide := g.2.any (fun c => decide (1280 ≤ coreOfRel p c)) }) s.groups
  let os := (p.objs.zip im.syncs).foldl (fun t o => SMap.put t o.1 { plan := p.seq, scope := o.2.1, regions := o.2.2 }) s.objs
  { s with groups := gs, objs := os }
/-- The clusters of a placement in this package are ACTIVE. -/
def allAwake (s : State) (cls : List Nat) : Bool := cls.all (fun c => !asleep s c)
/-- The loading of a PLACING launch ends: relocation, the fill of every core, and RUNNING with START (R401, R404). -/
def startLaunch (k : Nat) (l : Launch) (p : Plan) (im : Image) (s : State) : State :=
  match relocFail l p im with
  | some st => endLaunch k { l with plan := none } st s
  | none =>
    let start := ceil8 (tickNow s + 8)
    let s1 := loadTables p im { s with plans := s.plans ++ [p], mem := fillAll l p im s.mem }
    let s2 := match resOf p s.me with
      | some r => loadHere p im r start s1
      | none => s1
    let s3 := if p.timed && onCluster p s.myCluster then dueFreq im.freq s2 else s2
    applyCancel k (moveLaunch k { l with st := .running, start := start, plan := none } s3)
/-- Every core of a new launch has been loaded (R404). -/
def execLaunchStart (slot : BitVec 8) (s : State) : Answer :=
  let k := slot.toNat
  .next (match getLaunch s k with
    | some l => match l.plan, imageOf s l with
      | some p, some im => if l.st = .placing && allAwake s l.clusters then startLaunch k l p im s else s
      | _, _ => s
    | none => s)
/-- A context of a pre-empted plan waits for the restart tick (R131, R315). -/
def restartAt (sp : Nat) (s : State) (c : CtxId) : State :=
  let x := getCtx s c
  if x.st == .finished then s
  else setCtx s c { x with start := some sp, pend := { x.pend with pre := false }, delay := if x.pend.pre then 0 else x.delay }
/-- A pre-empted launch that is PLACING again restarts at a common tick (R136, R285, R315, R395). -/
def execPlacementResume (seq sp : Nat) (s : State) : Answer :=
  .next (match liveLaunch s seq with
    | some (k, l) =>
      let aligned := match (recOf s seq).stop with
        | some t => t.tick % 8 != 0 || sp % 8 == 0
        | none => true
      if l.st = .placing && l.plan.isNone && allAwake s l.clusters && tickNow s < sp && aligned then
        let s0 := if (findPlan s seq).any (fun p => p.timed && (resOf p s.me).isSome) then switchGate seq s else s
        let s1 := (planHere s0 seq).foldl (restartAt sp) s0
        applyCancel k
          (moveLaunch k { l with st := .running } (withPlan seq (fun s => { s with stop := s.stop.map (fun t => { t with resume := some sp }) }) s1))
      else s
    | none => s)

/-! The end (R398, R405, R414) -/

/-- The context is HELD by SYS with a code (R109, R405). -/
def heldBySys (x : Ctx) : Option Nat :=
  if x.st == .held && x.bank.tcause == 0x20 && !x.bank.nest then some x.bank.tval.toNat else none
/-- A plan's work on this core has ended: its primary context has met SYS 0, or without one every context has (R405, R414). -/
def workEnded (s : State) (seq : Nat) : Bool :=
  let l := planHere s seq
  match l.find? (fun c => (getCtx s c).primary) with
  | some c => (getCtx s c).sysEnded
  | none => l.all (fun c => (getCtx s c).sysEnded || (getCtx s c).ended)
/-- Codes that the end of a RUNNING launch may have (R395, R398). -/
def runningCode (c : BitVec 16) : Bool := decide (c.toNat < 3) || (decide (0x10 ≤ c.toNat) && decide (c.toNat ≤ 0x15))
/-- A context of a plan shows what a status says: its SYS, or the trap that it is held for (R109, R398, R405). -/
def showsStatus (x : Ctx) (st : LaunchStatus) : Bool :=
  match heldBySys x with
  | some 0 => false
  | some 1 => st.code == 1 && st.d0 == x.bank.getS 1 && st.d1 == 0
  | some k => st.code == 2 && st.d0 == BitVec.ofNat 64 k && st.d1 == x.bank.tpc
  | none => st.code == 0x10 && x.st == .held && st.d0 == x.bank.tcause && st.d1 == x.bank.tval
/-- What the supervisor reports of this core's part of a plan is there: a held context that shows it, or the report of a home,
of a station or of the column's retirement (R264, R327, R354, R358, R372, R395, R398). -/
def reported (s : State) (seq : Nat) (st : LaunchStatus) : Bool :=
  !((findPlan s seq).bind (fun p => relCore p s.me)).any (fun r => st.core == BitVec.ofNat 32 r) ||
    s.reports.contains (seq, st.code, st.d0, st.d1) || (planHere s seq).any (fun c => showsStatus (getCtx s c) st)
/-- A plan ends: DONE once every core has ended its work, or with the status that a core or the supervisor reports; CANCEL goes
first (R395, R398, R405). -/
def execLaunchEnd (slot : BitVec 8) (status : LaunchStatus) (s : State) : Answer :=
  let k := slot.toNat
  .next (match getLaunch s k with
    | some l =>
      if l.st ≠ .running || !runningCode status.code then s
      else if cancelSeen s k l then endLaunch k l statusCancelled s
      else if status.code = 0 then (if workEnded s l.seq then endLaunch k l statusDone s else s)
      else if reported s l.seq status then endLaunch k l status s
      else s
    | none => s)

end Sys2Proof.Machine
end

