-- ==== Sys2Proof/Machine/FabricEvents.lean ====
section
/-! DEFINITION. Events of the home agents (19_package_memory.md), the station queue, the fabric and its ingress
(25_fabric.md). -/

namespace Sys2Proof.Machine

/-! Homes and side logs (R357 to R363, R374) -/

/-- An address of this package's global space (R348). -/
def inSpace (s : State) (ia : Nat) : Bool := iaPkg ia == myPkg s && decide (iaDie ia < 8) && decide (iaCol ia < 160)
/-- A global access is performed at its home: one of this core, another requester's in this package, or the companion's, which
its lost link holds (R427); or the bytes there are found uncorrectable (R362, R372, R374). -/
def execHomePerform (r : HomeReq) (s : State) : Answer :=
  .next (match r with
    | .own n => performOwn n s
    | .other ia op ret seq => if inSpace s ia.toNat then performOther ia.toNat op ret seq s else s
    | .companion ia op => if inSpace s ia.toNat && !s.pkg.ebpinDown then (performHome ia.toNat op .companion 0 s).1 else s
    | .poison ia => if inSpace s ia.toNat then addPoison ia.toNat s else s)
/-- The supervisor has mapped a page: held loads are performed and side logs replay (R358). -/
def execPageMapped (core : BitVec 11) (idx : BitVec 12) (s : State) : Answer := .next (pageNowMapped core.toNat idx.toNat s)
/-- A side-log entry is performed at its home (R360). -/
def execSideLogReplay (c : CtxId) (n : Nat) (s : State) (r : Reply := .done 0 false) : Answer := .next (replaySide c n r s)
/-- The invalidation register of a column. -/
def getHtinv (s : State) (core : Nat) : Htinv := SMap.get {} s.home.htinv core
/-- See getHtinv. -/
def setHtinv (core : Nat) (h : Htinv) (s : State) : State := { s with home := { s.home with htinv := SMap.set {} s.home.htinv core h } }
/-- The buffered translations of a column that an HTINV write names are dropped, and it waits for its acknowledgement
(R357). -/
def invalidate (core : Nat) (v : BitVec 13) (s : State) : State :=
  let i := v.toNat % 4096
  let base := ((myPkg s * 16 + core / 160) * 256 + core % 160) * 4096
  let hit := fun (p : Nat) => if v.getLsbD 12 then p / 32 == (base + i) / 32 else p == base + i
  setHtinv core { getHtinv s core with pend := true } { s with home := { s.home with buffer := s.home.buffer.filter (fun p => !hit p.1) } }
/-- A write of a column's HTINV; one made while PEND is 1 is held (R357). -/
def execHtinvWrite (v : Dbl) (s : State) (core : BitVec 11 := 0) : Answer :=
  let w := v.extractLsb' 0 13
  let h := getHtinv s core.toNat
  onDie (core.toNat / 160) (if h.pend then setHtinv core.toNat { h with queue := h.queue ++ [w] } s else invalidate core.toNat w s) s
/-- The agent of a column acknowledges an invalidation, and the next held write takes effect (R356, R357). -/
def execHtinvAck (s : State) (core : BitVec 11 := 0) : Answer :=
  let h := getHtinv s core.toNat
  .next (if h.pend then
      match h.queue with
      | [] => setHtinv core.toNat { h with pend := false, acks := h.acks + 1 } s
      | w :: t => invalidate core.toNat w (setHtinv core.toNat { pend := false, acks := h.acks + 1, queue := t } s)
    else s)
/-- HTINV as it reads (R357). -/
def htinvReg (h : Htinv) : Dbl := BitVec.ofNat 64 (b2n h.pend * 2 ^ 63 + h.acks.toNat * 2 ^ 32)
/-- A field of an entry written (R353). -/
def eSet (lo w v : Nat) (e : Dbl) : Dbl := errorField e lo w (fun _ => v)
/-- An entry changed by the agent; its buffered copy goes (R355, R363). -/
def changeEntry (core idx page : Nat) (e : Dbl) (s : State) : State := bufferDrop page (putEntry core idx e s)
/-- A page that 64 consecutive writes of package q have reached, or one held there that returns, is to move (R363). -/
def execPageMigrate (core : BitVec 11) (idx : BitVec 12) (q : BitVec 6) (s : State) : Answer :=
  let i := entryIdx s core.toNat idx.toNat
  let page := pageNo s core.toNat idx.toNat
  let e := entryAt s core.toNat i
  let run := SMap.get (0, 0) s.home.runs page
  let back := e.getLsbD 57 && q.toNat == myPkg s
  let ok := eV e && !e.getLsbD 58 && (back || (!e.getLsbD 57 && run.1 == q.toNat && decide (64 ≤ run.2)))
  let w := tickNow s / 2 ^ 20 % 16
  let e1 := if eBits e 44 4 = w then e else eSet 41 3 0 (eSet 44 4 w e)
  let go := fun (e : Dbl) => changeEntry core.toNat i page e s
  .next (if !ok then s
    else if e1.getLsbD 59 then go e1
    else if eBits e1 41 3 < 4 then go (eSet 58 1 1 (eSet 41 3 (eBits e1 41 3 + 1) e1))
    else go (eSet 59 1 1 e1))
/-- Where a page that returns is placed: a served bank of the column and a first row that the spec does not fix (R353,
R363, log 11). -/
def returnPlace (s : State) (core : Nat) (big : Bool) : Nat :=
  let served := (List.range 64).filter (fun n => s.plans.any (fun p => match resOf p core with
    | some r => r.served.getLsbD n
    | none => false))
  let x := (Config.freeDbl s.free).toNat
  let row := if big then x / 64 % 8 * 1024 else x / 64 % 256 * 32
  served.getD (x % max 1 served.length) 0 * 2 ^ 35 + row * 2 ^ 22
/-- The bytes of a page that returns: those that its holder had, which are free values here (R363, log 11). -/
def returnBytes (core : Nat) (e : Dbl) (s : State) : State :=
  let n := if ePS e then 2 ^ 21 else 2 ^ 16
  let v := farBytes n s
  { v.1 with mem := memWrite v.1.mem (keyVault core (eBits e 35 6) (eBits e 22 13) 0) v.2 }
/-- A move ends: the entry names the holder, or the page is local again with the bytes that its holder had; held accesses are
then forwarded or performed in arrival order. Or this package becomes the holder of the page at an address of another package,
under a guest entry, or with entry 0 ceases to be (R363). -/
def execPageMoveDone (core : BitVec 11) (idx : BitVec 12) (s : State) (guest : Option (BitVec 48 × Dbl) := none) : Answer :=
  match guest with
  | some (ia, g) => .next (if iaPkg ia.toNat = myPkg s then s
      else { s with home := { s.home with guests := SMap.set 0 s.home.guests (ia.toNat / 2 ^ 16) g } })
  | none =>
  let i := entryIdx s core.toNat idx.toNat
  let page := pageNo s core.toNat idx.toNat
  let e := entryAt s core.toNat i
  let q := (SMap.get (0, 0) s.home.runs page).1
  let s1 := { s with home := { s.home with runs := SMap.del s.home.runs page } }
  let home := eSet 0 41 (returnPlace s core.toNat (ePS e)) (eSet 57 2 0 e)
  .next (if !e.getLsbD 58 then s
    else if e.getLsbD 57 then
      performAllHeld page (returnBytes core.toNat home (changeEntry core.toNat i page home { s1 with free := s.free + 1 }))
    else performAllHeld page (changeEntry core.toNat i page (eSet 57 2 1 (eSet 0 41 (q * 2 ^ 33) e)) s1))
/-- A host access is performed at the companion's coherence point, or the companion writes its own memory (R374, R376). -/
def execHostAccessPerform (r : HostReq) (s : State) : Answer :=
  .next (match r with
    | .own n => performHost n s
    | .companion a bs => if a.toNat + bs.length ≤ 2 ^ 52 then { s with mem := memWrite s.mem (keyHost a.toNat) bs } else s)
/-- A reply from another package, to an access or to a part of the copy in an engine (R370, R452). -/
def execRemoteReply (n : Nat) (r : Reply) (s : State) (part : Option (Bool × Bool × Nat) := none) : Answer :=
  .next (match part with
    | none => takeReply n r s
    | some (e, w, i) => partReply (b2n e) w i r s)

/-! The station queue (R328) -/

/-- Ready frames enter the transmit queues, or a word of another core of the cluster is ready, at the tick that takes it
(R296, R328). -/
def execStationEnqueue (bus : BitVec 2) (s : State) (other : Option Frame := none) : Answer :=
  .next (match other with
    | none => admitAt (tickNow s) s
    | some f =>
      if f.bus = bus && f.kind.toNat < 6 && f.sender.toNat / 16 == s.myCluster && f.sender != s.self then
        setBus bus { getBus s bus with late := (getBus s bus).late ++ [{ frame := f, read := f.len.toNat, tick := takenAt s }] } s
      else s)

/-! Links (R436, R437, R455) -/

/-- A port put in its place. -/
def setPort (p : BitVec 4) (x : PortSt) (s : State) : State :=
  { s with fabric := { s.fabric with ports := SMap.set {} s.fabric.ports p.toNat x } }
/-- A port of this package. -/
def getPort (s : State) (p : BitVec 4) : PortSt := SMap.get {} s.fabric.ports p.toNat
/-- The LINK register (R437). -/
def linkReg (s : State) (p : BitVec 4) : Dbl :=
  let x := getPort s p
  match linkAt s p with
  | some l => BitVec.ofNat 64 (x.rtry.toNat * 2 ^ 48 + l.pad.toNat * 2 ^ 32 + l.peer.toNat * 2 ^ 24 + l.pport.toNat * 2 ^ 20 +
      x.state.toNat * 2 ^ 18)
  | none => BitVec.ofNat 64 (x.rtry.toNat * 2 ^ 48 + x.state.toNat * 2 ^ 18)
/-- Training of a DOWN link is requested (R437). -/
def execLinkTrainRequest (port : BitVec 4) (s : State) : Answer :=
  let x := getPort s port
  .next (if x.state = 0 && (linkAt s port).isSome then setPort port { x with state := 1, since := tickNow s } s else s)
/-- A training link locks, within 10 ms: it goes UP when the measured latency is at most PAD, and enters service at
the next tick that is a multiple of 8 (R437). -/
def execLinkLock (port : BitVec 4) (measured : Nat) (s : State) : Answer :=
  let x := getPort s port
  .next (match linkAt s port with
    | some l =>
      if x.state = 1 && decide (tickNow s ≤ x.since + 10000000) then
        setPort port { x with state := if measured ≤ l.pad.toNat then 2 else 0, upAt := tickNow s / 8 * 8 + 8 } s
      else s
    | none => s)
/-- Training fails: no lock within 10 ms (R437). -/
def execLinkTrainTimeout (port : BitVec 4) (s : State) : Answer :=
  let x := getPort s port
  .next (if x.state = 1 && decide (x.since + 10000000 ≤ tickNow s) then setPort port { x with state := 0 } s else s)
/-- A plan that is placed on this core has routes on a port. -/
def routesOn (s : State) (p : BitVec 4) : Bool :=
  s.plans.any (fun pl => (resOf pl s.me).isSome && pl.routes.any (fun r => match r.port with | some (q, _) => q == p | none => false))
/-- A link goes DOWN: its flits are lost, fo and fi of a placed plan act as edge ports, flits are resent elsewhere
(R437, R455; how many is not this core's to know, log 11). -/
def execLinkCheckFail (port : BitVec 4) (s : State) : Answer :=
  let x := getPort s port
  .next (if x.state ≠ 2 then s
    else
      let n := (Config.freeDbl s.free).toNat % 2 ^ 16
      let s1 := setPort port { state := 0, rtry := satAdd16 x.rtry n } { s with free := s.free + 1 }
      if myPort s = some port then
        { s1 with gate := { s1.gate with lost := s1.gate.lost || routesOn s port, flits := s1.gate.flits.filter (fun f => f.link.isNone) } }
      else s1)
/-- The status of a plan with a core in a package that is unreachable (R455). -/
def farStatus : LaunchStatus := { code := 0x10, core := 0xFFFFFFFF, d0 := 0x32, d1 := 0x30600 }
/-- A placed launch has a cluster in a package; a fabric object of its plan is homed in one of these (R453, R455). -/
def reaches (s : State) (pkg : Nat) (l : Launch) : Bool :=
  (l.st == .running || l.st == .preempted || l.st == .placing) && l.clusters.any (fun c => clusterPkg s c == pkg)
/-- A package is unreachable: this core's accesses to it are denied, and every plan with a core there ends (R446, R455). -/
def execPackageUnreachable (pkg : BitVec 6) (s : State) : Answer :=
  let s1 := { s with fabric := { s.fabric with unreachable := pkg.toNat :: s.fabric.unreachable.filter (fun p => p != pkg.toNat) } }
  let s2 := (ownGlobal s1).foldl (fun s p => match nextPart p.2 with
    | some q => if iaPkg q.ia = pkg.toNat then settle p.1 p.2 q (.denied 0) s else s
    | none => s) s1
  .next ((s2.launches.filter (fun p => reaches s2 pkg.toNat p.2)).foldl (fun s p => endLaunch p.1 p.2 farStatus s) s2)
/-- A read of LINK clears RTRY (R437). -/
def execLinkRead (port : BitVec 4) (s : State) : Answer :=
  let v := linkReg s port
  .next (setPort port { getPort s port with rtry := 0 } { s with pkg := { s.pkg with mgmt := v } })
/-- A padded latency that a topology table may hold (R436). -/
def padOk (l : Link) : Bool := l.pad.toNat % 8 == 0 && decide (16 ≤ l.pad.toNat) && decide (l.pad.toNat ≤ 1024)
/-- The topology table is written when a domain is formed (R436). -/
def execDomainFormed (t : Topology) (s : State) : Answer :=
  .next (if t.links.all padOk then { s with fabric := { s.fabric with topo := t } } else s)
/-- The current tick is that at which a flit of a route to this core enters fi: r + dep + PAD + 2, with as many words as the
route carries (R440). -/
def flitDue (s : State) (port : BitVec 4) (n : Nat) : Bool :=
  match findPlan s s.gate.seq, linkAt s port with
  | some pl, some l => pl.routes.any (fun r => routeEnds s pl r && r.count == n &&
      s.gate.rels.any (fun t => t + r.dep + l.pad.toNat + 2 == tickNow s))
  | _, _ => false
/-- The words of a fabric flit enter fi of the gateway core of its port (R436, R440, R442, R455). -/
def execFabricFlitArrive (port : BitVec 4) (ws : List Dbl) (s : State) : Answer :=
  .next (if myPort s = some port && !fabricEdge s && flitDue s port ws.length then flitIn (some (port, 0)) ws s else s)

/-! Grant tokens and the ingress (R443 to R446) -/

/-- The message of a token that package q presents (R444). -/
def tokenMsg (t : Dbl) (q : Nat) : Dbl := BitVec.ofNat 64 (t.toNat / 2 ^ 24 * 2 ^ 24 ||| q % 2 ^ 8 * 2 ^ 16)
/-- The current epoch (R444). -/
def epoch (s : State) : Nat := tickNow s / 2 ^ 26 % 4096
/-- The right that an access needs: 0 RD, 1 WR, 2 AT, 3 SG (R443). -/
def rightOf (op : GlobalOp) : Nat :=
  match op with
  | .load _ => 0
  | .xread => 0
  | .copyRead _ => 0
  | .store _ _ => 1
  | .payload _ => 1
  | .copyWrite _ => 1
  | .atomic _ _ _ _ => 2
  | .xadd _ => 2
  | .flagStore _ => 3
  | .flagAdd _ => 3
/-- The reason for which the ingress rejects a request; 0 when it passes (R445). -/
def ingressReason (s : State) (q : FabricRequest) : Nat :=
  let t := q.token
  let f := fun (lo n : Nat) => t.toNat / 2 ^ lo % 2 ^ n
  let ia := q.ia.toNat
  let m := tokenMsg t q.src.toNat
  let code := t.extractLsb' 0 24
  if f 60 4 ≠ 0 then 1
  else if code ≠ mac s.fabric.keyA m && code ≠ mac s.fabric.keyB m then 2
  else if 2048 ≤ (f 24 12 + 4096 - epoch s) % 4096 then 3
  else if f 48 8 ≠ myPkg s || !(f 44 4 == 15 || f 44 4 == iaDie ia) || !(f 36 8 == 255 || f 36 8 == iaCol ia) then 4
  else if !t.getLsbD (56 + rightOf q.op) then 5
  else 0
/-- The current tick carries service flits (R304, R435). -/
def onService (s : State) : Bool := tickNow s % 8 == 7
/-- A request enters the package on a service tick: the ingress checks it, the home performs it, and a reply goes back. One
for another package's page is forwarded, accepted by the page's holder from its home alone, unchecked (R354, R363, R435, R436,
R445, R446, R451). -/
def execFabricRequestArrive (q : FabricRequest) (s : State) : Answer :=
  let f := s.fabric
  let r := ingressReason s q
  .next (if !onService s || 7 < iaDie q.ia.toNat || 159 < iaCol q.ia.toNat then s
    else if iaPkg q.ia.toNat ≠ myPkg s then
      match guestOf s q.ia.toNat with
      | some e => if q.src.toNat = iaPkg q.ia.toNat then performGuest q e s else s
      | none => s
    else if r ≠ 0 then
      { s with fabric := { f with ingCount := satAdd16 f.ingCount 1, ingReason := BitVec.ofNat 4 r,
                                  ingSpkg := q.src.zeroExtend 8, ingIa := q.ia, replies := f.replies ++ [(q, .denied 0)] } }
    else performForeign q s)
/-- A read of INGREJA clears COUNT (R446). -/
def execIngrejaRead (s : State) : Answer :=
  let f := s.fabric
  let v := BitVec.ofNat 64 (f.ingCount.toNat * 2 ^ 48 + f.ingReason.toNat * 2 ^ 44 + f.ingSpkg.toNat * 2 ^ 32)
  .next { s with fabric := { f with ingCount := 0 }, pkg := { s.pkg with mgmt := v } }
/-- A token minted for package q: its MAC is taken under KEYA, and the firmware returns it (R444). -/
def execGrantTokenMint (rights : BitVec 8) (region : BitVec 20) (expiry : BitVec 12) (pkg : BitVec 6) (s : State) : Answer :=
  let t := BitVec.ofNat 64 (rights.toNat * 2 ^ 56 + region.toNat * 2 ^ 36 + expiry.toNat * 2 ^ 24)
  .next { s with pkg := { s.pkg with mgmt := t ||| (mac s.fabric.keyA (tokenMsg t pkg.toNat)).zeroExtend 64 } }
/-- The package of a message is one of the placement that holds the object, or for kind 5 the group (R445, R453, R454). -/
def ofPlacement (s : State) (m : SyncMessage) : Bool :=
  let seq := if m.kind = 5 then (SMap.get {} s.groups (m.obj.toNat % 256)).plan else (SMap.get {} s.objs m.obj.toNat).plan
  m.pkg == s.fabric.topo.self || (findPlan s seq).any (fun p => (packagesOf s p).contains m.pkg.toNat)
/-- Ids that another package of the domain reserves or frees (R453, R454). -/
def farReserve (m : SyncMessage) (l : List (Nat × Nat)) : List (Nat × Nat) :=
  let e := (m.pkg.toNat, m.obj.toNat)
  l.filter (fun x => x != e) ++ (if m.status = 0 then [] else [e])
/-- A message reaches the fabric sync agent, which decides it; for an object whose agent is in another package, its decision
reaches this core: both on a service tick. A group's episode is complete in the other packages. Both only from packages of the
placement. Another package reserves or frees an id (R435, R445, R453, R454). -/
def execFabricSyncMessage (m : SyncMessage) (s : State) : Answer :=
  let r : Requester := { pkg := m.pkg, core := m.core, ctx := m.ctx }
  let x := getCtx s m.ctx
  let t := max m.tick (tickNow s)
  let home := objHome s m.obj.toNat
  let sent := fun (p : Access → Bool) => !isMine s r || x.out.any p
  .next (if m.kind = 6 then { s with fabric := { s.fabric with farObjs := farReserve m s.fabric.farObjs } }
    else if m.kind = 7 then { s with fabric := { s.fabric with farGroups := farReserve m s.fabric.farGroups } }
    else if !ofPlacement s m then s
    else if m.kind = 5 then othersDone (m.obj.toNat % 256) m.tick s
    else if !isSys s m.obj || !(onService s || (home && isMine s r)) then s
    else if m.kind = 2 || m.kind = 3 then
      let sh := m.kind == 3
      if !home then answerAcq r m.obj sh false m.status.toNat t s
      else if sent (acqOf m.obj sh false) then decideAcq m.obj r sh t s else s
    else if m.kind = 4 then
      if !home then answerRel r m.obj m.status.toNat t s
      else if sent (fun a => a.left.isSome && (match a.op with | .rel o _ => o == m.obj | _ => false)) then decideRel m.obj r t s else s
    else s)

end Sys2Proof.Machine
end

