-- ==== Sys2Proof/Machine/Supervisor.lean ====
section
/-! DEFINITION. The supervisor through management access: held contexts (05_context_traps.md R126, R127, R136), the end of
contexts and plans (R33, R398, R405), context records (R37), CLKCTL (R293, R294) and plain registers (R11). -/

namespace Sys2Proof.Machine

/-! Resumption (R126, R127) -/

/-- The supervisor resumes a held context at TPC: after an escalation, INH, NEST and NCAUSE are cleared; after PREEMPT, which
leaves TPC as it was, at PC (R33, R120, R126, R127, R131). Work that SYS 0 has ended is not resumed (R405). -/
def resumeTpc (c : CtxId) (s : State) : State :=
  let x := getCtx s c
  let b := x.bank
  let pc := if !b.nest && x.preHeld then b.pc else b.tpc
  if x.st ≠ .held || x.sysEnded then s
    else if b.nest then
      setCtx s c { x with st := .running, hold := s.cycle, restart := true,
                          bank := { b with pc := b.tpc, inh := false, nest := false, ncause := 0 } }
    else setCtx s c { x with st := .running, hold := s.cycle, restart := true, bank := { b with pc := pc } }
/-- SUPERVISOR_RESUME_TPC, once the die runs its supervisor (R126, R428). -/
def execSupervisorResumeTpc (c : CtxId) (s : State) : Answer := onDie s.myDie (resumeTpc c s) s
/-- The supervisor resumes the handler of a held context at PC (R127). -/
def resumePc (c : CtxId) (s : State) : State :=
  let x := getCtx s c
  if x.st = .held && x.bank.nest && x.bank.inh then
      setCtx s c { x with st := .running, hold := s.cycle, restart := false, bank := { x.bank with nest := false, ncause := 0 } }
    else s
/-- SUPERVISOR_RESUME_PC, once the die runs its supervisor (R127, R428). -/
def execSupervisorResumePc (c : CtxId) (s : State) : Answer := onDie s.myDie (resumePc c s) s

/-! Eviction and the end of a context (R33, R126, R133, R136, R315) -/

/-- A context that leaves its slot for the supervisor: its registered arrival is discarded, with a release that is not
part of an urgent stop (R315). -/
def leaveSlot (c : CtxId) (s : State) : State :=
  let x := getCtx s c
  let s1 := withPlan x.plan (fun s => { s with pbarTick := if x.arrived.isSome && s.stop.isNone then none else s.pbarTick })
    (setCtx s c { x with st := .unloading, arrived := none })
  if s1.stream.isSome then s1 else beginUnload c none s1
/-- The eviction of this context is the eviction of its plan on this core: it is the primary one, or none other of the
plan is in a slot. -/
def evictsPlan (s : State) (c : CtxId) : Bool :=
  let l := (planHere s (getCtx s c).plan).filter (fun d => d != c)
  (getCtx s c).primary || (!l.any (fun d => (getCtx s d).primary) && !l.any (fun d => inSlot (getCtx s d)))
/-- The banks of an evicted plan and the tiers recorded as they stood at T, and the open banks whose tRAS has passed
precharged (R136, R251). -/
def recordBanks (c : CtxId) (s : State) : State :=
  let x := getCtx s c
  let own := ownBanks s x.plan
  let (bs, ts) := x.held.getD (s.vault.banks, s.vault.tiers)
  let s1 := setCtx s c { x with saved := some (own.map (fun n => (n, SMap.get {} bs n)), ts), held := none }
  own.foldl (fun s n => if (getBank s.vault n).pre = 0 then precharge n s else s) s1
/-- The supervisor evicts a held context (R33, R126, R136). -/
def evictCtx (c : CtxId) (s : State) : State :=
  if (getCtx s c).st ≠ .held then s else leaveSlot c (if evictsPlan s c then recordBanks c s else s)
/-- SUPERVISOR_EVICT, once the die runs its supervisor (R126, R428). -/
def execSupervisorEvict (c : CtxId) (s : State) : Answer := onDie s.myDie (evictCtx c s) s
/-- The supervisor ends a held context that is not a primary one (R33, R405). -/
def endContext (c : CtxId) (s : State) : State :=
  let x := getCtx s c
  if x.st ≠ .held || x.primary then s else leaveSlot c (setCtx s c { x with ended := true })
/-- SUPERVISOR_END_CONTEXT, once the die runs its supervisor (R405, R428). -/
def execSupervisorEndContext (c : CtxId) (s : State) : Answer := onDie s.myDie (endContext c s) s
/-- A plan has banks recorded at an eviction, to be kept until its load (R136). -/
def parked (s : State) (n : Nat) : Bool := allCtx.any (fun c => (getCtx s c).saved.any (fun r => r.1.any (fun p => p.1 == n)))
/-- The banks of evicted plans: open ones are precharged once tRAS has passed, and one bank that is due is refreshed
(R136). -/
def execEvictedBankRefresh (s : State) : Answer :=
  let own := (List.range 64).filter (parked s)
  let s1 := own.foldl (fun s n => let b := getBank s.vault n; if b.state = stOPEN && b.pre = 0 then precharge n s else s) s
  .next (match own.find? (refreshOk s1) with
    | some n => refresh n s1
    | none => s1)

/-! The end of a plan (R126, R398, R405) -/

/-- The status that the end of a plan on account of a held context has: ABORTED and SYS_UNKNOWN from its SYS, TRAP from
its trap registers, and otherwise the one that the supervisor reports (R398, R405). -/
def endStatus (s : State) (c : CtxId) (given : LaunchStatus) : LaunchStatus :=
  let x := getCtx s c
  let core := BitVec.ofNat 32 (((findPlan s x.plan).bind (fun p => relCore p s.me)).getD 0xFFFFFFFF)
  let mk := fun (code : BitVec 16) (d0 d1 : Dbl) => ({ code := code, core := core, d0 := d0, d1 := d1 } : LaunchStatus)
  match heldBySys x with
  | some 0 => given
  | some 1 => mk 0x0001 (x.bank.getS 1) 0
  | some k => mk 0x0002 (BitVec.ofNat 64 k) x.bank.tpc
  | none => if given.code = 0x10 then mk 0x0010 x.bank.tcause x.bank.tval else given
/-- The supervisor ends the plan of a held context (R126, R395, R398). -/
def endPlan (c : CtxId) (status : LaunchStatus) (s : State) : State :=
  let x := getCtx s c
  let st := endStatus s c status
  if x.st ≠ .held || st.code = 0 || !runningCode st.code then s
    else match liveLaunch s x.plan with
      | some (k, l) => if l.st = .running then endLaunch k l st s else s
      | none => s
/-- SUPERVISOR_END_PLAN, once the die runs its supervisor (R126, R398, R428). -/
def execSupervisorEndPlan (c : CtxId) (status : LaunchStatus) (s : State) : Answer := onDie s.myDie (endPlan c status s) s

/-! Records (R37, R431) -/

/-- Status codes of a management access (R431): 0 OK, 1 NOT_AWAKE, 2 CTX_BUSY. -/
def mgmtStatus (n : BitVec 2) (s : State) : State := { s with pkg := { s.pkg with status := n } }
/-- A layer is ACTIVE or debug-awake (R431). -/
def layerOn (s : State) (l : DebugLayer) : Bool := !asleep s (l.core.toNat / 16) || s.pkg.awake.contains l
/-- A layer is asked to wake, or accessed, at the current tick (R432). -/
def stampLayer (layer : DebugLayer) (s : State) : State :=
  { s with pkg := { s.pkg with debugAt := s.pkg.debugAt.filter (fun p => p.1 != layer) ++ [(layer, tickNow s)] } }
/-- An access of a debug-awake layer (R432). -/
def touchLayer (layer : DebugLayer) (s : State) : State := if s.pkg.awake.contains layer then stampLayer layer s else s
/-- The layer of a core's mirror segment. -/
def mirrorLayer (core : BitVec 11) : DebugLayer := { core := core, vault := false }
/-- The supervisor writes bytes of a context's record (R37, R431). -/
def recordWrite (c : CtxId) (off : Nat) (bytes : List Byte) (s : State) : State :=
  if !layerOn s (mirrorLayer s.self) then mgmtStatus 1 s
    else if !recOpen (getCtx s c) || 0x40000 < off + bytes.length then mgmtStatus 2 s
    else mgmtStatus 0 (recWrite c off bytes (touchLayer (mirrorLayer s.self) s))
/-- CTX_RECORD_WRITE, once the die runs its supervisor (R37, R428, R431). -/
def execCtxRecordWrite (c : CtxId) (off : Nat) (bytes : List Byte) (s : State) : Answer := onDie s.myDie (recordWrite c off bytes s) s

/-! CLKCTL (R293, R294) -/

/-- A timed plan is RUNNING on this cluster. -/
def timedRunning (s : State) : Bool :=
  s.plans.any (fun p => p.timed && onCluster p s.myCluster && s.launches.any (fun l => l.2.seq == p.seq && l.2.st == .running))
/-- CLKCTL (R293). -/
def clkctl (k : Cluster) : Dbl :=
  BitVec.ofNat 64 (k.strc.toNat * 2 ^ 48 + (Config.fusedVset (k.dueFreq.getD k.freq)).toNat * 2 ^ 16 + b2n (k.lock && k.dueFreq.isNone) * 2 ^ 7 + (k.dueFreq.getD k.freq).toNat)
/-- A management write of FREQ: codes above 56 are ignored, and while a timed plan runs the write is held (R293, R294). -/
def freqWrite (v : Dbl) (s : State) : State :=
  let f := v.extractLsb' 0 6
  if 56 < f.toNat then s
    else if timedRunning s then { s with cluster := { s.cluster with heldFreq := some f } }
    else dueFreq f s
/-- A management write of CLKCTL (R293, R294, R428). -/
def execClkctlWrite (v : Dbl) (s : State) : Answer := onDie s.myDie (freqWrite v s) s
/-- A read of CLKCTL clears STRC (R293). -/
def execClkctlRead (s : State) : Answer :=
  .next { s with pkg := { s.pkg with mgmt := clkctl s.cluster }, cluster := { s.cluster with strc := 0 } }

/-! Plain registers (R11, R37, R126, R267, R298, R349, R352, R353, R433, R443) -/

/-- A register of a held context (R126). -/
def heldWrite (c : CtxId) (f : Bank → Bank) (s : State) : State :=
  let x := getCtx s c
  if x.st = .held then setCtx s c { x with bank := f x.bank } else s
/-- A range register of a context (R349, R443). -/
def rangeWrite (c : CtxId) (f : Ctx → Ctx) (s : State) : State := setCtx s c (f (getCtx s c))
/-- Bits of an entry of a home table that software writes (R353). -/
def entryMask : Dbl := 0xF8FF01FFFFC00000
/-- What a management write of an entry leaves (R353): HPKG stays while REM is 1. -/
def entryWrite (old v : Dbl) : Dbl :=
  let m := if old.getLsbD 57 then entryMask &&& 0xFFFFFE0000000000 else entryMask
  (old &&& ~~~m) ||| (v &&& m)
/-- A held context's vector registers (R126). -/
def heldVec (c : CtxId) (f : Ctx → Ctx) (s : State) : State :=
  let x := getCtx s c
  if x.st = .held then setCtx s c (f x) else s
/-- A 64-bit word of a wide value replaced. -/
def withWord {n : Nat} (v : BitVec n) (w : Nat) (d : Dbl) : BitVec n :=
  (v &&& ~~~((BitVec.allOnes 64).zeroExtend n <<< (64 * w))) ||| (d.zeroExtend n <<< (64 * w))
/-- What a management write does to a register; one that is read-only stays as it is (R11, R37, R126). -/
def mgmtWrite (r : MgmtReg) (v : Dbl) (s : State) : State :=
  match r with
  | .rga c k => rangeWrite c (fun x => { x with rga := SMap.set 0 x.rga k.toNat (v &&& 0xC00FFFFFFFFF0000) }) s
  | .rgb c k => rangeWrite c (fun x => { x with rgb := SMap.set 0 x.rgb k.toNat v }) s
  | .rgc c k => rangeWrite c (fun x => { x with rgc := SMap.set 0 x.rgc k.toNat v }) s
  | .heldPc c => heldWrite c (fun b => { b with pc := v }) s
  | .heldTpc c => heldWrite c (fun b => { b with tpc := v }) s
  | .heldScalar c i => heldWrite c (fun b => { b with s := SMap.set 0 b.s i.toNat v }) s
  | .heldPreds c => heldWrite c (fun b => { b with p := v.extractLsb' 0 32 ||| 1 }) s
  | .heldMask c i => heldWrite c (fun b => if i = 0 then b else { b with k := SMap.set 0 b.k i.toNat v }) s
  | .heldMparam c i => heldWrite c (fun b => { b with m := SMap.set 0 b.m i.toNat v }) s
  | .heldCreg c i => heldWrite c (fun b => cregWrite b i v) s
  | .heldShape c i w => heldWrite c (fun b => { b with h := SMap.set 0 b.h i.toNat (withWord (SMap.get 0 b.h i.toNat) w.toNat v) }) s
  | .heldRow c i w => heldVec c (fun x =>
      let r := SMap.get {} x.v i.toNat
      { x with v := SMap.set {} x.v i.toNat { r with data := withWord r.data w.toNat v } }) s
  | .heldRowTag c i => heldVec c (fun x =>
      { x with v := SMap.set {} x.v i.toNat { SMap.get {} x.v i.toNat with tag := v.extractLsb' 0 4 } }) s
  | .heldLatch c i w => heldVec c (fun x =>
      let r := SMap.get {} x.z i.toNat
      { x with z := SMap.set {} x.z i.toNat { r with data := withWord r.data w.toNat v } }) s
  | .heldLatchTag c i => heldVec c (fun x =>
      { x with z := SMap.set {} x.z i.toNat { SMap.get {} x.z i.toNat with tag := v.extractLsb' 0 4 } }) s
  | .heldDist c i w => heldVec c (fun x =>
      let r := SMap.get {} x.d i.toNat
      { x with d := SMap.set {} x.d i.toNat { r with data := withWord r.data w.toNat v } }) s
  | .heldDistTag c i => heldVec c (fun x =>
      { x with d := SMap.set {} x.d i.toNat { SMap.get {} x.d i.toNat with tag := v.extractLsb' 0 4 } }) s
  | .heldDistSet c i => heldVec c (fun x =>
      { x with d := SMap.set {} x.d i.toNat { SMap.get {} x.d i.toNat with sset := v.extractLsb' 0 32, lin := v.extractLsb' 32 32 } }) s
  | .errorRecord => { s with error := v &&& 0xFFFFFFFF00000000 ||| s.error &&& 0xFFFFFFFF }
  | .svcbud => { s with cluster := { s.cluster with budget := v.extractLsb' 0 24 } }
  | .homeEntry core idx =>
    if layerOn s (mirrorLayer core) then
      mgmtStatus 0 (touchLayer (mirrorLayer core) (putEntry core.toNat idx.toNat (entryWrite (entryAt s core.toNat idx.toNat) v) s))
    else mgmtStatus 1 s
  | .overrun w =>
    let m : BitVec 256 := v.zeroExtend 256 <<< (64 * w.toNat)
    mapBox 0 (fun b => { b with overrun := b.overrun &&& ~~~m }) s
  | .htinv _ => s
  | .rprec _ => s
  | .harv _ => s
  | .capability _ => s
  | .blackBox _ => s
  | .account _ => s
  | .overhead => s
  | .ingrejb => s
  | .busgate cl => busgateWrite cl.toNat v s
  | .packageStatus => s
  | .blackBoxOf d w =>
    if 8 ≤ w.toNat && w.toNat < 12 then
      let m : BitVec 256 := v.zeroExtend 256 <<< (64 * (w.toNat - 8))
      mapBox d.toNat (fun b => { b with overrun := b.overrun &&& ~~~m }) s
    else s
/-- The die whose supervisor writes a register (R126, R353, R406, R433). -/
def regDie (s : State) (r : MgmtReg) : Nat :=
  match r with
  | .homeEntry core _ => core.toNat / 160
  | .busgate cl => cl.toNat / 10
  | .blackBoxOf d _ => d.toNat
  | .overrun _ => 0
  | _ => s.myDie
/-- A management write (R11, R428). -/
def execMgmtRegisterWrite (r : MgmtReg) (v : Dbl) (s : State) : Answer := onDie (regDie s r) (mgmtWrite r v s) s

end Sys2Proof.Machine
end

