-- ==== Sys2Proof/Machine/Power.lean ====
section
/-! DEFINITION. Power states (17_die.md R320, R322), the power manager, energy accounts, the companion link, boot,
attestation, debug access and reset (24_package_system.md R422 to R434), and the launch window (21 R392). -/

namespace Sys2Proof.Machine

/-! Clusters and dies (R320, R322) -/

/-- The power state of a cluster put in its place. -/
def setCluster (cl : Nat) (p : PowerSt) (s : State) : State :=
  { s with pkg := { s.pkg with clusters := SMap.set .active s.pkg.clusters cl p } }
/-- The power state of a die put in its place. -/
def setDie (d : Nat) (p : PowerSt) (s : State) : State :=
  { s with pkg := { s.pkg with dies := SMap.set .active s.pkg.dies d p } }
/-- A gated station's receiver has no lock (R327). -/
def dropLock (cl : Nat) (s : State) : State :=
  { s with buses := [0, 1, 2, 3].foldl (fun m b => SMap.set {} m b { SMap.get {} m b with lock := (SMap.get {} m b).lock &&& ~~~(1#80 <<< cl) }) s.buses }
/-- A layer of a cluster is debug-awake (R432). -/
def debugOn (s : State) (cl : Nat) : Bool := s.pkg.awake.any (fun l => l.core.toNat / 16 == cl)
/-- A cluster is GATED from the current tick on (R403). -/
def gateAtTick (cl : Nat) (s : State) : State :=
  let s1 := setCluster cl .gated s
  { s1 with pkg := { s1.pkg with gatedAt := SMap.put s1.pkg.gatedAt cl (tickNow s) } }
/-- Ticks from which a cluster has held no plan state, and has been GATED (R403). -/
def idleSince (s : State) (cl : Nat) : Nat := SMap.get s.pkg.resetAt s.pkg.idleAt cl
/-- See idleSince. -/
def gatedSince (s : State) (cl : Nat) : Nat := SMap.get s.pkg.resetAt s.pkg.gatedAt cl
/-- The distributor gates a cluster that has held no plan state for 65,536 ticks (R322, R403, R432). -/
def execClusterGate (cl : BitVec 7) (s : State) : Answer :=
  let c := cl.toNat
  .next (if 80 ≤ c || clusterSt s c ≠ .active || (holding s).any (fun p => onCluster p c) || debugOn s c ||
      decide (tickNow s < idleSince s c + 65536) then s
    else dropLock c (gateAtTick c s))
/-- A gated cluster begins to wake (R322). -/
def execClusterWake (cl : BitVec 7) (s : State) : Answer := .next (if 80 ≤ cl.toNat then s else wakeCluster cl.toNat s)
/-- A range of memory with given bytes in place of what it held. -/
def memFresh (m : List Host.Cell) (a n : Nat) (f : Nat → Byte) : List Host.Cell :=
  m.filter (fun p => decide (p.1 < a)) ++
    ((List.range n).filterMap (fun i => if f i = unlisted then none else some (a + i, f i)) ++
      m.filter (fun p => decide (a + n ≤ p.1)))
/-- The scratchpads of a cluster hold free bytes (R322, log 11). -/
def freeScratch (cl : Nat) (s : State) : State :=
  { s with mem := (List.range 16).foldl (fun m i =>
      memFresh m (keyScratch (16 * cl + i) 0) (2 ^ 19) (fun a => Config.freeByte s.free (2 ^ 19 * i + a))) s.mem,
           free := s.free + 1 }
/-- A waking cluster is ACTIVE, 18 µs after its wake began: its scratchpads hold undefined bytes and every tag is idle (R322). -/
def execClusterWakeDone (cl : BitVec 7) (s : State) : Answer :=
  let c := cl.toNat
  .next (if clusterSt s c ≠ .waking || tickNow s < SMap.get 0 s.pkg.wakeAt c + 18000 then s
    else
      let s1 := freeScratch c (setCluster c .active s)
      if c = s.myCluster then { s1 with tags := [] } else s1)
/-- A die all of whose clusters have been GATED for 65,536 ticks is gated (R322, R403). -/
def execDieGate (d : BitVec 3) (s : State) : Answer :=
  let n := d.toNat
  .next (if dieDown s n || !(List.range 10).all (fun i => clusterSt s (10 * n + i) == .gated &&
      decide (gatedSince s (10 * n + i) + 65536 ≤ tickNow s)) then s else setDie n .gated s)
/-- A gated die begins to wake (R322). -/
def execDieWake (d : BitVec 3) (s : State) : Answer := .next (wakeDie d.toNat s)
/-- The bus stations of our die are idle, and so is its barrier unit (R322). -/
def idleStations (s : State) : State :=
  { s with buses := s.buses.map (fun p => (p.1, { p.2 with txq := [], late := [], air := [], sending := false, quiet := none, quietNext := false, mpend := false })),
           pbarTick := none }
/-- A waking die is ON, 120 µs after its wake began, every cluster of it GATED; the clusters that a PLACING launch needs begin to wake (R322, R395). -/
def execDieWakeDone (d : BitVec 3) (s : State) : Answer :=
  let n := d.toNat
  .next (if SMap.get .active s.pkg.dies n ≠ .waking || tickNow s < SMap.get 0 s.pkg.dieWakeAt n + 120000 then s
    else
      let s1 := (List.range 10).foldl (fun s i => gateAtTick (10 * n + i) s) (setDie n .active s)
      let s2 := if n = s.myDie then idleStations s1 else s1
      (s2.launches.filter (fun p => p.2.st == .placing)).foldl (fun s p => wakeFor p.2.clusters s) s2)
/-- An in-field test re-enables a retired column (R320). -/
def execColumnReenable (core : BitVec 11) (s : State) : Answer :=
  .next { s with pkg := { s.pkg with retired := s.pkg.retired.filter (fun c => c != core.toNat) },
                 retired := s.retired && core != s.self }

/-! The harvest and management registers (R319, R321, R357, R430) -/

/-- The held bits 15:0 of a cluster: its enabled columns (R321). -/
def enBits (s : State) (cl : Nat) : Nat := (List.range 16).foldl (fun m i => m + b2n (enabled s (16 * cl + i)) * 2 ^ i) 0
/-- HARV of a cluster (R321). -/
def harvReg (s : State) (cl : Nat) : Dbl :=
  let pwr := match clusterSt s cl with | .active => 0 | .gated => 1 | .waking => 2
  let retd := s.pkg.retired.any (fun c => c / 16 == cl)
  BitVec.ofNat 64 (pwr * 2 ^ 18 + b2n retd * 2 ^ 17 + b2n (complete s cl) * 2 ^ 16 + enBits s cl)
/-- The complete clusters of a die, ascending (R320). -/
def completeOf (s : State) (d : Nat) : List Nat := ((List.range 10).map (fun x => 10 * d + x)).filter (complete s)
/-- The clusters counted toward NGUAR: of each die the first nine complete ones; the spec does not say which nine of ten
(R321, R430, log 67). -/
def guaranteed (s : State) : List Nat := (List.range 8).flatMap (fun d => (completeOf s d).take 9)
/-- NGUAR (R321). -/
def nguar (s : State) : Nat := (guaranteed s).length
/-- NFURTH (R321). -/
def nfurth (s : State) : Nat := ((List.range 80).filter (complete s)).length - nguar s
/-- Clusters as the bits of COMPL and GUARM (R430). -/
def clusterBits (l : List Nat) : Nat := l.foldl (fun m c => m + 2 ^ c) 0
/-- The capability record: 256 bytes, as the enabled columns give it (R1, R182, R430; log 67). -/
def capBytes (s : State) : List Byte :=
  let en := (List.range 80).flatMap (fun cl => leBytes 2 (enBits s cl))
  leBytes 4 1 ++ leBytes 4 s.pkg.rev.toNat ++ leBytes 8 s.pkg.serial.toNat ++ leBytes 2 (nguar s) ++ leBytes 2 (nfurth s) ++
    leBytes 1 (b2n (decide (nguar s < 72))) ++ leBytes 1 (min 56 Config.fmax) ++ leBytes 2 0 ++
    leBytes 16 (clusterBits ((List.range 80).filter (complete s))) ++ leBytes 16 (clusterBits (guaranteed s)) ++ leBytes 8 0 ++
    [9, 8, 9, 0] ++ leBytes 4 1 ++ en ++ leBytes 24 0
/-- RPREC of a placement (R319). -/
def rprecOf (s : State) (seq : Nat) : Dbl := rprec (useGate (recOf s seq) s)
/-- A word of 64 bits of a wide value, and the value with that word replaced. -/
def wordOf {n : Nat} (v : BitVec n) (w : Nat) : Dbl := v.extractLsb' (64 * w) 64
/-- A 64-bit word of an entry of the black box (R434). -/
def entryWord (e : BBEntry) (w : Nat) : Dbl :=
  match w with
  | 0 => BitVec.ofNat 64 e.tick
  | 1 => BitVec.ofNat 64 (e.seq.toNat * 2 ^ 32 + e.src.toNat * 2 ^ 21 + e.kind.toNat * 2 ^ 8)
  | 2 => e.d0
  | 3 => e.d1
  | _ => 0
/-- A 64-bit word of the black-box record (R433). -/
def bbWord (b : BlackBox) (w : Nat) : Dbl :=
  match w with
  | 0 => BitVec.ofNat 64 b.next
  | 1 => BitVec.ofNat 64 b.wraps
  | 2 => BitVec.ofNat 64 b.resets
  | _ =>
    if w < 8 then 0
    else if w < 12 then wordOf b.overrun (w - 8)
    else if w < 16 then 0
    else ((b.ring.find? (fun p => p.1 == (w - 16) / 8)).map (fun p => entryWord p.2 ((w - 16) % 8))).getD 0
/-- The package status word: bit d is RECOVERY of die d; the spec gives the word no layout (R428, log 84). -/
def packageStatus (s : State) : Dbl := (~~~s.pkg.boot).zeroExtend 64
/-- A register as a management read returns it (R11, R126, R267, R298, R319, R321, R349, R353, R357, R426, R430, R433, R443,
R446). -/
def mgmtRead (s : State) (r : MgmtReg) : Dbl :=
  let b := fun (c : CtxId) => (getCtx s c).bank
  match r with
  | .rga c k => SMap.get 0 (getCtx s c).rga k.toNat
  | .rgb c k => SMap.get 0 (getCtx s c).rgb k.toNat
  | .rgc c k => SMap.get 0 (getCtx s c).rgc k.toNat
  | .heldPc c => (b c).pc
  | .heldTpc c => (b c).tpc
  | .heldScalar c i => (b c).getS i
  | .heldPreds c => (b c).p.zeroExtend 64
  | .heldMask c i => (b c).getK i
  | .heldMparam c i => (b c).getM i
  | .heldCreg c i => cregRead (getCtx s c) c (b c).pc i
  | .heldShape c i w => wordOf (SMap.get 0 (b c).h i.toNat) w.toNat
  | .heldRow c i w => wordOf (SMap.get {} (getCtx s c).v i.toNat).data w.toNat
  | .heldRowTag c i => (SMap.get {} (getCtx s c).v i.toNat).tag.zeroExtend 64
  | .heldLatch c i w => wordOf (SMap.get {} (getCtx s c).z i.toNat).data w.toNat
  | .heldLatchTag c i => (SMap.get {} (getCtx s c).z i.toNat).tag.zeroExtend 64
  | .heldDist c i w => wordOf (SMap.get {} (getCtx s c).d i.toNat).data w.toNat
  | .heldDistTag c i => (SMap.get {} (getCtx s c).d i.toNat).tag.zeroExtend 64
  | .heldDistSet c i => (SMap.get {} (getCtx s c).d i.toNat).lin ++ (SMap.get {} (getCtx s c).d i.toNat).sset
  | .errorRecord => s.error
  | .svcbud => BitVec.ofNat 64 (s.cluster.used.toNat * 2 ^ 32 + s.cluster.budget.toNat)
  | .homeEntry core idx => entryAt s core.toNat idx.toNat
  | .overrun w => wordOf (boxOf s 0).overrun w.toNat
  | .htinv core => htinvReg (SMap.get {} s.home.htinv core.toNat)
  | .rprec seq => rprecOf s seq
  | .blackBox w => bbWord s.blackBox w.toNat
  | .account n => BitVec.ofNat 64 (SMap.get 0 s.pkg.accounts n.toNat / 1000)
  | .overhead => BitVec.ofNat 64 (s.pkg.overhead / 1000)
  | .ingrejb => s.fabric.ingIa.zeroExtend 64
  | .harv cl => harvReg s cl.toNat
  | .busgate cl => (gateReg s cl.toNat).zeroExtend 64
  | .packageStatus => packageStatus s
  | .blackBoxOf d w => bbWord (boxOf s d.toNat) w.toNat
  | .capability w => BitVec.ofNat 64 (leNat (((capBytes s).drop (8 * w.toNat)).take 8))

/-! Power and heat (R422, R423) -/

/-- The black-box entry of a rail event (R434). -/
def railEvent (watts : Nat) (s : State) : State :=
  blackBox s 6 (BitVec.ofNat 11 (16 * s.myCluster)) 0 (BitVec.ofNat 64 watts) (s.cluster.freq.zeroExtend 64)
/-- A 1 ms power window ends, 1 ms after the last (R422). -/
def execPowerWindow (watts : Nat) (s : State) : Answer :=
  let p := { s.pkg with winAt := some (match s.pkg.winAt with | some t => t + 1000000 | none => tickNow s) }
  .next (if !s.pkg.winAt.all (fun t => decide (t + 1000000 ≤ tickNow s)) then s
    else if 1800 < watts then
      let s1 := { s with pkg := { p with overLimit := true, overTicks := p.overTicks + 1000000,
                                         noTimed := p.noTimed || decide (10000000 ≤ p.overTicks + 1000000) } }
      let s2 := if p.overLimit then s1 else railEvent watts s1
      if s1.pkg.noTimed && !p.noTimed then railEvent watts s2 else s2
    else { s with pkg := { p with overLimit := false, overTicks := 0, noTimed := p.noTimed && decide (1700 ≤ watts) } })
/-- Over the limit, FREQ of a cluster that runs no timed plan falls by one step, 10 µs after the last one (R422). -/
def execPowerFreqStep (s : State) : Answer :=
  let f := s.cluster.dueFreq.getD s.cluster.freq
  .next (if s.pkg.overLimit && !timedRunning s && f ≠ 0 && s.pkg.stepAt.all (fun t => decide (t + 10000 ≤ tickNow s)) then
      dueFreq (f - 1) { s with pkg := { s.pkg with stepAt := some (tickNow s) } }
    else s)
/-- The package resets: what reset keeps is host memory and the other memories' bytes, the black box but for RESETS, the
retirement record, the identity and keys of the package, the accounts, and the counters that are the model's own (R320,
R423, R427, R428, R433; log 8). -/
def resetPackage (s : State) : State :=
  let r := State.reset
  { r with
    self := s.self, cycle := s.cycle, time := s.time, seq := s.seq, nextId := s.nextId, free := s.free, agenda := s.agenda,
    mem := s.mem, hostImages := s.hostImages, retired := s.retired, blackBox := { s.blackBox with resets := s.blackBox.resets + 1 },
    boxes := (List.range 8).map (fun d => (d, { SMap.get {} s.boxes d with resets := (boxOf s d).resets + 1 })),
    fabric := { s.fabric with ports := [], ingCount := 0, ingReason := 0, ingSpkg := 0, ingIa := 0, replies := [], forwards := [], unreachable := [] },
    pkg := { r.pkg with boot := 0, inReset := true, resetAt := tickNow s, rev := s.pkg.rev, serial := s.pkg.serial, accounts := s.pkg.accounts,
                        overhead := s.pkg.overhead, disabled := s.pkg.disabled, retired := s.pkg.retired } }
/-- A junction sensor reads 115 °C or more: the last entry before the reset, and the reset (R423). -/
def execThermalTrip (die : BitVec 3) (reading : Nat) (s : State) : Answer :=
  .next (if reading < 1150 then s
    else resetPackage (blackBox s 7 (BitVec.ofNat 11 (160 * die.toNat)) 0 (die.zeroExtend 64) (BitVec.ofNat 64 reading)))

/-! Energy (R425, R426) -/

/-- The device overhead account charged (R425, R426). -/
def chargeDevice (n : Nat) (s : State) : State := { s with pkg := { s.pkg with overhead := s.pkg.overhead + n } }
/-- A launch charged, once it is past validation (R425, R426). -/
def chargeLaunch (seq n : Nat) (s : State) : State :=
  match liveLaunch s seq with
  | some (k, l) => if l.st = .waiting then chargeDevice n s else { s with launches := SMap.put s.launches k { l with nj := l.nj + n } }
  | none => chargeDevice n s
/-- Energy divided by weights, the remainder to the lowest SEQ (R425). -/
def chargeParts (ws : List (Nat × Nat)) (n : Nat) (s : State) : State :=
  let sum := ws.foldl (fun m w => m + w.2) 0
  if sum = 0 then chargeDevice n s
  else
    let low := ws.foldl (fun m w => min m w.1) (ws.headD (0, 0)).1
    let rest := n - ws.foldl (fun m w => m + n * w.2 / sum) 0
    chargeLaunch low rest (ws.foldl (fun s w => chargeLaunch w.1 (n * w.2 / sum) s) s)
/-- One part of an interval charged (R425, R426). -/
def charge (s : State) (p : EnergyPart) : State :=
  match p with
  | .issued seq n => chargeLaunch seq n s
  | .idle core n => chargeParts ((s.plans.filter (fun p => (resOf p core.toNat).isSome)).map (fun p => (p.seq, 1))) n s
  | .streams seq n => chargeLaunch seq n s
  | .ballast falls n => chargeParts falls n s
  | .device n => chargeDevice n s
  | .debug _ n => chargeDevice n s
/-- A metered interval of 1 µs is divided (R425). -/
def execEnergyInterval (parts : List EnergyPart) (s : State) : Answer := .next (parts.foldl charge s)

/-! The companion link, boot, attestation (R392, R427 to R429, R433) -/

/-- The link is lost, and host accesses wait (R427). -/
def execEbpinRetrainingStart (s : State) : Answer :=
  .next { s with pkg := { s.pkg with ebpinAt := if s.pkg.ebpinDown then s.pkg.ebpinAt else tickNow s, ebpinDown := true } }
/-- Retraining succeeds: the completion parts that waited are written, and accesses that waited go on in order (R427). -/
def execEbpinRetrainingDone (s : State) : Answer :=
  let p := { s.pkg with ebpinDown := false, ebpinOrd := if s.pkg.ebpinDown then s.nextId else s.pkg.ebpinOrd, hostOut := [] }
  .next { s with mem := s.pkg.hostOut.foldl (fun m w => memWrite m w.1 w.2) s.mem, pkg := p }
/-- Retraining has failed for 100 ms (R427). -/
def execEbpinRetrainTimeout (s : State) : Answer :=
  .next (if s.pkg.ebpinDown && s.pkg.ebpinAt + 100000000 ≤ tickNow s then resetPackage (blackBox s 11 0 0 0 0) else s)
/-- The package resets, if it has not yet, and each die's boot ROM checks its firmware: a set bit is a die that boots
(R428). -/
def execPackageReset (digestsOk : BitVec 8) (s : State) : Answer :=
  let s1 := if s.pkg.inReset then s else resetPackage s
  .next { s1 with pkg := { s1.pkg with boot := digestsOk, inReset := false } }
/-- A signed attestation report for a nonce of 64 bytes (R429). -/
def execAttestRequest (nonce : List Byte) (s : State) : Answer :=
  .next (if nonce.length ≠ 64 then s
    else
      let r := Config.report nonce ((List.range 8).map Config.firmwareDigest) (sha512 (capBytes s)) s.blackBox.resets Config.signingKeys
      { s with pkg := { s.pkg with attest := (List.range Config.reportLen).map r } })
/-- The companion registers the launch window (R392). -/
def execLaunchWindowRegister (base : Nat) (s : State) : Answer :=
  .next (if base % 2 ^ 17 = 0 && base + 2 ^ 17 ≤ 2 ^ 52 then { s with pkg := { s.pkg with window := some base } } else s)
/-- Package power is lost, and with it all but host memory and what is fused or recorded for good (R320, R433). -/
def execPackagePowerLoss (s : State) : Answer :=
  let r := State.reset
  .next { r with self := s.self, free := s.free, mem := s.mem.filter (fun c => decide (keyHost 0 ≤ c.1)), hostImages := s.hostImages,
                 retired := s.retired, pkg := { r.pkg with powered := false, rev := s.pkg.rev, serial := s.pkg.serial,
                                                           disabled := s.pkg.disabled, retired := s.pkg.retired } }

/-! Debug access (R431, R432) -/

/-- Key of a byte of a layer. -/
def layerKey (l : DebugLayer) (off : Nat) : Nat := if l.vault then keyVault l.core.toNat 0 0 off else keyMirror l.core.toNat off
/-- Bytes of a layer (R1). -/
def layerSize (l : DebugLayer) : Nat := if l.vault then 2 ^ 30 else 2 ^ 24
/-- An offset of a layer lies among the context records (R35). -/
def inRecords (l : DebugLayer) (off : Nat) : Bool := !l.vault && decide (0xC00000 ≤ off)
/-- The context and the offset of a byte of a record on this core (R35). -/
def recordByte (s : State) (l : DebugLayer) (off : Nat) : Option (CtxId × Nat) :=
  if l.core == s.self && inRecords l off then some (BitVec.ofNat 4 ((off - 0xC00000) / 0x40000), off % 0x40000) else none
/-- The core of a layer is halted: no context of it runs. Of the other cores the event's core operand tells it (R431, log 83). -/
def halted (s : State) (l : DebugLayer) : Bool :=
  l.core != s.self || allCtx.all (fun c => let t := (getCtx s c).st; t != .running && t != .blocked && t != .loading && t != .unloading)
/-- The debugger reads or writes one byte of a layer of a halted core; busy tells that the context of a record of another core
is one that R37 forbids (R37, R431, R432, log 83). -/
def execDebugAccess (layer : DebugLayer) (off : Nat) (wr : Option Byte) (s : State) (busy : Bool := false) : Answer :=
  .next (if 1280 ≤ layer.core.toNat || layerSize layer ≤ off || !halted s layer then s
    else if !layerOn s layer then mgmtStatus 1 s
    else if busy && layer.core != s.self && inRecords layer off then mgmtStatus 2 (touchLayer layer s)
    else
      let s := touchLayer layer s
      match recordByte s layer off with
      | some (c, o) =>
        if !recOpen (getCtx s c) then mgmtStatus 2 s
        else match wr with
          | some b => mgmtStatus 0 (recSet c o b s)
          | none => mgmtStatus 0 { s with pkg := { s.pkg with mgmt := (recByte s c o).zeroExtend 64 } }
      | none => match wr with
        | some b => mgmtStatus 0 { s with mem := memSet s.mem (layerKey layer off) b }
        | none => mgmtStatus 0 { s with pkg := { s.pkg with mgmt := (memGet s.mem (layerKey layer off)).zeroExtend 64 } })
/-- A vault refreshes itself: its layer is not awake. While it is awake its own agent refreshes it, and at the return to
retention it goes back to refreshing itself (R322, R432). -/
def selfRefresh (s : State) (core : BitVec 11) : Bool := !layerOn s { core := core, vault := true }
/-- A layer begins to wake for the debugger (R432). -/
def execDebugWake (layer : DebugLayer) (s : State) : Answer :=
  .next (if layerOn s layer || s.pkg.waking.contains layer || 1280 ≤ layer.core.toNat then s
    else stampLayer layer { s with pkg := { s.pkg with waking := s.pkg.waking ++ [layer] } })
/-- The tick of a layer's wake request or last access (R432). -/
def layerTick (s : State) (layer : DebugLayer) : Nat := ((s.pkg.debugAt.find? (fun p => p.1 == layer)).map (·.2)).getD 0
/-- A layer is debug-awake, 20 µs after the request (R432). -/
def execDebugWakeDone (layer : DebugLayer) (s : State) : Answer :=
  .next (if s.pkg.waking.contains layer && layerTick s layer + 20000 ≤ tickNow s then
      stampLayer layer { s with pkg := { s.pkg with waking := s.pkg.waking.filter (fun l => l != layer), awake := s.pkg.awake ++ [layer] } }
    else s)
/-- A layer returns to retention (R432). -/
def toRetention (layer : DebugLayer) (s : State) : State :=
  { s with pkg := { s.pkg with awake := s.pkg.awake.filter (fun l => l != layer) } }
/-- The debugger releases a layer (R432). -/
def execDebugRelease (layer : DebugLayer) (s : State) : Answer := .next (toRetention layer s)
/-- A debug-awake layer without an access for 1 s (R432). -/
def execDebugIdleTimeout (layer : DebugLayer) (s : State) : Answer :=
  .next (if layerTick s layer + 1000000000 ≤ tickNow s then toRetention layer s else s)

end Sys2Proof.Machine
end

