-- ==== Sys2Proof/Machine/Special.lean ====
section
/-! DEFINITION. The special functions of R166, correctly rounded: each value is bracketed between two integers over
2^256 that are computed with a stated error bound, and rounded once (log 15). -/

namespace Sys2Proof.Machine

/-- Fraction bits of the fixed-point work. -/
def spP : Nat := 256
/-- floor(2^256 × ln 2). -/
def ln2Fix : Nat := 0xb17217f7d1cf79abc9e3b39803f2f6af40f343267298b62d8a0d175b8baafa2b
/-- Half width of a bracket, in units of 2^-256: more than the sum of all truncations. -/
def spErr : Nat := 2 ^ 20
/-- Guard bits dropped from a bracket. -/
def spGuard : Nat := 32

/-- A positive value of w / 2^256 × 2^e with an error below spErr, as an exact value with a sticky bit. Where the
bracket does not fix the truncation, a free value chooses it (log 15). -/
def bracket (neg : Bool) (w : Nat) (e : Int) : Ex :=
  let lo := (w - spErr) / 2 ^ spGuard
  let hi := (w + spErr) / 2 ^ spGuard
  { neg := neg, man := if lo = hi then lo else lo + Config.freeDigits w % (hi - lo + 1),
    exp := e - spP + spGuard, sticky := true }

/-- Taylor terms of exp: sum from term k on, with fuel. -/
def expTerms (y : Nat) : Nat → Nat → Nat → Nat
  | 0, _, _ => 0
  | fuel + 1, k, t => t + expTerms y fuel (k + 1) (t * y / 2 ^ spP / k)

/-- 2^g × 2^256 for a fraction g / 2^256 below 1, with an error below 256 units. -/
def exp2Fix (g : Nat) : Nat := expTerms (g * ln2Fix / 2 ^ spP) 70 1 (2 ^ spP)

/-- Terms z^(2k+1) / (2k+1) of the inverse hyperbolic tangent. -/
def atanhTerms (z2 : Nat) : Nat → Nat → Nat → Nat
  | 0, _, _ => 0
  | fuel + 1, k, p => p / k + atanhTerms z2 fuel (k + 2) (p * z2 / 2 ^ spP)

/-- log2(c) × 2^256 for c = m / 2^b between 1 and 2, with an error below 4,096 units. -/
def log2Fix (m b : Nat) : Nat :=
  let z := (m - 2 ^ b) * 2 ^ spP / (m + 2 ^ b)
  2 * atanhTerms (z * z / 2 ^ spP) 90 1 z * 2 ^ spP / ln2Fix

/-- 2^x of a finite value (R166). -/
def exp2V (neg : Bool) (m : Nat) (e : Int) : Ex :=
  -- x = ip + g / 2^s with 0 ≤ g < 2^s
  let s : Nat := (-e).toNat
  let mag := m * 2 ^ e.toNat
  let v : Int := sgn neg mag
  let ip : Int := v / (2 ^ s : Nat)
  let g : Nat := (v % (2 ^ s : Nat)).toNat
  let n : Int := if ip > 2000 then 2000 else if ip < -2000 then -2000 else ip
  if g = 0 then { neg := false, man := 1, exp := n }
  else bracket false (exp2Fix (g * 2 ^ (spP - s))) n

/-- log2 of a positive finite value other than a power of two, else its exact exponent (R166). -/
def log2V (m : Nat) (e : Int) : Ex :=
  let b := Nat.log2 m
  let ip : Int := e + b
  if m = 2 ^ b then { neg := ip < 0, man := ip.natAbs, exp := 0 }
  else
    let v : Int := ip * (2 ^ spP : Nat) + log2Fix m b
    bracket (v < 0) v.natAbs 0

/-- tanh of a positive finite value (R166). -/
def tanhV (neg : Bool) (m : Nat) (e : Int) : Ex :=
  let top : Int := e + Nat.log2 m
  if top < -70 then { neg := neg, man := m * 2 ^ 100 - 1, exp := e - 100, sticky := true }
  else if top ≥ 6 then { neg := neg, man := 2 ^ 150 - 1, exp := -150, sticky := true }
  else
    let y := m * 2 ^ (e + 1 + spP).toNat
    let q := y * 2 ^ spP / ln2Fix
    let n := q / 2 ^ spP
    let t := exp2Fix (2 ^ spP - 1 - q % 2 ^ spP) / 2 ^ (n + 1)
    bracket neg ((2 ^ spP - t) * 2 ^ spP / (2 ^ spP + t)) 0

/-- 1 / √ of a positive finite value (R166). -/
def rsqrtV (m : Nat) (e : Int) : Ex :=
  let k : Nat := 400 + (if (e % 2) = 0 then 0 else 1)
  let s := Nat.sqrt (2 ^ k / m)
  { neg := false, man := s, exp := -((k + e) / 2), sticky := s * s * m != 2 ^ k }

/-- The special functions by F3 code, with their special cases (R166). -/
def fspecial (fn : Nat) (f : Fmt) (r : Rnd) (a : Nat) : Nat × Fl :=
  match unpack f a with
  | .nan s => (f.nan, if s then flNV else 0)
  | .inf n =>
    match fn with
    | 0 => if n then (0, 0) else (f.infCode false, 0)
    | 1 => if n then (f.nan, flNV) else (f.infCode false, 0)
    | 2 => (f.signed n 0, 0)
    | 3 => if n then (f.nan, flNV) else (0, 0)
    | 4 => round f r { neg := n, man := 1, exp := 0 }
    | _ => if n then (f.nan, flNV) else (f.infCode false, 0)
  | .fin n m e =>
    match fn with
    | 0 => if m = 0 then round f r { neg := false, man := 1, exp := 0 } else round f r (exp2V n m e)
    | 1 => if m = 0 then (f.infCode true, flDZ) else if n then (f.nan, flNV) else round f r (log2V m e)
    | 2 => if m = 0 then (f.infCode n, flDZ) else round f r (quotEx n 1 0 m e)
    | 3 => if m = 0 then (f.infCode n, flDZ) else if n then (f.nan, flNV) else round f r (rsqrtV m e)
    | 4 => if m = 0 then (f.signed n 0, 0) else round f r (tanhV n m e)
    | _ => if m = 0 then (f.signed n 0, 0) else if n then (f.nan, flNV) else round f r (sqrtEx m e)

end Sys2Proof.Machine
end

