-- ==== Sys2Proof/Machine/VecNum.lean ====
section
/-! DEFINITION. Lane arithmetic of the vector and reduction words (07_vector_instructions.md). -/

namespace Sys2Proof.Machine

/-- One lane's result and the flags that it would set (R154). -/
abbrev LaneR := Nat × Fl

/-- Whether mask bit floor(j × 64 / n) governs lane j as written (R153). -/
def laneOn (k : Dbl) (n j : Nat) : Bool := k.getLsbD (j * 64 / n)
/-- The row bits that a mask lets a word write (R153). -/
def maskBits (k : Dbl) : BitVec 2048 := ofLanes 32 ((List.range 64).map (fun j => if k.getLsbD j then 2 ^ 32 - 1 else 0))
/-- The flags of the lanes that a mask lets a word write (R154). -/
def maskedFl (k : Dbl) (n : Nat) (l : List LaneR) : List Fl :=
  l.zipIdx.map (fun p => if laneOn k n p.2 then p.1.2 else 0)
/-- The row of lane results. -/
def laneRow (w : Nat) (l : List LaneR) : BitVec 2048 := ofLanes w (l.map (·.1))

/-- The two-source and three-source operations of R156. -/
inductive VOp where
  | add | sub | mul | fma | min | max | and | or | xor | shl | shr | sra | mulh
  deriving DecidableEq, Repr

/-- One lane of an operation on integers of width w (R154, R156, R158). -/
def intLane (op : VOp) (w a b d : Nat) : Nat :=
  let sa := signedOf w a
  let sb := signedOf w b
  match op with
  | .add => (a + b) % 2 ^ w
  | .sub => codeOf w (sa - sb)
  | .mul => a * b % 2 ^ w
  | .fma => (a * b + d) % 2 ^ w
  | .min => if sa ≤ sb then a else b
  | .max => if sa ≤ sb then b else a
  | .and => a &&& b
  | .or => a ||| b
  | .xor => a ^^^ b
  | .shl => a * 2 ^ (b % w) % 2 ^ w
  | .shr => a / 2 ^ (b % w)
  | .sra => codeOf w (sa / (2 ^ (b % w) : Nat))
  | .mulh => codeOf w (sa * sb / (2 ^ w : Nat))

/-- One lane of an operation on a floating format (R156, R158). -/
def fpLane (op : VOp) (f : Fmt) (r : Rnd) (a b d : Nat) : LaneR :=
  match op with
  | .add => fadd f r a b
  | .sub => fsub f r a b
  | .mul => fmul f r a b
  | .fma => ffma f r a b d
  | .min => fminmax f false a b
  | .max => fminmax f true a b
  | _ => (intLane op f.width a b d, 0)

/-- All lanes of an operation on rows of one tag (R152, R156). rnd gives the rounding of a lane. -/
def opLanes (op : VOp) (t : Tag) (rnd : Nat → Rnd) (a b d : BitVec 2048) : List LaneR :=
  let w := tagWidth t
  (List.range (tagLanes t)).map (fun j =>
    if tagFp t then fpLane op (tagFmt t) (rnd j) (lane a w j) (lane b w j) (lane d w j)
    else (intLane op w (lane a w j) (lane b w j) (lane d w j), 0))

/-- VABS and VNEG of one lane (R156, R158). -/
def absNegLane (neg : Bool) (t : Tag) (a : Nat) : Nat :=
  let w := tagWidth t
  if tagFp t then
    let f := tagFmt t
    if (unpack f a).isNan then f.nan
    else if neg then (if a.testBit (w - 1) then a - 2 ^ (w - 1) else a + 2 ^ (w - 1))
    else a % 2 ^ (w - 1)
  else
    let v := signedOf w a
    codeOf w (if neg then -v else if v < 0 then -v else v)

/-- The flags of VABS and VNEG on one lane: NV for a signalling NaN (R40). -/
def absNegFl (t : Tag) (a : Nat) : Fl := if tagFp t then (unpack (tagFmt t) a).snan else 0

/-- One lane of VCMP with COND (R160). -/
def cmpLane (cond : Nat) (t : Tag) (a b : Nat) : Bool × Fl :=
  if tagFp t then fcompare (tagFmt t) cond a b
  else
    let x := signedOf (tagWidth t) a
    let y := signedOf (tagWidth t) b
    (match cond with
      | 0 => x == y
      | 1 => x != y
      | 2 => decide (x < y)
      | 3 => decide (x ≤ y)
      | 4 => decide (y < x)
      | 5 => decide (y ≤ x)
      | 6 => false
      | _ => true, 0)

/-- The mask of a compare: bit j holds when every lane that it governs holds (R160). -/
def cmpMask (n : Nat) (l : List Bool) : Dbl :=
  BitVec.ofNat 64 (lanesNat 1 ((List.range 64).map (fun j => b2n (((l.drop (j * (n / 64))).take (n / 64)).all id))))

/-- One element of VCVT (R163): source and result tags. -/
def convLane (src dst : Tag) (r : Rnd) (a : Nat) : LaneR :=
  let ws := tagWidth src
  let wd := tagWidth dst
  if tagInt src then
    if tagInt dst then
      let (v, fl) := clampInt wd false (signedOf ws a)
      (codeOf wd v, fl)
    else itof (tagFmt dst) r (signedOf ws a)
  else if tagInt dst then
    let (v, fl) := ftoi (tagFmt src) wd r a
    (codeOf wd v, fl)
  else fconv (tagFmt src) (tagFmt dst) r a

/-- A list cut into pieces of n, with fuel. -/
def chunks {α : Type} (n : Nat) : Nat → List α → List (List α)
  | 0, _ => []
  | fuel + 1, l => if l.isEmpty then [] else l.take n :: chunks n fuel (l.drop n)

/-- Quantisation of all blocks of a tile of values into MX elements of width w: scales, elements and flags (R54, R164). -/
def quantAll (f : Fmt) (w : Nat) (rnd : Nat → Rnd) (vals : List Nat) : List (Nat × List Int × Fl) :=
  (chunks 32 17 vals).zipIdx.map (fun p => quantBlock f w ((List.range 32).map (fun i => rnd (32 * p.2 + i))) p.1)

/-! Reductions (R57, R171) -/

/-- The reductions: sum, minimum, maximum. -/
inductive Red where
  | sum | min | max
  deriving DecidableEq, Repr

/-- One combination of a reduction tree in FP32 or INT32 (R57). -/
def redStep (op : Red) (fp : Bool) (r : Rnd) (a b : Nat) : LaneR :=
  if fp then
    match op with
    | .sum => fadd f32 r a b
    | .min => fminmax f32 false a b
    | .max => fminmax f32 true a b
  else
    match op with
    | .sum => ((a + b) % 2 ^ 32, 0)
    | .min => (if signedOf 32 a ≤ signedOf 32 b then a else b, 0)
    | .max => (if signedOf 32 a ≤ signedOf 32 b then b else a, 0)

/-- One level of the tree: results 2i and 2i + 1 combine; roundings are numbered from i on (R57, R171). -/
def redLevel (op : Red) (fp : Bool) (rnd : Nat → Rnd) : Nat → List Nat → List LaneR
  | i, a :: b :: t => redStep op fp (rnd i) a b :: redLevel op fp rnd (i + 1) t
  | _, [a] => [(a, 0)]
  | _, [] => []

/-- The tree over a power of two of lanes, with fuel for its levels: the value and the flags (R57). -/
def redTree (op : Red) (fp : Bool) (rnd : Nat → Rnd) : Nat → Nat → List Nat → LaneR
  | 0, _, l => (l.headD 0, 0)
  | fuel + 1, i, l =>
    match l with
    | [] => (0, 0)
    | [a] => (a, 0)
    | _ =>
      let ls := redLevel op fp rnd i l
      let r := redTree op fp rnd fuel (i + l.length / 2) (ls.map (·.1))
      (r.1, orFl (ls.map (·.2)) ||| r.2)

/-- The identity of a reduction: what a masked lane enters as (R57, R171). -/
def redIdent (op : Red) (fp : Bool) : Nat :=
  match op, fp with
  | .sum, true => 0x80000000
  | .min, true => 0x7F800000
  | .max, true => 0xFF800000
  | .sum, false => 0
  | .min, false => 0x7FFFFFFF
  | .max, false => 0x80000000

/-- A lane of a reduction's source in the accumulation format, with the flags of the widening (R170, R171). -/
def redLane (t : Tag) (a : Nat) : LaneR :=
  if tagFp t then (if t = 4 then (a, 0) else fconv (tagFmt t) f32 rne a)
  else (codeOf 32 (signedOf (tagWidth t) a), 0)

/-- The tree result of a reduction over a row (R171). -/
def reduceRow (op : Red) (t : Tag) (k : Dbl) (rnd : Nat → Rnd) (row : BitVec 2048) : LaneR :=
  let n := tagLanes t
  let ls := (List.range n).map (fun j =>
    if laneOn k n j then redLane t (lane row (tagWidth t) j) else (redIdent op (tagFp t), 0))
  let r := redTree op (tagFp t) rnd 9 0 (ls.map (·.1))
  (r.1, orFl (ls.map (·.2)) ||| r.2)

end Sys2Proof.Machine
end

