-- ==== Sys2Proof/Machine/Vector.lean ====
section
/-! DEFINITION. Vector words of pipe V (07_vector_instructions.md R152 to R168). -/

namespace Sys2Proof.Machine

/-- Tags of the arithmetic words: INT8 to INT32, FP32, FP16, BF16 (R156). -/
def tagArith (t : Tag) : Bool := tagInt t || tagFp t
/-- Tags of the shifts and VMULH (R156). -/
def tagShift (t : Tag) : Bool := tagInt t
/-- Tags 0x0 to 0xD (R156, R157). -/
def tagAny (t : Tag) : Bool := t.toNat < 14

/-- Sources in field order that must carry one accepted tag: the first that fails is named (R21, R152). -/
def needSame (s : State) (ok : Tag → Bool) : List (BitVec 8) → List Cause
  | [] => []
  | i :: t =>
    needRow s i ok ++ t.flatMap (fun j => needRow s j (fun u => u == (rv s i).tag))

/-- The rounding of each lane under a rounding-mode field (R155). -/
def laneRnd (s : State) (rm : Rm) (i : Nat) : Rnd := rndOf s (effMode s rm) i

/-- The result of a vector word: the whole row without a mask, else the lanes the mask governs, and then the
destination must carry the result tag (R23, R153, R154). -/
def vecResult (s : State) (d : BitVec 8) (k : BitVec 4) (t : Tag) (lat : Nat) (ls : List LaneR) : List Out :=
  let n := tagLanes t
  if k = 0 then [withLanes (ls.map (·.2)) (rowOut s lat d t (laneRow (tagWidth t) ls))]
  else [withLanes (maskedFl (rk s k) n ls) (partOut s lat d t (laneRow (tagWidth t) ls) (maskBits (rk s k)))]
/-- The tag check of a partial write (R23, R153). -/
def needDest (s : State) (d : BitVec 8) (k : BitVec 4) (t : Tag) : List Cause :=
  if k = 0 then [] else needRow s d (fun u => u == t)

/-- A word of R156 with rounding: sources in field order, lane operands, latency by kind of tag. -/
def arith (s : State) (op : VOp) (ok : Tag → Bool) (d : BitVec 8) (k : BitVec 4) (rm : Rm) (srcs : List (BitVec 8))
    (a b c : BitVec 8) (latI latF : Nat) (rounds : Bool) (extra : List Cause) : Answer :=
  let t := (rv s a).tag
  let ls := opLanes op t (laneRnd s rm) (rv s a).data (rv s b).data (rv s c).data
  let draws := rounds && tagFp t && effMode s rm == 4
  .next (issue s (needSame s ok srcs ++ needDest s d k t ++ extra)
    (vecResult s d k t (if tagFp t then latF else latI) ls ++ advanceIf (needSame s ok srcs) s draws (tagLanes t)) id)

/-- VADD, three rows, under DYN (R156). -/
def execVadd (d a b : BitVec 8) (s : State) : Answer := arith s .add tagArith d 0 7 [a, b] a b a 2 3 true []
/-- VSUB, three rows (R156). -/
def execVsub (d a b : BitVec 8) (s : State) : Answer := arith s .sub tagArith d 0 7 [a, b] a b a 2 3 true []
/-- VMUL, three rows (R156). -/
def execVmul (d a b : BitVec 8) (s : State) : Answer := arith s .mul tagArith d 0 7 [a, b] a b a 3 4 true []
/-- VFMA, three rows: a × b + d (R156, R158). -/
def execVfma (d a b : BitVec 8) (s : State) : Answer := arith s .fma tagArith d 0 7 [d, a, b] a b d 4 4 true []
/-- VMIN, three rows (R50, R156). -/
def execVmin (d a b : BitVec 8) (s : State) : Answer := arith s .min tagArith d 0 0 [a, b] a b a 2 2 false []
/-- VMAX, three rows (R50, R156). -/
def execVmax (d a b : BitVec 8) (s : State) : Answer := arith s .max tagArith d 0 0 [a, b] a b a 2 2 false []
/-- VADD, masked: the destination is the first source (R153, R156). -/
def execVaddMasked (d b : BitVec 8) (k : BitVec 4) (r : Rm) (s : State) : Answer :=
  arith s .add tagArith d k r [d, b] d b d 2 3 true []
/-- VSUB, masked (R153, R156). -/
def execVsubMasked (d b : BitVec 8) (k : BitVec 4) (r : Rm) (s : State) : Answer :=
  arith s .sub tagArith d k r [d, b] d b d 2 3 true []
/-- VMUL, masked (R153, R156). -/
def execVmulMasked (d b : BitVec 8) (k : BitVec 4) (r : Rm) (s : State) : Answer :=
  arith s .mul tagArith d k r [d, b] d b d 3 4 true []
/-- VFMA, masked: b × b′ + d, where b′ is the row that follows vb (R156, R159). -/
def execVfmaMasked (d b : BitVec 8) (k : BitVec 4) (r : Rm) (s : State) : Answer :=
  arith s .fma tagArith d k r [d, b, groupRow b 1] b (groupRow b 1) d 4 4 true (needGroup s b 2)
/-- VMIN, masked (R153, R156). -/
def execVminMasked (d b : BitVec 8) (k : BitVec 4) (s : State) : Answer :=
  arith s .min tagArith d k 0 [d, b] d b d 2 2 false []
/-- VMAX, masked (R153, R156). -/
def execVmaxMasked (d b : BitVec 8) (k : BitVec 4) (s : State) : Answer :=
  arith s .max tagArith d k 0 [d, b] d b d 2 2 false []
/-- VSHL (R156). -/
def execVshl (d b : BitVec 8) (k : BitVec 4) (s : State) : Answer := arith s .shl tagShift d k 0 [d, b] d b d 1 1 false []
/-- VSHR (R156). -/
def execVshr (d b : BitVec 8) (k : BitVec 4) (s : State) : Answer := arith s .shr tagShift d k 0 [d, b] d b d 1 1 false []
/-- VSRA (R156). -/
def execVsra (d b : BitVec 8) (k : BitVec 4) (s : State) : Answer := arith s .sra tagShift d k 0 [d, b] d b d 1 1 false []
/-- VMULH (R156). -/
def execVmulh (d b : BitVec 8) (k : BitVec 4) (s : State) : Answer := arith s .mulh tagShift d k 0 [d, b] d b d 3 3 false []

/-- The result tag of a bitwise word: the tag that is not RAW, if there is one (R157). -/
def bitTag (x y : Tag) : Tag := if x = 0 then y else x
/-- The tag checks of a bitwise word: any tag from 0x0 to 0xD, equal or one RAW (R157). -/
def needBits (s : State) (a b : BitVec 8) : List Cause :=
  needRow s a tagAny ++ needRow s b (fun u => tagAny u && (u == (rv s a).tag || u == 0 || (rv s a).tag == 0))
/-- A bitwise word (R156, R157). -/
def bitwise (s : State) (f : BitVec 2048 → BitVec 2048 → BitVec 2048) (d a b : BitVec 8) (k : BitVec 4) : Answer :=
  let t := bitTag (rv s a).tag (rv s b).tag
  let r := f (rv s a).data (rv s b).data
  .next (issue s (needBits s a b ++ needDest s d k t)
    [if k = 0 then rowOut s 1 d t r else partOut s 1 d t r (maskBits (rk s k))] id)

/-- VAND, three rows (R157). -/
def execVand (d a b : BitVec 8) (s : State) : Answer := bitwise s (· &&& ·) d a b 0
/-- VOR, three rows (R157). -/
def execVor (d a b : BitVec 8) (s : State) : Answer := bitwise s (· ||| ·) d a b 0
/-- VAND, masked (R157). -/
def execVandMasked (d b : BitVec 8) (k : BitVec 4) (s : State) : Answer := bitwise s (· &&& ·) d d b k
/-- VOR, masked (R157). -/
def execVorMasked (d b : BitVec 8) (k : BitVec 4) (s : State) : Answer := bitwise s (· ||| ·) d d b k
/-- VXOR (R157). -/
def execVxor (d b : BitVec 8) (k : BitVec 4) (s : State) : Answer := bitwise s (· ^^^ ·) d d b k

/-- VABS and VNEG: one source, latency 1 (R40, R156, R158). -/
def absNeg (s : State) (neg : Bool) (d v : BitVec 8) (k : BitVec 4) : Answer :=
  let t := (rv s v).tag
  let ls := (toLanes (rv s v).data (tagWidth t)).map (fun a => (absNegLane neg t a, absNegFl t a))
  .next (issue s (needRow s v tagArith ++ needDest s d k t) (vecResult s d k t 1 ls) id)
/-- VABS (R156, R158). -/
def execVabs (d v : BitVec 8) (k : BitVec 4) (s : State) : Answer := absNeg s false d v k
/-- VNEG (R156, R158). -/
def execVneg (d v : BitVec 8) (k : BitVec 4) (s : State) : Answer := absNeg s true d v k
/-- VMOV: bit for bit (R156, R158). -/
def execVmov (d v : BitVec 8) (k : BitVec 4) (s : State) : Answer :=
  let t := (rv s v).tag
  .next (issue s (needRow s v tagAny ++ needDest s d k t)
    [if k = 0 then rowOut s 1 d t (rv s v).data else partOut s 1 d t (rv s v).data (maskBits (rk s k))] id)

/-- VCMP: bit j of the mask holds when the condition holds in every lane that it governs (R160). -/
def execVcmp (k : BitVec 4) (a b : BitVec 8) (cond : BitVec 3) (s : State) : Answer :=
  let t := (rv s a).tag
  let w := tagWidth t
  let ls := (List.range (tagLanes t)).map (fun j => cmpLane cond.toNat t (lane (rv s a).data w j) (lane (rv s b).data w j))
  .next (issue s (needSame s tagArith [a, b])
    [maskOut 2 k (cmpMask (tagLanes t) (ls.map (·.1))) (orFl (ls.map (·.2)))] id)
/-- VKAND (R160). -/
def execVkand (k a b : BitVec 4) (s : State) : Answer := .next (results s [maskOut 1 k (rk s a &&& rk s b)])
/-- VKOR (R160). -/
def execVkor (k a b : BitVec 4) (s : State) : Answer := .next (results s [maskOut 1 k (rk s a ||| rk s b)])
/-- VKXOR (R160). -/
def execVkxor (k a b : BitVec 4) (s : State) : Answer := .next (results s [maskOut 1 k (rk s a ^^^ rk s b)])
/-- VKNOT (R160). -/
def execVknot (k a : BitVec 4) (s : State) : Answer := .next (results s [maskOut 1 k (~~~(rk s a))])

/-! Conversions -/

/-- The tag checks of a source group of n rows: the first row by its set, the others equal to it (R152, R161). -/
def needRun (s : State) (v : BitVec 8) (n : Nat) (ok : Tag → Bool) : List Cause :=
  needSame s ok ((List.range n).map (groupRow v))
/-- The elements of a source group in order (R163). -/
def runElems (s : State) (v : BitVec 8) (n w : Nat) : List Nat :=
  (List.range n).flatMap (fun k => toLanes (rv s (groupRow v k)).data w)
/-- Whole rows written by a conversion, from vd on, each with the flags of its own lanes (R44, R154, R163). -/
def runRows (s : State) (d : BitVec 8) (lat : Nat) (t : Tag) (ls : List LaneR) : List Out :=
  (chunks (tagLanes t) 9 ls).zipIdx.map (fun p =>
    withLanes (p.1.map (·.2)) (rowOut s lat (groupRow d p.2) t (laneRow (tagWidth t) p.1)))
/-- The effective mode of a conversion: FPCSR.RM for an integer source (R155). -/
def cvtMode (s : State) (t : Tag) (r : Rm) : Nat := effMode s (if tagInt t then 7 else r)

/-- VCVT (R161 to R163). -/
def execVcvt (d v : BitVec 8) (t : Tag) (r : Rm) (s : State) : Answer :=
  let ts := (rv s v).tag
  let ns := tagLanes ts
  let nd := tagLanes t
  let gs := max 1 (nd / ns)
  let gd := max 1 (ns / nd)
  let mode := cvtMode s ts r
  let ls := (runElems s v gs (tagWidth ts)).zipIdx.map (fun p => convLane ts t (rndOf s mode p.2) p.1)
  let src := needRun s v gs (fun u => decide (1 ≤ u.toNat) && decide (u.toNat ≤ 8))
  .next (issue s (src ++ needGroup s v gs ++ needGroup s d gd)
    (runRows s d 3 t ls ++ advanceIf src s (mode == 4) (ns * gs)) id)

/-- VQNT to an MX tag or, saturating, to E4M3 or E5M2 (R161, R164). The flags of a block go with the row of its elements
(DEDUCED, log 74). -/
def execVqnt (d v : BitVec 8) (t : Tag) (r : Rm) (s : State) : Answer :=
  let ts := (rv s v).tag
  let ns := tagLanes ts
  let nm := tagLanes t
  let gs := max 1 (nm / ns)
  let mode := effMode s r
  let vals := runElems s v gs (tagWidth ts)
  let src := needRun s v gs tagFp
  let checks := src ++ needGroup s v gs
  if tagMx t then
    let qs := quantAll (tagFmt ts) (mxWidth t) (rndOf s mode) (vals.take nm)
    let els := (qs.flatMap (fun q => q.2.1)).map (mxContainer t)
    .next (issue s (checks ++ needGroup s d 2)
      ([withLanes (qs.map (fun q => q.2.2)) (rowOut s 4 d t (ofLanes (tagWidth t) els)),
        rowOut s 4 (groupRow d 1) 0 (ofLanes 8 (qs.map (·.1)))] ++ advanceIf src s (mode == 4) nm) id)
  else
    let ls := vals.zipIdx.map (fun p => fconv (tagFmt ts) (tagFmt t) { rndOf s mode p.2 with sat := true } p.1)
    .next (issue s checks
      (runRows s d 4 t ls ++ advanceIf src s (mode == 4) 256) id)

/-- VDQNT: an MX row and its RAW scale row to floating rows (R161, R164). -/
def execVdqnt (d v : BitVec 8) (t : Tag) (r : Rm) (s : State) : Answer :=
  let ts := (rv s v).tag
  let nm := tagLanes ts
  let w := mxWidth ts
  let gd := max 1 (nm / tagLanes t)
  let mode := effMode s r
  let sc := (rv s (groupRow v 1)).data
  let ls := (toLanes (rv s v).data (tagWidth ts)).zipIdx.map (fun p =>
    dequant (tagFmt t) w (rndOf s mode p.2) (lane sc 8 (p.2 / 32)) (signedOf w p.1))
  let src := needRow s v tagMx ++ needRow s (groupRow v 1) (fun u => u == 0)
  .next (issue s (src ++ needGroup s v 2 ++ needGroup s d gd)
    (runRows s d 3 t ls ++ advanceIf src s (mode == 4) nm) id)

/-- VRETAG: the bits unchanged with tag T4 (R165). -/
def execVretag (d v : BitVec 8) (t : Tag) (s : State) : Answer :=
  .next (issue s (needRow s v tagAny) [rowOut s 1 d t (rv s v).data] id)

/-! Special functions -/

/-- A special function by its F3 code (R166). -/
def special (fn : Nat) (d v : BitVec 8) (k : BitVec 4) (r : Rm) (s : State) : Answer :=
  let t := (rv s v).tag
  let ls := (toLanes (rv s v).data (tagWidth t)).zipIdx.map (fun p => fspecial fn (tagFmt t) (laneRnd s r p.2) p.1)
  .next (issue s (needRow s v tagFp ++ needDest s d k t)
    (vecResult s d k t 8 ls ++ advanceIf (needRow s v tagFp) s (effMode s r == 4) (tagLanes t)) id)
/-- VEXP2 (R166). -/
def execVexp2 (d v : BitVec 8) (k : BitVec 4) (r : Rm) (s : State) : Answer := special 0 d v k r s
/-- VLOG2 (R166). -/
def execVlog2 (d v : BitVec 8) (k : BitVec 4) (r : Rm) (s : State) : Answer := special 1 d v k r s
/-- VRCP (R166). -/
def execVrcp (d v : BitVec 8) (k : BitVec 4) (r : Rm) (s : State) : Answer := special 2 d v k r s
/-- VRSQRT (R166). -/
def execVrsqrt (d v : BitVec 8) (k : BitVec 4) (r : Rm) (s : State) : Answer := special 3 d v k r s
/-- VTANH (R166). -/
def execVtanh (d v : BitVec 8) (k : BitVec 4) (r : Rm) (s : State) : Answer := special 4 d v k r s
/-- VSQRT (R166). -/
def execVsqrt (d v : BitVec 8) (k : BitVec 4) (r : Rm) (s : State) : Answer := special 5 d v k r s

/-! Permute, broadcast, lanes and generators -/

/-- The integer tag of an index row for data of a tag (R167). -/
def indexTag (t : Tag) : Tag := match tagWidth t with | 32 => 3 | 16 => 2 | _ => 1
/-- VPERM: an MX element is written as the sign extension of its own bits (R52, R152, R167). -/
def execVperm (d v i : BitVec 8) (s : State) : Answer :=
  let t := (rv s v).tag
  let w := tagWidth t
  let n := tagLanes t
  let el := fun (j : Nat) => lane (rv s v).data w j
  let ls := (List.range n).map (fun j =>
    let a := el (lane (rv s i).data w j % n)
    if tagMx t then mxContainer t (signedOf (mxWidth t) a) else a)
  .next (issue s (needRow s v (fun u => tagAny u && u != 9) ++ needRow s i (fun u => u == indexTag t))
    [rowOut s 2 d t (ofLanes w ls)] id)

/-- VBCS: every lane from a scalar (R168). -/
def execVbcs (d : BitVec 8) (a : BitVec 6) (t : Tag) (s : State) : Answer :=
  .next (results s [rowOut s 1 d t (ofLanes (tagWidth t) (List.replicate (tagLanes t) (rs s a).toNat))])

/-- A lane as VEXT gives it: sign-extended for integer and MX tags (R168). -/
def extLane (t : Tag) (v : Nat) : Dbl :=
  if tagMx t then BitVec.ofInt 64 (signedOf (mxWidth t) v)
  else if tagInt t then BitVec.ofInt 64 (signedOf (tagWidth t) v)
  else BitVec.ofNat 64 v
/-- VEXT (R168). -/
def execVext (v : BitVec 8) (d b : BitVec 6) (s : State) : Answer :=
  let t := (rv s v).tag
  let j := (rs s b).toNat % tagLanes t
  .next (issue s (needRow s v tagAny) [scalarOut 2 d (extLane t (lane (rv s v).data (tagWidth t) j))] id)
/-- VINS: one lane from a scalar, keeping the tag (R168). -/
def execVins (d : BitVec 8) (a b : BitVec 6) (s : State) : Answer :=
  let t := (rv s d).tag
  let w := tagWidth t
  let j := (rs s b).toNat % tagLanes t
  let v := if tagMx t then mxContainer t (signedOf (mxWidth t) (rs s a).toNat) else (rs s a).toNat % 2 ^ w
  .next (issue s (needRow s d tagAny)
    [partOut s 2 d t (BitVec.ofNat 2048 v <<< (w * j)) (BitVec.ofNat 2048 (2 ^ w - 1) <<< (w * j))] id)
/-- VRNG: 64 draws; it always draws (R62, R63, R168). -/
def execVrng (d : BitVec 8) (s : State) : Answer :=
  .next (results s (rowOut s 3 d 3 (ofLanes 32 ((List.range 64).map (drawOf s))) :: advanceOut s true 64))
/-- VIOTA: a scalar plus the lane index (R168). -/
def execViota (d : BitVec 8) (a : BitVec 6) (t : Tag) (s : State) : Answer :=
  .next (results s [rowOut s 1 d t (ofLanes (tagWidth t) ((List.range (tagLanes t)).map (fun j => (rs s a).toNat + j)))])

end Sys2Proof.Machine
end

