-- ==== Sys2Proof/Machine/Reduce.lean ====
section
/-! DEFINITION. Reductions and latches of pipe Z (07_vector_instructions.md R169 to R174). -/

namespace Sys2Proof.Machine

/-- The accumulation format of a reduction's source (R170). -/
def accTag (t : Tag) : Tag := if tagFp t then 4 else 3
/-- The code of a reduction's function (R169). -/
def redCode (op : Red) : BitVec 3 := match op with | .sum => 0 | .min => 1 | .max => 2

/-- A reduction: the tree forms at issue and updates lane V8A mod 64 of the latch at c+10 (R169 to R171). -/
def reduction (op : Red) (v : BitVec 8) (z : BitVec 2) (k : BitVec 4) (r : Rm) (s : State) : Answer :=
  let t := (rv s v).tag
  let n := tagLanes t
  let mode := effMode s r
  let res := reduceRow op t (rk s k) (rndOf s mode) (rv s v).data
  let draws := op == .sum && tagFp t && mode == 4
  .next (issue s (needRow s v tagArith ++ needLatch s z (fun u => u == accTag t))
    ({ lat := 10, fp := res.2, res := .reduce z (BitVec.ofNat 6 v.toNat) (redCode op) (accTag t) (BitVec.ofNat 32 res.1)
        (BitVec.ofNat 3 mode) (BitVec.ofNat 32 (if mode = 4 then drawOf s (n - 1) else 0)) } :: advanceIf (needRow s v tagArith) s draws n) id)

/-- VRSUM (R171). -/
def execVrsum (v : BitVec 8) (z : BitVec 2) (k : BitVec 4) (r : Rm) (s : State) : Answer := reduction .sum v z k r s
/-- VRMIN (R171). -/
def execVrmin (v : BitVec 8) (z : BitVec 2) (k : BitVec 4) (r : Rm) (s : State) : Answer := reduction .min v z k r s
/-- VRMAX (R171). -/
def execVrmax (v : BitVec 8) (z : BitVec 2) (k : BitVec 4) (r : Rm) (s : State) : Answer := reduction .max v z k r s
/-- VZDRN: the latch as it stands at issue, with its tag (R172). -/
def execVzdrn (d : BitVec 8) (z : BitVec 2) (s : State) : Answer :=
  let l := (cx s).getZ z
  .next (issue s (needLatch s z (fun u => u != 15)) [rowOut s 2 d l.tag l.data] id)
/-- VZCLR: every lane from a scalar, and the tag (R172). -/
def execVzclr (t : Tag) (z : BitVec 2) (a : BitVec 6) (s : State) : Answer :=
  .next (results s [{ lat := 1, res := .latch z t (ofLanes 32 (List.replicate 64 (rs s a).toNat)) }])

end Sys2Proof.Machine
end

