-- ==== Sys2Proof/Machine/Scalar.lean ====
section
/-! DEFINITION. Scalar words (04_context_instructions.md): integer, immediate and constant words, FP32 words,
predicates, control moves and queue pops. -/

namespace Sys2Proof.Machine

/-- Operand of a scalar integer word: the low w bits, signed or unsigned (R93). -/
def intOperand (w u : Bool) (v : Dbl) : Int :=
  let n := if w then 32 else 64
  if u then ((v.toNat % 2 ^ n : Nat) : Int) else signedOf n v.toNat
/-- Result of a scalar integer word in 64 bits (R93). -/
def intResult (w u : Bool) (r : Int) : Dbl :=
  if w then (if u then (BitVec.ofInt 32 r).zeroExtend 64 else (BitVec.ofInt 32 r).signExtend 64) else BitVec.ofInt 64 r
/-- Width of a scalar integer word. -/
def intWidth (w : Bool) : Nat := if w then 32 else 64
/-- Leading zeros of an n-bit number (R93). -/
def clzNat (n v : Nat) : Nat := if v = 0 then n else n - 1 - Nat.log2 v
/-- Trailing zeros of an n-bit number (R93). -/
def ctzNat : Nat → Nat → Nat
  | 0, _ => 0
  | n + 1, v => if v % 2 = 1 then 0 else 1 + ctzNat n (v / 2)
/-- Bits set in an n-bit number (R93). -/
def popNat : Nat → Nat → Nat
  | 0, _ => 0
  | n + 1, v => v % 2 + popNat n (v / 2)
/-- Shift right of a signed integer, copying the sign (R93). -/
def sraInt (a : Int) (n : Nat) : Int := a / (2 ^ n : Nat)

/-- A scalar integer word with two sources: operands of the sign its class reads, result and flags at its latency
(R90, R93, R94). rd tells whether the operands are read unsigned, u whether a W result is zero-extended. -/
def intWord (d a b : BitVec 6) (w rd u : Bool) (lat : Nat) (f : Int → Int → Int × Fl) (s : State) : Answer :=
  let r := f (intOperand w rd (rs s a)) (intOperand w rd (rs s b))
  .next (results s [scalarOut lat d (intResult w u r.1) r.2])

/-- An immediate word of 64 bits (R95). -/
def immWord (d a : BitVec 6) (lat : Nat) (f : Dbl → Dbl) (s : State) : Answer :=
  .next (results s [scalarOut lat d (f (rs s a))])

/-- ADD: a + b (R93). -/
def execAdd (d a b : BitVec 6) (w : Bool) (s : State) : Answer :=
  intWord d a b w false false 1 (fun x y => (x + y, 0)) s

/-- SUB: a − b (R93). -/
def execSub (d a b : BitVec 6) (w : Bool) (s : State) : Answer :=
  intWord d a b w false false 1 (fun x y => (x - y, 0)) s

/-- MUL: the low w bits of a × b (R93). -/
def execMul (d a b : BitVec 6) (w : Bool) (s : State) : Answer :=
  intWord d a b w false false 3 (fun x y => (x * y, 0)) s

/-- MULH: bits 2w−1 to w of the exact product (R93). -/
def execMulh (d a b : BitVec 6) (w u : Bool) (s : State) : Answer :=
  intWord d a b w u u 3 (fun x y => (sraInt (x * y) (intWidth w), 0)) s

/-- DIV: quotient toward zero; all ones and DZ for b = 0 (R93, R94). -/
def execDiv (d a b : BitVec 6) (w u : Bool) (s : State) : Answer :=
  intWord d a b w u u 18 (fun x y => (if y = 0 then -1 else x.tdiv y, divFlag y)) s

/-- REM: remainder with the sign of a; a and DZ for b = 0 (R93, R94). -/
def execRem (d a b : BitVec 6) (w u : Bool) (s : State) : Answer :=
  intWord d a b w u u 18 (fun x y => (if y = 0 then x else x.tmod y, divFlag y)) s

/-- AND (R93). -/
def execAnd (d a b : BitVec 6) (w : Bool) (s : State) : Answer :=
  .next (results s [scalarOut 1 d (intResult w false (rs s a &&& rs s b).toInt)])

/-- OR (R93). -/
def execOr (d a b : BitVec 6) (w : Bool) (s : State) : Answer :=
  .next (results s [scalarOut 1 d (intResult w false (rs s a ||| rs s b).toInt)])

/-- XOR (R93). -/
def execXor (d a b : BitVec 6) (w : Bool) (s : State) : Answer :=
  .next (results s [scalarOut 1 d (intResult w false (rs s a ^^^ rs s b).toInt)])

/-- ANDN: a and not b (R93). -/
def execAndn (d a b : BitVec 6) (w : Bool) (s : State) : Answer :=
  .next (results s [scalarOut 1 d (intResult w false (rs s a &&& ~~~(rs s b)).toInt)])

/-- SHL: a shifted left by b mod w (R93). -/
def execShl (d a b : BitVec 6) (w : Bool) (s : State) : Answer :=
  intWord d a b w true false 1 (fun x y => (x * (2 ^ (y.toNat % intWidth w) : Nat), 0)) s

/-- SHR: a shifted right by b mod w, zero-filling (R93). -/
def execShr (d a b : BitVec 6) (w : Bool) (s : State) : Answer :=
  intWord d a b w true false 1 (fun x y => (sraInt x (y.toNat % intWidth w), 0)) s

/-- SRA: a shifted right by b mod w, copying the sign (R93). -/
def execSra (d a b : BitVec 6) (w : Bool) (s : State) : Answer :=
  intWord d a b w false false 1 (fun x y => (sraInt x ((y % (intWidth w : Nat)).toNat), 0)) s

/-- MIN: the smaller of a and b (R93). -/
def execMin (d a b : BitVec 6) (w u : Bool) (s : State) : Answer :=
  intWord d a b w u u 1 (fun x y => (if x ≤ y then x else y, 0)) s

/-- MAX: the larger of a and b (R93). -/
def execMax (d a b : BitVec 6) (w u : Bool) (s : State) : Answer :=
  intWord d a b w u u 1 (fun x y => (if x ≤ y then y else x, 0)) s

/-- ADDS: a + b clamped, with SAT (R93, R94). -/
def execAdds (d a b : BitVec 6) (w u : Bool) (s : State) : Answer :=
  intWord d a b w u u 1 (fun x y => clampInt (intWidth w) u (x + y)) s

/-- SUBS: a − b clamped, with SAT (R93, R94). -/
def execSubs (d a b : BitVec 6) (w u : Bool) (s : State) : Answer :=
  intWord d a b w u u 1 (fun x y => clampInt (intWidth w) u (x - y)) s

/-- CLZ: zero bits above the highest 1, w for 0 (R93). -/
def execClz (d a : BitVec 6) (w : Bool) (s : State) : Answer :=
  intWord d a a w true false 1 (fun x _ => ((clzNat (intWidth w) x.toNat : Nat), 0)) s

/-- CTZ: zero bits below the lowest 1, w for 0 (R93). -/
def execCtz (d a : BitVec 6) (w : Bool) (s : State) : Answer :=
  intWord d a a w true false 1 (fun x _ => ((ctzNat (intWidth w) x.toNat : Nat), 0)) s

/-- POPC: number of 1 bits (R93). -/
def execPopc (d a : BitVec 6) (w : Bool) (s : State) : Answer :=
  intWord d a a w true false 1 (fun x _ => ((popNat (intWidth w) x.toNat : Nat), 0)) s

/-- MOV: a (R93). -/
def execMov (d a : BitVec 6) (w : Bool) (s : State) : Answer :=
  intWord d a a w false false 1 (fun x _ => (x, 0)) s

/-- ADDI: a + i (R95). -/
def execAddi (d a : BitVec 6) (i : BitVec 11) (s : State) : Answer :=
  immWord d a 1 (fun x => x + i.signExtend 64) s

/-- ANDI: a and i (R95). -/
def execAndi (d a : BitVec 6) (i : BitVec 11) (s : State) : Answer :=
  immWord d a 1 (fun x => x &&& i.signExtend 64) s

/-- ORI: a or i (R95). -/
def execOri (d a : BitVec 6) (i : BitVec 11) (s : State) : Answer :=
  immWord d a 1 (fun x => x ||| i.signExtend 64) s

/-- XORI: a xor i (R95). -/
def execXori (d a : BitVec 6) (i : BitVec 11) (s : State) : Answer :=
  immWord d a 1 (fun x => x ^^^ i.signExtend 64) s

/-- SHLI: a shifted left by i (R95). -/
def execShli (d a : BitVec 6) (i : BitVec 11) (s : State) : Answer :=
  immWord d a 1 (fun x => x <<< i.toNat) s

/-- SHRI: a shifted right by i, zero-filling (R95). -/
def execShri (d a : BitVec 6) (i : BitVec 11) (s : State) : Answer :=
  immWord d a 1 (fun x => x >>> i.toNat) s

/-- SRAI: a shifted right by i, copying bit 63 (R95). -/
def execSrai (d a : BitVec 6) (i : BitVec 11) (s : State) : Answer :=
  immWord d a 1 (fun x => x.sshiftRight i.toNat) s

/-- MULI: the low 64 bits of a × i (R95). -/
def execMuli (d a : BitVec 6) (i : BitVec 11) (s : State) : Answer :=
  immWord d a 3 (fun x => x * i.signExtend 64) s

/-- LI: the sign-extended immediate (R96). -/
def execLi (d : BitVec 6) (i : BitVec 18) (s : State) : Answer :=
  .next (results s [scalarOut 1 d (i.signExtend 64)])

/-- LIS: the register shifted left by 18 with 18 new low bits (R96). -/
def execLis (d : BitVec 6) (i : BitVec 18) (s : State) : Answer :=
  immWord d d 1 (fun x => (x <<< 18) ||| i.zeroExtend 64) s

/-- ADR: the bundle address plus 4 × i (R96). -/
def execAdr (d : BitVec 6) (i : BitVec 18) (s : State) : Answer :=
  .next (results s [scalarOut 1 d (s.cur.addr + i.signExtend 64 * 4)])

/-- A scalar FP32 word: rounding mode of the field or FPCSR.RM, one draw under SR, result and flags at its latency
(R97, R99). -/
def fpWord (d : BitVec 6) (r : Rm) (lat : Nat) (f : Rnd → Dbl × Fl) (s : State) : Answer :=
  let mode := effMode s r
  let v := f (rndOf s mode 0)
  .next (results s (scalarOut lat d v.1 v.2 :: advanceOut s (mode == 4) 1))
/-- The FP32 operand of a scalar register (R97). -/
def fpOperand (v : Dbl) : Nat := v.toNat % 2 ^ 32
/-- An FP32 result zero-extended (R97). -/
def fpResult (r : Nat × Fl) : Dbl × Fl := (BitVec.ofNat 64 r.1, r.2)

/-- FADD (R97, R98). -/
def execFadd (d a b : BitVec 6) (r : Rm) (s : State) : Answer :=
  fpWord d r 3 (fun q => fpResult (fadd f32 q (fpOperand (rs s a)) (fpOperand (rs s b)))) s

/-- FSUB (R97, R98). -/
def execFsub (d a b : BitVec 6) (r : Rm) (s : State) : Answer :=
  fpWord d r 3 (fun q => fpResult (fsub f32 q (fpOperand (rs s a)) (fpOperand (rs s b)))) s

/-- FMUL (R97, R98). -/
def execFmul (d a b : BitVec 6) (r : Rm) (s : State) : Answer :=
  fpWord d r 3 (fun q => fpResult (fmul f32 q (fpOperand (rs s a)) (fpOperand (rs s b)))) s

/-- FDIV (R97, R98). -/
def execFdiv (d a b : BitVec 6) (r : Rm) (s : State) : Answer :=
  fpWord d r 12 (fun q => fpResult (fdiv f32 q (fpOperand (rs s a)) (fpOperand (rs s b)))) s

/-- FSQRT (R97, R98). -/
def execFsqrt (d a : BitVec 6) (r : Rm) (s : State) : Answer :=
  fpWord d r 12 (fun q => fpResult (fsqrt f32 q (fpOperand (rs s a)))) s

/-- FMIN and FMAX: R50, never rounding and never drawing (R97). -/
def fpMinMax (d a b : BitVec 6) (max : Bool) (s : State) : Answer :=
  let r := fpResult (fminmax f32 max (fpOperand (rs s a)) (fpOperand (rs s b)))
  .next (results s [scalarOut 3 d r.1 r.2])

/-- FMIN (R50, R97). -/
def execFmin (d a b : BitVec 6) (s : State) : Answer :=
  fpMinMax d a b false s

/-- FMAX (R50, R97). -/
def execFmax (d a b : BitVec 6) (s : State) : Answer :=
  fpMinMax d a b true s

/-- FMA: sa × sb + sd with one rounding (R97, R98). -/
def execFma (d a b : BitVec 6) (r : Rm) (s : State) : Answer :=
  fpWord d r 4 (fun q => fpResult (ffma f32 q (fpOperand (rs s a)) (fpOperand (rs s b)) (fpOperand (rs s d)))) s

/-- FCVTFI: FP32 to signed INT64 (R49, R97). -/
def execFcvtfi (d a : BitVec 6) (r : Rm) (s : State) : Answer :=
  fpWord d r 2 (fun q => let v := ftoi f32 64 q (fpOperand (rs s a)); (BitVec.ofInt 64 v.1, v.2)) s

/-- FCVTIF: signed INT64 to FP32 (R49, R97). -/
def execFcvtif (d a : BitVec 6) (r : Rm) (s : State) : Answer :=
  fpWord d r 2 (fun q => fpResult (itof f32 q (rs s a).toInt)) s

/-- The integer compare of CMP by COND: eq, ne, lt, ge signed, ltu, geu unsigned (R78, R100). -/
def cmpInt (k : BitVec 3) (x y : Dbl) : Bool :=
  match k.toNat with
  | 0 => x == y
  | 1 => x != y
  | 2 => decide (x.toInt < y.toInt)
  | 3 => decide (y.toInt ≤ x.toInt)
  | 4 => decide (x.toNat < y.toNat)
  | _ => decide (y.toNat ≤ x.toNat)
/-- COND of FCMP as a condition of fcompare: eq, lt, le, un (R78, R101). -/
def fcmpCond (k : BitVec 3) : Nat := match k.toNat with | 0 => 0 | 1 => 2 | 2 => 3 | _ => 6

/-- CMP: a 64-bit integer compare into a predicate (R100). -/
def execCmp (p : BitVec 5) (a b : BitVec 6) (k : BitVec 3) (s : State) : Answer :=
  .next (results s [predOut s p (cmpInt k (rs s a) (rs s b))])

/-- FCMP: an FP32 compare into a predicate, with NV (R100, R101). -/
def execFcmp (p : BitVec 5) (a b : BitVec 6) (k : BitVec 3) (s : State) : Answer :=
  let r := fcompare f32 (fcmpCond k) (fpOperand (rs s a)) (fpOperand (rs s b))
  .next (results s [predOut s p r.1 r.2])

/-- TEST: 1 if the registers share a 1 bit (R100). -/
def execTest (p : BitVec 5) (a b : BitVec 6) (s : State) : Answer :=
  .next (results s [predOut s p ((rs s a &&& rs s b) != 0)])

/-- PAND (R100). -/
def execPand (p a b : BitVec 5) (s : State) : Answer :=
  .next (results s [predOut s p (rp s a && rp s b)])

/-- POR (R100). -/
def execPor (p a b : BitVec 5) (s : State) : Answer :=
  .next (results s [predOut s p (rp s a || rp s b)])

/-- PXOR (R100). -/
def execPxor (p a b : BitVec 5) (s : State) : Answer :=
  .next (results s [predOut s p (rp s a != rp s b)])

/-- PNOT (R100). -/
def execPnot (p a : BitVec 5) (s : State) : Answer :=
  .next (results s [predOut s p (!rp s a)])

/-- A value that a control register's definition excludes (R44, R112, R185). -/
def cregExcluded (i : BitVec 6) (v : Dbl) : Bool :=
  (i == 0x0A && decide (5 ≤ v.toNat % 8)) || (i == 0x08 && decide (v.toNat % 4 = 3))
/-- CSR_VALUE with the register index (R116). -/
def csrCause (i : BitVec 6) (v : Dbl) : List Cause := failIf (cregExcluded i v) ⟨4, 0x07, i.zeroExtend 64⟩
/-- The 32-bit word of logical predicates (R111). -/
def logicalPreds (b : Bank) : Nat :=
  ((List.range 32).map (fun j => if b.getP (physP b (BitVec.ofNat 5 j)) then 2 ^ j else 0)).sum
/-- The physical predicates after a write of logical p1 to p31 (R28, R111). -/
def physPreds (b : Bank) (v : Dbl) : BitVec 32 :=
  BitVec.ofNat 32 (1 + ((List.range 31).map (fun j =>
    if v.getLsbD (j + 1) then 2 ^ (physP b (BitVec.ofNat 5 (j + 1))).toNat else 0)).sum)

/-- MFC: a control register to a scalar; PC reads the address of the bundle (R111). -/
def execMfc (d r : BitVec 6) (s : State) : Answer :=
  .next (results s [scalarOut 1 d (cregRead (cx s) s.cur.ctx s.cur.addr r)])

/-- MTC: a scalar to a control register, or CSR_VALUE (R111, R112). -/
def execMtc (r a : BitVec 6) (s : State) : Answer :=
  .next (issue s (csrCause r (rs s a)) [{ lat := 1, res := .creg r (rs s a) }] id)

/-- MFK: a mask to a scalar (R111). -/
def execMfk (d : BitVec 6) (k : BitVec 4) (s : State) : Answer :=
  .next (results s [scalarOut 1 d (rk s k)])

/-- MTK: a scalar to a mask (R111). -/
def execMtk (k : BitVec 4) (a : BitVec 6) (s : State) : Answer :=
  .next (results s [maskOut 1 k (rs s a)])

/-- MFP: the logical predicates to a scalar (R111). -/
def execMfp (d : BitVec 6) (s : State) : Answer :=
  .next (results s [scalarOut 1 d (BitVec.ofNat 64 (logicalPreds (cx s).bank))])

/-- MTP: a scalar to logical p1 to p31 (R111). -/
def execMtp (a : BitVec 6) (s : State) : Answer :=
  .next (results s [{ lat := 1, res := .preds (physPreds (cx s).bank (rs s a)) }])

/-- MFM: a matrix parameter to a scalar (R111). -/
def execMfm (d : BitVec 6) (m : BitVec 3) (s : State) : Answer :=
  .next (results s [scalarOut 1 d ((cx s).bank.getM m)])

/-- MTM: a scalar to a matrix parameter (R111). -/
def execMtm (m : BitVec 3) (a : BitVec 6) (s : State) : Answer :=
  .next (results s [{ lat := 1, res := .mparam m (rs s a) }])

/-- The pop of the head of a queue by the issuing context; the entry is kept until the next CKPT (R114, R260). -/
def popHead (q : BitVec 2) (s : State) : State :=
  let x := cx s
  match queueOf x q with
  | [] => s
  | e :: t => setCx s { setQueue x q t with popped := x.popped ++ [(q, e.1, e.2)] }
/-- The stall form of a pop: the bundle waits while the queue is empty (R114). -/
def popStall (d : BitVec 6) (q : BitVec 2) (s : State) : Answer :=
  match queueOf (cx s) q with
  | [] => .next (waitFor s (.queue q))
  | e :: _ => .next (issue s [] [scalarOut 1 d e.2] (popHead q))
/-- The not-ready form of a pop (R114). -/
def popReady (d : BitVec 6) (q : BitVec 2) (p : BitVec 5) (s : State) : Answer :=
  match queueOf (cx s) q with
  | [] => .next (results s [predOut s p false])
  | e :: _ => .next (issue s [] [scalarOut 1 d e.2, predOut s p true] (popHead q))

/-- QPOPA, stall form, on pipe A (R113, R114). -/
def execQpopa (d : BitVec 6) (q : BitVec 2) (s : State) : Answer :=
  popStall d q s

/-- QPOPA, not-ready form, on pipe A (R113, R114). -/
def execQpopaNr (d : BitVec 6) (q : BitVec 2) (p : BitVec 5) (s : State) : Answer :=
  popReady d q p s

/-- QPOP, stall form, on pipe X (R113, R114). -/
def execQpop (d : BitVec 6) (q : BitVec 2) (s : State) : Answer :=
  popStall d q s

/-- QPOP, not-ready form, on pipe X (R113, R114). -/
def execQpopNr (d : BitVec 6) (q : BitVec 2) (p : BitVec 5) (s : State) : Answer :=
  popReady d q p s

end Sys2Proof.Machine
end

