-- ==== Sys2Proof/Machine/Dispatch.lean ====
section
/-! DEFINITION. One arm for each instruction and event: each calls its meaning. -/

namespace Sys2Proof.Machine

/-- The meaning of an instruction word at its issue in a one-word bundle, or of an event of the machine. -/
def exec (i : Instr) (s : State) : Host.Outcome State Fault Refusal :=
  match i with
  | .j n p im => Sys2Proof.Machine.execJ n p im s
  | .call n p im => Sys2Proof.Machine.execCall n p im s
  | .loop sr im => Sys2Proof.Machine.execLoop sr im s
  | .nop => Sys2Proof.Machine.execNop s
  | .jr a => Sys2Proof.Machine.execJr a s
  | .ret => Sys2Proof.Machine.execRet s
  | .ckpt => Sys2Proof.Machine.execCkpt s
  | .sys k => Sys2Proof.Machine.execSys k s
  | .trap k => Sys2Proof.Machine.execTrap k s
  | .brk k => Sys2Proof.Machine.execBrk k s
  | .eret => Sys2Proof.Machine.execEret s
  | .fence m sr => Sys2Proof.Machine.execFence m sr s
  | .add d a b w => Sys2Proof.Machine.execAdd d a b w s
  | .sub d a b w => Sys2Proof.Machine.execSub d a b w s
  | .mul d a b w => Sys2Proof.Machine.execMul d a b w s
  | .mulh d a b w u => Sys2Proof.Machine.execMulh d a b w u s
  | .div d a b w u => Sys2Proof.Machine.execDiv d a b w u s
  | .rem d a b w u => Sys2Proof.Machine.execRem d a b w u s
  | .and d a b w => Sys2Proof.Machine.execAnd d a b w s
  | .or d a b w => Sys2Proof.Machine.execOr d a b w s
  | .xor d a b w => Sys2Proof.Machine.execXor d a b w s
  | .andn d a b w => Sys2Proof.Machine.execAndn d a b w s
  | .shl d a b w => Sys2Proof.Machine.execShl d a b w s
  | .shr d a b w => Sys2Proof.Machine.execShr d a b w s
  | .sra d a b w => Sys2Proof.Machine.execSra d a b w s
  | .min d a b w u => Sys2Proof.Machine.execMin d a b w u s
  | .max d a b w u => Sys2Proof.Machine.execMax d a b w u s
  | .adds d a b w u => Sys2Proof.Machine.execAdds d a b w u s
  | .subs d a b w u => Sys2Proof.Machine.execSubs d a b w u s
  | .clz d a w => Sys2Proof.Machine.execClz d a w s
  | .ctz d a w => Sys2Proof.Machine.execCtz d a w s
  | .popc d a w => Sys2Proof.Machine.execPopc d a w s
  | .mov d a w => Sys2Proof.Machine.execMov d a w s
  | .addi d a im => Sys2Proof.Machine.execAddi d a im s
  | .andi d a im => Sys2Proof.Machine.execAndi d a im s
  | .ori d a im => Sys2Proof.Machine.execOri d a im s
  | .xori d a im => Sys2Proof.Machine.execXori d a im s
  | .shli d a im => Sys2Proof.Machine.execShli d a im s
  | .shri d a im => Sys2Proof.Machine.execShri d a im s
  | .srai d a im => Sys2Proof.Machine.execSrai d a im s
  | .muli d a im => Sys2Proof.Machine.execMuli d a im s
  | .li d im => Sys2Proof.Machine.execLi d im s
  | .lis d im => Sys2Proof.Machine.execLis d im s
  | .adr d im => Sys2Proof.Machine.execAdr d im s
  | .fadd d a b r => Sys2Proof.Machine.execFadd d a b r s
  | .fsub d a b r => Sys2Proof.Machine.execFsub d a b r s
  | .fmul d a b r => Sys2Proof.Machine.execFmul d a b r s
  | .fdiv d a b r => Sys2Proof.Machine.execFdiv d a b r s
  | .fsqrt d a r => Sys2Proof.Machine.execFsqrt d a r s
  | .fmin d a b => Sys2Proof.Machine.execFmin d a b s
  | .fmax d a b => Sys2Proof.Machine.execFmax d a b s
  | .fma d a b r => Sys2Proof.Machine.execFma d a b r s
  | .fcvtfi d a r => Sys2Proof.Machine.execFcvtfi d a r s
  | .fcvtif d a r => Sys2Proof.Machine.execFcvtif d a r s
  | .cmp p a b k => Sys2Proof.Machine.execCmp p a b k s
  | .fcmp p a b k => Sys2Proof.Machine.execFcmp p a b k s
  | .test p a b => Sys2Proof.Machine.execTest p a b s
  | .pand p a b => Sys2Proof.Machine.execPand p a b s
  | .por p a b => Sys2Proof.Machine.execPor p a b s
  | .pxor p a b => Sys2Proof.Machine.execPxor p a b s
  | .pnot p a => Sys2Proof.Machine.execPnot p a s
  | .mfc d r => Sys2Proof.Machine.execMfc d r s
  | .mtc r a => Sys2Proof.Machine.execMtc r a s
  | .mfk d k => Sys2Proof.Machine.execMfk d k s
  | .mtk k a => Sys2Proof.Machine.execMtk k a s
  | .mfp d => Sys2Proof.Machine.execMfp d s
  | .mtp a => Sys2Proof.Machine.execMtp a s
  | .mfm d m => Sys2Proof.Machine.execMfm d m s
  | .mtm m a => Sys2Proof.Machine.execMtm m a s
  | .qpopa d q => Sys2Proof.Machine.execQpopa d q s
  | .qpopaNr d q p => Sys2Proof.Machine.execQpopaNr d q p s
  | .ldb d a im => Sys2Proof.Machine.execLdb d a im s
  | .ldh d a im => Sys2Proof.Machine.execLdh d a im s
  | .ldw d a im => Sys2Proof.Machine.execLdw d a im s
  | .ldd d a im => Sys2Proof.Machine.execLdd d a im s
  | .stb b a im => Sys2Proof.Machine.execStb b a im s
  | .sth b a im => Sys2Proof.Machine.execSth b a im s
  | .stw b a im => Sys2Proof.Machine.execStw b a im s
  | .std b a im => Sys2Proof.Machine.execStd b a im s
  | .ldv v a t im => Sys2Proof.Machine.execLdv v a t im s
  | .stv v a im => Sys2Proof.Machine.execStv v a im s
  | .ldmBlock a m => Sys2Proof.Machine.execLdmBlock a m s
  | .ldmScalar d m => Sys2Proof.Machine.execLdmScalar d m s
  | .stmBlock a m => Sys2Proof.Machine.execStmBlock a m s
  | .stmScalar a m => Sys2Proof.Machine.execStmScalar a m s
  | .ldshp h a => Sys2Proof.Machine.execLdshp h a s
  | .stshp h a => Sys2Proof.Machine.execStshp h a s
  | .vadd d a b => Sys2Proof.Machine.execVadd d a b s
  | .vsub d a b => Sys2Proof.Machine.execVsub d a b s
  | .vmul d a b => Sys2Proof.Machine.execVmul d a b s
  | .vfma d a b => Sys2Proof.Machine.execVfma d a b s
  | .vmin d a b => Sys2Proof.Machine.execVmin d a b s
  | .vmax d a b => Sys2Proof.Machine.execVmax d a b s
  | .vand d a b => Sys2Proof.Machine.execVand d a b s
  | .vor d a b => Sys2Proof.Machine.execVor d a b s
  | .vaddMasked d b k r => Sys2Proof.Machine.execVaddMasked d b k r s
  | .vsubMasked d b k r => Sys2Proof.Machine.execVsubMasked d b k r s
  | .vmulMasked d b k r => Sys2Proof.Machine.execVmulMasked d b k r s
  | .vfmaMasked d b k r => Sys2Proof.Machine.execVfmaMasked d b k r s
  | .vminMasked d b k => Sys2Proof.Machine.execVminMasked d b k s
  | .vmaxMasked d b k => Sys2Proof.Machine.execVmaxMasked d b k s
  | .vandMasked d b k => Sys2Proof.Machine.execVandMasked d b k s
  | .vorMasked d b k => Sys2Proof.Machine.execVorMasked d b k s
  | .vxor d b k => Sys2Proof.Machine.execVxor d b k s
  | .vshl d b k => Sys2Proof.Machine.execVshl d b k s
  | .vshr d b k => Sys2Proof.Machine.execVshr d b k s
  | .vsra d b k => Sys2Proof.Machine.execVsra d b k s
  | .vmulh d b k => Sys2Proof.Machine.execVmulh d b k s
  | .vabs d sr k => Sys2Proof.Machine.execVabs d sr k s
  | .vneg d sr k => Sys2Proof.Machine.execVneg d sr k s
  | .vmov d sr k => Sys2Proof.Machine.execVmov d sr k s
  | .vcmp k a b cond => Sys2Proof.Machine.execVcmp k a b cond s
  | .vkand k a b => Sys2Proof.Machine.execVkand k a b s
  | .vkor k a b => Sys2Proof.Machine.execVkor k a b s
  | .vkxor k a b => Sys2Proof.Machine.execVkxor k a b s
  | .vknot k a => Sys2Proof.Machine.execVknot k a s
  | .vcvt d sr t r => Sys2Proof.Machine.execVcvt d sr t r s
  | .vqnt d sr t r => Sys2Proof.Machine.execVqnt d sr t r s
  | .vdqnt d sr t r => Sys2Proof.Machine.execVdqnt d sr t r s
  | .vretag d sr t => Sys2Proof.Machine.execVretag d sr t s
  | .vexp2 d sr k r => Sys2Proof.Machine.execVexp2 d sr k r s
  | .vlog2 d sr k r => Sys2Proof.Machine.execVlog2 d sr k r s
  | .vrcp d sr k r => Sys2Proof.Machine.execVrcp d sr k r s
  | .vrsqrt d sr k r => Sys2Proof.Machine.execVrsqrt d sr k r s
  | .vtanh d sr k r => Sys2Proof.Machine.execVtanh d sr k r s
  | .vsqrt d sr k r => Sys2Proof.Machine.execVsqrt d sr k r s
  | .vperm d sr im => Sys2Proof.Machine.execVperm d sr im s
  | .vbcs d a t => Sys2Proof.Machine.execVbcs d a t s
  | .vext sr d b => Sys2Proof.Machine.execVext sr d b s
  | .vins d a b => Sys2Proof.Machine.execVins d a b s
  | .vrng d => Sys2Proof.Machine.execVrng d s
  | .viota d a t => Sys2Proof.Machine.execViota d a t s
  | .vrsum sr z k r => Sys2Proof.Machine.execVrsum sr z k r s
  | .vrmin sr z k r => Sys2Proof.Machine.execVrmin sr z k r s
  | .vrmax sr z k r => Sys2Proof.Machine.execVrmax sr z k r s
  | .vzdrn d z => Sys2Proof.Machine.execVzdrn d z s
  | .vzclr t z a => Sys2Proof.Machine.execVzclr t z a s
  | .dadd d a b sr => Sys2Proof.Machine.execDadd d a b sr s
  | .dsub d a b sr => Sys2Proof.Machine.execDsub d a b sr s
  | .dmul d a b sr => Sys2Proof.Machine.execDmul d a b sr s
  | .dmax d a b sr => Sys2Proof.Machine.execDmax d a b sr s
  | .dmin d a b sr => Sys2Proof.Machine.execDmin d a b sr s
  | .daff d a b => Sys2Proof.Machine.execDaff d a b s
  | .dld d a b => Sys2Proof.Machine.execDld d a b s
  | .dst sr a => Sys2Proof.Machine.execDst sr a s
  | .dtag d a => Sys2Proof.Machine.execDtag d a s
  | .dpt d sr b => Sys2Proof.Machine.execDpt d sr b s
  | .dmom d sr => Sys2Proof.Machine.execDmom d sr s
  | .dqnt d sr b => Sys2Proof.Machine.execDqnt d sr b s
  | .dcdf d sr b => Sys2Proof.Machine.execDcdf d sr b s
  | .dfrom v d a => Sys2Proof.Machine.execDfrom v d a s
  | .mma d a w g n f m => Sys2Proof.Machine.execMma d a w g n f m s
  | .mldb w h => Sys2Proof.Machine.execMldb w h s
  | .mdrn vd sel w => Sys2Proof.Machine.execMdrn vd sel w s
  | .mfid n => Sys2Proof.Machine.execMfid n s
  | .mprog a b => Sys2Proof.Machine.execMprog a b s
  | .mstat d sr => Sys2Proof.Machine.execMstat d sr s
  | .mcall im => Sys2Proof.Machine.execMcall im s
  | .bact b a im => Sys2Proof.Machine.execBact b a im s
  | .brd b a k o => Sys2Proof.Machine.execBrd b a k o s
  | .bwr b a k o => Sys2Proof.Machine.execBwr b a k o s
  | .bpre b => Sys2Proof.Machine.execBpre b s
  | .bprea t => Sys2Proof.Machine.execBprea t s
  | .bref b => Sys2Proof.Machine.execBref b s
  | .bstat b d sr => Sys2Proof.Machine.execBstat b d sr s
  | .xput f a => Sys2Proof.Machine.execXput f a s
  | .xget d f => Sys2Proof.Machine.execXget d f s
  | .csync a t => Sys2Proof.Machine.execCsync a t s
  | .pbar r sr => Sys2Proof.Machine.execPbar r sr s
  | .cld a => Sys2Proof.Machine.execCld a s
  | .cst a b => Sys2Proof.Machine.execCst a b s
  | .cpy d sr t => Sys2Proof.Machine.execCpy d sr t s
  | .twall a => Sys2Proof.Machine.execTwall a s
  | .twany d a => Sys2Proof.Machine.execTwany d a s
  | .tffr d a => Sys2Proof.Machine.execTffr d a s
  | .obcst a b t => Sys2Proof.Machine.execObcst a b t s
  | .ored a b t => Sys2Proof.Machine.execOred a b t s
  | .orecv a b => Sys2Proof.Machine.execOrecv a b s
  | .acq a => Sys2Proof.Machine.execAcq a s
  | .acqs a => Sys2Proof.Machine.execAcqs a s
  | .rel a b => Sys2Proof.Machine.execRel a b s
  | .gbar a => Sys2Proof.Machine.execGbar a s
  | .oget d a => Sys2Proof.Machine.execOget d a s
  | .oset a b => Sys2Proof.Machine.execOset a b s
  | .gld a w => Sys2Proof.Machine.execGld a w s
  | .gst a b w => Sys2Proof.Machine.execGst a b w s
  | .gaadd q a b t w => Sys2Proof.Machine.execGaadd q a b t w s
  | .gamin q a b t w => Sys2Proof.Machine.execGamin q a b t w s
  | .gamax q a b t w => Sys2Proof.Machine.execGamax q a b t w s
  | .gaand q a b t w => Sys2Proof.Machine.execGaand q a b t w s
  | .gaor q a b t w => Sys2Proof.Machine.execGaor q a b t w s
  | .gaxor q a b t w => Sys2Proof.Machine.execGaxor q a b t w s
  | .gaswp q a b t w => Sys2Proof.Machine.execGaswp q a b t w s
  | .gacas k a b t w => Sys2Proof.Machine.execGacas k a b t w s
  | .gafadd q a b t => Sys2Proof.Machine.execGafadd q a b t s
  | .gafmin q a b t => Sys2Proof.Machine.execGafmin q a b t s
  | .gafmax q a b t => Sys2Proof.Machine.execGafmax q a b t s
  | .gabadd q a b t => Sys2Proof.Machine.execGabadd q a b t s
  | .gxadd a b t => Sys2Proof.Machine.execGxadd a b t s
  | .gxrd a => Sys2Proof.Machine.execGxrd a s
  | .gfence => Sys2Proof.Machine.execGfence s
  | .gws k a b => Sys2Proof.Machine.execGws k a b s
  | .hld a => Sys2Proof.Machine.execHld a s
  | .hst a b => Sys2Proof.Machine.execHst a b s
  | .qpop d q => Sys2Proof.Machine.execQpop d q s
  | .qpopNr d q p => Sys2Proof.Machine.execQpopNr d q p s
  | .asyncCauseDeliver c => Sys2Proof.Machine.execAsyncCauseDeliver c s
  | .resultLanding => Sys2Proof.Machine.execResultLanding s
  | .snapshotReplay => Sys2Proof.Machine.execSnapshotReplay s
  | .reductionUpdate => Sys2Proof.Machine.execReductionUpdate s
  | .mmaLand => Sys2Proof.Machine.execMmaLand s
  | .mdrnLand => Sys2Proof.Machine.execMdrnLand s
  | .mldbSwap => Sys2Proof.Machine.execMldbSwap s
  | .routineStep => Sys2Proof.Machine.execRoutineStep s
  | .routineLoad => Sys2Proof.Machine.execRoutineLoad s
  | .routineEnd => Sys2Proof.Machine.execRoutineEnd s
  | .brdLand => Sys2Proof.Machine.execBrdLand s
  | .bwrRowWrite => Sys2Proof.Machine.execBwrRowWrite s
  | .bankPhaseEnd => Sys2Proof.Machine.execBankPhaseEnd s
  | .refreshDeadlineExpire bank core => Sys2Proof.Machine.execRefreshDeadlineExpire bank s core
  | .emergencyRefresh => Sys2Proof.Machine.execEmergencyRefresh s
  | .tierClassChange tier cls core => Sys2Proof.Machine.execTierClassChange tier cls s core
  | .replanAgeExpire => Sys2Proof.Machine.execReplanAgeExpire s
  | .patrolScrub r => Sys2Proof.Machine.execPatrolScrub r s
  | .uncorrectableError src loc => Sys2Proof.Machine.execUncorrectableError src loc s
  | .rollbackRestoreDone => Sys2Proof.Machine.execRollbackRestoreDone s
  | .slotSelect => Sys2Proof.Machine.execSlotSelect s
  | .loadStreamDone => Sys2Proof.Machine.execLoadStreamDone s
  | .unloadStreamDone => Sys2Proof.Machine.execUnloadStreamDone s
  | .segmentExpanded => Sys2Proof.Machine.execSegmentExpanded s
  | .queueEntryDeliver c q => Sys2Proof.Machine.execQueueEntryDeliver c q s
  | .xchgWordArrive port v => Sys2Proof.Machine.execXchgWordArrive port v s
  | .xchgWindowExpire => Sys2Proof.Machine.execXchgWindowExpire s
  | .csyncRelease last => Sys2Proof.Machine.execCsyncRelease s last
  | .tagCountZero t => Sys2Proof.Machine.execTagCountZero t s
  | .copyTake => Sys2Proof.Machine.execCopyTake s
  | .copyComplete engine part bytes => Sys2Proof.Machine.execCopyComplete engine s part bytes
  | .peerAccessPerform r => Sys2Proof.Machine.execPeerAccessPerform r s
  | .droopStretch => Sys2Proof.Machine.execDroopStretch s
  | .fllLock => Sys2Proof.Machine.execFllLock s
  | .svcbudInterval => Sys2Proof.Machine.execSvcbudInterval s
  | .serviceEgress others => Sys2Proof.Machine.execServiceEgress s others
  | .serviceFlitHop => Sys2Proof.Machine.execServiceFlitHop s
  | .routeFlitDepart => Sys2Proof.Machine.execRouteFlitDepart s
  | .routeFlitArrive ws seq => Sys2Proof.Machine.execRouteFlitArrive ws s seq
  | .pbarArrive c => Sys2Proof.Machine.execPbarArrive c s
  | .pbarRelease r steps seq => Sys2Proof.Machine.execPbarRelease r s steps seq
  | .preemptRequest seq urgent => Sys2Proof.Machine.execPreemptRequest seq urgent s
  | .placementResume seq sp => Sys2Proof.Machine.execPlacementResume seq sp s
  | .clusterGate cl => Sys2Proof.Machine.execClusterGate cl s
  | .clusterWake cl => Sys2Proof.Machine.execClusterWake cl s
  | .clusterWakeDone cl => Sys2Proof.Machine.execClusterWakeDone cl s
  | .dieGate d => Sys2Proof.Machine.execDieGate d s
  | .dieWake d => Sys2Proof.Machine.execDieWake d s
  | .dieWakeDone d => Sys2Proof.Machine.execDieWakeDone d s
  | .columnReenable core => Sys2Proof.Machine.execColumnReenable core s
  | .tokenArrive bus => Sys2Proof.Machine.execTokenArrive bus s
  | .frameLastBeat bus other => Sys2Proof.Machine.execFrameLastBeat bus s other
  | .stationEnqueue bus other => Sys2Proof.Machine.execStationEnqueue bus s other
  | .frameData f crc drops => Sys2Proof.Machine.execFrameData f crc s drops
  | .frameRed f crc drops => Sys2Proof.Machine.execFrameRed f crc s drops
  | .frameAcq f crc => Sys2Proof.Machine.execFrameAcq f crc s
  | .frameAcqs f crc => Sys2Proof.Machine.execFrameAcqs f crc s
  | .frameRel f crc => Sys2Proof.Machine.execFrameRel f crc s
  | .frameMark f crc => Sys2Proof.Machine.execFrameMark f crc s
  | .frameMap f crc => Sys2Proof.Machine.execFrameMap f crc s
  | .frameReset f crc => Sys2Proof.Machine.execFrameReset f crc s
  | .receiverLock bus st up => Sys2Proof.Machine.execReceiverLock bus st s up
  | .busgateWrite v cl => Sys2Proof.Machine.execBusgateWrite v s cl
  | .theatWrite idx v => Sys2Proof.Machine.execTheatWrite idx v s
  | .mapgoGo bus => Sys2Proof.Machine.execMapgoGo bus s
  | .mapgoQuiet bus => Sys2Proof.Machine.execMapgoQuiet bus s
  | .mapgoResume bus => Sys2Proof.Machine.execMapgoResume bus s
  | .quietTimeout bus => Sys2Proof.Machine.execQuietTimeout bus s
  | .homePerform r => Sys2Proof.Machine.execHomePerform r s
  | .pageMapped core idx => Sys2Proof.Machine.execPageMapped core idx s
  | .sideLogReplay c n r => Sys2Proof.Machine.execSideLogReplay c n s r
  | .htinvWrite v core => Sys2Proof.Machine.execHtinvWrite v s core
  | .htinvAck core => Sys2Proof.Machine.execHtinvAck s core
  | .pageMigrate core idx q => Sys2Proof.Machine.execPageMigrate core idx q s
  | .pageMoveDone core idx guest => Sys2Proof.Machine.execPageMoveDone core idx s guest
  | .hostAccessPerform r => Sys2Proof.Machine.execHostAccessPerform r s
  | .launchRecordTake slot => Sys2Proof.Machine.execLaunchRecordTake slot s
  | .launchCancel slot => Sys2Proof.Machine.execLaunchCancel slot s
  | .launchDepsMet slot => Sys2Proof.Machine.execLaunchDepsMet slot s
  | .distributorDecide => Sys2Proof.Machine.execDistributorDecide s
  | .launchStart slot => Sys2Proof.Machine.execLaunchStart slot s
  | .launchEnd slot status => Sys2Proof.Machine.execLaunchEnd slot status s
  | .ctxRecordWrite c off bytes => Sys2Proof.Machine.execCtxRecordWrite c off bytes s
  | .supervisorResumeTpc c => Sys2Proof.Machine.execSupervisorResumeTpc c s
  | .supervisorResumePc c => Sys2Proof.Machine.execSupervisorResumePc c s
  | .supervisorEvict c => Sys2Proof.Machine.execSupervisorEvict c s
  | .supervisorEndPlan c status => Sys2Proof.Machine.execSupervisorEndPlan c status s
  | .clkctlWrite v => Sys2Proof.Machine.execClkctlWrite v s
  | .clkctlRead => Sys2Proof.Machine.execClkctlRead s
  | .linkRead port => Sys2Proof.Machine.execLinkRead port s
  | .ingrejaRead => Sys2Proof.Machine.execIngrejaRead s
  | .mgmtRegisterWrite r v => Sys2Proof.Machine.execMgmtRegisterWrite r v s
  | .powerWindow watts => Sys2Proof.Machine.execPowerWindow watts s
  | .powerFreqStep => Sys2Proof.Machine.execPowerFreqStep s
  | .thermalTrip die reading => Sys2Proof.Machine.execThermalTrip die reading s
  | .energyInterval parts => Sys2Proof.Machine.execEnergyInterval parts s
  | .ebpinRetrainTimeout => Sys2Proof.Machine.execEbpinRetrainTimeout s
  | .packageReset digestsOk => Sys2Proof.Machine.execPackageReset digestsOk s
  | .attestRequest nonce => Sys2Proof.Machine.execAttestRequest nonce s
  | .debugAccess layer off wr busy => Sys2Proof.Machine.execDebugAccess layer off wr s busy
  | .debugWake layer => Sys2Proof.Machine.execDebugWake layer s
  | .debugWakeDone layer => Sys2Proof.Machine.execDebugWakeDone layer s
  | .debugRelease layer => Sys2Proof.Machine.execDebugRelease layer s
  | .debugIdleTimeout layer => Sys2Proof.Machine.execDebugIdleTimeout layer s
  | .linkTrainRequest port => Sys2Proof.Machine.execLinkTrainRequest port s
  | .linkLock port measured => Sys2Proof.Machine.execLinkLock port measured s
  | .linkTrainTimeout port => Sys2Proof.Machine.execLinkTrainTimeout port s
  | .linkCheckFail port => Sys2Proof.Machine.execLinkCheckFail port s
  | .packageUnreachable pkg => Sys2Proof.Machine.execPackageUnreachable pkg s
  | .fabricFlitArrive port ws => Sys2Proof.Machine.execFabricFlitArrive port ws s
  | .fabricRequestArrive q => Sys2Proof.Machine.execFabricRequestArrive q s
  | .remoteReply n r part => Sys2Proof.Machine.execRemoteReply n r s part
  | .fabricSyncMessage m => Sys2Proof.Machine.execFabricSyncMessage m s
  | .supervisorEndContext c => Sys2Proof.Machine.execSupervisorEndContext c s
  | .evictedBankRefresh => Sys2Proof.Machine.execEvictedBankRefresh s
  | .ebpinRetrainingStart => Sys2Proof.Machine.execEbpinRetrainingStart s
  | .ebpinRetrainingDone => Sys2Proof.Machine.execEbpinRetrainingDone s
  | .packagePowerLoss => Sys2Proof.Machine.execPackagePowerLoss s
  | .launchWindowRegister base => Sys2Proof.Machine.execLaunchWindowRegister base s
  | .domainFormed t => Sys2Proof.Machine.execDomainFormed t s
  | .grantTokenMint rights region expiry pkg => Sys2Proof.Machine.execGrantTokenMint rights region expiry pkg s

end Sys2Proof.Machine
end

