-- ==== Sys2Proof/Machine/Bundle.lean ====
section
/-! DEFINITION. Bundles: where they begin and end, their pipes and conflicts (R64 to R72, R79, R80, R456), their issue
as one (R118, R119, R139), and the causes that stop a context between bundles (R37, R106, R118, R137). -/

namespace Sys2Proof.Machine

/-! Words of a bundle -/

/-- Pipe number of a word by its major: C 0, A 1, A or B 2, L 3, V 4, Z 5, M 6, D 7, X 8 (R71, R77). -/
def pipeOf (w : Word) : Nat :=
  let m := fld w.toNat 26 5
  if m < 3 then 0 else if m < 8 then 2 else if m = 8 then 1 else if m < 0x0C then 3 else if m < 0x15 then 4
  else if m < 0x18 then 5 else if m < 0x1A then 6 else if m = 0x1A then 7 else 8

/-- A run of registers that a word writes: class of R71, first register as encoded, length (R69). -/
structure Dest where
  cls : Nat
  first : Nat
  n : Nat
  deriving DecidableEq, Repr

/-- One scalar. -/
def dS (d : BitVec 6) : Dest := ⟨0, d.toNat, 1⟩
/-- One predicate; p0 is excluded (R69). -/
def dP (p : BitVec 5) : List Dest := if p = 0 then [] else [⟨1, p.toNat, 1⟩]
/-- One mask; k0 is excluded (R69). -/
def dK (k : BitVec 4) : List Dest := if k = 0 then [] else [⟨2, k.toNat, 1⟩]
/-- A run of rows. -/
def dV (d : BitVec 8) (n : Nat) : Dest := ⟨3, d.toNat, n⟩

/-- Explicit and implicit destinations of a word (R69, R102, R103, R162). The advance of VRNGC is tested at issue,
and ROTB, which MTC of VROT clears in part, is no destination of it (DESIGN CHOICE, log 87). -/
def destsOf (i : Instr) : List Dest :=
  match i with
  | .call _ _ _ => [dS 63]
  | .loop c _ => [dS (c.zeroExtend 6), ⟨8, 6, 1⟩]
  | .add d _ _ _ => [dS d] | .sub d _ _ _ => [dS d] | .mul d _ _ _ => [dS d] | .mulh d _ _ _ _ => [dS d]
  | .div d _ _ _ _ => [dS d] | .rem d _ _ _ _ => [dS d] | .and d _ _ _ => [dS d] | .or d _ _ _ => [dS d]
  | .xor d _ _ _ => [dS d] | .andn d _ _ _ => [dS d] | .shl d _ _ _ => [dS d] | .shr d _ _ _ => [dS d]
  | .sra d _ _ _ => [dS d] | .min d _ _ _ _ => [dS d] | .max d _ _ _ _ => [dS d] | .adds d _ _ _ _ => [dS d]
  | .subs d _ _ _ _ => [dS d] | .clz d _ _ => [dS d] | .ctz d _ _ => [dS d] | .popc d _ _ => [dS d]
  | .mov d _ _ => [dS d] | .addi d _ _ => [dS d] | .andi d _ _ => [dS d] | .ori d _ _ => [dS d]
  | .xori d _ _ => [dS d] | .shli d _ _ => [dS d] | .shri d _ _ => [dS d] | .srai d _ _ => [dS d]
  | .muli d _ _ => [dS d] | .li d _ => [dS d] | .lis d _ => [dS d] | .adr d _ => [dS d]
  | .fadd d _ _ _ => [dS d] | .fsub d _ _ _ => [dS d] | .fmul d _ _ _ => [dS d] | .fdiv d _ _ _ => [dS d]
  | .fsqrt d _ _ => [dS d] | .fmin d _ _ => [dS d] | .fmax d _ _ => [dS d] | .fma d _ _ _ => [dS d]
  | .fcvtfi d _ _ => [dS d] | .fcvtif d _ _ => [dS d]
  | .cmp p _ _ _ => dP p | .fcmp p _ _ _ => dP p | .test p _ _ => dP p | .pand p _ _ => dP p
  | .por p _ _ => dP p | .pxor p _ _ => dP p | .pnot p _ => dP p
  | .mfc d _ => [dS d] | .mtc r _ => [⟨8, r.toNat, 1⟩] | .mfk d _ => [dS d] | .mtk k _ => dK k
  | .mfp d => [dS d] | .mtp _ => [⟨1, 1, 31⟩] | .mfm d _ => [dS d] | .mtm m _ => [⟨6, m.toNat, 1⟩]
  | .qpopa d _ => [dS d] | .qpopaNr d _ p => dS d :: dP p
  | .ldb d _ _ => [dS d] | .ldh d _ _ => [dS d] | .ldw d _ _ => [dS d] | .ldd d _ _ => [dS d]
  | .ldv v _ _ _ => [dV v 1] | .ldmScalar d _ => [dS d] | .ldshp h _ => [⟨7, h.toNat, 1⟩]
  | .vadd d _ _ => [dV d 1] | .vsub d _ _ => [dV d 1] | .vmul d _ _ => [dV d 1] | .vfma d _ _ => [dV d 1]
  | .vmin d _ _ => [dV d 1] | .vmax d _ _ => [dV d 1] | .vand d _ _ => [dV d 1] | .vor d _ _ => [dV d 1]
  | .vaddMasked d _ _ _ => [dV d 1] | .vsubMasked d _ _ _ => [dV d 1] | .vmulMasked d _ _ _ => [dV d 1]
  | .vfmaMasked d _ _ _ => [dV d 1] | .vminMasked d _ _ => [dV d 1] | .vmaxMasked d _ _ => [dV d 1]
  | .vandMasked d _ _ => [dV d 1] | .vorMasked d _ _ => [dV d 1] | .vxor d _ _ => [dV d 1]
  | .vshl d _ _ => [dV d 1] | .vshr d _ _ => [dV d 1] | .vsra d _ _ => [dV d 1] | .vmulh d _ _ => [dV d 1]
  | .vabs d _ _ => [dV d 1] | .vneg d _ _ => [dV d 1] | .vmov d _ _ => [dV d 1]
  | .vcmp k _ _ _ => dK k | .vkand k _ _ => dK k | .vkor k _ _ => dK k | .vkxor k _ _ => dK k | .vknot k _ => dK k
  | .vcvt d _ _ _ => [dV d 4] | .vqnt d _ _ _ => [dV d 8] | .vdqnt d _ _ _ => [dV d 8] | .vretag d _ _ => [dV d 1]
  | .vexp2 d _ _ _ => [dV d 1] | .vlog2 d _ _ _ => [dV d 1] | .vrcp d _ _ _ => [dV d 1]
  | .vrsqrt d _ _ _ => [dV d 1] | .vtanh d _ _ _ => [dV d 1] | .vsqrt d _ _ _ => [dV d 1]
  | .vperm d _ _ => [dV d 1] | .vbcs d _ _ => [dV d 1] | .vext _ d _ => [dS d] | .vins d _ _ => [dV d 1]
  | .vrng d => [dV d 1] | .viota d _ _ => [dV d 1]
  | .vrsum _ z _ _ => [⟨4, z.toNat, 1⟩] | .vrmin _ z _ _ => [⟨4, z.toNat, 1⟩] | .vrmax _ z _ _ => [⟨4, z.toNat, 1⟩]
  | .vzdrn d _ => [dV d 1] | .vzclr _ z _ => [⟨4, z.toNat, 1⟩]
  | .dadd d _ _ _ => [⟨5, d.toNat, 1⟩] | .dsub d _ _ _ => [⟨5, d.toNat, 1⟩] | .dmul d _ _ _ => [⟨5, d.toNat, 1⟩]
  | .dmax d _ _ _ => [⟨5, d.toNat, 1⟩] | .dmin d _ _ _ => [⟨5, d.toNat, 1⟩] | .daff d _ _ => [⟨5, d.toNat, 1⟩]
  | .dld d _ _ => [⟨5, d.toNat, 1⟩] | .dtag d _ => [⟨5, d.toNat, 1⟩] | .dpt d _ _ => [dS d]
  | .dmom d _ => [dV d 2] | .dqnt d _ _ => [dV d 1] | .dcdf d _ _ => [dV d 1] | .dfrom _ d _ => [⟨5, d.toNat, 1⟩]
  | .mma d _ _ _ _ _ _ => [dV d 1] | .mdrn d _ _ => [dV d 1] | .mfid _ => [⟨8, 8, 1⟩] | .mstat d _ => [dS d]
  | .bstat _ d _ => [dS d] | .xget d _ => [dS d] | .twany d _ => [dS d] | .tffr d _ => [dS d] | .oget d _ => [dS d]
  | .qpop d _ => [dS d] | .qpopNr d _ p => dS d :: dP p
  | _ => []

/-- What a word pops or pushes: class of R71, code, and whether it is a push (R68). -/
def fifoOf (i : Instr) : List (Nat × Nat × Bool) :=
  match i with
  | .qpopa _ q => [(9, q.toNat, false)]
  | .qpopaNr _ q _ => [(9, q.toNat, false)]
  | .qpop _ q => [(9, q.toNat, false)]
  | .qpopNr _ q _ => [(9, q.toNat, false)]
  | .xget _ f => [(10, f.toNat, false)]
  | .xput f _ => [(10, f.toNat, true)]
  | _ => []

/-- The words of the bundle that begins a list, and how it ends: 0 at a word with C = 0, 1 with a tenth word due, 2 at
the end of the segment with C = 1 (R66, R68). -/
def takeBundle : Nat → List Word → List Word × Nat
  | _, [] => ([], 2)
  | 0, _ :: _ => ([], 1)
  | n + 1, w :: t => if chained w then let (l, e) := takeBundle n t; (w :: l, e) else ([w], 0)

/-- TVAL of BUNDLE_CONFLICT (R71). -/
def conflictTval (index cls kind second first : Nat) : Dbl :=
  BitVec.ofNat 64 (index * 2 ^ 24 + cls * 2 ^ 20 + kind * 2 ^ 16 + second * 16 + first)

/-- The first pair of slots, by second slot and then by first, that meets a test: R68 gives the second, and the lowest first
slot is a choice (DESIGN CHOICE, log 57). -/
def firstPair {α : Type} (n : Nat) (f : Nat → Nat → Option α) : Option (Nat × Nat × α) :=
  ((List.range n).flatMap (fun j => (List.range j).filterMap (fun i => (f i j).map (fun a => (i, j, a))))).head?

/-- The conflict of two words over a pipe: pipes are numbered as in R71, 2 is a scalar-class word (R67, R68). -/
def pipeClash (ps : List Nat) (i j : Nat) : Option Nat :=
  let p := fun k => ps.getD k 9
  if p j != p i then none
  else if p j != 2 then some (p j)
  else
    -- the word at j finds no pipe: names the word that holds B
    let before := (List.range j).filter (fun k => p k == 2)
    if ps.contains 1 then (if before.head? == some i then some 2 else none)
    else if before[1]? == some i then some 2 else none

/-- The physical index of a destination (R28, R71). -/
def physDest (b : Bank) (cls n : Nat) : Nat :=
  if cls = 1 then (physP b (BitVec.ofNat 5 n)).toNat else if cls = 3 then (physV b (BitVec.ofNat 8 n)).toNat else n
/-- The first register that two runs share. -/
def sharedReg (x y : Dest) : Option Nat :=
  let lo := max x.first y.first
  if x.cls = y.cls && lo < min (x.first + x.n) (y.first + y.n) then some lo else none
/-- The conflict of two words over a register: class and first shared register (R69), in the order of the first word's
destinations (DESIGN CHOICE, log 57). -/
def writeClash (is : List Instr) (i j : Nat) : Option (Nat × Nat) :=
  let ds := fun k => ((is[k]?).map destsOf).getD []
  ((ds i).flatMap (fun x => (ds j).filterMap (fun y => (sharedReg x y).map (fun r => (x.cls, r))))).head?
/-- The conflict of two words over a queue or a FIFO register (R68). -/
def fifoClash (is : List Instr) (i j : Nat) : Option (Nat × Nat) :=
  let fs := fun k => ((is[k]?).map fifoOf).getD []
  ((fs i).filterMap (fun x => if (fs j).contains x then some (x.1, x.2.1) else none)).head?

/-- BUNDLE_CONFLICT of a bundle that decodes, as its TVAL: KIND 4, then 1, 2 and 3 (R68 to R71). INDEX and CLASS of KIND 4 are
0, and at a segment's end SECOND is the last word's own slot (DESIGN CHOICE, log 56). -/
def conflictOf (b : Bank) (ws : List Word) (is : List Instr) (ending : Nat) : Option Dbl :=
  if ending = 1 then some (conflictTval 0 0 4 9 0)
  else if ending = 2 then some (conflictTval 0 0 4 (ws.length - 1) 0)
  else match firstPair ws.length (pipeClash (ws.map pipeOf)) with
    | some (i, j, p) => some (conflictTval p 11 1 j i)
    | none => match firstPair ws.length (writeClash is) with
      | some (i, j, (c, r)) => some (conflictTval (physDest b c r) c 2 j i)
      | none => match firstPair ws.length (fifoClash is) with
        | some (i, j, (c, q)) => some (conflictTval q c 3 j i)
        | none => none

/-- The words of a bundle decoded, or ILLEGAL of its first illegal word as a TVAL (R72, R79, R80). -/
def decodeAll : Nat → List Word → Except Dbl (List Instr)
  | _, [] => .ok []
  | k, w :: t =>
    match decodeWord w with
    | .error kind => .error (BitVec.ofNat 64 (kind * 2 ^ 36 + k * 2 ^ 32 + w.toNat))
    | .ok i => match decodeAll (k + 1) t with
      | .ok l => .ok (i :: l)
      | .error e => .error e

/-- Pipe demand of a bundle (R67, R139). -/
def demand (ps : List Nat) : List Nat :=
  let scal := (ps.filter (fun p => p == 2)).length
  let others := ps.filter (fun p => p != 2)
  if others.contains 1 then (if scal = 0 then others else 2 :: others)
  else if scal = 0 then others else if scal = 1 then 1 :: others else 1 :: 2 :: others
/-- A secondary bundle finds its pipes free beside those used (R139). Words beyond those that pipes A and B can take count for
nothing: they are a conflict of the bundle itself. -/
def pipesFit (used ps : List Nat) : Bool :=
  let scal := (ps.filter (fun p => p == 2)).length
  let others := ps.filter (fun p => p != 2)
  let freeA := !used.contains 1 && !others.contains 1
  let freeB := !used.contains 2
  others.all (fun p => !used.contains p) && decide (min scal (2 - b2n (others.contains 1)) ≤ b2n freeA + b2n freeB)

/-! The issue of a bundle -/

/-- What the words of a bundle have given so far: the state, the causes with their slots, the waits, whether it stalls,
the state that replaces the bundle, whether a class 6 cause was taken. -/
structure Fold where
  st : State
  causes : List (Nat × Nat × BitVec 8 × Dbl) := []
  waits : List Wait := []
  stall : Bool := false
  final : Option State := none
  soft : Bool := false
  deriving DecidableEq, Repr

/-- One word of a bundle at its slot. -/
def execSlot (s : State) (k : Nat) (i : Instr) : State :=
  match exec i { s with cur := { s.cur with slot := BitVec.ofNat 4 k, trap := none, wait := false, stall := false } } with
  | .next t => t
  | .fault _ => s
  | .refused _ => s
/-- The holder of a port in the TVAL of a SCRATCH_COLLIDE (R235). -/
def holderOf (v : Dbl) : BitVec 2 := v.extractLsb' 14 2
/-- A word of pipe L, Z or D finds a port taken by another bundle or a replay (R139, R233). -/
def portTaken (ps : List Nat) (c : Nat × Nat × BitVec 8 × Dbl) : Bool :=
  c.2.2.1 == 0x15 && (ps.getD c.2.1 9 == 3 || ps.getD c.2.1 9 == 5 || ps.getD c.2.1 9 == 7) && holderOf c.2.2.2 != 3
/-- One word into the fold. -/
def foldWord (f : Fold) (k : Nat) (i : Instr) : Fold :=
  let t := execSlot f.st k i
  if t.cur.wait then { f with waits := f.waits ++ (getCtx t t.cur.ctx).waits.getLast?.toList }
  else if t.cur.stall then { f with stall := true }
  else match t.cur.trap with
    | none => { f with st := t }
    | some (cls, code, tval) =>
      if cls = 7 then { f with final := some t }
      else if cls = 6 then { f with st := t, soft := true }
      else
        { f with causes := f.causes ++ [(cls, k, code, tval)],
                 st := { f.st with cur := { f.st.cur with snapNeed := t.cur.snapNeed, draws := t.cur.draws } } }

/-- The order in which the words of a bundle take effect: CKPT first, ERET and the words of class 6 last. -/
def effectRank (i : Instr) : Nat :=
  match i with
  | .ckpt => 0
  | .eret => 2
  | .sys _ => 2
  | .trap _ => 2
  | .brk _ => 2
  | _ => 1
/-- The words with their slots in that order. -/
def ordered (is : List Instr) : List (Nat × Instr) :=
  sortBy (fun a b => decide (effectRank a.2 ≤ effectRank b.2)) (is.zipIdx.map (fun p => (p.2, p.1)))
/-- All words of a bundle. -/
def foldBundle (s : State) (is : List Instr) : Fold := (ordered is).foldl (fun f p => foldWord f p.1 p.2) { st := s }

/-- The conflict of drawing words, as TVAL (R456). -/
def drawClash (is : List Instr) (draws : List (BitVec 4)) : Option Dbl :=
  let mtc := is.zipIdx.filterMap (fun p => match p.1 with
    | .mtc r _ => if r = 0x0C then some p.2 else none
    | _ => none)
  let ks := sortBy (fun a b => decide (a ≤ b)) (draws.map BitVec.toNat ++ (if draws.isEmpty then [] else mtc))
  match ks with
  | i :: j :: _ => some (conflictTval 0x0C 8 2 j i)
  | _ => none
/-- The cause to deliver among those of a bundle: lowest class, then lowest slot (R118). -/
def pickSlot : List (Nat × Nat × BitVec 8 × Dbl) → Option (Nat × Nat × BitVec 8 × Dbl)
  | [] => none
  | c :: t => match pickSlot t with
    | some d => if d.1 < c.1 || (d.1 == c.1 && d.2.1 < c.2.1) then some d else some c
    | none => some c
/-- A SNAPSHOT_FULL that a single word found stands for the bundle's own count (R129, log 18). -/
def ofBundle (c : Nat × Nat × BitVec 8 × Dbl) : Bool := !(c.2.2.1 == 0x0A && decide (c.2.2.2.toNat < 2 ^ 60))
/-- All causes of a bundle that passed the decode checks. -/
def bundleCauses (base : State) (is : List Instr) (f : Fold) : List (Nat × Nat × BitVec 8 × Dbl) :=
  let need := f.st.cur.snapNeed
  f.causes.filter ofBundle ++
    (if 0 < need && 64 < entriesInFlight base base.cur.ctx + need then [(4, 9, 0x0A#8, BitVec.ofNat 64 need)] else []) ++
    (match drawClash is f.st.cur.draws with
      | some v => [(3, 0, 0x02#8, v)]
      | none => [])

/-- The bundle has issued: the ports it took have their holder, its address is left behind, with a note of a fall-through past
its segment, and the first bundle from a segment asks for the next one (R66, R105, R151, R233). -/
def finishBundle (c : CtxId) (g : Seg) (old : Nat) (soft : Bool) (t : State) : State :=
  let hold : BitVec 2 := if t.cur.primary then 0 else 1
  let t1 := signRel c old { t with seq := t.seq + 1, ports := t.ports.map (fun r => if r.holder = 3 then { r with holder := hold } else r) }
  let x := getCtx t1 c
  let y := if soft then x else { x with bank := { x.bank with pc := t1.cur.npc }, hold := t1.cycle + t1.cur.gap }
  let past := t1.cur.npc == t1.cur.addr + BitVec.ofNat 64 (4 * t1.cur.n) && t1.cur.npc.toNat == g.cbase + 12 * g.npkt
  let t2 := setCtx t1 c { y with seg := some g.cbase, start := none, fell := past && !soft }
  if x.seg = some g.cbase then t2 else prefetch c g t2

/-- What comes of the next bundle of a context. -/
inductive Try where
  | idle
  | taken (s : State) (pipes : List Nat)
  | blocked (s : State)
  deriving DecidableEq, Repr

/-- The routine of the owner goes on at S (R135, R202). -/
def resumeEngine (c : CtxId) (s : State) : State :=
  if s.matrix.hold && (getCtx s c).bank.mown then
    routineCycle { s with matrix := { s.matrix with
      hold := false, run := s.matrix.run.map (fun r => { r with start := max r.start s.cycle }) } }
  else s
/-- The state in which the words of a bundle run: its place, and at S the replays, the routine and the recorded bank counts
(R131, R135, R136). -/
def enterBundle (s : State) (c : CtxId) (n : Nat) : State :=
  let s := resumeEngine c (atResume c s)
  let x := getCtx s c
  let y := { x with replayAt := if x.restart && !x.snap.isEmpty then some s.cycle else x.replayAt, restart := false }
  let a := x.bank.pc
  { setCtx s c y with cur :=
    { ctx := c, primary := x.primary, addr := a, n := n, npc := a + BitVec.ofNat 64 (4 * n) } }

/-- A tag that R37 forbids: register class, index and tag of the first such register in the order of the record. A snapshot
entry that a record write gave such a tag is replayed and then found here (DESIGN CHOICE, log 54). -/
def forbiddenTag (x : Ctx) : Option (Nat × Nat × Tag) :=
  match (x.v.filter (fun p => p.2.tag == 14)).head? with
  | some p => some (0, p.1, p.2.tag)
  | none => match (x.d.filter (fun p => decide (p.2.tag.toNat < 14))).head? with
    | some p => some (2, p.1, p.2.tag)
    | none => (x.z.filter (fun p => decide (9 ≤ p.2.tag.toNat) && decide (p.2.tag.toNat ≤ 14))).head?.map (fun p => (3, p.1, p.2.tag))
/-- The registers with a forbidden tag become UNSET (R37). -/
def clearForbidden (x : Ctx) : Ctx :=
  { x with v := (x.v.map (fun p => if p.2.tag = 14 then (p.1, { p.2 with tag := 15 }) else p)).filter (fun p => p.2 != {}),
           d := (x.d.map (fun p => if p.2.tag.toNat < 14 then (p.1, { p.2 with tag := 15 }) else p)).filter (fun p => p.2 != {}),
           z := (x.z.map (fun p => if 9 ≤ p.2.tag.toNat && p.2.tag.toNat ≤ 14 then (p.1, { p.2 with tag := 15 }) else p)).filter (fun p => p.2 != {}) }
/-- FORMAT_TAG at the restart of a context whose record holds a forbidden tag (R37). -/
def trapTag (s : State) (c : CtxId) (cls phys : Nat) (found : Tag) : State :=
  let x := getCtx s c
  let v := BitVec.ofNat 64 (cls * 2 ^ 24 + phys * 2 ^ 16 + phys * 2 ^ 8 + found.toNat)
  deliver (setCtx s c (clearForbidden x)) c 0x03 v x.bank.pc s.cycle

/-- A bundle that no word of which runs traps at a class 3 cause, or at a forbidden tag of its record first. In the secondary
stream it does so when the pipes that its words demand are free, a word of an unassigned major counting as one of pipe C (R37,
R72, R139; the spec is silent on such a bundle, DESIGN CHOICE, log 78). -/
def refuseBundle (s : State) (c : CtxId) (used ps : List Nat) (secondary : Bool) (code : BitVec 8) (tval : Dbl) : Try :=
  if secondary && !pipesFit used ps then .idle
  else match forbiddenTag (getCtx s c) with
    | some (cls, phys, t) => .taken (trapTag s c cls phys t) (demand ps)
    | none => .taken (deliver s c code tval (getCtx s c).bank.pc s.cycle) (demand ps)
/-- A bundle that traps has not issued: the entries that were to be replayed from it wait for the restart again (R119, R131). -/
def unreplay (x : Ctx) (c : CtxId) (s : State) : State :=
  let y := getCtx s c
  if x.restart && y.replayAt.isSome then setCtx s c { y with replayAt := x.replayAt, restart := true } else s
/-- The next bundle of a context beside the pipes used in the cycle: traps, blocks, waits in place, or issues; a primary
bundle that traps keeps its pipes from the secondary stream (R37, R72, R118, R119, R139, R141). A secondary bundle blocks, as it
would issue, in a cycle in which its slot's turn comes and its pipes fit (DESIGN CHOICE, log 78). -/
def tryBundle (s : State) (c : CtxId) (used : List Nat) (secondary : Bool) : Try :=
  let x := getCtx s c
  if x.st != .running || !timeOk s x || s.retired then .idle
  else match x.slot.bind (fun k => codeAt s k x.plan x.bank.pc.toNat) with
  | none => .idle
  | some (g, code) =>
    let pc := x.bank.pc
    let (ws, ending) := takeBundle 9 (code.drop ((pc.toNat - g.cbase) / 4))
    let ps := ws.map pipeOf
    match decodeAll 0 ws with
    | .error tval => refuseBundle s c used ps secondary 0x01 tval
    | .ok is =>
      match conflictOf x.bank ws is ending with
      | some tval => refuseBundle s c used ps secondary 0x02 tval
      | none =>
        let base := enterBundle s c ws.length
        let f := foldBundle base is
        if secondary && (!pipesFit used ps || f.causes.any (portTaken ps)) then .idle
        else if !f.waits.isEmpty then
          .blocked (setCtx s c { x with st := .blocked, waits := f.waits, blockedAt := s.cycle })
        else if f.stall then .idle
        else match forbiddenTag x with
          | some (cls, phys, t) => .taken (trapTag s c cls phys t) (demand ps)
          | none => match pickSlot (bundleCauses base is f) with
            | some (_, _, code, tval) => .taken (unreplay x c (deliver base c code tval pc s.cycle)) (demand ps)
            | none => match f.final with
              | some t => .taken { t with seq := t.seq + 1 } (demand ps)
              | none => .taken (finishBundle c g x.rel.length f.soft f.st) (demand ps)

/-- CODE_ALIGN or CODE_RANGE of the address that a context goes on at: after a fall-through, CODE_RANGE unless a segment begins
there (R106, R137, R151). -/
def nextCause (s : State) (x : Ctx) : Option (BitVec 8) :=
  if x.fell && !(segsOf s x.plan).any (fun g => g.cbase == x.bank.pc.toNat) then some 0x11 else codeCause s x.plan x.bank.pc
/-- That cause stops the context (R106, R137, R151). -/
def stopCode (s : State) (c : CtxId) : State :=
  let x := getCtx s c
  if x.st != .running || x.slot.isNone || !timeOk s x || s.retired then s
  else match nextCause s x with
    | some code => deliver s c code x.bank.pc x.bank.pc s.cycle
    | none => s

/-- The slots of the secondary stream, from the one after the last that issued (R138, R139). -/
def turnOrder (s : State) : List (BitVec 2) := [s.lastSlot + 1, s.lastSlot + 2, s.lastSlot + 3, s.lastSlot]
/-- The secondary stream: the first fitting candidate in turn issues (R139). -/
def secondaryIssue (used : List Nat) : List (BitVec 2) → State → State
  | [], s => s
  | k :: t, s =>
    match slotCtx s k with
    | none => secondaryIssue used t s
    | some c =>
      if (getCtx s c).primary then secondaryIssue used t s
      else match tryBundle s c used true with
        | .idle => secondaryIssue used t s
        | .blocked s1 => secondaryIssue used t s1
        | .taken s1 _ => { s1 with lastSlot := k }
/-- The issue of a cycle: a primary bundle, and a secondary one beside it (R139). -/
def issueCycle (s : State) : State :=
  let s0 := allCtx.foldl stopCode (allCtx.foldl stopAsync s)
  match (slotCtx s0 0).filter (fun c => (getCtx s0 c).primary) with
  | none => secondaryIssue [] (turnOrder s0) s0
  | some c =>
    match tryBundle s0 c [] false with
    | .idle => secondaryIssue [] (turnOrder s0) s0
    | .blocked s1 => secondaryIssue [] (turnOrder s1) s1
    | .taken s1 used => secondaryIssue used (turnOrder s1) s1

end Sys2Proof.Machine
end

