-- ==== Sys2Proof/Machine/Step.lean ====
section
/-! DEFINITION. The step: an event of the agenda, the FLL's lock, or a core cycle; and the state in which the next step
runs a given word. -/

namespace Sys2Proof.Machine

/-- A core cycle: arrivals and landings, the issue of bundles, the distributor if a pre-emption has completed, departures
(R12, R91, R139, R141, R402). -/
def coreCycle (s : State) : State := epilogue (distributorCycle (issueCycle (prologue s)))
/-- What comes next: an event of the agenda (log 2); while the cluster clock is gated, LOCK (R294); otherwise a core cycle. -/
def stepNext (s : State) : Host.Outcome State Fault Refusal :=
  match s.agenda with
  | i :: t => exec i { s with agenda := t }
  | [] => .next (if !s.cluster.lock then fllLock s else coreCycle s)
/-- One step. Without power nothing runs (R433). The distributor first decides if an event of the current tick calls for it
(R402). -/
def step (s : State) : Host.Outcome State Fault Refusal :=
  if !s.pkg.powered then .fault .unpowered else stepNext (distributorCycle s)

/-- What the plan of withFetchWord has on its core: every window, bank and tag that R404 allows (log 5). -/
def fetchRes (s : State) : CoreRes :=
  { sect := 0, core := s.myIndex, ctxs := 1, prim := true, entries := [0], thand := 0, sbase := 0x10000, ssize := 0x70000,
    mbase := 0x10000, msize := 0xBE0000, owned := BitVec.allOnes 64, served := 0, tags := BitVec.allOnes 64, mwords := 2048,
    ranges := [], cbase := 0, clen := 3072, csize := 0x10000 }
/-- The plan of withFetchWord (log 5). -/
def fetchPlan (s : State) : Plan :=
  { seq := 1, timed := true, matrix := true, optical := true, clusters := [s.myCluster], res := [fetchRes s], groups := [],
    objs := [], routes := [], replan := [], hostWins := [] }
/-- The words of the loop buffer half that holds an instruction of nbits bits: its word, then zeros (log 5). -/
def fetchWords (nbits w : Nat) : List Word := [BitVec.ofNat 32 (w % 2 ^ nbits), 0, 0]
/-- The primary context of withFetchWord: it runs in slot 0 from code address 0 and waits for nothing (log 5). -/
def fetchCtx (x : Ctx) : Ctx :=
  { x with st := .running, slot := some 0, plan := 1, primary := true, hold := 0, waits := [], start := none, restart := false,
           replayAt := none, fell := false, sysEnded := false, pend := {}, bank := { x.bank with pc := 0, mown := true }, rerun := {} }
/-- The state with an instruction where the next step fetches it: a plan of one segment, expanded in slot 0 (log 5). -/
def State.withFetchWord (s : State) (nbits w : Nat) : State :=
  let x := fetchCtx (getCtx s 0)
  let k : Ckpt := { bank := x.bank, pc := 0, id := s.nextId, matrix := some s.matrix, banks := [], tiers := s.vault.tiers, entry := true }
  { setCtx s 0 { x with ckpt := some k } with
    agenda := [], plans := [fetchPlan s], gate := { s.gate with seq := 1 }, segs := [(1, [{ cbase := 0, npkt := 1, hdr := 3072, dict := 0, next := 0xFFFFFFFF }])],
    halves := SMap.put s.halves (halfKey 0 false) { cbase := 0, words := fetchWords nbits w },
    retired := false, stream := none, cluster := { s.cluster with lock := true }, pkg := { s.pkg with powered := true, pass := false } }

end Sys2Proof.Machine
end

