-- ==== Sys2Proof/Safety.lean ====
section
/-! DEFINITION. What counts as a safe run, in the terms that claims use: the invariant of the state, and what a word that
traps nothing leaves: its results in flight and nothing else. -/

namespace Sys2Proof.Machine

/-- The invariant that every step keeps: memory is in its canonical form (R375, log 3) and the next entry of each die's
black box is one of its 1,022 (R433). -/
structure State.Inv (s : State) : Prop where
  mem : Memory.wf s.mem = true
  ring : s.blackBox.next < 1022
  rings : ∀ p ∈ s.boxes, p.2.next < 1022

/-- Snapshot entries that the results of a word need (R129). -/
def needOf (outs : List Out) : Nat := outs.foldl (fun n o => n + o.res.entries o.fp o.mx) 0

/-- The snapshot buffer of the issuing context has room for n more results in flight (R129). -/
def State.roomFor (s : State) (n : Nat) : Prop := entriesInFlight s s.cur.ctx + n ≤ 64

/-- The state in which a word that traps nothing has put its results in flight: nothing else has changed but the record
of the word being issued (R12, R129, R456). -/
def State.sent (s : State) (outs : List Out) : State :=
  { s with
    cur := { s.cur with
      snapNeed := s.cur.snapNeed + needOf outs,
      draws := if outs.any Out.draws then s.cur.draws ++ [s.cur.slot] else s.cur.draws },
    flight := s.flight ++ outs.map (Out.toFlight s) }

/-- A frame that leaves the air is all that is seen of its bus by its tick: no round start is due before it, and no receive
is to be armed (R326, R332). -/
def Settled (s : State) (b : BitVec 2) (a : AirFrame) (l : List AirFrame) : Prop :=
  let y : Bus := { getBus s b with air := l }
  armBus b a.tick (applyViews b a.tick (setBus b y s)) = setBus b { y with applied := max y.applied a.tick } s

/-- A frame is the oldest on its bus, its seen tick has come, nothing else of the bus is due, and our station, present and
not leaving, receives it whole (R324, R326, R327). -/
def Sees (s : State) (f : Frame) (crc : BitVec 32) (a : AirFrame) (l : List AirFrame) : Prop :=
  (getBus s f.bus).air = a :: l ∧ Settled s f.bus a l ∧ a.frame = f ∧ seen s a.tick = true ∧ presentAt s f.bus a.tick = true ∧
    (getBus s f.bus).leave = false ∧ received (getBus s f.bus) a crc = true

/-- The value of a W form: the low 32 bits, sign-extended (R93). -/
def wide (w : Bool) (v : Dbl) : Dbl := if w then (v.setWidth 32).signExtend 64 else v

/-- The word traps with a class, a code and a TVAL: the answer is a next state whose record of the word keeps the cause,
so that its bundle delivers it (R118, R119). -/
def Traps (i : Instr) (s : State) (cls : Nat) (code : BitVec 8) (tval : Dbl) : Prop :=
  ∃ t, exec i s = .next t ∧ t.cur.trap = some (cls, code, tval)

/-- One byte of this core's scratchpad (R231). -/
def State.scratchByte (s : State) (a : Nat) : Byte := memGet s.mem (keyScratch s.me a)
/-- One byte of this core's mirror segment (R240). -/
def State.mirrorByte (s : State) (a : Nat) : Byte := memGet s.mem (keyMirror s.me a)

end Sys2Proof.Machine
end

