-- ==== Sys2Proof/Certificates/Slice0/Obligations.lean ====
section
/-! DEFINITION. The statements for the provers: each formalises rules of the spec, named in its docstring. A statement
over one subject in several parts is the conjunction of its parts, each a definition of its own. -/

open Sys2Proof Sys2Proof.Machine

/-- R93: ADD, SUB, MUL, AND, OR, XOR, ANDN and MOV put their result in flight, in W form the low 32 bits sign-extended;
they set no flag (R94) and change nothing else at issue. Latency 1, MUL 3 (R90). -/
def Claim.ScalarArithmeticResults : Prop :=
  ∀ (s : State) (d a b : BitVec 6) (w : Bool), s.roomFor 1 →
    exec (.add d a b w) s = .next (s.sent [scalarOut 1 d (wide w (rs s a + rs s b))]) ∧
    exec (.sub d a b w) s = .next (s.sent [scalarOut 1 d (wide w (rs s a - rs s b))]) ∧
    exec (.mul d a b w) s = .next (s.sent [scalarOut 3 d (wide w (rs s a * rs s b))]) ∧
    exec (.and d a b w) s = .next (s.sent [scalarOut 1 d (wide w (rs s a &&& rs s b))]) ∧
    exec (.or d a b w) s = .next (s.sent [scalarOut 1 d (wide w (rs s a ||| rs s b))]) ∧
    exec (.xor d a b w) s = .next (s.sent [scalarOut 1 d (wide w (rs s a ^^^ rs s b))]) ∧
    exec (.andn d a b w) s = .next (s.sent [scalarOut 1 d (wide w (rs s a &&& ~~~(rs s b)))]) ∧
    exec (.mov d a w) s = .next (s.sent [scalarOut 1 d (wide w (rs s a))])

/-- R93: the shift amount is b modulo the width; SHR fills with zeros, SRA with the sign; CLZ, CTZ and POPC count in the
width of the form; W results are sign-extended. -/
def Claim.ScalarShiftCountResults : Prop :=
  ∀ (s : State) (d a b : BitVec 6), s.roomFor 1 →
    let x := rs s a
    let y := rs s b
    let lo := x.setWidth 32
    exec (.shl d a b false) s = .next (s.sent [scalarOut 1 d (x <<< (y.toNat % 64))]) ∧
    exec (.shl d a b true) s = .next (s.sent [scalarOut 1 d ((lo <<< (y.toNat % 32)).signExtend 64)]) ∧
    exec (.shr d a b false) s = .next (s.sent [scalarOut 1 d (x >>> (y.toNat % 64))]) ∧
    exec (.shr d a b true) s = .next (s.sent [scalarOut 1 d ((lo >>> (y.toNat % 32)).signExtend 64)]) ∧
    exec (.sra d a b false) s = .next (s.sent [scalarOut 1 d (x.sshiftRight (y.toNat % 64))]) ∧
    exec (.sra d a b true) s = .next (s.sent [scalarOut 1 d ((lo.sshiftRight (y.toNat % 32)).signExtend 64)]) ∧
    exec (.clz d a false) s = .next (s.sent [scalarOut 1 d (BitVec.ofNat 64 (clzNat 64 x.toNat))]) ∧
    exec (.clz d a true) s = .next (s.sent [scalarOut 1 d (BitVec.ofNat 64 (clzNat 32 lo.toNat))]) ∧
    exec (.ctz d a false) s = .next (s.sent [scalarOut 1 d (BitVec.ofNat 64 (ctzNat 64 x.toNat))]) ∧
    exec (.ctz d a true) s = .next (s.sent [scalarOut 1 d (BitVec.ofNat 64 (ctzNat 32 lo.toNat))]) ∧
    exec (.popc d a false) s = .next (s.sent [scalarOut 1 d (BitVec.ofNat 64 (popNat 64 x.toNat))]) ∧
    exec (.popc d a true) s = .next (s.sent [scalarOut 1 d (BitVec.ofNat 64 (popNat 32 lo.toNat))])

/-- R93: MULH gives the upper half of the exact product, MIN and MAX choose by the signedness of the form, and an unsigned
W result is zero-extended. -/
def Claim.ScalarHighMinMaxResults : Prop :=
  ∀ (s : State) (d a b : BitVec 6), s.roomFor 1 →
    let x := rs s a
    let y := rs s b
    let xl := x.setWidth 32
    let yl := y.setWidth 32
    exec (.mulh d a b false false) s = .next (s.sent [scalarOut 3 d (BitVec.ofInt 64 (x.toInt * y.toInt / 2 ^ 64))]) ∧
    exec (.mulh d a b false true) s = .next (s.sent [scalarOut 3 d (BitVec.ofNat 64 (x.toNat * y.toNat / 2 ^ 64))]) ∧
    exec (.mulh d a b true false) s =
      .next (s.sent [scalarOut 3 d ((BitVec.ofInt 32 (xl.toInt * yl.toInt / 2 ^ 32)).signExtend 64)]) ∧
    exec (.mulh d a b true true) s =
      .next (s.sent [scalarOut 3 d ((BitVec.ofNat 32 (xl.toNat * yl.toNat / 2 ^ 32)).setWidth 64)]) ∧
    exec (.min d a b false false) s = .next (s.sent [scalarOut 1 d (if x.sle y then x else y)]) ∧
    exec (.min d a b false true) s = .next (s.sent [scalarOut 1 d (if x.ule y then x else y)]) ∧
    exec (.min d a b true false) s = .next (s.sent [scalarOut 1 d ((if xl.sle yl then xl else yl).signExtend 64)]) ∧
    exec (.min d a b true true) s = .next (s.sent [scalarOut 1 d ((if xl.ule yl then xl else yl).setWidth 64)]) ∧
    exec (.max d a b false false) s = .next (s.sent [scalarOut 1 d (if x.sle y then y else x)]) ∧
    exec (.max d a b false true) s = .next (s.sent [scalarOut 1 d (if x.ule y then y else x)]) ∧
    exec (.max d a b true false) s = .next (s.sent [scalarOut 1 d ((if xl.sle yl then yl else xl).signExtend 64)]) ∧
    exec (.max d a b true true) s = .next (s.sent [scalarOut 1 d ((if xl.ule yl then yl else xl).setWidth 64)])

/-- R95, R96: the immediate words work on 64 bits with the sign-extended immediate; LI loads it, LIS appends 18 bits, ADR
adds 4 × i to the bundle's address. -/
def Claim.ScalarImmediateResults : Prop :=
  ∀ (s : State) (d a : BitVec 6) (i : BitVec 11) (l : BitVec 18), s.roomFor 1 →
    let x := rs s a
    let e := i.signExtend 64
    exec (.addi d a i) s = .next (s.sent [scalarOut 1 d (x + e)]) ∧
    exec (.andi d a i) s = .next (s.sent [scalarOut 1 d (x &&& e)]) ∧
    exec (.ori d a i) s = .next (s.sent [scalarOut 1 d (x ||| e)]) ∧
    exec (.xori d a i) s = .next (s.sent [scalarOut 1 d (x ^^^ e)]) ∧
    exec (.shli d a i) s = .next (s.sent [scalarOut 1 d (x <<< i.toNat)]) ∧
    exec (.shri d a i) s = .next (s.sent [scalarOut 1 d (x >>> i.toNat)]) ∧
    exec (.srai d a i) s = .next (s.sent [scalarOut 1 d (x.sshiftRight i.toNat)]) ∧
    exec (.muli d a i) s = .next (s.sent [scalarOut 3 d (x * e)]) ∧
    exec (.li d l) s = .next (s.sent [scalarOut 1 d (l.signExtend 64)]) ∧
    exec (.lis d l) s = .next (s.sent [scalarOut 1 d (rs s d <<< 18 ||| l.setWidth 64)]) ∧
    exec (.adr d l) s = .next (s.sent [scalarOut 1 d (s.cur.addr + l.signExtend 64 * 4)])

/-- R90, R93, R94, R95, R96: the parts of the statement. -/
def Obligations.ScalarArithmetic : Prop :=
  Claim.ScalarArithmeticResults ∧ Claim.ScalarShiftCountResults ∧ Claim.ScalarHighMinMaxResults ∧ Claim.ScalarImmediateResults

/-- R93, R94: DIV rounds toward zero and REM takes the sign of a; for b = 0 DIV gives all ones and REM gives a, with DZ;
−2^(w−1) by −1 gives −2^(w−1) and 0 without a flag, which is what sdiv and srem give. -/
def Claim.ScalarDivisionResults : Prop :=
  ∀ (s : State) (d a b : BitVec 6), s.roomFor 1 →
    let x := rs s a
    let y := rs s b
    let xl := x.setWidth 32
    let yl := y.setWidth 32
    (y ≠ 0 →
      exec (.div d a b false false) s = .next (s.sent [scalarOut 18 d (x.sdiv y)]) ∧
      exec (.div d a b false true) s = .next (s.sent [scalarOut 18 d (x / y)]) ∧
      exec (.rem d a b false false) s = .next (s.sent [scalarOut 18 d (x.srem y)]) ∧
      exec (.rem d a b false true) s = .next (s.sent [scalarOut 18 d (x % y)])) ∧
    (yl ≠ 0 →
      exec (.div d a b true false) s = .next (s.sent [scalarOut 18 d ((xl.sdiv yl).signExtend 64)]) ∧
      exec (.div d a b true true) s = .next (s.sent [scalarOut 18 d ((xl / yl).setWidth 64)]) ∧
      exec (.rem d a b true false) s = .next (s.sent [scalarOut 18 d ((xl.srem yl).signExtend 64)]) ∧
      exec (.rem d a b true true) s = .next (s.sent [scalarOut 18 d ((xl % yl).setWidth 64)])) ∧
    (y = 0 → ∀ u,
      exec (.div d a b false u) s = .next (s.sent [scalarOut 18 d (BitVec.allOnes 64) flDZ]) ∧
      exec (.rem d a b false u) s = .next (s.sent [scalarOut 18 d x flDZ])) ∧
    (yl = 0 →
      exec (.div d a b true false) s = .next (s.sent [scalarOut 18 d (BitVec.allOnes 64) flDZ]) ∧
      exec (.div d a b true true) s = .next (s.sent [scalarOut 18 d 0xFFFFFFFF flDZ]) ∧
      exec (.rem d a b true false) s = .next (s.sent [scalarOut 18 d (xl.signExtend 64) flDZ]) ∧
      exec (.rem d a b true true) s = .next (s.sent [scalarOut 18 d (xl.setWidth 64) flDZ]))

/-- R38, R94: ADDS and SUBS clamp the exact result to the range of the form and set SAT exactly when they clamp; signed and
unsigned, on 64 bits and in the W forms. -/
def Claim.ScalarSaturation : Prop :=
  ∀ (s : State) (d a b : BitVec 6), s.roomFor 1 →
    let x := rs s a
    let y := rs s b
    let xl := x.setWidth 32
    let yl := y.setWidth 32
    exec (.adds d a b false false) s =
      (if x.toInt + y.toInt < -(2 ^ 63) then .next (s.sent [scalarOut 1 d (1 <<< 63) flSAT])
       else if 2 ^ 63 ≤ x.toInt + y.toInt then .next (s.sent [scalarOut 1 d (BitVec.allOnes 63 |>.setWidth 64) flSAT])
       else .next (s.sent [scalarOut 1 d (x + y)])) ∧
    exec (.subs d a b false false) s =
      (if x.toInt - y.toInt < -(2 ^ 63) then .next (s.sent [scalarOut 1 d (1 <<< 63) flSAT])
       else if 2 ^ 63 ≤ x.toInt - y.toInt then .next (s.sent [scalarOut 1 d (BitVec.allOnes 63 |>.setWidth 64) flSAT])
       else .next (s.sent [scalarOut 1 d (x - y)])) ∧
    exec (.adds d a b false true) s =
      (if 2 ^ 64 ≤ x.toNat + y.toNat then .next (s.sent [scalarOut 1 d (BitVec.allOnes 64) flSAT])
       else .next (s.sent [scalarOut 1 d (x + y)])) ∧
    exec (.subs d a b false true) s =
      (if x.toNat < y.toNat then .next (s.sent [scalarOut 1 d 0 flSAT]) else .next (s.sent [scalarOut 1 d (x - y)])) ∧
    exec (.adds d a b true true) s =
      (if 2 ^ 32 ≤ xl.toNat + yl.toNat then .next (s.sent [scalarOut 1 d 0xFFFFFFFF flSAT])
       else .next (s.sent [scalarOut 1 d ((xl + yl).setWidth 64)])) ∧
    exec (.subs d a b true true) s =
      (if xl.toNat < yl.toNat then .next (s.sent [scalarOut 1 d 0 flSAT])
       else .next (s.sent [scalarOut 1 d ((xl - yl).setWidth 64)])) ∧
    exec (.adds d a b true false) s =
      (if xl.toInt + yl.toInt < -(2 ^ 31) then .next (s.sent [scalarOut 1 d 0xFFFFFFFF80000000 flSAT])
       else if 2 ^ 31 ≤ xl.toInt + yl.toInt then .next (s.sent [scalarOut 1 d 0x7FFFFFFF flSAT])
       else .next (s.sent [scalarOut 1 d ((xl + yl).signExtend 64)])) ∧
    exec (.subs d a b true false) s =
      (if xl.toInt - yl.toInt < -(2 ^ 31) then .next (s.sent [scalarOut 1 d 0xFFFFFFFF80000000 flSAT])
       else if 2 ^ 31 ≤ xl.toInt - yl.toInt then .next (s.sent [scalarOut 1 d 0x7FFFFFFF flSAT])
       else .next (s.sent [scalarOut 1 d ((xl - yl).signExtend 64)]))

/-- R38, R93, R94: the parts of the statement. -/
def Obligations.ScalarDivisionAndSaturation : Prop :=
  Claim.ScalarDivisionResults ∧ Claim.ScalarSaturation

/-- R97 to R99: the FP32 words read the low 32 bits of their sources, round once by the mode of the word or FPCSR.RM, give
their flags with the result, and under SR advance VRNGC by 1. FMIN and FMAX never round and never draw. -/
def Claim.ScalarFloatResults : Prop :=
  ∀ (s : State) (d a b : BitVec 6) (r : Rm), s.roomFor 2 →
    let q := rndOf s (effMode s r) 0
    let adv := advanceOut s (effMode s r == 4) 1
    let x := (rs s a).toNat % 2 ^ 32
    let y := (rs s b).toNat % 2 ^ 32
    let z := (rs s d).toNat % 2 ^ 32
    let sends := fun (lat : Nat) (v : Nat × Fl) => s.sent (scalarOut lat d (BitVec.ofNat 64 v.1) v.2 :: adv)
    exec (.fadd d a b r) s = .next (sends 3 (fadd f32 q x y)) ∧
    exec (.fsub d a b r) s = .next (sends 3 (fsub f32 q x y)) ∧
    exec (.fmul d a b r) s = .next (sends 3 (fmul f32 q x y)) ∧
    exec (.fdiv d a b r) s = .next (sends 12 (fdiv f32 q x y)) ∧
    exec (.fsqrt d a r) s = .next (sends 12 (fsqrt f32 q x)) ∧
    exec (.fma d a b r) s = .next (sends 4 (ffma f32 q x y z)) ∧
    exec (.fcvtif d a r) s = .next (sends 2 (itof f32 q (rs s a).toInt)) ∧
    exec (.fcvtfi d a r) s =
      .next (s.sent (scalarOut 2 d (BitVec.ofInt 64 (ftoi f32 64 q x).1) (ftoi f32 64 q x).2 :: adv)) ∧
    (∃ v fl, exec (.fmin d a b) s = .next (s.sent [scalarOut 3 d (BitVec.ofNat 64 v) fl]) ∧ (v, fl) = fminmax f32 false x y) ∧
    (∃ v fl, exec (.fmax d a b) s = .next (s.sent [scalarOut 3 d (BitVec.ofNat 64 v) fl]) ∧ (v, fl) = fminmax f32 true x y)

/-- R99: an FP32 word that rounds under SR draws mix(VRNGK, VRNGC) and advances VRNGC by 1; under any other mode it draws
nothing. Here FADD, FMA and FCVTFI, with the mode from the word or, as DYN, from FPCSR.RM. -/
def Claim.ScalarFloatDraws : Prop :=
  ∀ (s : State) (d a b : BitVec 6) (r : Rm) (i : Instr), s.roomFor 2 →
    i = .fadd d a b r ∨ i = .fma d a b r ∨ i = .fcvtfi d a r →
    let sr := r = 4 ∨ (r = 7 ∧ (cx s).bank.fpcsr.toNat % 8 = 4)
    ∃ t o, exec i s = .next t ∧
      (sr → t = s.sent [o, { lat := 1, res := .advance ((cx s).bank.vrngc + 1) }] ∧
        (rndOf s (effMode s r) 0).draw = (mix (cx s).bank.vrngk (cx s).bank.vrngc).toNat) ∧
      (¬ sr → t = s.sent [o])

/-- R97, R98, R99: the parts of the statement. -/
def Obligations.ScalarFloat : Prop :=
  Claim.ScalarFloatResults ∧ Claim.ScalarFloatDraws

/-- R100: CMP, TEST, PAND, POR, PXOR and PNOT give their predicate, with the predicate sources mapped by R28. -/
def Claim.PredicateResults : Prop :=
  ∀ (s : State) (p pa pb : BitVec 5) (a b : BitVec 6), s.roomFor 1 →
    let x := rs s a
    let y := rs s b
    let sends := fun (v : Bool) => s.sent [predOut s p v]
    exec (.cmp p a b 0) s = .next (sends (decide (x = y))) ∧
    exec (.cmp p a b 1) s = .next (sends (decide (x ≠ y))) ∧
    exec (.cmp p a b 2) s = .next (sends (x.slt y)) ∧
    exec (.cmp p a b 3) s = .next (sends (!x.slt y)) ∧
    exec (.cmp p a b 4) s = .next (sends (x.ult y)) ∧
    exec (.cmp p a b 5) s = .next (sends (!x.ult y)) ∧
    exec (.test p a b) s = .next (sends (decide (x &&& y ≠ 0))) ∧
    exec (.pand p pa pb) s = .next (sends (rp s pa && rp s pb)) ∧
    exec (.por p pa pb) s = .next (sends (rp s pa || rp s pb)) ∧
    exec (.pxor p pa pb) s = .next (sends (rp s pa ^^ rp s pb)) ∧
    exec (.pnot p pa) s = .next (sends (!rp s pa))

/-- R101: FCMP eq, lt and le give 0 when an operand is NaN and un gives 1 exactly then; the zeros are equal, other values
order by their sign and magnitude; NV is set for a signalling NaN under every condition and for a quiet one under lt and
le; a word whose destination is p0 still sends its flags. -/
def Claim.FloatCompare : Prop :=
  ∀ (s : State) (p : BitVec 5) (a b : BitVec 6) (k : BitVec 3), s.roomFor 1 → k.toNat < 4 →
    let x := (rs s a).toNat % 2 ^ 32
    let y := (rs s b).toNat % 2 ^ 32
    let isNan := fun (u : Nat) => decide (0x7F800000 < u % 2 ^ 31)
    let isSig := fun (u : Nat) => decide (0x7F800000 < u % 2 ^ 31) && decide (u / 2 ^ 22 % 2 = 0)
    let key := fun (u : Nat) => if u < 2 ^ 31 then (u : Int) else 2 ^ 31 - (u : Int)
    let un := isNan x || isNan y
    let v := match k.toNat with
      | 0 => !un && decide (key x = key y)
      | 1 => !un && decide (key x < key y)
      | 2 => !un && decide (key x ≤ key y)
      | _ => un
    let nv := isSig x || isSig y || (un && (k == 1 || k == 2))
    exec (.fcmp p a b k) s = .next (s.sent [predOut s p v (if nv then flNV else 0)]) ∧
    (p = 0 → predOut s p v (if nv then flNV else 0) = { lat := 1, res := .flags, fp := if nv then flNV else 0 })

/-- R28, R100, R101: the parts of the statement. -/
def Obligations.Predicates : Prop :=
  Claim.PredicateResults ∧ Claim.FloatCompare

/-- R16: p0 always reads 1 and k0 always reads all ones; a write to either is discarded; it is no register write for
BUNDLE_CONFLICT. -/
def Obligations.HardwiredPredicateMask : Prop :=
  (∀ (b : Bank), b.getP 0 = true ∧ b.getK 0 = BitVec.allOnes 64) ∧
  (∀ (x : Ctx) (v : Bool) (m : Dbl), landReg x (.pred 0 v) = x ∧ landReg x (.mask 0 m) = x) ∧
  (∀ (x : Ctx) (v : BitVec 32), (landReg x (.preds v)).bank.p.getLsbD 0 = true) ∧
  (∀ (a b : BitVec 6) (k : BitVec 3) (pa pb : BitVec 5) (v : BitVec 8) (c : BitVec 3) (ka kb : BitVec 4),
    destsOf (.cmp 0 a b k) = [] ∧ destsOf (.fcmp 0 a b k) = [] ∧ destsOf (.test 0 a b) = [] ∧ destsOf (.pand 0 pa pb) = [] ∧
    destsOf (.por 0 pa pb) = [] ∧ destsOf (.pxor 0 pa pb) = [] ∧ destsOf (.pnot 0 pa) = [] ∧ destsOf (.mtk 0 a) = [] ∧
    destsOf (.vcmp 0 v v c) = [] ∧ destsOf (.vkand 0 ka kb) = [] ∧ destsOf (.vkor 0 ka kb) = [] ∧
    destsOf (.vkxor 0 ka kb) = [] ∧ destsOf (.vknot 0 ka) = [])

/-- R111, R193: the moves between scalars and the other registers of a bank; MFC of PC gives the address of the bundle;
MFID writes the level of FIDEL. -/
def Claim.RegisterMoves : Prop :=
  ∀ (s : State) (d a r : BitVec 6) (k : BitVec 4) (m : BitVec 3) (l : BitVec 2), s.roomFor 1 →
    exec (.mfc d r) s = .next (s.sent [scalarOut 1 d (cregRead (cx s) s.cur.ctx s.cur.addr r)]) ∧
    exec (.mfc d 1) s = .next (s.sent [scalarOut 1 d s.cur.addr]) ∧
    exec (.mfc d 0) s = .next (s.sent [scalarOut 1 d (s.cur.ctx.setWidth 64)]) ∧
    exec (.mfk d k) s = .next (s.sent [scalarOut 1 d (rk s k)]) ∧
    exec (.mfm d m) s = .next (s.sent [scalarOut 1 d ((cx s).bank.getM m)]) ∧
    (∃ v, exec (.mfp d) s = .next (s.sent [scalarOut 1 d v]) ∧
      ∀ j : Nat, v.getLsbD j = (decide (j < 32) && rp s (BitVec.ofNat 5 j))) ∧
    (k ≠ 0 → exec (.mtk k a) s = .next (s.sent [{ lat := 1, res := .mask k (rs s a) }])) ∧
    exec (.mtk 0 a) s = .next (s.sent [{ lat := 1, res := .flags }]) ∧
    exec (.mtm m a) s = .next (s.sent [{ lat := 1, res := .mparam m (rs s a) }]) ∧
    (∃ v, exec (.mtp a) s = .next (s.sent [{ lat := 1, res := .preds v }]) ∧
      ∀ j : Nat, 1 ≤ j → j < 32 → v.getLsbD (physP (cx s).bank (BitVec.ofNat 5 j)).toNat = (rs s a).getLsbD j) ∧
    exec (.mfid l) s = .next (s.sent [{ lat := 1, res := .creg 8 (l.setWidth 64) }])

/-- R112, R185, R44: MTC sends its value to the control register, but a level of 3 for FIDEL and a rounding mode above 4 for
FPCSR trap CSR_VALUE with the index; when it lands, a read-only register keeps its value. -/
def Claim.ControlRegisterWrites : Prop :=
  (∀ (s : State) (r a : BitVec 6), s.roomFor 1 → r ≠ 8 → r ≠ 10 →
    exec (.mtc r a) s = .next (s.sent [{ lat := 1, res := .creg r (rs s a) }])) ∧
  (∀ (s : State) (a : BitVec 6), s.roomFor 1 → (rs s a).extractLsb' 0 2 ≠ 3 →
    exec (.mtc 8 a) s = .next (s.sent [{ lat := 1, res := .creg 8 (rs s a) }])) ∧
  (∀ (s : State) (a : BitVec 6), s.roomFor 1 → ((rs s a).extractLsb' 0 3).ule 4 = true →
    exec (.mtc 10 a) s = .next (s.sent [{ lat := 1, res := .creg 10 (rs s a) }])) ∧
  (∀ (s : State) (a : BitVec 6), (rs s a).extractLsb' 0 2 = 3 → Traps (.mtc 8 a) s 4 0x07 8) ∧
  (∀ (s : State) (a : BitVec 6), ((rs s a).extractLsb' 0 3).ult 5 = false → Traps (.mtc 10 a) s 4 0x07 10) ∧
  (∀ (b : Bank) (v : Dbl), cregWrite b 0 v = b ∧ cregWrite b 1 v = b ∧ cregWrite b 5 v = b ∧ cregWrite b 14 v = b)

/-- R44, R111, R112, R185, R193: the parts of the statement. -/
def Obligations.BankMoves : Prop :=
  Claim.RegisterMoves ∧ Claim.ControlRegisterWrites

/-- R113, R114: a pop takes the head of the queue into the scalar; the stall form of an empty queue blocks the bundle, the
not-ready form gives 0 and keeps the scalar. -/
def Claim.QueuePops : Prop :=
  ∀ (s : State) (d : BitVec 6) (q : BitVec 2) (p : BitVec 5), s.roomFor 2 →
    (∀ (n : Nat) (v : Dbl) (l : List (Nat × Dbl)), queueOf (cx s) q = (n, v) :: l →
      exec (.qpop d q) s = .next (popHead q (s.sent [scalarOut 1 d v])) ∧
      exec (.qpopa d q) s = .next (popHead q (s.sent [scalarOut 1 d v])) ∧
      exec (.qpopNr d q p) s = .next (popHead q (s.sent [scalarOut 1 d v, predOut s p true])) ∧
      exec (.qpopaNr d q p) s = .next (popHead q (s.sent [scalarOut 1 d v, predOut s p true])) ∧
      queueOf (cx (popHead q s)) q = l) ∧
    (queueOf (cx s) q = [] →
      exec (.qpop d q) s = .next (waitFor s (.queue q)) ∧
      exec (.qpopa d q) s = .next (waitFor s (.queue q)) ∧
      (cx (waitFor s (.queue q))).st = .blocked ∧
      exec (.qpopNr d q p) s = .next (s.sent [predOut s p false]) ∧
      exec (.qpopaNr d q p) s = .next (s.sent [predOut s p false]))

/-- R146: the oldest entry owed to a queue arrives once it is posted, if the queue has room, and no entry passes one that
is not yet posted. -/
def Claim.QueueDelivery : Prop :=
  ∀ (s : State) (c : CtxId) (q : BitVec 2) (o : Owed) (l : List Owed), let x := getCtx s c
    x.owed = o :: l → o.q = q →
    ∃ t, exec (.queueEntryDeliver c q) s = .next t ∧ t.mem = s.mem ∧ (getCtx t c).bank = x.bank ∧
      (∀ v, o.val = some v → o.cyc + 1 ≤ s.cycle → (queueOf x q).length + arrivingIn x q < Config.queueDepth q.toNat →
        (getCtx t c).owed = l ∧ (getCtx t c).arriving = x.arriving ++ [(q, o.id, v)]) ∧
      (o.val = none → getCtx t c = x) ∧
      (Config.queueDepth q.toNat ≤ (queueOf x q).length + arrivingIn x q → getCtx t c = x)

/-- R113, R114, R146: the parts of the statement. -/
def Obligations.QueueWords : Prop :=
  Claim.QueuePops ∧ Claim.QueueDelivery

/-- R102, R105: J and CALL transfer when the predicate, inverted by N, is 1, to the bundle's address plus 4 times the
offset, at the next cycle; CALL then writes the return address to s63. NOP changes nothing (R107). -/
def Claim.BranchResults : Prop :=
  ∀ (s : State) (n : Bool) (p : BitVec 5) (i : BitVec 18), s.roomFor 1 →
    let t := s.cur.addr + i.signExtend 64 * 4
    exec .nop s = .next s ∧
    (rp s p = n → exec (.j n p i) s = .next s ∧ exec (.call n p i) s = .next s) ∧
    (rp s p ≠ n → codeCause s (cx s).plan t = none →
      exec (.j n p i) s = .next { s with cur := { s.cur with npc := t, gap := 1 } } ∧
      exec (.call n p i) s = .next (transfer t 1 (s.sent [scalarOut 1 63 (s.cur.addr + BitVec.ofNat 64 (4 * s.cur.n))])))

/-- R106: a transfer whose target is no multiple of 4 traps CODE_ALIGN, one outside every segment of the plan CODE_RANGE,
only if it would be taken. -/
def Claim.TransferTargetChecks : Prop :=
  ∀ (s : State) (a : BitVec 6) (n : Bool) (p : BitVec 5) (i : BitVec 18),
    ((rs s a).toNat % 4 ≠ 0 → Traps (.jr a) s 5 0x10 (rs s a)) ∧
    ((rs s a).toNat % 4 = 0 → segAt s (cx s).plan (rs s a).toNat = none → Traps (.jr a) s 5 0x11 (rs s a)) ∧
    (s.cur.addr.toNat % 4 = 0 → rp s p ≠ n → segAt s (cx s).plan (s.cur.addr + i.signExtend 64 * 4).toNat = none →
      Traps (.j n p i) s 5 0x11 (s.cur.addr + i.signExtend 64 * 4)) ∧
    (rp s p = n → exec (.j n p i) s = .next s)

/-- R102, R105, R106, R107: the parts of the statement. -/
def Obligations.BranchesAndTargets : Prop :=
  Claim.BranchResults ∧ Claim.TransferTargetChecks

/-- R29, R103: LOOP rotates the bases whether it is taken or not, decrements a counter that is not 0, and transfers while
the counter read exceeds 1. -/
def Claim.LoopResults : Prop :=
  ∀ (s : State) (c : BitVec 5) (i : BitVec 18), s.roomFor 2 →
    let n := rs s (c.setWidth 6)
    let t := s.cur.addr + i.signExtend 64 * 4
    let p := ((cx s).bank.rotb.toNat % 16 + 15) % 16
    let v := vbase (cx s).bank
    let m := rotN (cx s).bank
    let turn : Out := { lat := 1, res := .rotate (mkRotb (if rotOn (cx s).bank then (v + m - 1) % m else v) p) }
    (n = 0 → exec (.loop c i) s = .next (s.sent [turn])) ∧
    (n = 1 → exec (.loop c i) s = .next (s.sent [turn, scalarOut 1 (c.setWidth 6) 0])) ∧
    (1 < n.toNat → codeCause s (cx s).plan t = none →
      exec (.loop c i) s = .next (transfer t 1 (s.sent [turn, scalarOut 1 (c.setWidth 6) (n - 1)])))

/-- R26, R27, R29: a write of VROT clears VBASE and keeps PBASE; a write of ROTB stores VBASE modulo N; a rotation that lands
with neither of them stands. -/
def Claim.RotationRegisters : Prop :=
  ∀ (b : Bank) (x : Ctx) (v : Dbl),
    (let y := cregWrite b 7 v;
      y.vrot = v &&& 7 ∧ vbase y = 0 ∧ pbase y = pbase b ∧ rotN y = 8 * 2 ^ (v.toNat % 4) ∧ rotOn y = v.getLsbD 2) ∧
    (let y := cregWrite b 6 v;
      vbase y = v.toNat / 16 % 64 % rotN b ∧ pbase y = v.toNat % 16 ∧ y.rotb.toNat < 1024 ∧ y.vrot = b.vrot) ∧
    (x.wrote.contains 6 = false → x.wrote.contains 7 = false → (landReg x (.rotate v)).bank = { x.bank with rotb := v })

/-- R26, R27, R29, R103: the parts of the statement. -/
def Obligations.LoopsAndRotation : Prop :=
  Claim.LoopResults ∧ Claim.RotationRegisters

/-- R104: JR transfers to s[sa] and RET to s63, read at issue; neither is conditional, neither writes a link. Their words
have major 0x02, functions 0x01 and 0x02 and sa in bits 25 to 20. -/
def Obligations.IndirectJumps : Prop :=
  (∀ (s : State) (a : BitVec 6), codeCause s (cx s).plan (rs s a) = none →
    exec (.jr a) s = .next { s with cur := { s.cur with npc := rs s a, gap := 3 } }) ∧
  (∀ (s : State), codeCause s (cx s).plan (rs s 63) = none →
    exec .ret s = .next { s with cur := { s.cur with npc := rs s 63, gap := 3 } }) ∧
  (∀ (a : BitVec 6), decodeWord (0x08000001 ||| (a.setWidth 32 <<< 20)) = .ok (.jr a)) ∧
  decodeWord 0x08000002 = .ok .ret

/-- R108: FENCE puts its order between the operations of its context that issued before and those that issue after it; it
does not hold issue. -/
def Claim.FenceOrders : Prop :=
  ∀ (s : State) (m sc : BitVec 6), ∃ t, exec (.fence m sc) s = .next t ∧
    (cx t).fences = (cx s).fences ++ [(m, s.nextId)] ∧ t.nextId = s.nextId + 1 ∧ t.cur = s.cur ∧
    (cx t).bank = (cx s).bank ∧ (cx t).st = (cx s).st ∧ t.mem = s.mem ∧ t.flight = s.flight

/-- R369, R373, R447: GFENCE leaves for its entry in qfx; HLD leaves and owes qgl an entry, HST enters the release buffer;
GWS enters it with both of its translations and owes qfx an entry. -/
def Claim.FenceHostAndWriteSignal : Prop :=
  ∀ (s : State) (k a b : BitVec 6),
    (∃ u x, exec .gfence s = .next u ∧ (cx u).out = (cx s).out ++ [x] ∧ x.op = .gfence ∧
      (cx u).owed = (cx s).owed ++ [{ q := 3, id := s.nextId, val := none, cyc := 0 }] ∧ u.mem = s.mem) ∧
    (hostChecks s (rs s a).toNat = [] →
      (∃ u x, exec (.hld a) s = .next u ∧ (cx u).out = (cx s).out ++ [x] ∧ x.op = .host (rs s a).toNat none ∧
        (cx u).owed = (cx s).owed ++ [{ q := 0, id := s.nextId, val := none, cyc := 0 }] ∧ u.mem = s.mem) ∧
      ((cx s).rel.length < 64 → ∃ u x, exec (.hst a b) s = .next u ∧ (cx u).rel = (cx s).rel ++ [x] ∧
        x.op = .host (rs s a).toNat (some (rs s b)) ∧ (cx u).owed = (cx s).owed ∧ u.mem = s.mem)) ∧
    (gwsChecks s (rs s a) (rs s b) (rs s k) = [] → ∃ u x ia kp fa kf, exec (.gws k a b) s = .next u ∧
      (cx u).rel = (cx s).rel ++ [x] ∧
      x.op = .gws ia kp (rs s b).toNat (gwsLen (rs s k)) fa kf (gwsOp (rs s k) == 1) (((rs s k).extractLsb' 32 32).signExtend 64) ∧
      translateRun s (cx s) (rs s a).toNat (gwsLen (rs s k)) = some (ia, kp) ∧
      translateRun s (cx s) (gwsFlag (rs s a) (rs s k)).toNat 8 = some (fa, kf) ∧
      (cx u).owed = (cx s).owed ++ [{ q := 3, id := s.nextId, val := none, cyc := 0 }] ∧ u.mem = s.mem)

/-- R108, R369, R373, R447: the parts of the statement. -/
def Obligations.FencesAndHostWords : Prop :=
  Claim.FenceOrders ∧ Claim.FenceHostAndWriteSignal

/-- R109, R120, R124: TRAP enters the plan trap handler at THAND for the bundle that follows, one cycle later: TPC holds
that bundle's address, TCAUSE the code of USER_TRAP, TVAL the number of the word; INH becomes 1 and the first handler
bundle issues three cycles after delivery. In a handler, and without one to go to, the context is HELD at that bundle with
NEST. That T is the next cycle is the model's reading (log 75). An MTC of a trap register that lands with the delivery
is another matter (R112). -/
def Claim.UserTrapEntry : Prop :=
  ∀ (s : State) (k : BitVec 12), (nextCx s).wrote = [] → (nextCx s).bank.thand = (cx s).bank.thand →
    ((cx s).bank.inh = true → ∃ t, exec (.trap k) s = .next t ∧ (cx t).st = .held ∧ (cx t).bank.nest = true ∧
      (cx t).bank.ncause = 0x21 ∧ (cx t).bank.tpc = (cx s).bank.tpc ∧ (cx t).bank.tcause = (cx s).bank.tcause ∧
      (cx t).bank.pc = s.cur.addr + BitVec.ofNat 64 (4 * s.cur.n) ∧ t.mem = s.mem) ∧
    ((cx s).bank.inh = false → ((cx s).bank.thand = 0 ∨ ∃ w, codeCause s (cx s).plan (cx s).bank.thand = some w) →
      ∃ t, exec (.trap k) s = .next t ∧ (cx t).st = .held ∧ (cx t).bank.nest = true ∧ (cx t).bank.tcause = 0x21 ∧
      (cx t).bank.tval = k.setWidth 64 ∧ (cx t).bank.pc = s.cur.addr + BitVec.ofNat 64 (4 * s.cur.n) ∧ t.mem = s.mem) ∧
    ((cx s).bank.inh = false → (cx s).bank.thand ≠ 0 → codeCause s (cx s).plan (cx s).bank.thand = none →
    ∃ t, exec (.trap k) s = .next t ∧
      (cx t).st = .running ∧ (cx t).bank.pc = (cx s).bank.thand ∧ (cx t).bank.inh = true ∧
      (cx t).bank.tpc = s.cur.addr + BitVec.ofNat 64 (4 * s.cur.n) ∧ (cx t).bank.tcause = 0x21 ∧
      (cx t).bank.tval = k.setWidth 64 ∧ (cx t).hold = s.cycle + 4 ∧
      (cx t).bank.s = (cx s).bank.s ∧ (cx t).bank.p = (cx s).bank.p ∧ (cx t).v = (cx s).v ∧ (cx t).bank.fpcsr = (cx s).bank.fpcsr ∧
      t.mem = s.mem ∧ t.cur.trap = some (6, 0x21, k.setWidth 64))

/-- R109, R120: BRK goes to the supervisor: the context is HELD at the bundle that follows, with its address in TPC, even
while it runs a handler. -/
def Claim.BreakpointHolds : Prop :=
  ∀ (s : State) (k : BitVec 12), (nextCx s).wrote = [] →
    ∃ t, exec (.brk k) s = .next t ∧
      (cx t).st = .held ∧ (cx t).bank.pc = s.cur.addr + BitVec.ofNat 64 (4 * s.cur.n) ∧
      (cx t).bank.tpc = s.cur.addr + BitVec.ofNat 64 (4 * s.cur.n) ∧ (cx t).bank.tcause = 0x22 ∧
      (cx t).bank.tval = k.setWidth 64 ∧ (cx t).bank.inh = (cx s).bank.inh ∧ (cx t).bank.s = (cx s).bank.s ∧ t.mem = s.mem

/-- R109, R117, R120, R262, R264: SYS holds its context for the supervisor at the bundle that follows, with SYSCALL in
TCAUSE and its number in TVAL, outside a rerun and at the end of a second rerun that agrees with the first; a second one that
disagrees retires the column, and a first one ends in the second. -/
def Claim.SystemCall : Prop :=
  ∀ (s : State) (k : BitVec 12), let r := (cx s).rerun
    let agrees := ((cx s).primary = false ∨ s.cycle - r.start = r.len1) ∧ r.sig = r.sig1
    (r.phase = 1 → (cx s).xch = false → ∃ t, exec (.sys k) s = .next t ∧ (cx t).st = .running ∧ (cx t).rerun.phase = 2 ∧
      (cx t).rerun.len1 = s.cycle - r.start ∧ (cx t).rerun.sig1 = r.sig ∧ (cx t).hold = s.cycle + 17 ∧ t.mem = s.mem) ∧
    (r.phase = 2 → ¬ agrees → ∃ t, exec (.sys k) s = .next t ∧ t.retired = true ∧ s.me ∈ t.pkg.retired ∧ t.mem = s.mem) ∧
    (r.phase = 0 ∨ r.phase = 2 ∧ agrees → (cx s).wrote = [] →
    ∃ t, exec (.sys k) s = .next t ∧ (cx t).rerun.phase = 0 ∧
      (cx t).st = .held ∧ (cx t).bank.pc = s.cur.addr + BitVec.ofNat 64 (4 * s.cur.n) ∧
      (cx t).bank.tpc = s.cur.addr + BitVec.ofNat 64 (4 * s.cur.n) ∧ (cx t).bank.tcause = 0x20 ∧
      (cx t).bank.tval = k.setWidth 64 ∧ (cx t).bank.s = (cx s).bank.s ∧ (cx t).v = (cx s).v ∧ t.mem = s.mem)

/-- R109, R117, R120, R124, R262, R264: the parts of the statement. -/
def Obligations.ProgramTraps : Prop :=
  Claim.UserTrapEntry ∧ Claim.BreakpointHolds ∧ Claim.SystemCall

/-- R119, R120, R124, R125: what the delivery of a cause of class 3, 4 or 5 does to its context. With a handler: the trap
registers, INH and the handler's address. While INH is 1: NEST, NCAUSE and HELD at the trapping bundle, the trap registers
kept. Without a handler: the trap registers, and then NEST, NCAUSE and HELD. Memory stays. z is the context as it stands at
the cycle n of the delivery, in which no MTC writes a trap register. -/
def Claim.ExceptionEntry : Prop :=
  ∀ (s : State) (c : CtxId) (code : BitVec 8) (tval a : Dbl) (n : Nat) (z : Ctx),
    let x := getCtx s c
    let y := getCtx (deliver s c code tval a n z) c
    toSupervisor code = false → z.wrote = [] →
    (x.bank.inh = false → z.bank.thand ≠ 0 → codeCause s x.plan z.bank.thand = none →
      y.st = .running ∧ y.bank.pc = z.bank.thand ∧ y.bank.inh = true ∧ y.bank.tpc = a ∧ y.bank.tcause = code.setWidth 64 ∧
      y.bank.tval = tval ∧ y.hold = n + 3 ∧ y.bank.nest = x.bank.nest) ∧
    (x.bank.inh = true →
      y.st = .held ∧ y.bank.pc = a ∧ y.bank.nest = true ∧ y.bank.ncause = code ∧ y.bank.tpc = x.bank.tpc ∧
      y.bank.tcause = x.bank.tcause ∧ y.bank.tval = x.bank.tval ∧ y.bank.inh = true ∧ y.snap = x.snap) ∧
    (x.bank.inh = false → z.bank.thand = 0 →
      y.st = .held ∧ y.bank.pc = a ∧ y.bank.nest = true ∧ y.bank.ncause = code ∧ y.bank.tpc = a ∧
      y.bank.tcause = code.setWidth 64 ∧ y.bank.tval = tval ∧ y.bank.inh = false) ∧
    y.bank.s = x.bank.s ∧ y.bank.k = x.bank.k ∧ y.v = x.v ∧ (deliver s c code tval a n z).mem = s.mem

/-- R110, R128: ERET in a handler clears INH and transfers to TPC, whose bundle issues three cycles later; outside it
traps ERET_OUTSIDE; a bad TPC traps on the ERET. -/
def Claim.HandlerReturn : Prop :=
  ∀ (s : State),
    ((cx s).bank.inh = true → codeCause s (cx s).plan (cx s).bank.tpc = none →
      ∃ t, exec .eret s = .next t ∧ (cx t).bank = { (cx s).bank with inh := false } ∧ (cx t).restart = true ∧
        t.cur = { s.cur with npc := (cx s).bank.tpc, gap := 3 } ∧ (cx t).snap = (cx s).snap ∧ t.mem = s.mem) ∧
    ((cx s).bank.inh = false → Traps .eret s 4 0x09 0) ∧
    ((cx s).bank.inh = true → (cx s).bank.tpc.toNat % 4 ≠ 0 → Traps .eret s 5 0x10 (cx s).bank.tpc)

/-- R110, R119, R120, R124, R125, R128: the parts of the statement. -/
def Obligations.ExceptionEntryAndReturn : Prop :=
  Claim.ExceptionEntry ∧ Claim.HandlerReturn

/-- R117, R118, R120, R124, R125: ASYNC_CAUSE_DELIVER completes at a bundle boundary of a context in a slot, whatever is
pending. Outside a handler it delivers the highest of REFRESH_OVERRUN, LATE_PUSH, TIMING_MISS and ATOMIC_UNSUP, and its own
pending bit alone clears: the first three hold the context at its next bundle with TPC, TCAUSE and TVAL written, ATOMIC_UNSUP
enters the handler at THAND, and without a handler, or with one at no code, it holds the context with NEST and NCAUSE. With
none of these to deliver, PREEMPT holds the context with the trap registers kept, and without it nothing changes. -/
def Claim.AsyncCauseDelivered : Prop :=
  ∀ (s : State) (c : CtxId), let x := getCtx s c
    let p := x.pend
    let others := x.bank.inh = false ∧ (p.refo ≠ none ∨ p.late ≠ none ∨ p.miss ≠ none ∨ p.atom ≠ none)
    x.st = .running ∨ x.st = .blocked → x.slot ≠ none → timeOk s x = true → s.retired = false →
    (∀ (code : BitVec 8) (v : Dbl) (q : Pend), x.bank.inh = false →
      (p.refo = some v ∧ code = 0x30 ∧ q = { p with refo := none } ∨
       p.refo = none ∧ p.late = some v ∧ code = 0x31 ∧ q = { p with late := none } ∨
       p.refo = none ∧ p.late = none ∧ p.miss = some v ∧ code = 0x32 ∧ q = { p with miss := none } ∨
       p.refo = none ∧ p.late = none ∧ p.miss = none ∧ p.atom = some v ∧ code = 0x33 ∧ q = { p with atom := none }) →
      ∃ t, exec (.asyncCauseDeliver c) s = .next t ∧ (getCtx t c).pend = q ∧ t.mem = s.mem ∧
        (code ≠ 0x33 → (getCtx t c).st = .held ∧ (getCtx t c).bank.pc = x.bank.pc) ∧
        (code = 0x33 → x.bank.thand ≠ 0 → codeCause s x.plan x.bank.thand = none → (getCtx t c).st = .running ∧
          (getCtx t c).bank.pc = x.bank.thand ∧ (getCtx t c).bank.inh = true ∧ (getCtx t c).hold = s.cycle + 3) ∧
        (code = 0x33 → x.bank.thand = 0 → (getCtx t c).st = .held ∧ (getCtx t c).bank.nest = true ∧ (getCtx t c).bank.ncause = 0x33) ∧
        (∀ bad, code = 0x33 → x.bank.thand ≠ 0 → codeCause s x.plan x.bank.thand = some bad → (getCtx t c).st = .held ∧
          (getCtx t c).bank.nest = true ∧ (getCtx t c).bank.ncause = bad) ∧
        (x.wrote = [] → (getCtx t c).bank.tpc = x.bank.pc ∧ (getCtx t c).bank.tcause = code.setWidth 64 ∧ (getCtx t c).bank.tval = v) ∧
        (getCtx t c).bank.s = x.bank.s ∧ (getCtx t c).bank.k = x.bank.k ∧ (getCtx t c).v = x.v) ∧
    (¬ others → p.pre = true → ∃ t, exec (.asyncCauseDeliver c) s = .next t ∧ (getCtx t c).st = .held ∧
      (getCtx t c).pend = { p with pre := false } ∧ (getCtx t c).bank = x.bank ∧ t.mem = s.mem) ∧
    (¬ others → p.pre = false → exec (.asyncCauseDeliver c) s = .next s)

/-- R117, R118, R126: a pending class A cause stops the next bundle of a context in a slot: TIMING_MISS without INH goes to
its destination and its pending bit clears; PREEMPT holds the context with the trap registers kept, even under INH; the
others stay pending while INH is 1. -/
def Claim.AsyncCauseStops : Prop :=
  ∀ (s : State) (c : CtxId), let x := getCtx s c
    x.st = .running → x.slot ≠ none → timeOk s x = true → s.retired = false → x.wrote = [] →
    (∀ v, x.bank.inh = false → x.pend.refo = none → x.pend.late = none → x.pend.miss = some v →
      ∃ t, exec (.asyncCauseDeliver c) s = .next t ∧ (getCtx t c).pend.miss = none ∧ (getCtx t c).bank.tcause = 0x32 ∧
        (getCtx t c).bank.tval = v ∧ (getCtx t c).bank.tpc = x.bank.pc ∧ t.mem = s.mem) ∧
    (x.pend.pre = true → x.bank.inh = true →
      ∃ t, exec (.asyncCauseDeliver c) s = .next t ∧ (getCtx t c).st = .held ∧ (getCtx t c).pend.pre = false ∧
        (getCtx t c).pend.miss = x.pend.miss ∧ (getCtx t c).bank = x.bank ∧ t.mem = s.mem) ∧
    (x.pend.pre = false → x.bank.inh = true → exec (.asyncCauseDeliver c) s = .next s)

/-- R117, R118, R120, R124, R125, R126: the parts of the statement. -/
def Obligations.AsynchronousCauses : Prop :=
  Claim.AsyncCauseDelivered ∧ Claim.AsyncCauseStops

/-- R237: a scalar load of n bytes, aligned and in the window, with its read port free, sends the zero-extended bytes at
s[sa] + off, lowest address lowest, to the register at c+4 and reserves the port; memory stays. -/
def Claim.ScratchLoads : Prop :=
  ∀ (s : State) (d a : BitVec 6) (i : BitVec 11) (n : Nat) (w : Instr),
    (n, w) ∈ [(1, Instr.ldb d a i), (2, .ldh d a i), (4, .ldw d a i), (8, .ldd d a i)] →
    let p := (rs s a + i.signExtend 64).toNat
    p % n = 0 → inScratch s (cx s).plan p n = true → portHolder s (quadOf p) false s.cycle = none → s.roomFor 1 →
    ∃ v, exec w s = .next (takePort (quadOf p) false 0 (s.sent [scalarOut 4 d v])) ∧
      (∀ j, j < n → v.extractLsb' (8 * j) 8 = s.scratchByte (p + j)) ∧ (∀ j, 8 * n ≤ j → v.getLsbD j = false)

/-- R237: a scalar store of n bytes sends the low bytes of s[sb] to the scratchpad at s[sa] + off for c+2, and writes no
register. -/
def Claim.ScratchStores : Prop :=
  ∀ (s : State) (b a : BitVec 6) (i : BitVec 11) (n : Nat) (w : Instr),
    (n, w) ∈ [(1, Instr.stb b a i), (2, .sth b a i), (4, .stw b a i), (8, .std b a i)] →
    let p := (rs s a + i.signExtend 64).toNat
    p % n = 0 → inScratch s (cx s).plan p n = true → portHolder s (quadOf p) true (s.cycle + 2) = none → s.roomFor 1 →
    ∃ bs, exec w s = .next (takePort (quadOf p) true 2 (s.sent [{ lat := 2, res := .scratch p bs }])) ∧
      bs.length = n ∧ ∀ j, j < n → bs[j]? = some ((rs s b).extractLsb' (8 * j) 8)

/-- R235, R237: a misaligned address traps MEM_ALIGN, one outside the window MEM_RANGE, both with the address as TVAL, and a
taken port traps SCRATCH_COLLIDE; alignment is checked before the window. -/
def Claim.ScratchAccessTraps : Prop :=
  ∀ (s : State) (d a : BitVec 6) (i : BitVec 11) (n : Nat) (l w : Instr),
    (n, l, w) ∈ [(1, Instr.ldb d a i, Instr.stb d a i), (2, .ldh d a i, .sth d a i), (4, .ldw d a i, .stw d a i),
      (8, .ldd d a i, .std d a i)] →
    let p := rs s a + i.signExtend 64
    s.roomFor 1 →
    (p.toNat % n ≠ 0 → Traps l s 5 0x12 p ∧ Traps w s 5 0x12 p) ∧
    (p.toNat % n = 0 → inScratch s (cx s).plan p.toNat n = false → Traps l s 5 0x13 p ∧ Traps w s 5 0x13 p) ∧
    (p.toNat % n = 0 → inScratch s (cx s).plan p.toNat n = true → ∀ h, portHolder s (quadOf p.toNat) false s.cycle = some h →
      ∃ v, Traps l s 5 0x15 v)

/-- R235, R237: the parts of the statement. -/
def Obligations.ScratchAccess : Prop :=
  Claim.ScratchLoads ∧ Claim.ScratchStores ∧ Claim.ScratchAccessTraps

/-- R238, R239: LDV and STV move 256 bytes and a whole row, LDSHP and STSHP 32 bytes and a shape record; LDV writes its tag
whatever the bytes hold; a row tagged UNSET is not stored. -/
def Claim.RowAndRecordAccess : Prop :=
  ∀ (s : State) (v : BitVec 8) (a : BitVec 6) (t : Tag) (i : BitVec 7) (h : BitVec 4), s.roomFor 1 →
    let p := (rs s a + i.signExtend 64 * 256).toNat
    let q := (rs s a).toNat
    (p % 256 = 0 → inScratch s (cx s).plan p 256 = true → portHolder s (quadOf p) false s.cycle = none →
      ∃ x, exec (.ldv v a t i) s = .next (takePort (quadOf p) false 0 (s.sent [rowOut s 4 v t x])) ∧
        ∀ j, j < 256 → x.extractLsb' (8 * j) 8 = s.scratchByte (p + j)) ∧
    (p % 256 = 0 → inScratch s (cx s).plan p 256 = true → portHolder s (quadOf p) true (s.cycle + 2) = none → (rv s v).tag ≠ 15 →
      ∃ bs, exec (.stv v a i) s = .next (takePort (quadOf p) true 2 (s.sent [{ lat := 2, res := .scratch p bs }])) ∧
        bs.length = 256 ∧ ∀ j, j < 256 → bs[j]? = some ((rv s v).data.extractLsb' (8 * j) 8)) ∧
    ((rv s v).tag = 15 → ∃ x, Traps (.stv v a i) s 4 0x03 x) ∧
    (q % 32 = 0 → inScratch s (cx s).plan q 32 = true → portHolder s (quadOf q) false s.cycle = none →
      ∃ x, exec (.ldshp h a) s = .next (takePort (quadOf q) false 0 (s.sent [{ lat := 4, res := .shape h x }])) ∧
        ∀ j, j < 32 → x.extractLsb' (8 * j) 8 = s.scratchByte (q + j)) ∧
    (q % 32 = 0 → inScratch s (cx s).plan q 32 = true → portHolder s (quadOf q) true (s.cycle + 2) = none →
      ∃ bs, exec (.stshp h a) s = .next (takePort (quadOf q) true 2 (s.sent [{ lat := 2, res := .scratch q bs }])) ∧
        bs.length = 32 ∧ ∀ j, j < 32 → bs[j]? = some ((rh s h).extractLsb' (8 * j) 8))

/-- R242: LDM reads the mirror segment at c+8 and lands at c+24, STM reads at issue and lands at c+16. The read in flight
carries an identity of its own. -/
def Claim.MirrorAccess : Prop :=
  ∀ (s : State) (a m : BitVec 6), s.roomFor 1 →
    let p := (rs s a).toNat
    let o := (rs s m).toNat
    (o % 8 = 0 → mirrorReserved s o 8 = false → inMirror s (cx s).plan o 8 = true →
      exec (.ldmScalar a m) s =
        .next (addFetch o 8 (s.sent [{ lat := 24, res := .scalar a 0, key := s.nextId + 1 }])) ∧
      (addFetch o 8 s).fetches = s.fetches ++ [{ cycle := s.cycle + 8, key := s.nextId + 1, addr := keyMirror s.me o, len := 8 }] ∧
      ∃ bs, exec (.stmScalar a m) s = .next (s.sent [{ lat := 16, res := .mirror o bs }]) ∧
        bs.length = 8 ∧ ∀ j, j < 8 → bs[j]? = some ((rs s a).extractLsb' (8 * j) 8)) ∧
    (p % 256 = 0 → inScratch s (cx s).plan p 256 = true → o % 256 = 0 → mirrorReserved s o 256 = false →
      inMirror s (cx s).plan o 256 = true →
      (portHolder s (quadOf p) true (s.cycle + 24) = none →
        ∃ z, z.length = 256 ∧ exec (.ldmBlock a m) s = .next (addFetch o 256 (takePort (quadOf p) true 24
          (s.sent [{ lat := 24, res := .scratch p z, key := s.nextId + 1 }])))) ∧
      (portHolder s (quadOf p) false s.cycle = none →
        ∃ bs, exec (.stmBlock a m) s = .next (takePort (quadOf p) false 0 (s.sent [{ lat := 16, res := .mirror o bs }])) ∧
          bs.length = 256 ∧ ∀ j, j < 256 → bs[j]? = some (s.scratchByte (p + j))))

/-- R238, R239, R242: the parts of the statement. -/
def Obligations.RowAndMirrorAccess : Prop :=
  Claim.RowAndRecordAccess ∧ Claim.MirrorAccess

/-- R12, R237: a store seen from issue to landing: with nothing else in flight, two cycles after its issue the scratchpad
holds its bytes at s[sa] + off, every other byte of every memory reads as before, and no register has changed. -/
def Claim.StoreReachesMemory : Prop :=
  ∀ (s t : State) (b a : BitVec 6) (i : BitVec 11) (n : Nat) (w : Instr),
    (n, w) ∈ [(1, Instr.stb b a i), (2, .sth b a i), (4, .stw b a i), (8, .std b a i)] →
    s.flight = [] → s.fetches = [] → (∀ c, (getCtx s c).replayAt = none) →
    exec w s = .next t → t.cur.trap = none →
    let p := (rs s a + i.signExtend 64).toNat
    let u := land { t with cycle := s.cycle + 2 }
    (∀ j, j < n → u.scratchByte (p + j) = (rs s b).extractLsb' (8 * j) 8) ∧
    (∀ k, (k < keyScratch s.me p ∨ keyScratch s.me p + n ≤ k) → memGet u.mem k = memGet s.mem k) ∧
    (∀ e, rs u e = rs s e) ∧ u.ctxs = s.ctxs ∧ u.flight = []

/-- R12, R93: a scalar result seen from issue to landing: with nothing else in flight, one cycle after ADD the register
holds the sum and the other registers, the other contexts, the matrix engine and memory are as they were. -/
def Claim.SumReachesRegister : Prop :=
  ∀ (s t : State) (d a b : BitVec 6) (w : Bool),
    s.flight = [] → s.fetches = [] → (∀ c, (getCtx s c).replayAt = none) →
    exec (.add d a b w) s = .next t → t.cur.trap = none →
    let u := land { t with cycle := s.cycle + 1 }
    rs u d = wide w (rs s a + rs s b) ∧ (∀ e, e ≠ d → rs u e = rs s e) ∧
    (cx u).bank = { (cx s).bank with s := (cx u).bank.s } ∧ (∀ c, c ≠ s.cur.ctx → getCtx u c = getCtx s c) ∧
    (cx u).v = (cx s).v ∧ u.mem = s.mem ∧ u.matrix = s.matrix ∧ u.flight = []

/-- R12, R91, R229: a store's landing writes exactly its bytes: they read back from the cycle of the landing on, and every
other byte of every memory, and everything else of the state, stays. -/
def Claim.StoreLanding : Prop :=
  ∀ (base : State) (acc : LandAcc) (f : Flight) (p : Nat) (bs : List Byte),
    (f.res = .scratch p bs →
      let t := (landOne base acc f).s
      (∀ j, j < bs.length → bs[j]? = some (t.scratchByte (p + j))) ∧
      (∀ k, (k < keyScratch acc.s.me p ∨ keyScratch acc.s.me p + bs.length ≤ k) → memGet t.mem k = memGet acc.s.mem k) ∧
      t = { acc.s with mem := t.mem }) ∧
    (f.res = .mirror p bs →
      let t := (landOne base acc f).s
      (∀ j, j < bs.length → bs[j]? = some (t.mirrorByte (p + j))) ∧
      (∀ k, (k < keyMirror acc.s.me p ∨ keyMirror acc.s.me p + bs.length ≤ k) → memGet t.mem k = memGet acc.s.mem k) ∧
      t = { acc.s with mem := t.mem })

/-- R12, R91, R93, R229, R237: the parts of the statement. -/
def Obligations.ResultsReachTheirPlace : Prop :=
  Claim.StoreReachesMemory ∧ Claim.SumReachesRegister ∧ Claim.StoreLanding

/-- The landing of a register result changes that one register of its context: the frame of every word that sends
register results (R12, R22, R91, R153). -/
def Obligations.RegisterLandingFrame : Prop :=
  ∀ (x : Ctx) (i : BitVec 6) (p : BitVec 5) (k : BitVec 4) (m : BitVec 3) (r : BitVec 8) (z : BitVec 2) (v : Dbl) (b : Bool)
    (g : Tag) (data bits : BitVec 2048) (h : BitVec 256),
    (let y := landReg x (.scalar i v);
      y.bank.getS i = v ∧ (∀ j, j ≠ i → y.bank.getS j = x.bank.getS j) ∧ y = { x with bank := { x.bank with s := y.bank.s } }) ∧
    (let y := landReg x (.pred p b);
      (p ≠ 0 → y.bank.getP p = b) ∧ (∀ j, j ≠ p → y.bank.getP j = x.bank.getP j) ∧ y = { x with bank := { x.bank with p := y.bank.p } }) ∧
    (let y := landReg x (.mask k v);
      (k ≠ 0 → y.bank.getK k = v) ∧ (∀ j, j ≠ k → y.bank.getK j = x.bank.getK j) ∧ y = { x with bank := { x.bank with k := y.bank.k } }) ∧
    (let y := landReg x (.mparam m v);
      y.bank.getM m = v ∧ (∀ j, j ≠ m → y.bank.getM j = x.bank.getM j) ∧ y = { x with bank := { x.bank with m := y.bank.m } }) ∧
    (let y := landReg x (.shape k h);
      y.bank.getH k = h ∧ (∀ j, j ≠ k → y.bank.getH j = x.bank.getH j) ∧ y = { x with bank := { x.bank with h := y.bank.h } }) ∧
    (let y := landReg x (.row r g data bits);
      g = (y.getV r).tag ∧ (∀ j, (y.getV r).data.getLsbD j = if bits.getLsbD j then data.getLsbD j else (x.getV r).data.getLsbD j) ∧
      (∀ j, j ≠ r → y.getV j = x.getV j) ∧ y = { x with v := y.v }) ∧
    (let y := landReg x (.latch z g data);
      y.getZ z = { tag := g, data := data } ∧ (∀ j, j ≠ z → y.getZ j = x.getZ j) ∧ y = { x with z := y.z })

/-- R152, R155, R156: the arithmetic words in their three-row and masked forms complete when their sources carry one
accepted tag (and a masked destination carries it too); lanes, latency and draws by the kind of tag. -/
def Claim.VectorArithmeticCompletes : Prop :=
  ∀ (s : State) (d a b : BitVec 8) (k : BitVec 4) (r : Rm) (t : Tag), s.roomFor 2 →
    let da := (rv s a).data
    let db := (rv s b).data
    let dd := (rv s d).data
    let sends := fun (k : BitVec 4) (li lf : Nat) (rm : Rm) (rounds : Bool) (ls : List LaneR) =>
      s.sent (vecResult s d k t (if tagFp t then lf else li) ls ++
        advanceOut s (rounds && tagFp t && effMode s rm == 4) (tagLanes t))
    ((rv s a).tag = t → (rv s b).tag = t → tagArith t = true →
      exec (.vadd d a b) s = .next (sends 0 2 3 7 true (opLanes .add t (laneRnd s 7) da db da)) ∧
      exec (.vsub d a b) s = .next (sends 0 2 3 7 true (opLanes .sub t (laneRnd s 7) da db da)) ∧
      exec (.vmul d a b) s = .next (sends 0 3 4 7 true (opLanes .mul t (laneRnd s 7) da db da)) ∧
      exec (.vmin d a b) s = .next (sends 0 2 2 0 false (opLanes .min t (laneRnd s 0) da db da)) ∧
      exec (.vmax d a b) s = .next (sends 0 2 2 0 false (opLanes .max t (laneRnd s 0) da db da)) ∧
      ((rv s d).tag = t → exec (.vfma d a b) s = .next (sends 0 4 4 7 true (opLanes .fma t (laneRnd s 7) da db dd)))) ∧
    ((rv s d).tag = t → (rv s b).tag = t → tagArith t = true →
      exec (.vaddMasked d b k r) s = .next (sends k 2 3 r true (opLanes .add t (laneRnd s r) dd db dd)) ∧
      exec (.vsubMasked d b k r) s = .next (sends k 2 3 r true (opLanes .sub t (laneRnd s r) dd db dd)) ∧
      exec (.vmulMasked d b k r) s = .next (sends k 3 4 r true (opLanes .mul t (laneRnd s r) dd db dd)) ∧
      exec (.vminMasked d b k) s = .next (sends k 2 2 0 false (opLanes .min t (laneRnd s 0) dd db dd)) ∧
      exec (.vmaxMasked d b k) s = .next (sends k 2 2 0 false (opLanes .max t (laneRnd s 0) dd db dd)) ∧
      ((rv s (groupRow b 1)).tag = t → rotSpan (cx s).bank b 2 = false →
        exec (.vfmaMasked d b k r) s = .next (sends k 4 4 r true (opLanes .fma t (laneRnd s r) db (rv s (groupRow b 1)).data dd)))) ∧
    ((rv s d).tag = t → (rv s b).tag = t → tagInt t = true →
      exec (.vshl d b k) s = .next (sends k 1 1 0 false (opLanes .shl t (laneRnd s 0) dd db dd)) ∧
      exec (.vshr d b k) s = .next (sends k 1 1 0 false (opLanes .shr t (laneRnd s 0) dd db dd)) ∧
      exec (.vsra d b k) s = .next (sends k 1 1 0 false (opLanes .sra t (laneRnd s 0) dd db dd)) ∧
      exec (.vmulh d b k) s = .next (sends k 3 3 0 false (opLanes .mulh t (laneRnd s 0) dd db dd)))

/-- R38, R154, R156: on INT8, INT16 and INT32 rows the words wrap modulo 2^w lane by lane and set no flag; shift counts are
modulo the lane width. -/
def Claim.VectorIntegerLanes : Prop :=
  ∀ (s : State) (d a b : BitVec 8) (t : Tag), s.roomFor 1 → tagInt t = true → (rv s a).tag = t → (rv s b).tag = t →
    (rv s d).tag = t →
    let w := tagWidth t
    let x := fun j => lane (rv s a).data w j
    let y := fun j => lane (rv s b).data w j
    let z := fun j => lane (rv s d).data w j
    let gives := fun (i : Instr) (lat : Nat) (f : Nat → Nat) => ∃ r, exec i s = .next (s.sent [rowOut s lat d t r]) ∧
      ∀ j, j < tagLanes t → lane r w j = f j
    gives (.vadd d a b) 2 (fun j => (x j + y j) % 2 ^ w) ∧
    gives (.vsub d a b) 2 (fun j => (x j + (2 ^ w - y j)) % 2 ^ w) ∧
    gives (.vmul d a b) 3 (fun j => x j * y j % 2 ^ w) ∧
    gives (.vfma d a b) 4 (fun j => (x j * y j + z j) % 2 ^ w) ∧
    gives (.vshl d b 0) 1 (fun j => z j * 2 ^ (y j % w) % 2 ^ w) ∧
    gives (.vshr d b 0) 1 (fun j => z j / 2 ^ (y j % w))

/-- R38, R152, R154, R155, R156: the parts of the statement. -/
def Obligations.VectorArithmetic : Prop :=
  Claim.VectorArithmeticCompletes ∧ Claim.VectorIntegerLanes

/-- R157: the bitwise words accept equal tags or one RAW and give the tag that is not RAW; VABS, VNEG and VMOV keep the tag
of their source. Partial forms write the lanes their mask governs (R153). -/
def Claim.VectorBitwiseCompletes : Prop :=
  ∀ (s : State) (d a b : BitVec 8) (k : BitVec 4) (t u : Tag), s.roomFor 1 →
    let out := fun (k : BitVec 4) (g : Tag) (r : BitVec 2048) =>
      s.sent [if k = 0 then rowOut s 1 d g r else partOut s 1 d g r (maskBits (rk s k))]
    ((rv s a).tag = t → (rv s b).tag = u → tagAny t = true → tagAny u = true → (t = u ∨ t = 0 ∨ u = 0) →
      let g := if t = 0 then u else t
      exec (.vand d a b) s = .next (out 0 g ((rv s a).data &&& (rv s b).data)) ∧
      exec (.vor d a b) s = .next (out 0 g ((rv s a).data ||| (rv s b).data))) ∧
    ((rv s d).tag = t → (rv s b).tag = u → tagAny t = true → tagAny u = true → (t = u ∨ u = 0 ∨ (t = 0 ∧ k = 0)) →
      let g := if t = 0 then u else t
      exec (.vandMasked d b k) s = .next (out k g ((rv s d).data &&& (rv s b).data)) ∧
      exec (.vorMasked d b k) s = .next (out k g ((rv s d).data ||| (rv s b).data)) ∧
      exec (.vxor d b k) s = .next (out k g ((rv s d).data ^^^ (rv s b).data))) ∧
    ((rv s a).tag = t → (k = 0 ∨ (rv s d).tag = t) →
      (tagAny t = true → exec (.vmov d a k) s = .next (out k t (rv s a).data)) ∧
      (tagArith t = true →
        let ls := fun neg => (toLanes (rv s a).data (tagWidth t)).map (fun v => (absNegLane neg t v, absNegFl t v))
        exec (.vabs d a k) s = .next (s.sent (vecResult s d k t 1 (ls false))) ∧
        exec (.vneg d a k) s = .next (s.sent (vecResult s d k t 1 (ls true)))))

/-- R16, R160: VCMP gives a mask bit for each 32 row bits, 1 when the condition holds in every lane there, with the flags of
all its lanes, and on INT32 rows eq, ne, lt, le, gt and ge are those of signed integers; the mask words work on all 64 bits.
Every form runs: to a mask, and to k0, which keeps the flags only. -/
def Claim.MaskResults : Prop :=
  ∀ (s : State) (k ka kb : BitVec 4) (a b : BitVec 8) (c : BitVec 3), s.roomFor 1 →
    let out := fun (lat : Nat) (m : Dbl) (fl : Fl) =>
      s.sent [{ lat := lat, res := if k = 0 then Res.flags else .mask k m, fp := fl }]
    exec (.vkand k ka kb) s = .next (out 1 (rk s ka &&& rk s kb) 0) ∧
    exec (.vkor k ka kb) s = .next (out 1 (rk s ka ||| rk s kb) 0) ∧
    exec (.vkxor k ka kb) s = .next (out 1 (rk s ka ^^^ rk s kb) 0) ∧
    exec (.vknot k ka) s = .next (out 1 (~~~(rk s ka)) 0) ∧
    ((rv s a).tag = (rv s b).tag → tagArith (rv s a).tag = true →
      let t := (rv s a).tag
      let n := tagLanes t
      let holds := fun (j : Nat) => cmpLane c.toNat t (lane (rv s a).data (tagWidth t) j) (lane (rv s b).data (tagWidth t) j)
      let m := cmpMask n ((List.range n).map (fun j => (holds j).1))
      exec (.vcmp k a b c) s = .next (out 2 m (orFl ((List.range n).map (fun j => (holds j).2)))) ∧
        (∀ j, j < 64 → m.getLsbD j = (List.range (n / 64)).all (fun i => (holds (n / 64 * j + i)).1)) ∧
        (t = 3 → ∀ j, j < 64 → c.toNat < 6 → (holds j).2 = 0 ∧ m.getLsbD j =
          (let x := (rv s a).data.extractLsb' (32 * j) 32
           let y := (rv s b).data.extractLsb' (32 * j) 32
           match c.toNat with
           | 0 => x == y
           | 1 => x != y
           | 2 => x.slt y
           | 3 => x.sle y
           | 4 => y.slt x
           | _ => y.sle x)))

/-- R16, R153, R157, R160: the parts of the statement. -/
def Obligations.VectorBitsAndMasks : Prop :=
  Claim.VectorBitwiseCompletes ∧ Claim.MaskResults

/-- R165: VRETAG writes the row with the bits unchanged and the tag T4 and sets no flag; its RM3 field is must-be-zero, and
tags 0xE and 0xF are ILLEGAL with KIND 5. -/
def Obligations.RetagKeepsBits : Prop :=
  (∀ (s : State) (d v : BitVec 8) (t : Tag), s.roomFor 1 → tagAny (rv s v).tag = true →
    let o : Out := { lat := 1, res := .row (physV (cx s).bank d) t (rv s v).data (BitVec.allOnes 2048), fp := 0, mx := 0 }
    exec (.vretag d v t) s = .next (s.sent [o])) ∧
  (∀ (d v : BitVec 8) (t : Tag) (r : Rm) (w : Word),
    w = 0x44000003 ||| (d.setWidth 32 <<< 18) ||| (v.setWidth 32 <<< 10) ||| (t.setWidth 32 <<< 6) ||| (r.setWidth 32 <<< 3) →
    (r = 0 → t.toNat < 14 → decodeWord w = .ok (.vretag d v t)) ∧
    (r = 0 → 14 ≤ t.toNat → decodeWord w = .error 5) ∧
    (r ≠ 0 → decodeWord w = .error 3))

/-- R161 to R164: the conversions complete when the tags and the groups of their rows are accepted: whole rows from vd on,
each with the flags of its own lanes; VQNT to an MX tag also writes the row of scales after it. With which row the flags of a
block go is the model's reading (log 74). -/
def Claim.VectorConversionsComplete : Prop :=
  ∀ (s : State) (d v : BitVec 8) (t : Tag) (r : Rm), s.roomFor 10 →
    let ts := (rv s v).tag
    let gs := max 1 (tagLanes t / tagLanes ts)
    let gd := max 1 (tagLanes ts / tagLanes t)
    (1 ≤ t.toNat → t.toNat ≤ 8 →
      needRun s v gs (fun u => decide (1 ≤ u.toNat) && decide (u.toNat ≤ 8)) = [] → rotSpan (cx s).bank v gs = false →
      rotSpan (cx s).bank d gd = false →
      let ls := (runElems s v gs (tagWidth ts)).zipIdx.map (fun p => convLane ts t (rndOf s (cvtMode s ts r) p.2) p.1)
      exec (.vcvt d v t r) s = .next (s.sent (runRows s d 3 t ls ++
        advanceOut s (cvtMode s ts r == 4) (tagLanes ts * gs)))) ∧
    (tagMx t = true → needRun s v gs tagFp = [] → rotSpan (cx s).bank v gs = false → rotSpan (cx s).bank d 2 = false →
      let qs := quantAll (tagFmt ts) (mxWidth t) (rndOf s (effMode s r)) ((runElems s v gs (tagWidth ts)).take (tagLanes t))
      let els := (qs.flatMap (fun q => q.2.1)).map (mxContainer t)
      exec (.vqnt d v t r) s = .next (s.sent ([withLanes (qs.map (fun q => q.2.2)) (rowOut s 4 d t (ofLanes (tagWidth t) els)),
        rowOut s 4 (groupRow d 1) 0 (ofLanes 8 (qs.map (·.1)))] ++ advanceOut s (effMode s r == 4) (tagLanes t)))) ∧
    (t = 7 ∨ t = 8 → needRun s v gs tagFp = [] → rotSpan (cx s).bank v gs = false →
      let ls := (runElems s v gs (tagWidth ts)).zipIdx.map
        (fun p => fconv (tagFmt ts) (tagFmt t) { rndOf s (effMode s r) p.2 with sat := true } p.1)
      exec (.vqnt d v t r) s = .next (s.sent (runRows s d 4 t ls ++
        advanceOut s (effMode s r == 4) 256))) ∧
    (tagFp t = true → tagMx ts = true → (rv s (groupRow v 1)).tag = 0 → rotSpan (cx s).bank v 2 = false →
      rotSpan (cx s).bank d gd = false →
      let ls := (toLanes (rv s v).data (tagWidth ts)).zipIdx.map (fun p => dequant (tagFmt t) (mxWidth ts)
        (rndOf s (effMode s r) p.2) (lane (rv s (groupRow v 1)).data 8 (p.2 / 32)) (signedOf (mxWidth ts) p.1))
      exec (.vdqnt d v t r) s = .next (s.sent (runRows s d 3 t ls ++
        advanceOut s (effMode s r == 4) (tagLanes ts))))

/-- R166: the six special functions work lane by lane on a floating row at latency 8, whole or under a mask. How their
values are computed is the model's reading (log 15). -/
def Claim.SpecialFunctionsComplete : Prop :=
  ∀ (s : State) (d v : BitVec 8) (k : BitVec 4) (r : Rm) (n : Nat) (i : Instr),
    (n, i) ∈ [(0, Instr.vexp2 d v k r), (1, .vlog2 d v k r), (2, .vrcp d v k r), (3, .vrsqrt d v k r), (4, .vtanh d v k r),
      (5, .vsqrt d v k r)] →
    let t := (rv s v).tag
    s.roomFor 2 → tagFp t = true → (k = 0 ∨ (rv s d).tag = t) →
    exec i s = .next (s.sent (vecResult s d k t 8
      ((toLanes (rv s v).data (tagWidth t)).zipIdx.map (fun p => fspecial n (tagFmt t) (laneRnd s r p.2) p.1)) ++
      advanceOut s (effMode s r == 4) (tagLanes t)))

/-- R62, R63, R167, R168: the words that move lanes: VPERM takes the lane its index row names, VBCS and VIOTA fill a row,
VEXT and VINS move one lane, VRNG draws 64 values and always advances VRNGC by 64. -/
def Claim.LaneMovesComplete : Prop :=
  ∀ (s : State) (d v x : BitVec 8) (a b e : BitVec 6) (t : Tag), s.roomFor 2 →
    let tv := (rv s v).tag
    let w := tagWidth tv
    (tagAny tv = true → tv ≠ 9 → (rv s x).tag = indexTag tv →
      ∃ r, exec (.vperm d v x) s = .next (s.sent [rowOut s 2 d tv r]) ∧
        ∀ j, j < tagLanes tv → lane r w j = lane (rv s v).data w (lane (rv s x).data w j % tagLanes tv)) ∧
    (tv = 9 ∨ tagAny tv = false → ∃ y, Traps (.vperm d v x) s 4 0x03 y) ∧
    (∃ r, exec (.vbcs d a t) s = .next (s.sent [rowOut s 1 d t r]) ∧
      ∀ j, j < tagLanes t → lane r (tagWidth t) j = (rs s a).toNat % 2 ^ tagWidth t) ∧
    (∃ r, exec (.viota d a t) s = .next (s.sent [rowOut s 1 d t r]) ∧
      ∀ j, j < tagLanes t → lane r (tagWidth t) j = ((rs s a).toNat + j) % 2 ^ tagWidth t) ∧
    (tagAny tv = true →
      exec (.vext v e b) s = .next (s.sent [scalarOut 2 e
        (extLane tv (lane (rv s v).data w ((rs s b).toNat % tagLanes tv)))]) ∧
      ∃ r m, exec (.vins v a b) s = .next (s.sent [partOut s 2 v tv r m]) ∧
        (∀ j, j < tagLanes tv → j ≠ (rs s b).toNat % tagLanes tv → lane (mergeRow (rv s v).data r m) w j = lane (rv s v).data w j) ∧
        lane (mergeRow (rv s v).data r m) w ((rs s b).toNat % tagLanes tv) =
          if tagMx tv then mxContainer tv (signedOf (mxWidth tv) (rs s a).toNat) else (rs s a).toNat % 2 ^ w) ∧
    (∃ r, exec (.vrng d) s = .next (s.sent [rowOut s 3 d 3 r, { lat := 1, res := .advance ((cx s).bank.vrngc + 64) }]) ∧
      ∀ j, j < 64 → lane r 32 j = (mix (cx s).bank.vrngk ((cx s).bank.vrngc + BitVec.ofNat 64 j)).toNat)

/-- R62, R63, R161, R162, R163, R164, R166, R167, R168: the parts of the statement. -/
def Obligations.VectorConversionsAndMoves : Prop :=
  Claim.VectorConversionsComplete ∧ Claim.SpecialFunctionsComplete ∧ Claim.LaneMovesComplete

/-- R169 to R171: the reductions send the tree's value for lane V8A mod 64 of a latch that carries the accumulation format,
at latency 10; a source or a latch with another tag traps FORMAT_TAG. -/
def Claim.ReductionsComplete : Prop :=
  ∀ (s : State) (v : BitVec 8) (z : BitVec 2) (k : BitVec 4) (r : Rm) (op : Red) (i : Instr),
    (op, i) ∈ [(Red.sum, Instr.vrsum v z k r), (.min, .vrmin v z k r), (.max, .vrmax v z k r)] →
    let t := (rv s v).tag
    s.roomFor 2 →
    (tagArith t = true → ((cx s).getZ z).tag = accTag t →
      let p := reduceRow op t (rk s k) (rndOf s (effMode s r)) (rv s v).data
      let dr := if effMode s r = 4 then drawOf s (tagLanes t - 1) else 0
      let u : Res := .reduce z (BitVec.ofNat 6 (v.toNat % 64)) (match op with | .sum => 0 | .min => 1 | .max => 2) (accTag t)
        (BitVec.ofNat 32 p.1) (BitVec.ofNat 3 (effMode s r)) (BitVec.ofNat 32 dr)
      exec i s = .next (s.sent ({ lat := 10, res := u, fp := p.2 } ::
        advanceOut s (op == .sum && tagFp t && effMode s r == 4) (tagLanes t)))) ∧
    (tagArith t = false → ∃ x, Traps i s 4 0x03 x) ∧
    (tagArith t = true → ((cx s).getZ z).tag ≠ accTag t → ∃ x, Traps i s 4 0x03 x)

/-- R171: a reduction's update lands, with its flags, only if the latch still carries its tag and no later latch write lands
with it; the
integer forms wrap, or choose by the signed order, and leave the other 63 lanes alone. -/
def Claim.LatchUpdate : Prop :=
  ∀ (base : State) (acc : LandAcc) (f : Flight) (z : BitVec 2) (l : BitVec 6) (fn : BitVec 3) (t dr : BitVec 32)
    (rm : Rm), f.res = .reduce z l fn 3 t rm dr → fn.toNat < 3 →
    let old := (getCtx acc.s f.ctx).getZ z
    let t' := (landOne base acc f).s
    let new := (getCtx t' f.ctx).getZ z
    let x := old.data.extractLsb' (32 * l.toNat) 32
    (old.tag = 3 →
      new.tag = 3 ∧
      new.data.extractLsb' (32 * l.toNat) 32 =
        (match fn.toNat with
          | 0 => x + t
          | 1 => if t.slt x then t else x
          | _ => if x.slt t then t else x) ∧
      (∀ j : Nat, j < 64 → j ≠ l.toNat → new.data.extractLsb' (32 * j) 32 = old.data.extractLsb' (32 * j) 32) ∧
      t'.mem = acc.s.mem ∧ ∀ c, c ≠ f.ctx → getCtx t' c = getCtx acc.s c) ∧
    (old.tag ≠ 3 → new = old ∧ (landOne base acc f).flags = acc.flags) ∧
    (∀ (rest : List Flight) (g : Flight) (tg : Tag) (d : BitVec 2048), g ∈ rest → g.ctx = f.ctx → g.res = .latch z tg d →
      dropLost rest [f] = [])

/-- R169, R170, R171: the parts of the statement. -/
def Obligations.Reductions : Prop :=
  Claim.ReductionsComplete ∧ Claim.LatchUpdate

/-- R172: VZDRN writes a whole row at c+2 with the latch as it stands and its tag, the latch unchanged; VZCLR fills every
lane of the latch at c+1 and sets its tag, where only INT32 and FP32 encode. -/
def Obligations.LatchMoves : Prop :=
  (∀ (s : State) (d : BitVec 8) (z : BitVec 2), s.roomFor 1 → ((cx s).getZ z).tag ≠ 15 →
    exec (.vzdrn d z) s = .next (s.sent [rowOut s 2 d ((cx s).getZ z).tag ((cx s).getZ z).data])) ∧
  (∀ (s : State) (t : Tag) (z : BitVec 2) (a : BitVec 6), s.roomFor 1 →
    ∃ r, exec (.vzclr t z a) s = .next (s.sent [{ lat := 1, res := .latch z t r }]) ∧
      ∀ j, j < 64 → r.extractLsb' (32 * j) 32 = (rs s a).setWidth 32) ∧
  (∀ (t : Tag) (z : BitVec 2) (a : BitVec 6) (w : Word),
    w = 0x54000004 ||| (t.setWidth 32 <<< 18) ||| (z.setWidth 32 <<< 12) ||| (a.setWidth 32 <<< 6) →
    (t = 3 ∨ t = 4 → decodeWord w = .ok (.vzclr t z a)) ∧ (t ≠ 3 → t ≠ 4 → decodeWord w = .error 5))

/-- R211: an all-pairing word requires disjoint source-set tags and otherwise traps DEP_CONFLICT; its result carries their
union and lineage 0; a tag of 0 passes against any tag, its own register included. -/
def Obligations.AllPairing : Prop :=
  ∀ (s : State) (d a b : BitVec 4) (i : Instr),
    i ∈ [Instr.dadd d a b false, .dsub d a b false, .dmul d a b false, .dmax d a b false, .dmin d a b false] →
    (rd s a).tag = 14 → (rd s b).tag = 14 →
    ((rd s a).sset &&& (rd s b).sset = 0 → s.roomFor 7 →
      ∃ data fl, exec i s = .next (s.sent [{ lat := 24, fp := fl, res := .dist d data ((rd s a).sset ||| (rd s b).sset) 0 }])) ∧
    ((rd s a).sset &&& (rd s b).sset ≠ 0 → ∃ x, Traps i s 4 0x06 x) ∧
    ((rd s a).sset = 0 → (rd s a).sset &&& (rd s b).sset = 0)

/-- R212: a .same word needs equal source-set tags, equal nonzero lineages and, in the elements valid in both, equal
weights; it keeps the tag and the lineage; any failure traps DEP_CONFLICT. -/
def Obligations.SamePairing : Prop :=
  ∀ (s : State) (d a b : BitVec 4) (i : Instr),
    i ∈ [Instr.dadd d a b true, .dsub d a b true, .dmul d a b true, .dmax d a b true, .dmin d a b true] →
    (rd s a).tag = 14 → (rd s b).tag = 14 →
    let fits := (rd s a).sset = (rd s b).sset ∧ (rd s a).lin = (rd s b).lin ∧ (rd s a).lin ≠ 0 ∧
      weightsDiffer (rd s a) (rd s b) = false
    (fits → s.roomFor 7 →
      ∃ data fl, exec i s = .next (s.sent [{ lat := 24, fp := fl, res := .dist d data (rd s a).sset (rd s a).lin }])) ∧
    (¬ fits → ∃ x, Traps i s 4 0x06 x)

/-- R216 to R225: the other distribution words complete on a register that carries DIST; DAFF keeps tag and lineage, DTAG
replaces them, DPT reads a point or the metadata, DMOM writes two rows, DCDF and DQNT one. -/
def Obligations.DistributionWordsComplete : Prop :=
  ∀ (s : State) (d x : BitVec 4) (v : BitVec 8) (a b e : BitVec 6), s.roomFor 7 →
    ((rd s x).tag = 14 →
      (let q := distOf ((elems (rd s x).data).map (affElem (argLo (rs s b)) (argHi (rs s b))))
       exec (.daff d x b) s = .next (s.sent [{ lat := 4, fp := q.2, res := .dist d q.1 (rd s x).sset (rd s x).lin }])) ∧
      exec (.dtag x a) s =
        .next (s.sent [{ lat := 1, res := .dtag x ((rs s a).extractLsb' 0 32) ((rs s a).extractLsb' 32 32) }]) ∧
      ((rs s b).getLsbD 8 = true → exec (.dpt e x b) s = .next (s.sent [scalarOut 2 e ((rd s x).lin ++ (rd s x).sset)])) ∧
      ((rs s b).getLsbD 8 = false → ∃ p, exec (.dpt e x b) s = .next (s.sent [scalarOut 2 e p]) ∧
        p = dptValue (rd s x) (rs s b) ∧ p.extractLsb' 48 16 = 0) ∧
      (let both := fun (f : Elem → Nat → Nat × Fl) => (elems (rd s x).data).map (fun e => f e (argLo (rs s b))) ++
         (elems (rd s x).data).map (fun e => f e (argHi (rs s b)))
       let row := fun (l : List (Nat × Fl)) => s.sent [withLanes (l.map (·.2)) (rowOut s 10 v 4 (ofLanes 32 (l.map (·.1))))]
       exec (.dcdf v x b) s = .next (row (both cdfElem)) ∧ exec (.dqnt v x b) s = .next (row (both quantElem))) ∧
      (rotSpan (cx s).bank v 2 = false →
        let ms := (elems (rd s x).data).map moments
        let r := ms.map (fun m => m.1) ++ ms.map (fun m => m.2.1)
        let q := ms.map (fun m => m.2.2) ++ List.replicate 32 (0, 0)
        let out := fun (d : BitVec 8) (l : List (Nat × Fl)) => withLanes (l.map (·.2)) (rowOut s 12 d 4 (ofLanes 32 (l.map (·.1))))
        exec (.dmom v x) s = .next (s.sent [out v r, out (groupRow v 1) q])) ∧
      (rotSpan (cx s).bank v 2 = true → Traps (.dmom v x) s 4 0x04 0)) ∧
    ((rd s x).tag ≠ 14 → ∀ i, i ∈ [Instr.daff d x b, .dtag x a, .dpt e x b, .dcdf v x b, .dqnt v x b, .dmom v x, .dst x a] →
      ∃ y, Traps i s 4 0x03 y) ∧
    ((∀ k, k < 4 → (rv s (groupRow v k)).tag = 4) → (rv s (groupRow v 4)).tag = 2 → (rv s (groupRow v 5)).tag = 2 →
      rotSpan (cx s).bank v 6 = false →
      let q := distOf ((List.range 32).map (fun e => checkElem (fromElem s v e)))
      exec (.dfrom v d a) s =
        .next (s.sent [{ lat := 6, fp := q.2, res := .dist d q.1 ((rs s a).extractLsb' 0 32) ((rs s a).extractLsb' 32 32) }])) ∧
    (pieceChecks s (rs s a) = [] →
      ((∀ q, portHolder s q false s.cycle = none) →
        let q := distOf ((elems (bytesBv 12288 (scratchRead s (rs s a).toNat 1536))).map checkElem)
        exec (.dld d a b) s = .next (takeAll false 0
          (s.sent [{ lat := 6, fp := q.2, res := .dist d q.1 ((rs s b).extractLsb' 0 32) ((rs s b).extractLsb' 32 32) }]))) ∧
      ((∀ q, portHolder s q true (s.cycle + 2) = none) → (rd s x).tag = 14 →
        ∃ bs, bs.length = 1536 ∧ exec (.dst x a) s = .next (takeAll true 2 (s.sent [{ lat := 2, res := .scratch (rs s a).toNat bs }])) ∧
          ∀ j, j < 1536 → bs[j]? = some ((rd s x).data.extractLsb' (8 * j) 8)))

/-- R178, R187 to R189: an MMA of the owner to an idle array that holds the format it names puts its row update in flight
and occupies the array; one without ownership, one that collides and one of another format write a NaN row and set OWN,
COLL or FMIS. -/
def Claim.MatrixMultiply : Prop :=
  ∀ (s : State) (d a : BitVec 8) (w : BitVec 2) (g n : Bool) (f : BitVec 2) (m : BitVec 3),
    let mf := m.toNat
    mfTag mf = some (rv s a).tag → (rv s (groupRow a 1)).tag = 0 → (n = true ∨ (rv s d).tag = 4) →
    rotSpan (cx s).bank a 2 = false → s.roomFor 1 →
    let nan := fun (fl : Mx) =>
      { s.sent [{ rowOut s (mfLatency mf) d 4 nanRow 0 fl with key := s.nextId + 1 }] with nextId := s.nextId + 1 }
    ((cx s).bank.mown = false → exec (.mma d a w g n f m) s = .next (nan mxOWN)) ∧
    ((cx s).bank.mown = true → (mmaBlocked s w mf = true ∨ routineOn s = true) →
      exec (.mma d a w g n f m) s = .next (nan mxCOLL)) ∧
    ((cx s).bank.mown = true → mmaBlocked s w mf = false → routineOn s = false →
      ((getArr s.matrix w).active.fmt ≠ m → exec (.mma d a w g n f m) s = .next (nan mxFMIS)) ∧
      ((getArr s.matrix w).active.fmt = m → ∃ o : Out,
        exec (.mma d a w g n f m) s = .next (occupy w mf (s.sent [o])) ∧ o.lat = mfWidth mf + 4 ∧
        (o.res, o.mx) = mmaRes s (cx s) d a w g n f.toNat mf false ∧
        (getArr (occupy w mf (s.sent [o])).matrix w).busy = s.cycle + mfWidth mf))

/-- R180: an MMA's landing adds its block products into its row lane by lane, or writes them to a cleared row, and tags the
row FP32. -/
def Claim.MatrixProductLanding : Prop :=
  ∀ (s : State) (f : Flight) (vd : BitVec 8) (w : BitVec 2) (na sl st : Bool) (n rc rg : Nat) (lanes : List (List MBlock)),
    s.flight = [f] → f.land ≤ s.cycle → s.fetches = [] → (getCtx s f.ctx).rerun.phase = 0 →
    f.res = .mma vd w na n sl st true lanes rc rg →
    ∃ t, exec .mmaLand s = .next t ∧ t.flight = [] ∧ t.mem = s.mem ∧
      ((getCtx t f.ctx).getV vd).tag = 4 ∧
      ((getCtx t f.ctx).getV vd).data = (mmaRow na n ((getCtx s f.ctx).getV vd).data lanes).1 ∧
      (getArr t.matrix w).hin = (mxRow n MBlock.h (getArr s.matrix w).hin lanes).1 ∧
      (sl = false → (getArr t.matrix w).frn = (getArr s.matrix w).frn) ∧
      (∀ j, j ≠ vd → (getCtx t f.ctx).getV j = (getCtx s f.ctx).getV j)

/-- R178, R180, R187, R188, R189: the parts of the statement. -/
def Obligations.MatrixProducts : Prop :=
  Claim.MatrixMultiply ∧ Claim.MatrixProductLanding

/-- R178, R186, R187, R191, R192, R195 to R197: the other words of the engine. MLDB reads at issue and swaps at c+20; MDRN
drains at c+6; MPROG writes at c+2; MCALL starts a routine with a copy of m0 to m7, or queues it behind the running one. One
that is refused changes nothing but its flag: OWN without ownership, COLL when the array or the engine is taken, MPR for an
index outside the declared size; a drain writes a NaN row then, and an MCALL posts its entry with STATUS 2, 1, or 3 for a
routine that the table does not hold. -/
def Claim.MatrixWordsComplete : Prop :=
  ∀ (s : State) (w : BitVec 2) (h : BitVec 4) (vd : BitVec 8) (sel : Bool) (a b d : BitVec 6) (i : BitVec 6), s.roomFor 1 →
    (let taken := fun (fl : Mx) => exec (.mdrn vd sel w) s = .next (s.sent [rowOut s 6 vd 4 nanRow 0 fl]) ∧
       exec (.mprog a b) s = .next (s.sent [{ lat := 2, res := .flags, mx := fl }])
     let empty := mldbChecks s (cx s).plan (rh s h) (rh s (shScaleH (rh s h))) = []
     let load := fun (fl : Mx) => exec (.mldb w h) s = .next (s.sent [{ lat := 20, res := .flags, mx := fl }])
     ((cx s).bank.mown = false → taken mxOWN ∧ (empty → load mxOWN)) ∧
     ((cx s).bank.mown = true → routineOn s = true → taken mxCOLL) ∧
     ((cx s).bank.mown = true → routineOn s = true ∨ mldbBlocked s w = true → empty → load mxCOLL) ∧
     ((cx s).bank.mown = true → routineOn s = false → mprogRes s (rs s a) (rs s b) = none →
       exec (.mprog a b) s = .next (s.sent [{ lat := 2, res := .flags, mx := mxMPR }])) ∧
     (∀ (st : BitVec 8) (fl : Mx),
       ((cx s).bank.mown = false ∧ st = 2 ∧ fl = mxOWN ∨
        (cx s).bank.mown = true ∧ s.matrix.run.isSome = true ∧ s.matrix.pend.isSome = true ∧ st = 1 ∧ fl = mxCOLL ∨
        (cx s).bank.mown = true ∧ (s.matrix.run.isSome && s.matrix.pend.isSome) = false ∧
          SMap.get 0xFFFF s.matrix.table i.toNat = 0xFFFF ∧ st = 3 ∧ fl = 0) →
       ∃ t, exec (.mcall i) s = .next t ∧ t.matrix = s.matrix ∧ t.mem = s.mem ∧ (cx t).bank = (cx s).bank ∧
         t.flight = (s.sent [{ lat := 1, res := .flags, mx := fl }]).flight ∧
         ((cx s).owed = [] → (cx t).owed = [{ q := 2, id := s.nextId, val := some (qmxEntry st i 0 0), cyc := s.cycle + 1 }]))) ∧
    exec (.mstat d a) s = .next (s.sent [scalarOut 2 d (if a = 0 then mstat0 s.matrix else mstat1 s)]) ∧
    ((cx s).bank.mown = true →
    (routineOn s = false → mldbBlocked s w = false → mldbChecks s (cx s).plan (rh s h) (rh s (shScaleH (rh s h))) = [] →
      exec (.mldb w h) s = .next (startSwap w (s.sent [{ lat := 20, res := mldbRes s w (rh s h) (rh s (shScaleH (rh s h))) }])) ∧
      (getArr (startSwap w s).matrix w).swap = some (s.cycle + 20)) ∧
    (routineOn s = false →
      exec (.mdrn vd sel w) s = .next (s.sent [{ lat := 6, res := .mdrn (physV (cx s).bank vd) w sel none }]) ∧
      ((rs s a).getLsbD 63 = true → (rs s a).extractLsb' 16 47 = 0 →
        exec (.mprog a b) s =
          .next (s.sent [{ lat := 2, res := .mprogEntry ((rs s a).extractLsb' 0 6) ((rs s b).extractLsb' 0 16) }])) ∧
      ((rs s a).getLsbD 63 = false → (rs s a).extractLsb' 16 47 = 0 → ((rs s a).extractLsb' 0 16).toNat < s.matrix.size →
        exec (.mprog a b) s =
          .next (s.sent [{ lat := 2, res := .mprogWord ((rs s a).extractLsb' 0 16).toNat (rs s b) }]))) ∧
    (SMap.get 0xFFFF s.matrix.table i.toNat ≠ 0xFFFF → s.matrix.pend = none →
      ∃ t r, exec (.mcall i) s = .next t ∧ r.idx = i ∧ r.m = (cx s).bank.m ∧
        r.next = (SMap.get 0xFFFF s.matrix.table i.toNat).toNat ∧ r.prog = 0 ∧
        (s.matrix.run = none → t.matrix.run = some r ∧ t.matrix.pend = none) ∧
        (s.matrix.run ≠ none → t.matrix.run = s.matrix.run ∧ t.matrix.pend = some r) ∧
        (cx t).owed = (cx s).owed ++ [{ q := 2, id := r.id, val := none, cyc := 0 }] ∧ (cx t).bank = (cx s).bank ∧ t.mem = s.mem))

/-- R177, R191: at its landing an MLDB swaps the copies of its array: the loaded copy is active, the former active copy is
the shadow. -/
def Claim.MatrixSwapLanding : Prop :=
  ∀ (base : State) (acc : LandAcc) (f : Flight) (w : BitVec 2) (m : BitVec 3) (x : BitVec 32768)
    (sc : BitVec 2048), f.res = .mldb w m x sc →
    let t := (landOne base acc f).s
    let old := getArr acc.s.matrix w
    (getArr t.matrix w).active = { fmt := m, data := x, scales := sc } ∧ (getArr t.matrix w).shadow = old.active ∧
    (getArr t.matrix w).swap = none ∧ (getArr t.matrix w).hin = old.hin ∧ (getArr t.matrix w).frn = old.frn ∧
    (∀ u, u ≠ w → getArr t.matrix u = getArr acc.s.matrix u) ∧ t.mem = acc.s.mem ∧ t.ctxs = acc.s.ctxs

/-- R177, R178, R191, R192, R195, R196: the parts of the statement. -/
def Obligations.MatrixOwnerWords : Prop :=
  Claim.MatrixWordsComplete ∧ Claim.MatrixSwapLanding

/-- R192: at its landing an MDRN writes its row whole with tag FP32 from the side accumulator that it names, and sets every
lane of that accumulator, and of no other, to +0. When it lands is the model's reading (log 61). -/
def Obligations.MatrixDrainLanding : Prop :=
  ∀ (s : State) (f : Flight) (vd : BitVec 8) (w : BitVec 2) (sel : Bool), f.res = .mdrn vd w sel none →
    let acc := if sel then (getArr s.matrix w).frn else (getArr s.matrix w).hin
    (drainRes s f).res = .row vd 4 acc (BitVec.allOnes 2048) ∧
    let t := drainClear s f
    (getArr t.matrix w).hin = (if sel then (getArr s.matrix w).hin else 0) ∧
    (getArr t.matrix w).frn = (if sel then 0 else (getArr s.matrix w).frn) ∧
    (getArr t.matrix w).active = (getArr s.matrix w).active ∧ (∀ u, u ≠ w → getArr t.matrix u = getArr s.matrix u) ∧
    t.ctxs = s.ctxs ∧ t.mem = s.mem

/-- R187, R196 to R202: the events of a routine. STEP puts its row update in flight and goes on, LOAD starts a swap, END ends
the routine and frees the engine for the one that is pending; a later STEP waits while its array is taken; a word that stops
the routine ends it with its status; after a load nothing runs before S. -/
def Obligations.RoutineEvents : Prop :=
  ∀ (s : State) (c : CtxId) (r : MRoutine) (w : Dbl), mxOwner s = some c → s.matrix.run = some r → r.start ≤ s.cycle →
    r.next < s.matrix.size → SMap.get 0 s.matrix.store r.next = w →
    (s.matrix.hold = true → exec .routineStep s = .next s ∧ exec .routineLoad s = .next s) ∧
    (s.matrix.hold = false →
    (w = 0 → ∃ t, exec .routineEnd s = .next t ∧
      t.matrix.run = s.matrix.pend.map (fun p => { p with start := max p.start (s.cycle + 1) }) ∧ t.matrix.pend = s.matrix.more.head? ∧ t.mem = s.mem) ∧
    (w.toNat / 2 ^ 60 = 1 → exec .routineLoad s = .next s) ∧
    (w.toNat / 2 ^ 60 = 1 → w.extractLsb' 0 48 = 0 → r.issued = true →
      mmaBlocked s (BitVec.ofNat 2 (w.toNat / 2 ^ 58)) (w.toNat / 2 ^ 55 % 8) = true → exec .routineStep s = .next s) ∧
    (∀ s' r' st wd e, microWord s c r = .stop s' r' st wd →
      (w.toNat / 2 ^ 60 = 1 ∧ e = Instr.routineStep ∨ w.toNat / 2 ^ 60 = 2 ∧ e = .routineLoad) →
      ∃ t, exec e s = .next t ∧ t.matrix.run = s.matrix.pend.map (fun p => { p with start := max p.start (s.cycle + 1) }) ∧
        t.matrix.pend = s.matrix.more.head? ∧ t.matrix.ending = s.matrix.ending ++ [{ r with status := st, word := BitVec.ofNat 16 wd }] ∧
        t.mem = s.mem ∧ t.flight = s.flight) ∧
    (∀ s' r', microWord s c r = .go s' r' →
      (w.toNat / 2 ^ 60 = 1 → ∃ t f, exec .routineStep s = .next t ∧ t.flight = s.flight ++ [f] ∧ f.ctx = c ∧
        ((t.matrix.run).map (·.next)) = some (r.next + 1)) ∧
      (w.toNat / 2 ^ 60 = 2 → ∃ t f, exec .routineLoad s = .next t ∧ t.flight = s.flight ++ [f] ∧ f.land = s.cycle + 20 ∧
        ((t.matrix.run).map (·.next)) = some (r.next + 1))))

/-- R244, R248, R249: BACT, BPRE and BREF of an owned bank in the state and with the counts they need. Counts are rounded up
to core cycles at the cluster's frequency (R245). -/
def Claim.VaultBankCommands : Prop :=
  ∀ (s : State) (b a : BitVec 6) (i : BitVec 11),
    let n := b.toNat
    let k := getBank s.vault n
    let t := getTier s.vault (n / 16)
    let cyc := fun v => (v * (32 + (s.cluster.oldFreq.getD s.cluster.freq).toNat) + 79) / 80
    let sh := k.shown.map (fun d => d + Config.refreshInterval t.seenCls.toNat)
    bankOwn s (cx s).plan n = 0 → s.vault.emergency.contains (cx s).plan = false →
    (k.state = 0 → k.act = 0 → t.rrd = 0 → t.faw3 = 0 →
      let row := ((rs s a).toNat : Int) + i.toInt
      (0 ≤ row → row ≤ 8191 → ∃ u, exec (.bact b a i) s = .next u ∧
        getBank u.vault n = { k with state := 1, rem := cyc 24, row := BitVec.ofInt 13 row, pre := cyc 56, act := cyc 80 } ∧
        getTier u.vault (n / 16) = { t with rrd := cyc 6, faw0 := cyc 32, faw1 := t.faw0, faw2 := t.faw1, faw3 := t.faw2 } ∧
        (∀ m, m ≠ n → getBank u.vault m = getBank s.vault m) ∧ u.mem = s.mem ∧ u.ctxs = s.ctxs) ∧
      ((row < 0 ∨ 8191 < row) → ∃ x, Traps (.bact b a i) s 5 0x13 x) ∧
      (k.seenDl ≤ 8 * Config.refreshInterval t.seenCls.toNat → ∃ u, exec (.bref b) s = .next u ∧
        getBank u.vault n = { k with state := 4, rem := cyc 300, dl := k.dl + Config.refreshInterval t.cls.toNat, shown := sh } ∧
        (∀ m, m ≠ n → getBank u.vault m = getBank s.vault m) ∧ u.mem = s.mem ∧ u.ctxs = s.ctxs)) ∧
    (k.state = 2 → k.pre = 0 → ∃ u, exec (.bpre b) s = .next u ∧
      getBank u.vault n = { k with state := 3, rem := cyc 24, row := 0 } ∧
      (∀ m, m ≠ n → getBank u.vault m = getBank s.vault m) ∧ u.mem = s.mem ∧ u.ctxs = s.ctxs) ∧
    (k.state = 0 → exec (.bpre b) s = .next s)

/-- R244, R248, R318: a bank command to a bank that the plan does not own traps MEM_RANGE; one to a bank in the wrong state,
before its counts have run down or during an emergency of the plan traps VAULT_TIMING. -/
def Claim.VaultCommandTraps : Prop :=
  ∀ (s : State) (b a : BitVec 6) (i : BitVec 11) (k : BitVec 4) (o : BitVec 7), s.roomFor 1 →
    let n := b.toNat
    let x := getBank s.vault n
    let row := ((rs s a).toNat : Int) + i.toInt
    let p := (rs s a + o.signExtend 64 * 128).toNat
    let untimely := fun (w : Instr) => ∃ v, Traps w s 5 0x16 v
    (bankOwn s (cx s).plan n ≠ 0 → ∀ w, w ∈ [Instr.bact b a i, .brd b a k o, .bwr b a k o, .bpre b, .bref b] →
      ∃ v, Traps w s 5 0x13 v) ∧
    (bankOwn s (cx s).plan n = 0 → s.vault.emergency.contains (cx s).plan = true → untimely (.bpre b) ∧ untimely (.bref b)) ∧
    (bankOwn s (cx s).plan n = 0 →
      (x.state = 1 ∨ x.state = 3 ∨ x.state = 4 → untimely (.bpre b) ∧ untimely (.bref b)) ∧
      (x.state = 2 ∧ x.pre ≠ 0 → untimely (.bpre b)) ∧
      (x.state = 2 ∨ x.act ≠ 0 → untimely (.bref b)) ∧
      (0 ≤ row → row ≤ 8191 → x.state ≠ 0 ∨ x.act ≠ 0 → untimely (.bact b a i)) ∧
      (p % 128 = 0 → inScratch s (cx s).plan p 128 = true → portHolder s (quadOf p) false s.cycle = none → x.state ≠ 2 →
        untimely (.bwr b a k o)) ∧
      (p % 128 = 0 → inScratch s (cx s).plan p 128 = true →
        portHolder s (quadOf p) true (s.cycle + (28 * (32 + (s.cluster.oldFreq.getD s.cluster.freq).toNat) + 79) / 80) = none → x.state ≠ 2 →
        untimely (.brd b a k o)))

/-- R244, R248, R249, R252: BRD sends column k of the open row to the scratchpad for c + tRL; BWR takes its bytes at issue
and has them reach the row at c + tWL; BPREA precharges the plan's own banks of a tier; BSTAT reads. -/
def Claim.VaultDataCommands : Prop :=
  ∀ (s : State) (b a d : BitVec 6) (k : BitVec 4) (o : BitVec 7) (tr : BitVec 2) (sel : BitVec 11), s.roomFor 1 →
    let n := b.toNat
    let x := getBank s.vault n
    let t := getTier s.vault (n / 16)
    let cyc := fun v => (v * (32 + (s.cluster.oldFreq.getD s.cluster.freq).toNat) + 79) / 80
    let p := (rs s a + o.signExtend 64 * 128).toNat
    (bankOwn s (cx s).plan n = 0 → s.vault.emergency.contains (cx s).plan = false → x.state = 2 → t.ccd = 0 →
      p % 128 = 0 → inScratch s (cx s).plan p 128 = true →
      (t.wtr = 0 → portHolder s (quadOf p) true (s.cycle + cyc 28) = none →
        ∃ u bs, exec (.brd b a k o) s = .next u ∧
          u.flight = s.flight ++ [{ ctx := s.cur.ctx, land := s.cycle + cyc 28, seq := s.seq, slot := s.cur.slot.toNat,
                                    res := .scratch p bs, fp := 0, mx := 0 }] ∧
          bs = memRead s.mem (keyVault s.me n x.row.toNat (128 * k.toNat)) 128 ∧
          (getTier u.vault (n / 16)).ccd = cyc 8 ∧ (getBank u.vault n).pre = max x.pre (cyc 10) ∧ u.mem = s.mem) ∧
      (portHolder s (quadOf p) false s.cycle = none →
        ∃ u w, exec (.bwr b a k o) s = .next u ∧ u.vault.writes = s.vault.writes ++ [w] ∧ w.land = s.cycle + cyc 16 ∧
          w.bank = b ∧ w.row = x.row ∧ w.col = k ∧ w.bytes = scratchRead s p 128 ∧
          (getTier u.vault (n / 16)).wtr = cyc 16 + cyc 12 ∧ u.flight = s.flight ∧ u.mem = s.mem)) ∧
    (s.vault.emergency.contains (cx s).plan = false → 
      (∀ m, m / 16 = tr.toNat → bankOwn s (cx s).plan m = 0 →
        (getBank s.vault m).state = 0 ∨ (getBank s.vault m).state = 2 ∧ (getBank s.vault m).pre = 0) →
      ∃ u, exec (.bprea tr) s = .next u ∧ u.mem = s.mem ∧ u.ctxs = s.ctxs ∧
        (∀ m, bankOwn s (cx s).plan m = 0 → m / 16 = tr.toNat → (getBank s.vault m).state = 2 → (getBank u.vault m).state = 3) ∧
        ∀ m, (bankOwn s (cx s).plan m ≠ 0 ∨ m / 16 ≠ tr.toNat) → getBank u.vault m = getBank s.vault m) ∧
    (sel.toNat < 7 → exec (.bstat b d sel) s = .next (s.sent [scalarOut 2 d (match sel.toNat with
      | 0 => wordA s (cx s).plan n
      | 1 => wordB s (cx s).plan n
      | 2 => tierWord s (n / 16)
      | 3 => SMap.get 0 s.vault.frozen n
      | 4 => SMap.get 0 s.vault.frozen (64 + n)
      | 5 => SMap.get 0 s.vault.frozen (128 + n / 16)
      | _ => s.vault.frozenTval)]))

/-- R244, R245, R248, R249, R252: the parts of the statement. -/
def Obligations.VaultWords : Prop :=
  Claim.VaultBankCommands ∧ Claim.VaultCommandTraps ∧ Claim.VaultDataCommands

/-- R246, R249, R253, R254, R258, R316, R318: events of the vault. The order of the refreshes of an emergency is the model's
reading (log 36). -/
def Obligations.VaultEvents : Prop :=
  (∀ (s : State) (w : RowWrite), s.vault.writes = [w] → w.land ≤ s.cycle →
    ∃ t, exec .bwrRowWrite s = .next t ∧ t.vault.writes = [] ∧
      t.mem = memWrite s.mem (keyVault s.me w.bank.toNat w.row.toNat (128 * w.col.toNat)) w.bytes) ∧
  (∀ (s : State), ∃ t, exec .bankPhaseEnd s = .next t ∧ t = { s with vault := { s.vault with banks := t.vault.banks } } ∧
    (SMap.wf ({} : VBank) s.vault.banks = true → ∀ n, getBank t.vault n =
      (let b := getBank s.vault n
       if b.rem = 0 then { b with state := phaseEnd b.state } else b))) ∧
  (∀ (s : State) (b : BitVec 6),
    ((compilerBanks s).contains b.toNat = true → (getBank s.vault b.toNat).dl = 0 →
      ∃ t, exec (.refreshDeadlineExpire b s.self) s = .next t ∧ t.vault.emergency.contains (ownerOf s b.toNat) = true ∧
        t.mem = s.mem ∧ (s.vault.emergency.contains (ownerOf s b.toNat) = true → t = s) ∧
        ∀ c, s.vault.emergency.contains (ownerOf s b.toNat) = false → primaryOf s (ownerOf s b.toNat) = some c →
          (getCtx s c).pend.refo = none → (getCtx t c).pend.refo = some (refoTval s 2 b.toNat (ownerOf s b.toNat))) ∧
    ((getBank s.vault b.toNat).dl ≠ 0 → exec (.refreshDeadlineExpire b s.self) s = .next s)) ∧
  (∀ (s : State) (core : BitVec 11) (b : BitVec 6) (p : Plan) (r : CoreRes), core ≠ s.self → s.plans = [p] →
    resOf p core.toNat = some r → r.owned.getLsbD b.toNat = true → (resOf p s.me).isSome = true →
    ∃ t, exec (.refreshDeadlineExpire b core) s = .next t ∧ t.vault.emergency.contains p.seq = true ∧ t.mem = s.mem) ∧
  (∀ (s : State), s.vault.emergency = [] → exec .emergencyRefresh s = .next s) ∧
  (∀ (s : State) (n : Nat) (p : Plan), n < 64 → p ∈ s.plans → s.vault.emergency.contains p.seq = true → n ∈ banksOf s p →
    (getBank s.vault n).state = 2 → (getBank s.vault n).pre = 0 →
    ∃ t, exec .emergencyRefresh s = .next t ∧ (getBank t.vault n).state = 3 ∧ t.mem = s.mem) ∧
  (∀ (s : State),
    (s.replan.var.toNat < s.replan.need.toNat → 2000000 < s.replan.age →
      ∃ t, exec .replanAgeExpire s = .next t ∧ t.vault.emergency.contains s.gate.seq = true ∧ t.mem = s.mem) ∧
    (s.replan.need.toNat ≤ s.replan.var.toNat → s.kept = [] → exec .replanAgeExpire s = .next s)) ∧
  (∀ (s : State) (tr cls : BitVec 2), ∃ t, exec (.tierClassChange tr cls s.self) s = .next t ∧
    (getTier t.vault tr.toNat).cls = cls ∧ (∀ u, u ≠ tr.toNat → getTier t.vault u = getTier s.vault u) ∧ t.mem = s.mem ∧
    t.replan.var = s.replan.var) ∧
  (∀ (s : State) (core : BitVec 11) (tr cls : BitVec 2), core ≠ s.self → ∃ t, exec (.tierClassChange tr cls core) s = .next t ∧
    SMap.get 0 t.vault.far (4 * core.toNat + tr.toNat) = cls ∧ t.vault.banks = s.vault.banks ∧ t.vault.tiers = s.vault.tiers ∧
    t.mem = s.mem ∧ t.replan.var = s.replan.var) ∧
  (∀ (s : State) (e : Corrected),
    let may := fun (n : Nat) => (compilerBanks s).contains n = true ∧ (getBank s.vault n).state = stREF ∨
      (compilerBanks s).contains n = false ∧ (getBank s.vault n).state ≠ stOPEN
    (∀ b, e = .scrub b → ¬ may b.toNat → exec (.patrolScrub e) s = .next s) ∧
    ((∀ b, e = .scrub b → may b.toNat) →
      ∃ t, exec (.patrolScrub e) s = .next t ∧
        t.error.toNat / 2 ^ 48 = min 65535 (s.error.toNat / 2 ^ 48 + 1) ∧ t.error.toNat % 2 ^ 48 = s.error.toNat % 2 ^ 48))

/-- R279 to R282, R310, R311, R438, R440, R455: XPUT sends a word to the partner of a port, where it arrives two cycles later,
or puts it into the route list of xg or fo; XGET takes the oldest word that has arrived at a port, in xg or in fi. At an edge
port, and at a list or buffer that cannot take or give a word, the cause of the rule becomes pending and the value is 0; fo
waits for a place and fi for a word. -/
def Claim.ExchangeWords : Prop :=
  ∀ (s : State) (f : BitVec 3) (a d : BitVec 6), s.roomFor 1 →
    let port := f.extractLsb' 0 2
    let v := rs s a
    let late := fun (t : State) (c : CtxId) (x : Dbl) => (getCtx s c).pend.late = none → (getCtx t c).pend.late = some x
    let miss := fun (t : State) (kind p peer : Nat) => ∀ c, primaryCtx s = some c → (getCtx s c).pend.miss = none →
      (getCtx t c).pend.miss = some (BitVec.ofNat 64 (kind * 2 ^ 16 + p * 2 ^ 8 + peer * 16 + slotN s))
    let put := fun (g : BitVec 3) (p : State → Prop) => ∃ t, exec (.xput g a) s = .next t ∧ t.mem = s.mem ∧ t.flight = s.flight ∧
      (cx t).bank = (cx s).bank ∧ p t
    let get := fun (g : BitVec 3) (w : Dbl) (p : State → Prop) => ∃ t, exec (.xget d g) s = .next t ∧ t.mem = s.mem ∧
      t.flight = (s.sent [scalarOut 1 d w]).flight ∧ (cx t).bank = (cx s).bank ∧ p t
    (f.toNat < 4 →
      (partner s port.toNat ≠ none → put f (fun t => t.xout = s.xout ++ [{ port := port, arrive := s.cycle + 2, v := v }])) ∧
      (partner s port.toNat = none → put f (fun t => t.xout = s.xout ∧ miss t 3 port.toNat 0)) ∧
      (∀ w, partner s port.toNat ≠ none → oldest s port = some w → get f w.v (fun t => t.xports = eraseFirst (fun u => u == w) s.xports)) ∧
      (∀ i, partner s port.toNat = some i → oldest s port = none → get f 0 (fun t => t.xports = s.xports ∧ miss t 2 port.toNat i)) ∧
      (partner s port.toNat = none → get f 0 (fun t => t.xports = s.xports ∧ miss t 3 port.toNat 0))) ∧
    (timedPrimary s = false →
      put 4 (fun t => t.gate = s.gate ∧ late t s.cur.ctx (lateTval 3 0 0 0 (slotN s))) ∧
      get 4 0 (fun t => t.gate = s.gate ∧ late t s.cur.ctx (lateTval 3 0 0 0 (slotN s)))) ∧
    (timedPrimary s = true →
      (let room := s.gate.step ≠ none ∧ roomIn s.gate.list = true ∧ heldWords (s.gate.list ++ s.gate.old) < 64
       (room → put 4 (fun t => t.gate.list = pushEntry (takenAt s) v s.gate.list)) ∧
       (¬ room → put 4 (fun t => t.gate = s.gate ∧ ∀ c, primaryCtx s = some c → late t c (lateTval 2 (stepOf s) 0 0 (slotN s))))) ∧
      (∀ w, rxHead s s.gate.rx = some w → get 4 w (fun t => t.gate.rx = s.gate.rx.tail)) ∧
      (rxHead s s.gate.rx = none → get 4 0 (fun t => t.gate = s.gate ∧ miss t 2 4 0))) ∧
    (fabricUser s = false →
      put 6 (fun t => t.gate = s.gate ∧ late t s.cur.ctx (lateTval 3 0 0 0 (slotN s))) ∧
      get 5 0 (fun t => t.gate = s.gate ∧ late t s.cur.ctx (lateTval 3 0 0 0 (slotN s)))) ∧
    (fabricUser s = true →
      (fabricEdge s = true → put 6 (fun t => t.gate = s.gate ∧ miss t 3 6 0)) ∧
      (fabricEdge s = true → rxHead s s.gate.fi = none → get 5 0 (fun t => t.gate = s.gate ∧ miss t 3 5 0)) ∧
      (∀ w, rxHead s s.gate.fi = some w → get 5 w (fun t => t.gate.fi = s.gate.fi.tail)) ∧
      (fabricEdge s = false → 64 ≤ heldWords s.gate.foList → exec (.xput 6 a) s = .next (stallFor s)) ∧
      (fabricEdge s = false → rxHead s s.gate.fi = none → exec (.xget d 5) s = .next (stallFor s)) ∧
      (fabricEdge s = false → heldWords s.gate.foList < 64 →
        (let room := s.gate.step ≠ none ∧ roomIn s.gate.foList = true
         (room → put 6 (fun t => t.gate.foList = pushEntry (takenAt s) v s.gate.foList)) ∧
         (¬ room → put 6 (fun t => t.gate = s.gate ∧ ∀ c, primaryCtx s = some c → late t c (lateTval 2 (stepOf s) 0 0 (slotN s)))))))

/-- R281, R282, R284: a neighbour's word enters a port at the cycle at which it arrives, and a port takes one a cycle; a
word that nothing has taken by four cycles later is discarded with a TIMING_MISS of KIND 1; CSYNC releases four cycles after
the last CSYNC of its mask, here this core's own for a mask of it alone, and its tag's count falls. The CSYNCs of other
cores come with the event (log 45). -/
def Claim.ExchangeEvents : Prop :=
  (∀ (s : State) (p : BitVec 2) (v : Dbl),
    ((partner s p.toNat).isSome = true → (∀ w, w ∈ s.xports → w.port = p → w.arrive ≠ s.cycle) →
      ∃ t, exec (.xchgWordArrive p v) s = .next t ∧ t = { s with xports := s.xports ++ [{ port := p, arrive := s.cycle, v := v }] }) ∧
    (∀ w, w ∈ s.xports → w.port = p → w.arrive = s.cycle → exec (.xchgWordArrive p v) s = .next s)) ∧
  (∀ (s : State) (w : XWord) (c : CtxId), s.stop = none → s.xports = [w] → primaryCtx s = some c →
    (getCtx s c).pend.miss = none →
    (w.arrive + 4 ≤ s.cycle → ∃ t, exec .xchgWindowExpire s = .next t ∧ t.xports = [] ∧ t.mem = s.mem ∧
      (getCtx t c).pend.miss = some (BitVec.ofNat 64
        (2 ^ 16 + w.port.toNat * 2 ^ 8 + ((neighbour s.myIndex w.port.toNat).getD 0) * 16))) ∧
    (s.cycle < w.arrive + 4 → ∃ t, exec .xchgWindowExpire s = .next t ∧ t.xports = [w] ∧ t.ctxs = s.ctxs)) ∧
  (∀ (s : State) (m : BitVec 16) (g : BitVec 6) (c : Nat), s.cluster.csync = some (m, g, c) → s.stop = none →
    (∀ last, m ≠ 1#16 <<< s.myIndex → c ≤ last → last + 4 = s.cycle → ∃ t, exec (.csyncRelease last) s = .next t ∧
      t.cluster.csync = none ∧ tagCount t g.toNat = tagCount s g.toNat - 1 ∧ t.mem = s.mem ∧ t.ctxs = s.ctxs) ∧
    (m = 1#16 <<< s.myIndex → c + 4 ≤ s.cycle → (soleSync s).cluster.csync = none ∧
      tagCount (soleSync s) g.toNat = tagCount s g.toNat - 1) ∧
    (s.cycle < c + 4 → soleSync s = s ∧ ∀ last, exec (.csyncRelease last) s = .next s))

/-- R279, R281, R282, R284: the parts of the statement. -/
def Obligations.ExchangeWordsAndEvents : Prop :=
  Claim.ExchangeWords ∧ Claim.ExchangeEvents

/-- R283, R286, R290, R311, R313, R317: CSYNC takes its tag and waits for its mask, and raises TIMING_MISS of KIND 4 or 5
otherwise; PBAR of the primary context waits for its release and takes up its step when the core has seen it, with RP = 1 as
a re-planning point; PBAR of another context raises LATE_PUSH of KIND 3. How the cores of a placement agree on a re-planning
point is the model's reading (log 33). -/
def Claim.BarrierWords : Prop :=
  ∀ (s : State) (a t : BitVec 6) (r : Bool) (k : BitVec 12),
    (tagChecks s t = [] → ((rs s a).extractLsb' 0 16).getLsbD s.myIndex = true →
      (rs s a).extractLsb' 0 16 &&& ~~~(clusterMask s s.cur.ctx) = 0 → s.cluster.csync = none →
      ∃ u, exec (.csync a t) s = .next u ∧ u.cluster.csync = some ((rs s a).extractLsb' 0 16, t, s.cycle) ∧
        tagCount u t.toNat = tagCount s t.toNat + 1 ∧ (cx u).bank = (cx s).bank ∧ u.mem = s.mem) ∧
    (∀ c, tagChecks s t = [] → primaryCtx s = some c → (getCtx s c).pend.miss = none →
      let bad := ((rs s a).extractLsb' 0 16).getLsbD s.myIndex = false ∨ (rs s a).extractLsb' 0 16 &&& ~~~(clusterMask s s.cur.ctx) ≠ 0
      (bad ∨ s.cluster.csync.isSome = true) → ∃ u, exec (.csync a t) s = .next u ∧ u.cluster = s.cluster ∧ u.tags = s.tags ∧
        (bad → (getCtx u c).pend.miss = some (BitVec.ofNat 64 (4 * 2 ^ 16 + slotN s))) ∧
        (¬ bad → (getCtx u c).pend.miss = some (BitVec.ofNat 64 (5 * 2 ^ 16 + slotN s))) ∧ u.mem = s.mem) ∧
    ((cx s).primary = true → releaseSeen s (cx s) = none →
      exec (.pbar r k) s = .next (waitFor s .barrier) ∧ (cx (waitFor s .barrier)).waits = (cx s).waits ++ [.barrier]) ∧
    (∀ rel, (cx s).primary = true → releaseSeen s (cx s) = some rel → switchCause s r k.toNat = [] →
      ∃ u, exec (.pbar r k) s = .next u ∧ (recOf u (cx s).plan).gate.step = some k ∧ (recOf u (cx s).plan).pbarTick = none ∧
        (cx u).arrived = none ∧ u.mem = s.mem ∧
        (r = true → u.cluster.heldFreq = none) ∧ (r = false → u.cluster = s.cluster) ∧
        (∀ cls target, r = true → switchAt s k.toNat = some (cls, target) →
          (recOf u (cx s).plan).replan.var = BitVec.ofNat 2 cls ∧ u.cur.npc = target ∧ u.cur.gap = 1)) ∧
    (∀ rel, (cx s).primary = true → releaseSeen s (cx s) = some rel → switchCause s r k.toNat ≠ [] →
      ∃ w x, Traps (.pbar r k) s 5 w x) ∧
    ((cx s).primary = false → ∃ u, exec (.pbar r k) s = .next u ∧
      ((cx s).pend.late = none → (cx u).pend.late = some (lateTval 3 0 0 0 (slotN s))) ∧ u.cur = s.cur ∧ u.mem = s.mem)

/-- R304, R308, R311 to R313: a service flit moves one hop on a service tick; a full entry of the route list departs at
its tick, and its flit arrives 2 ticks a hop and 2 later; a flit's words enter the receive buffer; a PBAR that waits
registers its arrival once its context has nothing outstanding; a word that finds the receive buffer full is discarded; the release tick that follows is a multiple of 8, no
earlier than the least. -/
def Claim.RouteEvents : Prop :=
  (∀ (s : State) (c : CtxId) (a : Access), ownGlobal s = [(c, a)] → (getCtx s c).out = [a] → a.hops ≠ 0 →
    (a.tick ≤ tickNow s → tickNow s % 8 = 7 → ∃ t b, exec .serviceFlitHop s = .next t ∧ (getCtx t c).out = [b] ∧
      b.hops + 1 = a.hops ∧ (b.tick = tickNow s + 2 ∨ b.tick = tickNow s + 4) ∧ b.op = a.op ∧ t.mem = s.mem) ∧
    (tickNow s % 8 ≠ 7 → exec .serviceFlitHop s = .next s)) ∧
  (∀ (s : State) (e : GEntry), s.stop = none → s.gate.list = [e] → s.gate.old = [] → s.gate.foList = [] → s.gate.foOld = [] →
    e.gone = false →
    (seen s e.dep = true → (inTime e).length = e.count → ∃ t, exec .routeFlitDepart s = .next t ∧
      t.gate.list = [{ e with gone := true }] ∧ t.ctxs = s.ctxs ∧
      t.gate.flits = s.gate.flits ++ [{ tick := e.dep + 2 * hops (s.myCluster % 10) (e.dst / 16 % 10) + 2, dst := e.dst,
                                        link := e.link, words := (inTime e).map (·.2) }]) ∧
    (∀ c, seen s e.dep = true → (inTime e).length < e.count → primaryCtx s = some c → (getCtx s c).pend.late = none →
      ∃ t, exec .routeFlitDepart s = .next t ∧ t.gate.list = [{ e with gone := true }] ∧ t.gate.flits = s.gate.flits ∧
        (getCtx t c).pend.late = some (lateTval 1 (stepOf s) e.index (inTime e).length 0)) ∧
    (seen s e.dep = false → ∃ t, exec .routeFlitDepart s = .next t ∧ t.gate.list = [e] ∧ t.gate.flits = s.gate.flits ∧
      t.ctxs = s.ctxs)) ∧
  (∀ (s : State) (ws : List Dbl), s.stop = none → ws.length ≤ 8 → s.gate.rx.length + ws.length ≤ 64 →
    exec (.routeFlitArrive ws) s =
      .next { s with gate := { s.gate with rx := s.gate.rx ++ ws.map (fun v => (tickNow s, v)) } }) ∧
  (∀ (s : State) (ws : List Dbl) (c : CtxId), s.stop = none → ws ≠ [] → s.gate.rx.length = 64 → primaryCtx s = some c →
    ∃ t, exec (.routeFlitArrive ws) s = .next t ∧ t.gate = s.gate ∧ t.mem = s.mem ∧
      ((getCtx s c).pend.miss = none → (getCtx t c).pend.miss = some (BitVec.ofNat 64 (2 ^ 16 + 4 * 2 ^ 8)))) ∧
  (∀ (s : State) (c : CtxId), (recOf s (getCtx s c).plan).stop = none → atBarrier (getCtx s c) = true →
    (getCtx s c).arrived = none →
    (quiet s c = true → ∃ t, exec (.pbarArrive c) s = .next t ∧ (getCtx t c).arrived = some (takenAt s) ∧ t.mem = s.mem) ∧
    (quiet s c = false → exec (.pbarArrive c) s = .next s)) ∧
  (∀ (s : State) (c : CtxId) (p : Plan) (a r q : Nat) (ks : List (BitVec 12)), q ≠ 0 → (getCtx s c).plan = q →
    (recOf s q).pbarTick = none → (getCtx s c).arrived = some a → findPlan s q = some p → r % 8 = 0 → leastRelease s p a ≤ r →
    ∃ t, exec (.pbarRelease r ks q) s = .next t ∧ (recOf t q).pbarTick = some r ∧ (recOf t q).replan.steps = ks ∧
      t.ctxs = s.ctxs ∧ t.mem = s.mem) ∧
  (∀ (s : State) (r : Nat) (ks : List (BitVec 12)), r % 8 ≠ 0 → exec (.pbarRelease r ks) s = .next s)

/-- R283, R286, R290, R304, R308, R311, R312, R313: the parts of the statement. -/
def Obligations.BarrierAndRoutes : Prop :=
  Claim.BarrierWords ∧ Claim.RouteEvents

/-- R265, R291: CLD leaves at its issue and owes its queue qgl an entry; CST enters the release buffer and waits there for
the commit. -/
def Claim.PeerWords : Prop :=
  ∀ (s : State) (a b : BitVec 6), peerChecks s (rs s a) = [] →
    (∃ t x, exec (.cld a) s = .next t ∧ (cx t).out = (cx s).out ++ [x] ∧ x.op = .peer (rs s a).toNat none ∧ x.id = s.nextId ∧
      (cx t).owed = (cx s).owed ++ [{ q := 0, id := s.nextId, val := none, cyc := 0 }] ∧ (cx t).bank = (cx s).bank ∧
      t.mem = s.mem) ∧
    ((cx s).rel.length < 64 → ∃ t x, exec (.cst a b) s = .next t ∧ (cx t).rel = (cx s).rel ++ [x] ∧
      x.op = .peer (rs s a).toNat (some (rs s b)) ∧ (cx t).owed = (cx s).owed ∧ t.mem = s.mem) ∧
    (64 ≤ (cx s).rel.length → ∃ x, Traps (.cst a b) s 4 0x0A x)

/-- R286, R287: a CPY whose checks pass counts its tag up and enters the copy queue, or the release buffer for a
destination outside the core's own memories. R290: TWALL and TWANY issue when their tags are idle and otherwise block; TFFR
gives the lowest idle tag, or 64. -/
def Claim.CopyAndTagWords : Prop :=
  ∀ (s : State) (d a : BitVec 4) (t : BitVec 6) (e m : BitVec 6), s.roomFor 1 →
    (cpyChecks s (rh s d) (rh s a) t = [] →
      (shSpace (rh s d) < 2 → ∃ u r, exec (.cpy d a t) s = .next u ∧ u.copyq = s.copyq ++ [r] ∧ r.hd = rh s d ∧ r.hs = rh s a ∧
        r.tag = t ∧ r.ctx = s.cur.ctx ∧ tagCount u t.toNat = tagCount s t.toNat + 1 ∧ u.mem = s.mem ∧ u.ctxs = s.ctxs) ∧
      (2 ≤ shSpace (rh s d) → ∃ u x, exec (.cpy d a t) s = .next u ∧ (cx u).rel = (cx s).rel ++ [x] ∧
        x.op = .copy (rh s d) (rh s a) t ∧ tagCount u t.toNat = tagCount s t.toNat + 1 ∧ u.mem = s.mem)) ∧
    (shapeOk (rh s d) = false → Traps (.cpy d a t) s 4 0x05 0) ∧
    (let k := rs s m &&& planTags s s.cur.ctx
     (idleTags s &&& k = k → exec (.twall m) s = .next s) ∧
     (idleTags s &&& k ≠ k → exec (.twall m) s = .next (waitFor s (.tagsAll m))) ∧
     (idleTags s &&& k ≠ 0 → exec (.twany e m) s = .next (s.sent [scalarOut 1 e (idleTags s &&& k)])) ∧
     (k = 0 → exec (.twany e m) s = .next (s.sent [scalarOut 1 e 0])) ∧
     (idleTags s &&& k = 0 → k ≠ 0 → exec (.twany e m) s = .next (waitFor s (.tagsAny m))) ∧
     (∃ n, exec (.tffr e m) s = .next (s.sent [scalarOut 1 e (BitVec.ofNat 64 n)]) ∧
       (idleTags s &&& k = 0 → n = 64) ∧
       (idleTags s &&& k ≠ 0 → n < 64 ∧ (idleTags s &&& k).getLsbD n = true ∧ ∀ j, j < n → (idleTags s &&& k).getLsbD j = false)))

/-- R234, R287, R289, R290, R292, R376: a context blocked by TWALL or TWANY goes on once its tags are idle, by the mask in
its register; a free engine takes the head of the copy queue; an engine performs its copy when the ports are free, here one
run of at most one 256-byte block within this core's scratchpad: first it reads the run, then it writes it, and its tag's
count falls; a peer's load and store take this core's ports and wait while they are held; another core's own store changes
its scratchpad; an access of this core to a peer is performed two cycles after it left at the earliest. The blocks of a copy
are the model's choice (log 63). -/
def Claim.CopyEvents : Prop :=
  (∀ (s : State) (g a : BitVec 6) (c : CtxId), (∀ d, d ≠ c → (getCtx s d).st ≠ .blocked) → (getCtx s c).st = .blocked →
    let m := (getCtx s c).bank.getS a &&& planTags s c
    (tagCount s g.toNat ≠ 0 → exec (.tagCountZero g) s = .next s) ∧
    (tagCount s g.toNat = 0 → ((getCtx s c).waits = [.tagsAll a] ∧ idleTags s &&& m = m ∨
        (getCtx s c).waits = [.tagsAny a] ∧ (idleTags s &&& m ≠ 0 ∨ m = 0)) →
      ∃ t, exec (.tagCountZero g) s = .next t ∧ (getCtx t c).st = .running ∧
      (getCtx t c).waits = [] ∧ (getCtx t c).bank = (getCtx s c).bank ∧ t.mem = s.mem)) ∧
  (∀ (s : State) (r : CopyReq) (l : List CopyReq), s.engines = [] → s.copyq = r :: l →
    fenceHolds s r.ctx { id := r.id, op := .copy r.hd r.hs r.tag } = false →
    exec .copyTake s = .next { s with copyq := l, engines := [(0, r)] }) ∧
  (∀ (s : State) (r : CopyReq) (e : Bool), let a := runAt r.hs 0
    let b := runAt r.hd 0
    let n := shDim0 r.hs
    s.engines = [(b2n e, r)] → r.runs = 0 → runCount r.hd = 1 → shSpace r.hs = 0 → shSpace r.hd = 0 → shDim0 r.hd = n →
    0 < n → a % 256 + n ≤ 256 → b % 256 + n ≤ 256 → a < 2 ^ 19 → b < 2 ^ 19 → r.put = [] →
    (r.got = [] → readFree s a = true → ∃ t, exec (.copyComplete e) s = .next t ∧
      t.engines = [(b2n e, { r with got := [(0, scratchRead s a n)] })] ∧ t.tags = s.tags ∧ t.mem = s.mem ∧ t.ctxs = s.ctxs) ∧
    (r.got = [] → readFree s a = false → exec (.copyComplete e) s = .next s) ∧
    (∀ bs, r.got = [(0, bs)] → bs.length = n → writeFree s b = true → ∃ t, exec (.copyComplete e) s = .next t ∧ t.engines = [] ∧
      tagCount t r.tag.toNat = tagCount s r.tag.toNat - 1 ∧ t.mem = memWrite s.mem (keyScratch s.me b) bs ∧ t.ctxs = s.ctxs) ∧
    (∀ bs, r.got = [(0, bs)] → bs.length = n → writeFree s b = false → exec (.copyComplete e) s = .next s)) ∧
  (∀ (s : State) (a : BitVec 19) (v : Dbl), a.toNat % 8 = 0 →
    (writeFree s a.toNat = true → ∃ t, exec (.peerAccessPerform (.store a v)) s = .next t ∧ t.ctxs = s.ctxs ∧
      t.mem = memWrite s.mem (keyScratch s.me a.toNat) (leBytes 8 v.toNat) ∧ writeFree t a.toNat = false) ∧
    (writeFree s a.toNat = false → exec (.peerAccessPerform (.store a v)) s = .next s) ∧
    (readFree s a.toNat = true → ∃ t, exec (.peerAccessPerform (.load a)) s = .next t ∧ t.ctxs = s.ctxs ∧ t.mem = s.mem ∧
      readFree t a.toNat = false) ∧
    (readFree s a.toNat = false → exec (.peerAccessPerform (.load a)) s = .next s)) ∧
  (∀ (s : State) (core : BitVec 11) (a : BitVec 19) (bs : List Byte), core ≠ s.self → core.toNat < 1280 →
    a.toNat + bs.length ≤ 2 ^ 19 → exec (.peerAccessPerform (.change core a bs)) s =
      .next { s with mem := memWrite s.mem (keyScratch core.toNat a.toNat) bs }) ∧
  (∀ (s : State) (c : CtxId) (a : Access) (p : Nat), ownPeer s = [(c, a)] → (getCtx s c).out = [a] → peerCore s p ≠ s.me →
    s.engines = [] → s.copyq = [] →
    (∀ v, a.op = .peer p (some v) → a.left.getD 0 + 2 ≤ s.cycle → ∃ t, exec (.peerAccessPerform (.own 0)) s = .next t ∧
      (getCtx t c).out = [] ∧ t.mem = memWrite s.mem (keyScratch (peerCore s p) (p % 2 ^ 19)) (leBytes 8 v.toNat)) ∧
    (a.op = .peer p none → a.left.getD 0 + 3 ≤ s.cycle → ∃ t, exec (.peerAccessPerform (.own 0)) s = .next t ∧
      (getCtx t c).out = [] ∧ t.mem = s.mem ∧ ∀ o, (getCtx s c).owed = [o] → o.id = a.id → o.val = none →
        (getCtx t c).owed = [{ o with val := some (BitVec.ofNat 64 (leNat (memRead s.mem
          (keyScratch (peerCore s p) (p % 2 ^ 19)) 8))), cyc := s.cycle + 1 }]) ∧
    (s.cycle < a.left.getD 0 + 2 → ∀ st, a.op = .peer p st → exec (.peerAccessPerform (.own 0)) s = .next s))

/-- R265, R286, R287, R289, R290, R291, R292: the parts of the statement. -/
def Obligations.PeersAndCopies : Prop :=
  Claim.PeerWords ∧ Claim.CopyAndTagWords ∧ Claim.CopyEvents

/-- R107, R116, R259, R262, R264: a CKPT with nothing of earlier bundles in flight makes its bundle the rollback point with a
copy of the bank, and commits what the release buffer holds, outside a rerun and at the end of a second rerun that agrees
with the first; a second one that disagrees retires the column, a first one ends in the second, and the CKPT at the rollback
point is passed. With a result in flight it traps CKPT_INFLIGHT with the cycles until the last of them lands (R116). -/
def Claim.Checkpoint : Prop :=
  ∀ (s : State), let r := (cx s).rerun
    let agrees := ((cx s).primary = false ∨ s.cycle - r.start = r.len1) ∧ r.sig = r.sig1
    (inFlight s s.cur.ctx = false → r.skip = true → ∃ t, exec .ckpt s = .next t ∧
      cx t = { cx s with rerun := { r with skip := false } } ∧ t.mem = s.mem) ∧
    (inFlight s s.cur.ctx = false → r.skip = false → r.phase = 1 → (cx s).xch = false → ∃ t, exec .ckpt s = .next t ∧
      (cx t).rerun.phase = 2 ∧ (cx t).rerun.len1 = s.cycle - r.start ∧ (cx t).rerun.sig1 = r.sig ∧ (cx t).hold = s.cycle + 17 ∧
      (cx t).ckpt = (cx s).ckpt ∧ t.mem = s.mem) ∧
    (inFlight s s.cur.ctx = false → r.skip = false → r.phase = 2 → ¬ agrees → ∃ t, exec .ckpt s = .next t ∧
      t.retired = true ∧ s.me ∈ t.pkg.retired ∧ t.mem = s.mem) ∧
    (inFlight s s.cur.ctx = false → r.skip = false → (r.phase = 0 ∨ r.phase = 2 ∧ agrees) →
      ∃ t k, exec .ckpt s = .next t ∧ (cx t).ckpt = some k ∧ k.bank = (cx s).bank ∧ k.pc = s.cur.addr ∧ k.entry = false ∧
        ((cx s).bank.mown = true → k.matrix = some (engineCopy s) ∧ (s.matrix.ending = [] → s.matrix.more = [] →
          (s.matrix.run = none → s.matrix.pend = none) → engineCopy s = s.matrix)) ∧ (cx t).commit = (cx s).rel.length ∧ (cx t).popped = [] ∧
        (cx t).bank = (cx s).bank ∧ (cx t).rel = (cx s).rel ∧ (cx t).rerun.phase = 0 ∧ t.mem = s.mem ∧ ∀ c, c ≠ s.cur.ctx → getCtx t c = getCtx s c) ∧
    (inFlight s s.cur.ctx = true → Traps .ckpt s 4 0x08 (BitVec.ofNat 64 (flightLeft s s.cur.ctx)))

/-- R259: a rollback of a context returns its bank to the checkpoint copy, INH, NEST and NCAUSE clear, the pc to the rollback
point, leaves every row's bits with its tag UNSET, empties the snapshot buffer and issues nothing for 16 cycles after its
own. -/
def Claim.RollbackRestores : Prop :=
  ∀ (s : State) (t phase : Nat) (c : CtxId) (k : Ckpt), (getCtx s c).ckpt = some k →
    let y := getCtx (rollCtx t phase c s) c
    y.st = .running ∧ y.bank = { k.bank with inh := false, nest := false, ncause := 0, pc := k.pc } ∧ y.snap = [] ∧
    y.hold = t + 17 ∧ (rollCtx t phase c s).mem = s.mem ∧ (∀ f ∈ (rollCtx t phase c s).flight, f.ctx ≠ c) ∧
    (SMap.wf ({} : Row) (getCtx s c).v = true → ∀ i, (y.getV i).tag = 15 ∧ (y.getV i).data = ((getCtx s c).getV i).data)

/-- R136, R261: the bank restore of a rolled-back context whose banks had their BREF and their reactivation, and whose
counts have run down to the recorded ones, ends, and its rerun may start; a bank that may have its BREF now has it. At S the
banks and tiers take the recorded states and counts, with their live deadlines. What is recorded at an eviction is the
model's reading (log 43). -/
def Claim.BankRestoreEnds : Prop :=
  ∀ (s : State) (c : CtxId) (r : Restore), let own := ownBanks s (getCtx s c).plan
    (getCtx s c).restore = some r →
    ((∀ d, d ≠ c → (getCtx s d).restore = none ∧ (getCtx s d).rerun.wait = false) → (getCtx s c).rerun.wait = true →
      (getCtx s c).st = .running →
      ((∀ n, n ∈ own → n ∈ r.refreshed ∧ (reopens r n = true → n ∈ r.opened) ∧ bankReady s r n = true) →
        (∀ k, k < 4 → tierReady s r k = true) →
        ∃ t, exec .rollbackRestoreDone s = .next t ∧ (getCtx t c).rerun.wait = false ∧ t.vault = s.vault ∧ t.mem = s.mem) ∧
      (∀ n, own = [n] → r.bref = true → n ∉ r.refreshed → r.opened = [] → refreshOk s n = true →
        ∃ t, exec .rollbackRestoreDone s = .next t ∧ (getCtx t c).rerun.wait = true ∧ t.vault = (refresh n s).vault ∧
          t.mem = s.mem)) ∧
    (r.ready = true → (getCtx s c).first = true →
      let t := atResume c s
      (∀ n, n ∈ own → getBank t.vault n =
        { SMap.get {} r.banks n with dl := if r.bref then (getBank s.vault n).dl else max (SMap.get {} r.banks n).dl (getBank s.vault n).dl }) ∧
      (∀ k, k < 4 → getTier t.vault k = { SMap.get {} r.tiers k with cls := (getTier s.vault k).cls }) ∧
      (getCtx t c).restore = none ∧ (getCtx t c).first = false ∧ t.mem = s.mem)

/-- R257, R259, R264, R267: an uncorrectable error of one of the nine sources counts in UEC, and SRC and LOC name it. One of
source 9 retires the column;
another rolls every context in a slot back and counts in the rollbacks. -/
def Claim.UncorrectableErrors : Prop :=
  ∀ (s : State) (src : BitVec 4) (loc : BitVec 24),
    (src = 0 ∨ 9 < src.toNat → exec (.uncorrectableError src loc) s = .next s) ∧
    (src ≠ 0 → src.toNat ≤ 9 → ∃ t, exec (.uncorrectableError src loc) s = .next t ∧
    t.mem = s.mem ∧ t.error.toNat / 2 ^ 28 % 16 = src.toNat ∧ t.error.toNat % 2 ^ 24 = loc.toNat ∧
    t.error.toNat / 2 ^ 40 % 256 = min 255 (s.error.toNat / 2 ^ 40 % 256 + 1) ∧
    (src = 9 → t.retired = true ∧ s.me ∈ t.pkg.retired) ∧
    (∀ c k, src ≠ 9 → slotted s = [c] → (getCtx s c).rerun.phase = 0 → (getCtx s c).xch = false → (getCtx s c).ckpt = some k →
      t.retired = s.retired ∧ (getCtx t c).bank.pc = k.pc ∧ (getCtx t c).rerun.phase = 1 ∧ (getCtx t c).hold = s.cycle + 17 ∧
      t.error.toNat / 2 ^ 32 % 256 = min 255 (s.error.toNat / 2 ^ 32 % 256 + 1)))

/-- R107, R116, R136, R257, R259, R261, R262, R264, R267: the parts of the statement. -/
def Obligations.CheckpointsAndErrors : Prop :=
  Claim.Checkpoint ∧ Claim.RollbackRestores ∧ Claim.BankRestoreEnds ∧ Claim.UncorrectableErrors

/-- R351, R361, R365: a global word whose address translates and passes its checks puts its access in place: a load or a
readout leaves at issue and owes qgl an entry, a write or an atomic enters the release buffer and owes an entry only in its
returning form. -/
def Claim.GlobalWords : Prop :=
  ∀ (s : State) (a b k : BitVec 6) (q t w : Bool) (ia r : Nat), translate s (cx s) (rs s a).toNat = some (ia, r) →
    let al := if w then 4 else 8
    let owes := fun (u : State) (ret : Bool) => (cx u).owed =
      (cx s).owed ++ (if ret then [{ q := 0, id := s.nextId, val := none, cyc := 0 }] else [])
    let leaves := fun (i : Instr) (op : AccOp) => ∃ u x, exec i s = .next u ∧ (cx u).out = (cx s).out ++ [x] ∧ x.op = op ∧
      x.id = s.nextId ∧ owes u true ∧ u.mem = s.mem ∧ (cx u).bank = (cx s).bank
    let enters := fun (i : Instr) (op : AccOp) (ret : Bool) => ∃ u x, exec i s = .next u ∧ (cx u).rel = (cx s).rel ++ [x] ∧
      x.op = op ∧ x.id = s.nextId ∧ owes u ret ∧ u.mem = s.mem ∧ (cx u).bank = (cx s).bank
    ((rs s a).toNat % al = 0 → leaves (.gld a w) (.global (.load w) ia r true false 0x00)) ∧
    ((rs s a).toNat % 64 = 0 → leaves (.gxrd a) (.global .xread ia r true false 0x0F)) ∧
    (rangeWr (cx s) r = true → (cx s).rel.length < 64 →
      ((rs s a).toNat % al = 0 →
        enters (.gst a b w) (.global (.store w (rs s b)) ia r false false 0x01) false ∧
        (∀ fn i, (fn, i) ∈ [(0x02#6, Instr.gaadd q a b t w), (0x03#6, .gamin q a b t w), (0x04#6, .gamax q a b t w),
            (0x05#6, .gaand q a b t w), (0x06#6, .gaor q a b t w), (0x07#6, .gaxor q a b t w), (0x08#6, .gaswp q a b t w)] →
          enters i (.global (.atomic fn w (rs s b) 0) ia r q t fn) q) ∧
        enters (.gacas k a b t w) (.global (.atomic 0x09 w (rs s b) (rs s k)) ia r true t 0x09) true) ∧
      ((rs s a).toNat % 4 = 0 →
        ∀ fn i, (fn, i) ∈ [(0x0A#6, Instr.gafadd q a b t), (0x0B#6, .gafmin q a b t), (0x0C#6, .gafmax q a b t),
            (0x0D#6, .gabadd q a b t)] →
          enters i (.global (.atomic fn false (rs s b) 0) ia r q t fn) q) ∧
      ((rs s a).toNat % 64 = 0 → enters (.gxadd a b t) (.global (.xadd ((rs s b).extractLsb' 0 32)) ia r false t 0x0E) false))

/-- R351: a global word traps MEM_ALIGN for a misaligned address, MEM_RANGE for one without a translation and PERM_FAULT
for a write through a range without WR, in that order. -/
def Claim.GlobalWordTraps : Prop :=
  ∀ (s : State) (a b : BitVec 6) (w : Bool),
    let al := if w then 4 else 8
    ((rs s a).toNat % al ≠ 0 → Traps (.gld a w) s 5 0x12 (rs s a) ∧ Traps (.gst a b w) s 5 0x12 (rs s a)) ∧
    ((rs s a).toNat % al = 0 → translate s (cx s) (rs s a).toNat = none →
      Traps (.gld a w) s 5 0x13 (rs s a) ∧ Traps (.gst a b w) s 5 0x13 (rs s a)) ∧
    (∀ ia r, (rs s a).toNat % al = 0 → translate s (cx s) (rs s a).toNat = some (ia, r) → rangeWr (cx s) r = false →
      ∃ x, Traps (.gst a b w) s 5 0x17 x)

/-- R351, R361, R365: the parts of the statement. -/
def Obligations.GlobalWordsAndTraps : Prop :=
  Claim.GlobalWords ∧ Claim.GlobalWordTraps

/-- R260, R331, R332, R336, R339, R340: the words of the buses. OBCST and ORED count their tag up and send their frame through the
release buffer; ORECV arms a receive, or blocks at sixteen; ACQ and ACQS send their request and owe qfx an entry, which
posts at once for a grant kept by a rollback; REL enters the release buffer; GBAR waits for its group; OGET reads its register one cycle later and OSET writes it. -/
def Claim.BusWordsComplete : Prop :=
  ∀ (s : State) (a b d t : BitVec 6), s.roomFor 1 →
    (∀ red i, (red, i) ∈ [(false, Instr.obcst a b t), (true, .ored a b t)] → sendChecks s red (rs s a) (rs s b) t = [] →
      ∃ u x, exec i s = .next u ∧ (cx u).rel = (cx s).rel ++ [x] ∧
        x.op = .frame (sendFrame s red (rs s a)) (rs s b).toNat t ∧ tagCount u t.toNat = tagCount s t.toNat + 1 ∧ u.mem = s.mem) ∧
    (recvChecks s (rs s a) (rs s b) = [] →
      (armedOf s (cx s) < 16 → ∃ u r, exec (.orecv a b) s = .next u ∧ (cx u).recv = (cx s).recv ++ [r] ∧
        r.group = (rs s a).extractLsb' 0 8 ∧ r.dst = (rs s b).toNat ∧ r.len.toNat = recvLen (rs s a) ∧
        r.reduce = (rs s a).getLsbD 10 ∧ r.accepted = [] ∧ u.mem = s.mem) ∧
      (16 ≤ armedOf s (cx s) → exec (.orecv a b) s = .next (waitFor s .receive))) ∧
    (objCheck s (rs s a) = [] →
      (∀ sh i, (sh, i) ∈ [(false, Instr.acq a), (true, .acqs a)] →
        let o := (rs s a).extractLsb' 0 12
        ((cx s).grants.contains (o, sh) = false → (cx s).out.any (ghost (cx s) (.acquire o sh)) = false →
          ∃ u x, exec i s = .next u ∧ (cx u).out = (cx s).out ++ [x] ∧ x.op = .acquire o sh ∧
            (cx u).owed = (cx s).owed ++ [{ q := 3, id := s.nextId, val := none, cyc := 0 }] ∧ u.mem = s.mem) ∧
        ((cx s).grants.contains (o, sh) = true → (cx s).owed = [] → ∃ u w, exec i s = .next u ∧ (cx u).out = (cx s).out ∧
          (cx u).owed = [w] ∧ w.q = 3 ∧ w.id = s.nextId ∧ w.val = some (qfxEntry 0 (b2n sh) o.toNat) ∧ u.mem = s.mem)) ∧
      ((cx s).rel.length < 64 → ∃ u x, exec (.rel a b) s = .next u ∧ (cx u).rel = (cx s).rel ++ [x] ∧
        x.op = .rel ((rs s a).extractLsb' 0 12) (rs s b) ∧ u.mem = s.mem)) ∧
    (gbarChecks s (rs s a) = [] →
      ((cx s).relTick = none → exec (.gbar a) s = .next (waitFor s (.group ((rs s a).extractLsb' 0 8)))) ∧
      (∀ n, (cx s).relTick = some n → seen s n = true → ∃ u, exec (.gbar a) s = .next u ∧ (cx u).relTick = none ∧
        (cx u).mark = none ∧ (cx u).bank = (cx s).bank ∧ u.mem = s.mem)) ∧
    ((rs s a).toNat < 2 ^ 16 → readable s (rs s a).toNat = true → ∃ u, exec (.oget d a) s = .next u ∧
      u.oget = s.oget ++ [(s.cycle + 1, s.nextId + 1, (rs s a).toNat)] ∧
      u.flight = (s.sent [{ scalarOut 2 d 0 with key := s.nextId + 1 }]).flight ∧ u.mem = s.mem) ∧
    ((rs s a).toNat < 2 ^ 16 → writable s (rs s a).toNat = true → ∃ u, exec (.oset a b) s = .next u ∧
      u.oset = s.oset ++ [(s.cycle + 1, (rs s a).toNat, rs s b)] ∧ u.ctxs = s.ctxs ∧ u.mem = s.mem) ∧
    (4096 ≤ (rs s a).toNat → ∃ x, Traps (.acq a) s 5 0x13 x)

/-- R342, R344, R345: a heater code is clamped to 128 to 3,967 and its clamp bit set; bits of OSTAT clear when written 1; a
MAPGO with GO accepts sixteen distinct channels from 0 to 16 and otherwise sets MBAD. -/
def Claim.OpticalControlWrites : Prop :=
  ∀ (s : State) (b : BitVec 2) (i : Nat) (v : Dbl), i < 16 →
    let n := 256 * b.toNat
    let x := getBus s b
    (let y := getBus (opticalWrite (n + i) v s) b;
      let c := v.toNat % 4096;
      (SMap.get 2048 y.theat i).toNat = (if c < 128 then 128 else if 3967 < c then 3967 else c) ∧
      (y.tsat.getLsbD i = (x.tsat.getLsbD i || decide (c < 128 ∨ 3967 < c))) ∧ ∀ j, j ≠ i → y.tsat.getLsbD j = x.tsat.getLsbD j) ∧
    (let y := getBus (opticalWrite (n + 0x64) v s) b;
      y.mbad = (x.mbad && !v.getLsbD 34) ∧ y.mpend = x.mpend ∧ (∀ j, y.tsat.getLsbD j = (x.tsat.getLsbD j && !(decide (j < 16) && v.getLsbD j)))) ∧
    (x.mpend = false → x.quiet = none →
      (mapOk x.stagedL x.stagedH = true → (getBus (opticalWrite (n + 0x65) 1 s) b).mpend = true) ∧
      (mapOk x.stagedL x.stagedH = false → (getBus (opticalWrite (n + 0x65) 1 s) b).mbad = true ∧
        (getBus (opticalWrite (n + 0x65) 1 s) b).mpend = false))

/-- R260, R331, R332, R336, R339, R340, R342, R344, R345: the parts of the statement. -/
def Obligations.BusWords : Prop :=
  Claim.BusWordsComplete ∧ Claim.OpticalControlWrites

/-- R91, R131, R171, R180, R191, R192, R249: the events of landing. Each writes the results of its kind whose cycle has come
and takes them out of flight; results of other kinds, and those of later cycles, stay. Here for one result in flight, of a
context that is in no rerun. -/
def Claim.LandingOfResults : Prop :=
  ∀ (s : State) (f : Flight), s.flight = [f] → f.land ≤ s.cycle → f.fp = 0 → f.mx = 0 → s.fetches = [] →
    (getCtx s f.ctx).rerun.phase = 0 →
    let y := fun (t : State) => getCtx t f.ctx
    (∀ i v, f.res = .scalar i v → ∃ t, exec .resultLanding s = .next t ∧ t.flight = [] ∧ (y t).bank.getS i = v ∧ t.mem = s.mem) ∧
    (∀ p bs, f.res = .scratch p bs → bs.length = 128 →
      ∃ t, exec .brdLand s = .next t ∧ t.flight = [] ∧ t.mem = memWrite s.mem (keyScratch s.me p) bs ∧ t.ctxs = s.ctxs) ∧
    (∀ z l tv rm dr, f.res = .reduce z l 0 3 tv rm dr → ((getCtx s f.ctx).getZ z).tag = 3 →
      ∃ t, exec .reductionUpdate s = .next t ∧ t.flight = [] ∧
        ((y t).getZ z).data.extractLsb' (32 * l.toNat) 32 =
          ((getCtx s f.ctx).getZ z).data.extractLsb' (32 * l.toNat) 32 + tv ∧ t.mem = s.mem) ∧
    (∀ vd w sel, f.res = .mdrn vd w sel none → ∃ t, exec .mdrnLand s = .next t ∧ t.flight = [] ∧
      ((y t).getV vd).tag = 4 ∧ ((y t).getV vd).data = (if sel then (getArr s.matrix w).frn else (getArr s.matrix w).hin) ∧
      (getArr t.matrix w).hin = (if sel then (getArr s.matrix w).hin else 0) ∧ t.mem = s.mem) ∧
    (∀ w m x sc, f.res = .mldb w m x sc → ∃ t, exec .mldbSwap s = .next t ∧ t.flight = [] ∧
      (getArr t.matrix w).active = { fmt := m, data := x, scales := sc } ∧
      (getArr t.matrix w).shadow = (getArr s.matrix w).active ∧ t.mem = s.mem) ∧
    (∀ vd, f.res = .stepNan vd → ∃ t, exec .mmaLand s = .next t ∧ t.flight = [] ∧
      (y t).getV vd = { tag := 4, data := nanRow } ∧ t.mem = s.mem) ∧
    (∀ i v e, f.res = .scalar i v → e ∈ [Instr.brdLand, .mmaLand, .reductionUpdate, .mdrnLand, .mldbSwap] →
      ∃ t, exec e s = .next t ∧ t.flight = [f] ∧ t.ctxs = s.ctxs ∧ t.mem = s.mem ∧ t.matrix = s.matrix)

/-- R131: the replay writes a snapshot entry when S plus its OFFSET has come, with its flags, and the entry leaves the
buffer; an entry whose cycle has not come stays. -/
def Claim.ReplayEvent : Prop :=
  ∀ (s : State) (c : CtxId) (e : SnapEntry) (r : Nat),
    (∀ d, d ≠ c → (getCtx s d).replayAt = none) → (getCtx s c).replayAt = some r → (getCtx s c).snap = [e] →
    e.cls = 0 → e.mxfl = 0 → e.fpfl = 0 → s.fetches = [] → (getCtx s c).rerun.phase = 0 →
    (r + e.offset ≤ s.cycle → ∃ t, exec .snapshotReplay s = .next t ∧ (getCtx t c).snap = [] ∧ (getCtx t c).replayAt = none ∧
      (getCtx t c).bank.getS (BitVec.ofNat 6 e.index.toNat) = e.data.extractLsb' 0 64 ∧ t.flight = s.flight ∧ t.mem = s.mem) ∧
    (s.cycle < r + e.offset → ∃ t, exec .snapshotReplay s = .next t ∧ (getCtx t c).snap = [e] ∧
      (getCtx t c).bank = (getCtx s c).bank)

/-- R91, R131, R171, R180, R191, R192, R249: the parts of the statement. -/
def Obligations.LandingEvents : Prop :=
  Claim.LandingOfResults ∧ Claim.ReplayEvent

/-- R27, R33, R34, R37, R127, R136, R142, R150: a ready primary context takes the free slot 0, and one that is not primary the first open slot
that is free; the load takes 432 cycles, 593 for the matrix owner, and takes up what was written into the record, with
ROTB.VBASE modulo N. A load stream that ends leaves its context RUNNING from the next cycle on with NEST and NCAUSE clear,
once its banks are restored; an unload stream that ends leaves it RESIDENT without a slot, the owner with the engine's state
in its shadow area. An expansion that ends fills its half with the words of its segment. -/
def Obligations.SlotEvents : Prop :=
  (∀ (s : State) (c : CtxId), let x := getCtx s c
    s.stream = none → s.retired = false → (∀ d, d ≠ c → (getCtx s d).st ≠ .resident) → x.st = .resident → x.waits = [] →
    preempted s x.plan = false →
    (x.primary = true → slotCtx s 0 = none → ∃ t, exec .slotSelect s = .next t ∧ (getCtx t c).st = .loading ∧
      (getCtx t c).slot = some 0 ∧ (getCtx t c).bank = (applyRaw s.nextId x).bank ∧ t.mem = s.mem ∧
      t.stream = some { ctx := c, slot := 0, unload := false, left := if x.bank.mown then 593 else 432, after := none }) ∧
    (∀ k, x.primary = false → (openSlots s).find? (fun k => (slotCtx s k).isNone) = some k →
      ∃ t, exec .slotSelect s = .next t ∧ (getCtx t c).st = .loading ∧ (getCtx t c).slot = some k ∧
        (getCtx t c).bank = (applyRaw s.nextId x).bank ∧ t.mem = s.mem)) ∧
  (∀ (n : Nat) (x : Ctx), x.raw = [] →
    (applyRaw n x).bank = { x.bank with rotb := mkRotb (vbase x.bank % rotN x.bank) (pbase x.bank) }) ∧
  (∀ (s : State) (c : CtxId) (k : BitVec 2) (a : Option CtxId), let x := getCtx s c
    s.stream = some { ctx := c, slot := k, unload := false, left := 0, after := a } →
    ((x.restore = none ∨ ∃ r, x.restore = some r ∧ r.ready = true) →
      ∃ t, exec .loadStreamDone s = .next t ∧ t.stream = none ∧ (getCtx t c).st = (if x.sysEnded then .held else .running) ∧
        (getCtx t c).hold = max x.hold (s.cycle + 1) ∧ (getCtx t c).bank = { x.bank with nest := false, ncause := 0 } ∧
        t.mem = s.mem) ∧
    (∀ r, x.restore = some r → r.ready = false → exec .loadStreamDone s = .next s)) ∧
  (∀ (s : State) (c : CtxId) (k : BitVec 2), let x := getCtx s c
    s.stream = some { ctx := c, slot := k, unload := true, left := 0, after := none } →
    ∃ t, exec .unloadStreamDone s = .next t ∧ t.stream = none ∧ (getCtx t c).slot = none ∧
      (getCtx t c).st = (if x.ended ∨ x.sysEnded ∧ x.primary = false then .finished else .resident) ∧ (getCtx t c).bank = x.bank ∧ t.mem = s.mem ∧
      (x.bank.mown = true → (getCtx t c).matrix = some s.matrix) ∧ (x.bank.mown = false → t.matrix = s.matrix)) ∧
  (∀ (s : State) (e : Expansion) (c : CtxId) (g : Seg), s.expansions = [e] → slotCtx s e.slot = some c →
    segAt s (getCtx s c).plan e.cbase = some g →
    (e.left = 0 → ∃ t, exec .segmentExpanded s = .next t ∧ t.expansions = [] ∧
      getHalf t e.slot e.half = some { cbase := e.cbase, words := segWords s g } ∧ t.mem = s.mem ∧ t.ctxs = s.ctxs) ∧
    (e.left ≠ 0 → exec .segmentExpanded s = .next s))

/-- R294, R295, R298, R299: a droop stretches the next cycle unless sixteen of the last 1,024 are stretched already; LOCK
ends the gating of the clock, no earlier than its tick; at a tick divisible by 1,000 USED is 0; the flits of the cluster's
other cores count in USED, and the access at the head of the egress leaves when the budget allows. The flits of the
cluster's other cores come with the event (log 45). -/
def Obligations.ClockAndMeterEvents : Prop :=
  (∀ (s : State), s.cluster.stretchNext = false →
    ((s.cluster.droops.filter (fun c => decide (s.cycle < c + 1023))).length < 16 →
      ∃ t, exec .droopStretch s = .next t ∧ t.cluster.stretchNext = true ∧ (s.cycle + 1) ∈ t.cluster.droops ∧
        t.mem = s.mem ∧ t.ctxs = s.ctxs) ∧
    (16 ≤ (s.cluster.droops.filter (fun c => decide (s.cycle < c + 1023))).length → exec .droopStretch s = .next s)) ∧
  (∀ (s : State) (n : Nat),
    (s.cluster.lock = false → s.cluster.lockAt = some n → ∃ t, exec .fllLock s = .next t ∧ t.cluster.lock = true ∧
      t.cluster.lockAt = none ∧ t.time = max s.time n ∧ t.cycle = s.cycle ∧ t.ctxs = s.ctxs ∧ t.mem = s.mem) ∧
    (s.cluster.lock = true → exec .fllLock s = .next s)) ∧
  (∀ (s : State),
    (tickNow s % 1000 = 0 → exec .svcbudInterval s = .next { s with cluster := { s.cluster with used := 0 } }) ∧
    (tickNow s % 1000 ≠ 0 → exec .svcbudInterval s = .next s)) ∧
  (∀ (s : State) (c : CtxId) (a : Access) (ia rg : Nat) (fn : BitVec 6) (others : BitVec 24),
    (∀ d, d ≠ c → (getCtx s d).out = []) →
    (getCtx s c).out = [a] → s.cluster.egress = [(a.id, a.sub)] → a.left = none → a.op = .global (.load false) ia rg true false fn →
    fenceHolds s c a = false → (getCtx s c).side = [] → (getCtx s c).acks = [] →
    let u := { s with cluster := { s.cluster with used := BitVec.ofNat 24 (min 0xFFFFFF (s.cluster.used.toNat + others.toNat)) } }
    (mayMeter u 1 = true → ∃ t b, exec (.serviceEgress others) s = .next t ∧ t.cluster.egress = [] ∧ (getCtx t c).out = [b] ∧
      b.left = some s.cycle ∧ b.token = (if iaPkg ia = myPkg s then 0 else SMap.get 0 (getCtx s c).rgc rg) ∧ t.cluster.used = u.cluster.used + 1 ∧ t.mem = s.mem) ∧
    (mayMeter u 1 = false → exec (.serviceEgress others) s = .next u))

/-- R324, R325, R327, R345: the token stands at a station until the tick at which it is due to leave, and then moves on to the
next of 80; a visit of station 0 starts a round; our station sends the head of its queue when it is present and not quiet. The
last beat of its frame comes B ticks after the visit, takes the frame from the queue, has it seen four ticks later under the
map it was sent with, and the token leaves two ticks after it; so for another station's frame. -/
def Claim.TokenEvents : Prop :=
  (∀ (s : State) (b : BitVec 2), let x := getBus s b
    (x.sending = true ∨ tickNow s < x.next → exec (.tokenArrive b) s = .next s) ∧
    (x.sending = false → x.next ≤ tickNow s → x.pos % 80 ≠ 79 → (∀ e ∈ x.txq.take 1, loaded e = true) → ∃ t, exec (.tokenArrive b) s = .next t ∧
      (getBus t b).pos = (x.pos + 1) % 80 ∧ (getBus t b).arr = x.next ∧ (getBus t b).next = x.next + 1 ∧
      (getBus t b).round = x.round ∧ (getBus t b).present = x.present ∧ t.mem = s.mem ∧ t.ctxs = s.ctxs ∧
      ((getBus t b).sending = true ↔ (∃ e l, x.txq = e :: l ∧ e.tick ≤ x.next) ∧ (x.pos + 1) % 80 = s.myCluster ∧
        ownPresent s b = true ∧ x.quiet = none ∧ (∀ r, x.resumeAt = some r → r ≤ x.next))) ∧
    (x.sending = false → x.next ≤ tickNow s → x.pos % 80 = 79 → s.myCluster ≠ 0 ∨ x.next + 1 < tickNow s → ∃ t, exec (.tokenArrive b) s = .next t ∧ (getBus t b).pos = 0 ∧
      (getBus t b).arr = x.next ∧ (getBus t b).round = x.round + 1 ∧ (getBus t b).present = presence s b x.next ∧ t.mem = s.mem)) ∧
  (∀ (s : State) (b : BitVec 2) (e : TxEntry) (l : List TxEntry), let x := getBus s b
    let u := x.arr + beats e.frame
    let f : Frame := if e.frame.kind = 6 ∧ e.frame.payload = [] then { e.frame with payload := leBytes 8 x.stagedL.toNat ++ leBytes 8 x.stagedH.toNat } else e.frame
    x.txq = e :: l →
    (x.sending = true → seen s u = true → ∃ t, exec (.frameLastBeat b none) s = .next t ∧ (getBus t b).sending = false ∧
      (getBus t b).air = x.air ++ [{ tick := u + 4, frame := f, mapL := x.mapL, mapH := x.mapH }] ∧
      (getBus t b).next = u + 2 ∧ t.mem = s.mem ∧ (readyFrames s = [] → (getBus t b).txq = l ∧ t.ctxs = s.ctxs ∧
        ∀ g, e.tag = some g → tagCount t g.toNat = tagCount s g.toNat - 1) ∧
      (e.frame.kind = 6 → x.quietNext = true → (getBus t b).quiet = some u)) ∧
    (x.sending = false ∨ (seen s u = false ∧ e.frame.kind ≠ 6) → exec (.frameLastBeat b none) s = .next s)) ∧
  (∀ (s : State) (b : BitVec 2) (f : Frame) (lo hi : Dbl), let x := getBus s b
    let u := x.arr + beats f
    x.sending = false → f.bus = b → f.sender.toNat / 16 = x.pos → x.pos ≠ s.myCluster → x.present.getLsbD x.pos = true →
    x.next = x.arr + 1 →
    (u ≤ tickNow s → ∃ t, exec (.frameLastBeat b (some (f, lo, hi))) s = .next t ∧ (getBus t b).next = u + 2 ∧
      (getBus t b).air = x.air ++ [{ tick := u + 4, frame := f, mapL := lo, mapH := hi }] ∧ t.mem = s.mem ∧ t.ctxs = s.ctxs) ∧
    (tickNow s < u → exec (.frameLastBeat b (some (f, lo, hi))) s = .next s)) ∧
  (∀ (f : Frame), (f.kind.toNat < 2 → beats f = 1 + (f.len.toNat + 79) / 80) ∧ (f.kind = 6 → beats f = 2) ∧
    (2 ≤ f.kind.toNat → f.kind ≠ 6 → beats f = 1))

/-- R328, R407: an access that is ready to send its frame puts it into the transmit queue of its bus, behind what waits
there, and leaves its context's list; a full queue holds it back. A frame of another core of the cluster waits for its tick
and enters the same queue, unless it carries a payload and the station is absent. -/
def Claim.StationQueue : Prop :=
  (∀ (s : State) (b : BitVec 2) (c : CtxId) (a : Access) (f : Frame) (p : Nat) (g : BitVec 6),
    (∀ d, d ≠ c → (getCtx s d).out = [] ∧ (getCtx s d).rel = []) → (getCtx s c).rel = [] → (getCtx s c).out = [a] →
    (∀ k, (getBus s k).late = []) → a.op = .frame f p g → f.bus = b → f.kind = 5 → a.left = none →
    (a.tick ≤ tickNow s → txRoom s b = true →
      ∃ t, exec (.stationEnqueue b none) s = .next t ∧ (getCtx t c).out = [] ∧ t.mem = s.mem ∧
        (getBus t b).txq = (getBus s b).txq ++ [{ frame := f, ctx := c, id := none, tick := tickNow s }]) ∧
    (txRoom s b = false ∨ tickNow s < a.tick → exec (.stationEnqueue b none) s = .next s)) ∧
  (∀ (s : State) (b : BitVec 2) (f : Frame), f.bus = b → f.sender.toNat / 16 = s.myCluster → f.sender ≠ s.self → f.kind.toNat < 6 →
    exec (.stationEnqueue b (some f)) s = .next (setBus b
      { getBus s b with late := (getBus s b).late ++ [{ frame := f, read := f.len.toNat, tick := takenAt s }] } s)) ∧
  (∀ (s : State) (b : BitVec 2) (e : TxEntry), (∀ d, (getCtx s d).out = [] ∧ (getCtx s d).rel = []) →
    (∀ k, k ≠ b → (getBus s k).late = []) → (getBus s b).late = [e] → e.frame.bus = b → e.tag = none →
    (e.tick ≤ tickNow s → txRoom s b = true → ∃ t, exec (.stationEnqueue b none) s = .next t ∧ (getBus t b).late = [] ∧
      t.mem = s.mem ∧ t.ctxs = s.ctxs ∧ (getBus t b).txq = (getBus s b).txq ++
        (if e.frame.kind.toNat < 2 ∧ ownPresent s b = false then [] else [{ e with tick := tickNow s }])) ∧
    (txRoom s b = false ∨ tickNow s < e.tick → exec (.stationEnqueue b none) s = .next s)) ∧
  ∀ (s : State) (b : BitVec 2), txRoom s b = true ↔ (getBus s b).txq.length < 64

/-- R324, R325, R327, R328, R345: the parts of the statement. -/
def Obligations.TokenAndQueue : Prop :=
  Claim.TokenEvents ∧ Claim.StationQueue

/-- R324, R326, R327, R332 to R334, R346: a DATA frame that this station sees counts in FRAMES. The oldest receive of the
plan's context that matches takes it: its payload is on its way into the scratchpad, and its entry is fixed with the
sender, the length and UTAG. Without a receive it counts as dropped, here and at the other member cores of the station. One
that fails the check, or whose lanes are not decoded from the channels it was sent on, makes the station leave the bus; an
absent station sees nothing, and nothing is seen before its tick. At how many of these it is dropped comes with the event
(log 42). -/
def Claim.DataFrames : Prop :=
  ∀ (s : State) (f : Frame) (crc : BitVec 32) (drops : BitVec 4) (c : CtxId) (r : Recv) (a : AirFrame) (l : List AirFrame),
    let x := getBus s f.bus
    let g := getGroup s f.id.toNat
    f.kind = 0 →
    (Sees s f crc a l → g.members.contains s.me = true → planCtxs s g.plan = [c] → (getCtx s c).recv = [r] → r.armed = true →
      r.full = false → r.reduce = false → sameKind f r = true →
      ∃ t, exec (.frameData f crc drops) s = .next t ∧
        (let v := BitVec.ofNat 64 (f.bus.toNat * 2 ^ 58 + f.sender.toNat * 2 ^ 47 + f.len.toNat * 2 ^ 32 + f.utag.toNat);
         (getCtx t c).recv = [{ r with full := true, fin := some (v, s.nextId) }]) ∧
        (getBus t f.bus).frames = x.frames + 1 ∧ (getBus t f.bus).air = l ∧ t.mem = s.mem ∧
        t.rxjobs = s.rxjobs ++ [{ ctx := c, id := r.id, dst := r.dst, off := 0, bytes := f.payload.take f.len.toNat, reduce := false,
                                  first := r.accepted.isEmpty }]) ∧
    (Sees s f crc a l → g.members.contains s.me = true → planCtxs s g.plan = [c] → (getCtx s c).recv = [] →
      (∀ d, ∀ q ∈ (getCtx s d).recv, q.reduce = false) → ∃ t, exec (.frameData f crc drops) s = .next t ∧ (getBus t f.bus).frames = x.frames + 1 ∧
        (getBus t f.bus).dropc = satAdd32 x.dropc (min drops.toNat (otherMembers s g) + 1) ∧ t.mem = s.mem ∧ t.ctxs = s.ctxs) ∧
    (x.air = a :: l → Settled s f.bus a l → a.frame = f → seen s a.tick = true → presentAt s f.bus a.tick = true → x.leave = false →
      received x a crc = false → ∃ t, exec (.frameData f crc drops) s = .next t ∧ (getBus t f.bus).leave = true ∧
        (getBus t f.bus).air = l ∧ (getBus t f.bus).frames = x.frames ∧ t.mem = s.mem ∧ t.ctxs = s.ctxs) ∧
    (x.air = a :: l → Settled s f.bus a l → a.frame = f → seen s a.tick = true → presentAt s f.bus a.tick = false →
      exec (.frameData f crc drops) s = .next (setBus f.bus { x with air := l, applied := max x.applied a.tick } s)) ∧
    (x.air = a :: l → seen s a.tick = false → exec (.frameData f crc drops) s = .next s)

/-- R333, R334: a RED frame's lanes are on their way to be added to the destination of a reduce receive, and its sender is
accepted; the event at which every member is accepted or absent completes it and fixes its entry. -/
def Claim.ReduceFrames : Prop :=
  ∀ (s : State) (f : Frame) (crc : BitVec 32) (drops : BitVec 4) (c : CtxId) (r : Recv) (a : AirFrame) (l : List AirFrame),
    let x := getBus s f.bus
    let g := getGroup s f.id.toNat
    f.kind = 1 → Sees s f crc a l → g.members.contains s.me = true → planCtxs s g.plan = [c] →
    ((getCtx s c).recv = [r] → r.reduce = true → takes s f a.tick r = true →
      let q : Recv := { r with accepted := r.accepted ++ [f.sender], armed := true }
      ∃ t, exec (.frameRed f crc drops) s = .next t ∧ (getBus t f.bus).frames = x.frames + 1 ∧ t.mem = s.mem ∧
        (reduceDone s q a.tick = false → (getCtx t c).recv = [q]) ∧
        (reduceDone s q a.tick = true → ∃ n, (getCtx t c).recv = [{ q with full := true, fin := some (recvEntry (reduceShort s q) q, n) }]) ∧
        t.rxjobs = s.rxjobs ++ [{ ctx := c, id := r.id, dst := r.dst, off := 0, bytes := redLanes r.bf16 f.payload, reduce := true,
                                  first := r.accepted.isEmpty }] ∧
        (getCtx t c).owed = (getCtx s c).owed) ∧
    ((getCtx s c).recv = [] → (∀ d, ∀ q ∈ (getCtx s d).recv, q.reduce = false) → ∃ t, exec (.frameRed f crc drops) s = .next t ∧ (getBus t f.bus).frames = x.frames + 1 ∧
      (getBus t f.bus).dropc = satAdd32 x.dropc (min drops.toNat (otherMembers s g) + 1) ∧ t.mem = s.mem ∧ t.ctxs = s.ctxs)

/-- R231, R234, R333, R334: what a receive writes: up to the end of a 256-byte block through the write port of its quadrant,
when it is free, as they stand or added as FP32; the entry of a completed receive posts after its last write. -/
def Claim.ReceiveWrites : Prop :=
  (∀ (s : State) (j : RxJob) (l : List RxJob), let a := j.dst + j.off
    s.rxjobs = j :: l →
    (writeFree s a = false → rxOne s = s) ∧
    (writeFree s a = true → a % 256 + j.bytes.length ≤ 256 → (rxOne s).rxjobs = l ∧
      (rxOne s).mem = memWrite s.mem (keyScratch s.me a) (if j.reduce then addLanes (holdPort a true s) j.first a j.bytes else j.bytes)) ∧
    (writeFree s a = true → 256 < a % 256 + j.bytes.length → ∃ k, (rxOne s).rxjobs = k :: l ∧
      k.off = j.off + (256 - a % 256) ∧ k.bytes = j.bytes.drop (256 - a % 256))) ∧
  (∀ (s : State) (c : CtxId) (r : Recv) (v : Dbl) (n : Nat), (getCtx s c).recv = [r] → r.fin = some (v, n) →
    (writing s c r = true → postRecv c s r = s) ∧
    (writing s c r = false → (getCtx (postRecv c s r) c).recv = [] ∧
      (getCtx (postRecv c s r) c).owed = (getCtx s c).owed ++ [{ q := 1, id := r.id, val := some v, cyc := s.cycle }]))

/-- R234, R324, R326, R327, R332, R333, R334, R346: the parts of the statement. -/
def Obligations.DataAndReduceFrames : Prop :=
  Claim.DataFrames ∧ Claim.ReduceFrames ∧ Claim.ReceiveWrites

/-- R337, R338, R378: as this station sees its frame, ACQ takes a free object and queues behind a holder; ACQS shares an
object that is free or held by ACQS; REL by the holder frees it or hands it to the head of its queue; RESET frees it. The
filters decide for every requester; the status of an acquire of this core posts. -/
def Claim.SyncFrames : Prop :=
  ∀ (s : State) (f : Frame) (crc : BitVec 32) (a : AirFrame) (l : List AirFrame), let o := f.id.toNat
    let y := getObj s o
    let q := frameReq s f
    Sees s f crc a l → busWaiters s o < 1024 →
    (f.kind = 2 → inScope y q = true → y.excl = none → y.shared = [] → y.waiters = [] →
      ∃ t, exec (.frameAcq f crc) s = .next t ∧ (getObj t o).excl = some q ∧ (getObj t o).waiters = [] ∧ t.mem = s.mem ∧
        (isMine s q = false → t.ctxs = s.ctxs) ∧
        ∀ w v, isMine s q = true → (getCtx s q.ctx).out = [w] → acqOf f.id false false w = true → (getCtx s q.ctx).owed = [v] →
          v.id = w.id → v.val = none → (getCtx t q.ctx).out = [] ∧
            (getCtx t q.ctx).owed = [{ v with val := some (qfxEntry 0 0 o), cyc := cycleSeeing s a.tick }]) ∧
    (∀ h, f.kind = 2 → inScope y q = true → y.excl = some h → h ≠ q → y.shared = [] → y.waiters = [] →
      ∃ t, exec (.frameAcq f crc) s = .next t ∧ (getObj t o).excl = some h ∧ (getObj t o).waiters = [(q, false)] ∧
        t.mem = s.mem) ∧
    (f.kind = 3 → inScope y q = true → y.excl = none → y.shared.contains q = false → y.waiters = [] →
      ∃ t, exec (.frameAcqs f crc) s = .next t ∧ (getObj t o).shared = y.shared ++ [q] ∧ (getObj t o).excl = none ∧
        t.mem = s.mem ∧ (isMine s q = false → t.ctxs = s.ctxs)) ∧
    (f.kind = 4 → inScope y q = true → y.excl = some q → y.waiters = [] →
      ∃ t, exec (.frameRel f crc) s = .next t ∧ (getObj t o).excl = none ∧ (getObj t o).shared = [] ∧ t.mem = s.mem) ∧
    (∀ w k, f.kind = 4 → inScope y q = true → y.excl = some q → y.waiters = (w, false) :: k →
      ∃ t, exec (.frameRel f crc) s = .next t ∧ (getObj t o).excl = some w ∧ (getObj t o).waiters = k ∧ t.mem = s.mem) ∧
    (f.kind = 7 → ∃ t, exec (.frameReset f crc) s = .next t ∧ (getObj t o).excl = none ∧ (getObj t o).shared = [] ∧
      (getObj t o).waiters = [] ∧ (getObj t o).inst = none ∧ t.mem = s.mem ∧ t.ctxs = s.ctxs)

/-- R339, R345, R417, R454: a mark joins its group's episode, and the last one releases it with a new epoch, or
for a group over several packages that still wait makes it complete here; a MAP frame
changes the lane map of its station. -/
def Claim.MarkAndMapFrames : Prop :=
  ∀ (s : State) (f : Frame) (crc : BitVec 32) (a : AirFrame) (l : List AirFrame), Sees s f crc a l →
    (∀ g, f.kind = 5 → BitVec.ofNat 2 f.id.toNat = f.bus → getGroup s f.id.toNat = g → g.members.contains f.sender.toNat = true →
      g.marked.contains f.sender.toNat = false →
      ((∀ m, m ∈ g.members → m = f.sender.toNat ∨ g.marked.contains m = true) →
        ∃ t, exec (.frameMark f crc) s = .next t ∧ t.mem = s.mem ∧
          ((g.wide = false ∨ g.others.isSome = true) → (getGroup t f.id.toNat).epoch = g.epoch + 1 ∧ (getGroup t f.id.toNat).marked = []) ∧
          (g.wide = true → g.others = none → (getGroup t f.id.toNat).epoch = g.epoch ∧
            (getGroup t f.id.toNat).doneAt = some (g.doneAt.getD a.tick) ∧ t.ctxs = s.ctxs)) ∧
      (∀ m, m ∈ g.members → m ≠ f.sender.toNat → g.marked.contains m = false →
        absentAt s (BitVec.ofNat 2 f.id.toNat) a.tick m = false →
        ∃ t, exec (.frameMark f crc) s = .next t ∧ (getGroup t f.id.toNat).epoch = g.epoch ∧
          (getGroup t f.id.toNat).marked = g.marked ++ [f.sender.toNat] ∧ t.mem = s.mem ∧ t.ctxs = s.ctxs)) ∧
    (∀ lo hi : Dbl, f.kind = 6 → f.payload = leBytes 8 lo.toNat ++ leBytes 8 hi.toNat →
      ∃ t, exec (.frameMap f crc) s = .next t ∧ t.mem = s.mem ∧ t.ctxs = s.ctxs ∧
        laneMap (getBus t f.bus) (f.sender.toNat / 16) = (lo, hi))

/-- R337, R338, R339, R345, R378, R417: the parts of the statement. -/
def Obligations.SyncAndMarkFrames : Prop :=
  Claim.SyncFrames ∧ Claim.MarkAndMapFrames

/-- R327, R342, R345, R406, R415, R416: a receiver's lock, a BUSGATE write with its black-box entry, heater writes, MAPGO
with and without QUIET, RESUME, and the end of a quiet period of 65,536 ticks. -/
def Obligations.StationRegisters : Prop :=
  (∀ (s : State) (b : BitVec 2) (n : BitVec 7) (up : Bool), n.toNat < 80 → ∃ t, exec (.receiverLock b n up) s = .next t ∧
    (∀ j, (getBus t b).lock.getLsbD j = if j = n.toNat then up else (getBus s b).lock.getLsbD j) ∧ t.mem = s.mem ∧ t.ctxs = s.ctxs ∧
    (n.toNat = s.myCluster → (getBus t b).leave = !up) ∧ (n.toNat ≠ s.myCluster → (getBus t b).leave = (getBus s b).leave)) ∧
  (∀ (s : State) (v : Dbl), s.pkg.boot.getLsbD (s.myCluster / 10) = true → s.myCluster < 80 → s.myCluster / 10 = s.myDie →
    ∃ t, exec (.busgateWrite v) s = .next t ∧ gateReg t s.myCluster = v.extractLsb' 0 4 ∧
    t.buses = s.buses ∧ t.mem = s.mem ∧ (s.blackBox.ring.all (fun p => p.2.tick != tickNow s) = true →
      (SMap.get { kind := 0, src := 0, seq := 0, d0 := 0, d1 := 0, tick := 0 } t.blackBox.ring s.blackBox.next).kind = 9)) ∧
  (∀ (s : State) (b : BitVec 2) (m : BitVec 4) (v : Dbl), ∃ t,
    exec (.theatWrite (BitVec.ofNat 16 (0x100 * b.toNat + m.toNat)) v) s = .next t ∧ t.mem = s.mem ∧ t.ctxs = s.ctxs ∧
    SMap.get 2048 (getBus t b).theat m.toNat =
      (if (v.extractLsb' 0 12).toNat < 128 then 128 else if 3967 < (v.extractLsb' 0 12).toNat then 3967 else v.extractLsb' 0 12)) ∧
  (∀ (s : State) (b : BitVec 2) (q : Bool) (e : Instr), let x := getBus s b
    e = (if q then Instr.mapgoQuiet b else Instr.mapgoGo b) → x.mpend = false → isQuiet s x = false →
    (mapOk x.stagedL x.stagedH = true → ∃ t, exec e s = .next t ∧ (getBus t b).mpend = true ∧ (getBus t b).quietNext = q ∧
      (getBus t b).mapL = x.mapL ∧ t.mem = s.mem ∧ (getBus t b).txq = x.txq ∧
      (getBus t b).late = x.late ++ [{ frame := mapFrame s b, tick := takenAt s }]) ∧
    (mapOk x.stagedL x.stagedH = false → ∃ t, exec e s = .next t ∧ (getBus t b).mbad = true ∧ (getBus t b).mpend = false ∧
      (getBus t b).txq = x.txq ∧ t.mem = s.mem)) ∧
  (∀ (s : State) (b : BitVec 2) (n : Nat), (getBus s b).quiet = some n →
    (∃ t, exec (.mapgoResume b) s = .next t ∧ (getBus t b).quiet = none ∧
      (getBus t b).resumeAt = some (takenAt s) ∧ t.mem = s.mem) ∧
    (n + 65536 ≤ tickNow s → ∃ t, exec (.quietTimeout b) s = .next t ∧ (getBus t b).quiet = none ∧ t.mem = s.mem) ∧
    (tickNow s < n + 65536 → exec (.quietTimeout b) s = .next s))

/-- R353, R354, R362, R363, R372, R374: an access is performed at its home: this core's load, whose entry posts with the
value there, and its store, and another requester's; one that the entry denies is reported, and changes no byte; one to a
page that moves is held there; one to a page that has moved is performed nowhere here; the companion's needs HA; bytes that
are found uncorrectable are poisoned. How poison is kept is the model's reading (log 65). -/
def Claim.HomePerforms : Prop :=
  (∀ (s : State) (c : CtxId) (a : Access) (op : GlobalOp) (ia rg : Nat) (ret t : Bool) (fn : BitVec 6), ownGlobal s = [(c, a)] →
    (getCtx s c).out = [a] → a.op = .global op ia rg ret t fn → iaPkg ia = myPkg s → a.wait = false → a.hops = 0 → a.tick ≤ tickNow s →
    (getCtx s c).side = [] → s.engines = [] → s.home.held = [] → mappedAt s ia = true → lacks s.pkg.rev.toNat op = false →
    (∀ s1 key e w, op = .load w → ret = true → resolve ia op .near s = (s1, .place key e) → poisonIn s1 key (opBytes op) = [] →
      ∃ u, exec (.homePerform (.own 0)) s = .next u ∧ (getCtx u c).out = [] ∧ u.mem = s1.mem ∧ ∀ o, (getCtx s c).owed = [o] → o.id = a.id →
        o.val = none → (getCtx u c).owed = [{ o with cyc := s.cycle, val := some (returnEntry op
          (.done (BitVec.ofNat 64 (leNat (memRead s1.mem key (opBytes op)))) (e.getLsbD 59))) }]) ∧
    (∀ s1 key e w v, op = .store w v → ret = false → resolve ia op .near s = (s1, .place key e) →
      ∃ u, exec (.homePerform (.own 0)) s = .next u ∧ (getCtx u c).out = [] ∧
        u.mem = memWrite s1.mem key (leBytes (if w then 4 else 8) v.toNat) ∧ (getCtx u c).owed = (getCtx s c).owed) ∧
    (∀ s1 e, resolve ia op .near s = (s1, .denied e) → ∃ u, exec (.homePerform (.own 0)) s = .next u ∧ (getCtx u c).out = [] ∧
      u.mem = s1.mem ∧ ((getCtx s c).plan, 0x0013, BitVec.ofNat 64 ia, e) ∈ u.reports)) ∧
  (∀ (s : State) (ia : BitVec 48) (op : GlobalOp) (ret : Bool), inSpace s ia.toNat = true → lacks s.pkg.rev.toNat op = false →
    s.home.held = [] → (∀ s1 key e, resolve ia.toNat op .near s = (s1, .place key e) → poisonIn s1 key (opBytes op) = [] →
      ∃ t, exec (.homePerform (.other ia op ret)) s = .next t ∧ t.mem = (opPerform op key s1.mem).1 ∧ t.ctxs = s.ctxs) ∧
    (∀ s1 e, resolve ia.toNat op .near s = (s1, .denied e) → ∃ t, exec (.homePerform (.other ia op ret)) s = .next t ∧
      t.mem = s1.mem ∧ t.ctxs = s.ctxs) ∧
    (∀ s1 e, resolve ia.toNat op .near s = (s1, .away e) → e.getLsbD 58 = false →
      ∃ t, exec (.homePerform (.other ia op ret)) s = .next t ∧ t.mem = s1.mem ∧ t.ctxs = s1.ctxs) ∧
    (∀ s1 e, resolve ia.toNat op .near s = (s1, .away e) → e.getLsbD 58 = true → ∃ t, exec (.homePerform (.other ia op ret)) s = .next t ∧
      HeldReq.other ia.toNat op 0 ∈ t.home.held ∧ t.mem = s1.mem) ∧
    (∀ s1 key e, resolve ia.toNat op .companion s = (s1, .place key e) → s.pkg.ebpinDown = false → poisonIn s1 key (opBytes op) = [] →
      ∃ t, exec (.homePerform (.companion ia op)) s = .next t ∧ t.mem = (opPerform op key s1.mem).1 ∧ t.ctxs = s.ctxs) ∧
    (∀ s1 key e w, resolve ia.toNat (.load w) .near s = (s1, .place key e) → ∃ t, exec (.homePerform (.poison ia)) s = .next t ∧
      key / 8 * 8 ∈ t.home.poison ∧ t.mem = s.mem ∧ t.ctxs = s.ctxs)) ∧
  (∀ (s : State) (core : Nat) (e : Dbl) (op : GlobalOp),
    (homeAllows s core e op .near = true → e.getLsbD (permBit op) = true ∧ enabled s core = true) ∧
    (∀ q, homeAllows s core e op (.far q) = true → homeAllows s core e op .near = true ∧
      e.getLsbD (if opWrites op then 54 else 53) = true) ∧
    (homeAllows s core e op .companion = true → e.getLsbD 55 = true ∧ enabled s core = true))

/-- R353, R358, R360, R374, R427: a page that is mapped lets the side logs replay, in order; a host access is performed at the
companion unless the link is down, and the companion writes its own memory. -/
def Claim.HomeEvents : Prop :=
  (∀ (s : State) (core : BitVec 11) (idx : BitVec 12), eV (entryAt s core.toNat (entryIdx s core.toNat idx.toNat)) = false →
    exec (.pageMapped core idx) s = .next s) ∧
  (∀ (s : State) (core : BitVec 11) (idx : BitVec 12), eV (entryAt s core.toNat (entryIdx s core.toNat idx.toNat)) = true →
    s.home.held = [] → (∀ c, (getCtx s c).side = []) → exec (.pageMapped core idx) s =
      .next { s with home := { s.home with faults := s.home.faults.filter (fun a => pageOf s a != pageNo s core.toNat idx.toNat) } }) ∧
  (∀ (s s1 : State) (c : CtxId) (a : Access) (p : Part) (v : Dbl) (core : BitVec 11) (idx : BitVec 12),
    eV (entryAt s core.toNat (entryIdx s core.toNat idx.toNat)) = true → s.home.held = [] → s1.home.held = [] → s.home.faults = [] →
    (∀ d, d ≠ c → (getCtx s d).side = []) → (getCtx s c).side = [a] → (getCtx s c).out = [] → nextPart a = some p →
    (pagesOf s a).contains (pageNo s core.toNat idx.toNat) = true → isFlag p.op = false → iaPkg p.ia = myPkg s →
    movedAway s p.ia = false → mapped s p = true →
    performHome p.ia p.op .near (getCtx s c).plan s = (s1, .reply (.done v false)) → s1.ctxs = s.ctxs →
    ∃ t, exec (.pageMapped core idx) s = .next t ∧ (getCtx t c).side = [] ∧ t.mem = s1.mem) ∧
  (∀ (s s1 : State) (c : CtxId) (a : Access) (p : Part) (v : Dbl) (r : Reply), (getCtx s c).side = [a] → (getCtx s c).out = [] →
    nextPart a = some p → isFlag p.op = false →
    (iaPkg p.ia = myPkg s → movedAway s p.ia = false → mapped s p = true → s.home.held = [] →
      performHome p.ia p.op .near (getCtx s c).plan s = (s1, .reply (.done v false)) → s1.ctxs = s.ctxs →
      ∃ t, exec (.sideLogReplay c 0 r) s = .next t ∧ (getCtx t c).side = [] ∧ t.mem = s1.mem ∧ (getCtx t c).bank = (getCtx s c).bank) ∧
    (iaPkg p.ia ≠ myPkg s → ∃ t, exec (.sideLogReplay c 0 r) s = .next t ∧ (getCtx t c).side = [] ∧ t.mem = s.mem ∧
      (getCtx t c).bank = (getCtx s c).bank) ∧
    (iaPkg p.ia = myPkg s → movedAway s p.ia = false → mapped s p = false → exec (.sideLogReplay c 0 r) s = .next s)) ∧
  (∀ (s : State) (c : CtxId) (a : Access) (h : Nat), ownHost s = [(c, a)] → (getCtx s c).out = [a] → s.engines = [] →
    (s.pkg.ebpinDown = true → exec (.hostAccessPerform (.own 0)) s = .next s) ∧ (s.pkg.ebpinOrd ≤ a.ord →
    (∀ v : Dbl, a.op = .host h (some v) → s.pkg.ebpinDown = false → a.tick ≤ tickNow s →
      ∃ t, exec (.hostAccessPerform (.own 0)) s = .next t ∧ (getCtx t c).out = [] ∧
        t.mem = memWrite s.mem (keyHost h) (leBytes 8 v.toNat)) ∧
    (a.op = .host h none → s.pkg.ebpinDown = false → a.tick ≤ tickNow s →
      ∃ t, exec (.hostAccessPerform (.own 0)) s = .next t ∧ (getCtx t c).out = [] ∧ t.mem = s.mem ∧ ∀ o, (getCtx s c).owed = [o] →
        o.id = a.id → o.val = none →
        let w := BitVec.ofNat 64 (leNat (memRead s.mem (keyHost h) 8))
        (getCtx t c).owed = [{ o with val := some w, cyc := s.cycle }]))) ∧
  (∀ (s : State) (h : BitVec 52) (bs : List Byte), h.toNat + bs.length ≤ 2 ^ 52 → exec (.hostAccessPerform (.companion h bs)) s =
    .next { s with mem := memWrite s.mem (keyHost h.toNat) bs })

/-- R355 to R357, R363: a write of a column's HTINV drops the buffered translation that it names and waits for its
acknowledgement, or is held behind one that waits; an acknowledgement counts, and the next held write takes effect. A page that
64 writes of one other package have reached moves unless it is pinned, and so does one that returns; when its move ends, its
entry names the holder, or the page is local again. -/
def Claim.TranslationEvents : Prop :=
  (∀ (s : State) (core : BitVec 11) (v : Dbl), let h := getHtinv s core.toNat
    s.pkg.boot.getLsbD (core.toNat / 160) = true → (h.pend = true → exec (.htinvWrite v core) s = .next (setHtinv core.toNat { h with queue := h.queue ++ [v.extractLsb' 0 13] } s)) ∧
    (h.pend = false → ∃ t, exec (.htinvWrite v core) s = .next t ∧ getHtinv t core.toNat = { h with pend := true } ∧
      (∀ k, k ≠ core.toNat → getHtinv t k = getHtinv s k) ∧ t.mem = s.mem ∧ t.ctxs = s.ctxs ∧
      (v.getLsbD 12 = false → ∀ e, (((myPkg s * 16 + core.toNat / 160) * 256 + core.toNat % 160) * 4096 + v.toNat % 4096, e) ∉ t.home.buffer) ∧
      (∀ q, q ∈ t.home.buffer → q ∈ s.home.buffer)) ∧
    (h.pend = true → h.queue = [] → exec (.htinvAck core) s = .next (setHtinv core.toNat { h with pend := false, acks := h.acks + 1 } s)) ∧
    (∀ w l, h.pend = true → h.queue = w :: l → ∃ t, exec (.htinvAck core) s = .next t ∧
      getHtinv t core.toNat = { pend := true, acks := h.acks + 1, queue := l } ∧ t.mem = s.mem) ∧
    (h.pend = false → exec (.htinvAck core) s = .next s)) ∧
  (∀ (s : State) (core : BitVec 11) (idx : BitVec 12) (q : BitVec 6), let i := entryIdx s core.toNat idx.toNat
    let e := entryAt s core.toNat i
    let run := SMap.get (0, 0) s.home.runs (pageNo s core.toNat idx.toNat)
    let due := e.getLsbD 57 = false ∧ run.1 = q.toNat ∧ 64 ≤ run.2 ∨ e.getLsbD 57 = true ∧ q.toNat = myPkg s
    (eV e = false → exec (.pageMigrate core idx q) s = .next s) ∧
    (eV e = true → e.getLsbD 58 = false → e.getLsbD 59 = false → eBits e 44 4 = tickNow s / 2 ^ 20 % 16 → due →
      (eBits e 41 3 < 4 → ∃ t, exec (.pageMigrate core idx q) s = .next t ∧ (entryAt t core.toNat i).getLsbD 58 = true ∧
        eBits (entryAt t core.toNat i) 41 3 = eBits e 41 3 + 1 ∧ t.ctxs = s.ctxs) ∧
      (4 ≤ eBits e 41 3 → ∃ t, exec (.pageMigrate core idx q) s = .next t ∧ (entryAt t core.toNat i).getLsbD 59 = true ∧
        (entryAt t core.toNat i).getLsbD 58 = false ∧ t.ctxs = s.ctxs)) ∧
    (e.getLsbD 58 = false → exec (.pageMoveDone core idx) s = .next s) ∧
    (e.getLsbD 58 = true → e.getLsbD 57 = false → s.home.held = [] → ∃ t, exec (.pageMoveDone core idx) s = .next t ∧
      (entryAt t core.toNat i).getLsbD 58 = false ∧ (entryAt t core.toNat i).getLsbD 57 = true ∧
      eBits (entryAt t core.toNat i) 33 8 = run.1 % 256 ∧ t.ctxs = s.ctxs) ∧
    (e.getLsbD 58 = true → e.getLsbD 57 = true → s.home.held = [] → ∃ t, exec (.pageMoveDone core idx) s = .next t ∧
      (entryAt t core.toNat i).getLsbD 58 = false ∧ (entryAt t core.toNat i).getLsbD 57 = false ∧ t.ctxs = s.ctxs) ∧
    (∀ ia g, iaPkg ia.toNat ≠ myPkg s → ∃ t, exec (.pageMoveDone core idx (some (ia, g))) s = .next t ∧
      SMap.get 0 t.home.guests (ia.toNat / 2 ^ 16) = g ∧ t.mem = s.mem ∧ t.ctxs = s.ctxs))

/-- R353, R354, R355, R356, R357, R358, R360, R362, R363, R372, R374, R427: the parts of the statement. -/
def Obligations.HomeAndTranslation : Prop :=
  Claim.HomePerforms ∧ Claim.HomeEvents ∧ Claim.TranslationEvents

/-- R436, R437, R440, R443 to R446, R451 to R455: training of a link, its lock against PAD, its time-out and its failure;
the topology table; flits for fi; the ingress checks of a request from another package; tokens minted under KEYA; a package
that cannot be reached; replies; the fabric sync agent; and a group over several packages, which releases once its episode
is complete in all of them. Choices of the model: the key of a minted token (log 46), how the last completion of the other
packages comes (log 41), when a plan with an unreachable core ends (log 69). -/
def Obligations.FabricEvents : Prop :=
  (∀ (s : State) (p : BitVec 4) (l : Link) (n : Nat), linkAt s p = some l →
    ((getPort s p).state = 0 → ∃ t, exec (.linkTrainRequest p) s = .next t ∧ (getPort t p).state = 1 ∧
      (getPort t p).since = tickNow s ∧ t.mem = s.mem ∧ t.ctxs = s.ctxs) ∧
    ((getPort s p).state = 1 → tickNow s ≤ (getPort s p).since + 10000000 → ∃ t, exec (.linkLock p n) s = .next t ∧
      (getPort t p).state = (if n ≤ l.pad.toNat then 2 else 0) ∧ (getPort t p).upAt % 8 = 0 ∧
      tickNow s < (getPort t p).upAt ∧ (getPort t p).upAt ≤ tickNow s + 8 ∧ t.mem = s.mem ∧ t.ctxs = s.ctxs) ∧
    ((getPort s p).state = 1 → (getPort s p).since + 10000000 ≤ tickNow s → ∃ t, exec (.linkTrainTimeout p) s = .next t ∧ (getPort t p).state = 0 ∧ t.mem = s.mem) ∧
    ((getPort s p).state = 2 → ∃ t, exec (.linkCheckFail p) s = .next t ∧ (getPort t p).state = 0 ∧ t.mem = s.mem ∧ t.ctxs = s.ctxs ∧
      (myPort s = some p → routesOn s p = true → t.gate.lost = true)) ∧
    ((getPort s p).state ≠ 2 → exec (.linkCheckFail p) s = .next s)) ∧
  (∀ (s : State) (p : BitVec 4), ∃ t, exec (.linkRead p) s = .next t ∧ t.pkg.mgmt = linkReg s p ∧ (getPort t p).rtry = 0 ∧
    (getPort t p).state = (getPort s p).state ∧ t.mem = s.mem) ∧
  (∀ (s : State) (y : Topology),
    ((∀ l ∈ y.links, 16 ≤ l.pad.toNat ∧ l.pad.toNat ≤ 1024 ∧ l.pad.toNat % 8 = 0) →
      exec (.domainFormed y) s = .next { s with fabric := { s.fabric with topo := y } }) ∧
    (∀ l ∈ y.links, l.pad.toNat < 16 ∨ 1024 < l.pad.toNat ∨ l.pad.toNat % 8 ≠ 0 → exec (.domainFormed y) s = .next s)) ∧
  (∀ (s : State) (p : BitVec 4) (ws : List Dbl), myPort s = some p → flitDue s p ws.length = false →
    exec (.fabricFlitArrive p ws) s = .next s) ∧
  (∀ (s : State) (p : BitVec 4) (ws : List Dbl), ws.length ≤ 8 → s.gate.fi.length + ws.length ≤ 64 → s.stop = none →
    myPort s = some p → fabricEdge s = false → flitDue s p ws.length = true → exec (.fabricFlitArrive p ws) s =
      .next { s with gate := { s.gate with fi := s.gate.fi ++ ws.map (fun v => (tickNow s, v)) } }) ∧
  (∀ (s : State) (q : FabricRequest), tickNow s % 8 ≠ 7 → exec (.fabricRequestArrive q) s = .next s) ∧
  (∀ (s : State) (q : FabricRequest), let home := performHome q.ia.toNat q.op (.far q.src.toNat) q.seq s
    tickNow s % 8 = 7 → iaDie q.ia.toNat < 8 → iaCol q.ia.toNat < 160 → iaPkg q.ia.toNat = myPkg s →
    (∀ r, ingressReason s q = r → r ≠ 0 → ∃ t, exec (.fabricRequestArrive q) s = .next t ∧ t.mem = s.mem ∧ t.ctxs = s.ctxs ∧
      t.fabric.ingReason = BitVec.ofNat 4 r ∧ t.fabric.ingCount.toNat = min 65535 (s.fabric.ingCount.toNat + 1) ∧
      t.fabric.replies = s.fabric.replies ++ [(q, .denied 0)]) ∧
    (∀ s1 rp, ingressReason s q = 0 → s.home.held = [] → home = (s1, .reply rp) →
      ∃ t, exec (.fabricRequestArrive q) s = .next t ∧ t.mem = s1.mem ∧ t.fabric.replies = s1.fabric.replies ++ [(q, rp)]) ∧
    (∀ s1 e, ingressReason s q = 0 → s.home.held = [] → home = (s1, .away e) →
      ∃ t, exec (.fabricRequestArrive q) s = .next t ∧ t.mem = s1.mem ∧ (e.getLsbD 58 = true → .foreign q ∈ t.home.held) ∧
        (e.getLsbD 58 = false → t.fabric.forwards = s1.fabric.forwards ++ [(eBits e 33 8, q)])) ∧
    (∀ s1, ingressReason s q = 0 → s.home.held = [] → home = (s1, .fault) →
      ∃ t, exec (.fabricRequestArrive q) s = .next t ∧ t.mem = s1.mem ∧ (holdsAtFault q.op q.ret = true → .foreign q ∈ t.home.held) ∧
        (holdsAtFault q.op q.ret = false → t.fabric.replies = s1.fabric.replies ++ [(q, .fault)]))) ∧
  (∀ (s : State), ∃ t, exec .ingrejaRead s = .next t ∧ t.fabric.ingCount = 0 ∧ t.fabric.ingReason = s.fabric.ingReason ∧
    t.pkg.mgmt.toNat / 2 ^ 48 = s.fabric.ingCount.toNat ∧ t.mem = s.mem) ∧
  (∀ (s : State) (rights : BitVec 8) (region : BitVec 20) (ex : BitVec 12) (p : BitVec 6),
    ∃ t, exec (.grantTokenMint rights region ex p) s = .next t ∧
      t.pkg.mgmt.extractLsb' 56 8 = rights ∧ t.pkg.mgmt.extractLsb' 36 20 = region ∧ t.pkg.mgmt.extractLsb' 24 12 = ex ∧
      t.pkg.mgmt.extractLsb' 0 24 = mac s.fabric.keyA (tokenMsg t.pkg.mgmt p.toNat) ∧ t.mem = s.mem) ∧
  (∀ (s : State) (p : BitVec 6), ownGlobal s = [] →
    (s.launches.any (fun l => reaches s p.toNat l.2) = false → ∃ t, exec (.packageUnreachable p) s = .next t ∧
      p.toNat ∈ t.fabric.unreachable ∧ t.mem = s.mem ∧ t.ctxs = s.ctxs) ∧
    (∀ k l, s.launches = [(k, l)] → reaches s p.toNat l = true → ∃ t, exec (.packageUnreachable p) s = .next t ∧
      p.toNat ∈ t.fabric.unreachable ∧ (getLaunch t k).map (·.st) = some .ended ∧
      (getLaunch t k).map (fun l => (l.status.code, l.status.d0, l.status.d1)) = some (0x10, 0x32, 0x30600))) ∧
  (∀ (s : State) (c : CtxId) (a : Access) (ia rg : Nat) (w : Bool) (v : Dbl), ownGlobal s = [(c, a)] → (getCtx s c).out = [a] →
    a.op = .global (.load w) ia rg true false 0 → iaPkg ia ≠ myPkg s → iaPkg ia ∉ s.fabric.unreachable → a.tick ≤ tickNow s →
    a.wait = false → a.hops = 0 → (getCtx s c).side = [] → s.engines = [] →
    (∃ r ∈ s.fabric.topo.revs, lacks r.2.toNat (.load w) = false) → ∃ t, exec (.remoteReply 0 (.done v false)) s = .next t ∧ (getCtx t c).out = [] ∧ t.mem = s.mem ∧
      ∀ o, (getCtx s c).owed = [o] → o.id = a.id → o.val = none →
        (getCtx t c).owed = [{ o with val := some (if w then BitVec.ofNat 64 (v.toNat % 2 ^ 32) else v), cyc := s.cycle }]) ∧
  (∀ (s : State) (m : SyncMessage), let o := m.obj.toNat
    let q : Requester := { pkg := m.pkg, core := m.core, ctx := m.ctx }
    (isSys s m.obj = false → m.kind.toNat < 5 → exec (.fabricSyncMessage m) s = .next s) ∧
    (m.kind = 6 → ∃ t, exec (.fabricSyncMessage m) s = .next t ∧ t.mem = s.mem ∧ t.objs = s.objs ∧
      ((m.pkg.toNat, o) ∈ t.fabric.farObjs ↔ m.status ≠ 0)) ∧
    (m.kind = 7 → ∃ t, exec (.fabricSyncMessage m) s = .next t ∧ t.mem = s.mem ∧ t.groups = s.groups ∧
      ((m.pkg.toNat, o) ∈ t.fabric.farGroups ↔ m.status ≠ 0)) ∧
    (isSys s m.obj = true → objHome s o = true → ofPlacement s m = true → tickNow s % 8 = 7 → m.kind = 2 → isMine s q = false → inScope (getObj s o) q = true → busWaiters s o < 1024 →
      (getObj s o).excl = none → (getObj s o).shared = [] → (getObj s o).waiters = [] →
      ∃ t, exec (.fabricSyncMessage m) s = .next t ∧ (getObj t o).excl = some q ∧ t.mem = s.mem ∧ t.ctxs = s.ctxs) ∧
    (∀ p d, m.kind = 5 → o < 256 → ofPlacement s m = true → presentAt s (BitVec.ofNat 2 o) (tickNow s - 1) = true → let g := getGroup s o
      g.wide = true → g.marked ≠ [] → g.members.all (fun n => g.marked.contains n) = true → g.doneAt = some d →
      findPlan s g.plan = some p → ∃ t, exec (.fabricSyncMessage m) s = .next t ∧ (getGroup t o).marked = [] ∧
        (getGroup t o).epoch = g.epoch + 1 ∧ t.mem = s.mem ∧
        ∀ c, (getCtx s c).mark = some (BitVec.ofNat 8 o) →
          (getCtx t c).relTick = some (leastRelease s p (max d m.tick))))

/-- R392 to R395, R397, R427, R428: the agent takes a record whose SEQ has changed when every die has booted and the companion
link carries it: its launch is WAITING, or it has ended with the status of the check that failed; a SEQ written to a slot
whose launch has not ended is an overrun, and one that CSEQ still names is not taken. A CANCEL ends a launch that is
WAITING, QUEUED, RUNNING or PREEMPTED, and is remembered while it is PLACING. -/
def Claim.LaunchRecords : Prop :=
  ∀ (s : State) (k : BitVec 8), let bs := slotBytes s k.toNat
    let q := recField bs 0 8
    let looks := s.pkg.boot = 0xFF ∧ s.pkg.inReset = false ∧ s.pkg.ebpinDown = false ∧ SMap.get 0 s.pkg.seen k.toNat ≠ q
    (looks → q ≠ 0 → slotCseq s k.toNat ≠ q → slotLive s k.toNat = false → recordFault s bs = none →
      ∃ t, exec (.launchRecordTake k) s = .next t ∧ t.lastSeq = max s.lastSeq q ∧ t.ctxs = s.ctxs ∧
        ∃ l, getLaunch t k.toNat = some l ∧ l.seq = q ∧ l.st = .waiting) ∧
    (∀ st, looks → q ≠ 0 → slotCseq s k.toNat ≠ q → slotLive s k.toNat = false → recordFault s bs = some st →
      ∃ t, exec (.launchRecordTake k) s = .next t ∧ ∃ l, getLaunch t k.toNat = some l ∧ l.seq = q ∧ l.st = .ended ∧ l.status = st) ∧
    (looks → q ≠ 0 → slotCseq s k.toNat ≠ q → slotLive s k.toNat = true →
      ∃ t, exec (.launchRecordTake k) s = .next t ∧ (boxOf t 0).overrun.getLsbD k.toNat = true ∧ t.launches = s.launches ∧
        t.mem = s.mem) ∧
    (looks → q = 0 ∨ slotCseq s k.toNat = q → exec (.launchRecordTake k) s = .next { s with pkg := { s.pkg with seen := SMap.set 0 s.pkg.seen k.toNat q } }) ∧
    (¬ looks → exec (.launchRecordTake k) s = .next s) ∧
    (∀ l, getLaunch s k.toNat = some l → cancelSeen s k.toNat l = true → l.st ≠ .ended → l.st ≠ .placing →
      ∃ t, exec (.launchCancel k) s = .next t ∧ ∃ m, getLaunch t k.toNat = some m ∧ m.seq = l.seq ∧ m.st = .ended ∧
        m.status = statusCancelled) ∧
    (∀ l, getLaunch s k.toNat = some l → cancelSeen s k.toNat l = true → l.st = .placing → ∃ t, exec (.launchCancel k) s = .next t ∧
      getLaunch t k.toNat = some { l with cancel := true } ∧ t.mem = s.mem ∧ t.ctxs = s.ctxs) ∧
    (∀ l, getLaunch s k.toNat = some l → cancelSeen s k.toNat l = false → exec (.launchCancel k) s = .next s)

/-- R395, R396, R399, R402: a WAITING launch whose dependences have ended is QUEUED once its image is stored and valid, and the
distributor is to decide; it ends with the status of the check that failed otherwise, and with CANCELLED before all else; one
whose dependence has not ended goes on WAITING. -/
def Claim.LaunchDependences : Prop :=
  ∀ (s : State) (k : BitVec 8) (l : Launch), getLaunch s k.toNat = some l → l.st = .waiting →
    (cancelSeen s k.toNat l = true → ∃ t, exec (.launchDepsMet k) s = .next t ∧
      ∃ m, getLaunch t k.toNat = some m ∧ m.seq = l.seq ∧ m.st = .ended ∧ m.status = statusCancelled) ∧
    (cancelSeen s k.toNat l = false → depFailed l = none → depsEnded l = false → exec (.launchDepsMet k) s = .next s) ∧
    (∀ im, cancelSeen s k.toNat l = false → depFailed l = none → depsEnded l = true →
      s.images.find? (fun p => p.1 == l.version) = some (l.version, im) →
      im.addr = l.imgAddr → im.len = l.imgLen → ∃ t, exec (.launchDepsMet k) s = .next t ∧ t.images = s.images ∧ t.pkg.pass = true ∧
        ∃ m, getLaunch t k.toNat = some m ∧ m = { l with st := .queued, since := tickNow s }) ∧
    (∀ st, cancelSeen s k.toNat l = false → depFailed l = some st → ∃ t, exec (.launchDepsMet k) s = .next t ∧
      ∃ m, getLaunch t k.toNat = some m ∧ m.seq = l.seq ∧ m.st = .ended ∧ m.status = st)

/-- R402 to R405: the distributor places the one launch in line on the first of its placements and wakes what that needs;
a PLACING launch whose clusters are awake is RUNNING at its start tick, a multiple of 8 at least 8 ticks ahead, with its
plan placed; a plan ends when its work has, or with the status reported, once a fault that a home or a station of this core
names has been reported. -/
def Claim.LaunchProgress : Prop :=
  ∀ (s : State) (k : BitVec 8) (l : Launch), getLaunch s k.toNat = some l →
    (∀ im cls, s.pkg.pass = true → cancelSeen s k.toNat l = false → inLine s = [(k.toNat, l)] → imageOf s l = some im → findPlace s (holding s) l im [] = some cls →
      ∃ t, exec .distributorDecide s = .next t ∧ ∃ m, getLaunch t k.toNat = some m ∧ m.st = .placing ∧ m.clusters = cls) ∧
    (s.pkg.pass = false → exec .distributorDecide s = .next s) ∧
    (s.pkg.pass = true → inLine s = [] → exec .distributorDecide s = .next { s with pkg := { s.pkg with pass := false } }) ∧
    (∀ p im, l.cancel = false → l.plan = some p → imageOf s l = some im → l.st = .placing → allAwake s l.clusters = true → relocFail l p im = none →
      (resOf p s.me = none → ∃ t, exec (.launchStart k) s = .next t ∧ t.plans = s.plans ++ [p] ∧ t.ctxs = s.ctxs ∧
        ∃ m, getLaunch t k.toNat = some m ∧ m.st = .running ∧ m.start % 8 = 0 ∧ tickNow s + 8 ≤ m.start ∧
          m.start < tickNow s + 16) ∧
      (∀ r, resOf p s.me = some r → s.pkg.window = none → ∃ t, exec (.launchStart k) s = .next t ∧ t.plans = s.plans ++ [p] ∧
        t.codeSize = r.csize ∧ t.mem = fillAll l p im s.mem ∧ (getLaunch t k.toNat).map (·.st) = some .running)) ∧
    (l.st ≠ .placing → exec (.launchStart k) s = .next s) ∧
    (∀ st : LaunchStatus, l.st = .running → runningCode st.code = true → st.code ≠ 0 → cancelSeen s k.toNat l = false →
      reported s l.seq st = true → ∃ t, exec (.launchEnd k st) s = .next t ∧
      ∃ m, getLaunch t k.toNat = some m ∧ m.seq = l.seq ∧ m.st = .ended ∧ m.status = st) ∧
    (∀ st : LaunchStatus, l.st = .running → runningCode st.code = true → cancelSeen s k.toNat l = true →
      ∃ t, exec (.launchEnd k st) s = .next t ∧
      ∃ m, getLaunch t k.toNat = some m ∧ m.seq = l.seq ∧ m.st = .ended ∧ m.status = statusCancelled) ∧
    (∀ st : LaunchStatus, st.code = 0 → l.st = .running → cancelSeen s k.toNat l = false → workEnded s l.seq = true →
      ∃ t, exec (.launchEnd k st) s = .next t ∧ ∃ m, getLaunch t k.toNat = some m ∧ m.st = .ended ∧ m.status = statusDone) ∧
    (∀ st : LaunchStatus, st.code ≠ 0 → reported s l.seq st = false → cancelSeen s k.toNat l = false → exec (.launchEnd k st) s = .next s) ∧
    (∀ st : LaunchStatus, l.st = .running → st.code = 0 → workEnded s l.seq = false → cancelSeen s k.toNat l = false →
      exec (.launchEnd k st) s = .next s)

/-- R133, R285, R296, R315, R395: an urgent pre-emption is noted with its tick, and the first cycle that sees that tick makes
PREEMPT pending in the contexts of the launch and stops its placement; a pre-emption at a superstep boundary waits for the
boundary. A launch that is PLACING again restarts at its tick, which is a multiple of 8 away from the tick of its stop. -/
def Claim.PreemptEvents : Prop :=
  ∀ (s : State) (k : Nat) (l : Launch), liveLaunch s l.seq = some (k, l) → getLaunch s k = some l →
    (∀ u, l.st = .running → l.preempting = none → ∃ t, exec (.preemptRequest l.seq u) s = .next t ∧ t.ctxs = s.ctxs ∧
      t.stop = s.stop ∧ t.mem = s.mem ∧
      getLaunch t k = some { l with preempting := some u, preTick := if u then some (tickNow s) else none }) ∧
    (l.st ≠ .running → ∀ u, exec (.preemptRequest l.seq u) s = .next s) ∧
    (∀ c n, l.cancel = false → l.st = .placing → l.plan = none → allAwake s l.clusters = true → tickNow s < n → s.kept = [] →
      (∀ t, (recOf s l.seq).stop = some t → t.tick % 8 = 0 → n % 8 = 0) → planHere s l.seq = [c] → (getCtx s c).st ≠ .finished → ∃ t, exec (.placementResume l.seq n) s = .next t ∧
        (getCtx t c).start = some n ∧ (getCtx t c).pend.pre = false ∧ (getCtx t c).bank = (getCtx s c).bank ∧
        (getLaunch t k).map (·.st) = some .running) ∧
    (∀ n t, (recOf s l.seq).stop = some t → t.tick % 8 = 0 → n % 8 ≠ 0 →
      exec (.placementResume l.seq n) s = .next s) ∧
    (l.st ≠ .placing → ∀ n, exec (.placementResume l.seq n) s = .next s)

/-- R133, R285, R315, R392, R393, R395, R396, R397, R399, R402, R403, R404, R405: the parts of the statement. -/
def Obligations.Launches : Prop :=
  Claim.LaunchRecords ∧ Claim.LaunchDependences ∧ Claim.LaunchProgress ∧ Claim.PreemptEvents

/-- R320, R322, R327: a cluster that no plan uses is gated and its receivers lose lock; a gated one wakes, and holds
undefined bytes in its scratchpads and idle tags when it is ACTIVE; a die whose clusters are all GATED is gated, wakes, and
is ON with its clusters GATED; a retired column is enabled again. What a woken scratchpad holds and which clusters a die
wakes are the model's readings (log 51). -/
def Obligations.PowerStates : Prop :=
  (∀ (s : State) (cl : BitVec 7), cl.toNat < 80 → clusterSt s cl.toNat = .active →
    ((holding s).any (fun p => onCluster p cl.toNat) = false → debugOn s cl.toNat = false → idleSince s cl.toNat + 65536 ≤ tickNow s →
      ∃ t, exec (.clusterGate cl) s = .next t ∧ clusterSt t cl.toNat = .gated ∧ t.mem = s.mem ∧ t.ctxs = s.ctxs ∧
        ∀ b, (getBus t b).lock.getLsbD cl.toNat = false) ∧
    ((holding s).any (fun p => onCluster p cl.toNat) = true ∨ tickNow s < idleSince s cl.toNat + 65536 →
      exec (.clusterGate cl) s = .next s)) ∧
  (∀ (s : State) (cl : BitVec 7), cl.toNat < 80 → clusterSt s cl.toNat = .gated →
    SMap.get .active s.pkg.dies (cl.toNat / 10) = .active →
    ∃ t, exec (.clusterWake cl) s = .next t ∧ clusterSt t cl.toNat = .waking ∧ t.mem = s.mem ∧ t.ctxs = s.ctxs ∧
      SMap.get 0 t.pkg.wakeAt cl.toNat = tickNow s) ∧
  (∀ (s : State) (cl : BitVec 7),
    (clusterSt s cl.toNat = .waking → SMap.get 0 s.pkg.wakeAt cl.toNat + 18000 ≤ tickNow s →
      ∃ t, exec (.clusterWakeDone cl) s = .next t ∧ clusterSt t cl.toNat = .active ∧
      t.ctxs = s.ctxs ∧ t.free = s.free + 1 ∧ (cl.toNat = s.myCluster → ∀ n, tagCount t n = 0)) ∧
    (clusterSt s cl.toNat ≠ .waking ∨ tickNow s < SMap.get 0 s.pkg.wakeAt cl.toNat + 18000 →
      exec (.clusterWakeDone cl) s = .next s)) ∧
  (∀ (s : State) (d : BitVec 3), dieDown s d.toNat = false →
    ((∀ i, i < 10 → clusterSt s (10 * d.toNat + i) = .gated ∧ gatedSince s (10 * d.toNat + i) + 65536 ≤ tickNow s) →
      ∃ t, exec (.dieGate d) s = .next t ∧
      SMap.get .active t.pkg.dies d.toNat = .gated ∧ t.mem = s.mem ∧ t.ctxs = s.ctxs) ∧
    (∀ i, i < 10 → clusterSt s (10 * d.toNat + i) ≠ .gated ∨ tickNow s < gatedSince s (10 * d.toNat + i) + 65536 →
      exec (.dieGate d) s = .next s)) ∧
  (∀ (s : State) (d : BitVec 3),
    (SMap.get .active s.pkg.dies d.toNat = .gated → ∃ t, exec (.dieWake d) s = .next t ∧
      SMap.get .active t.pkg.dies d.toNat = .waking ∧ t.mem = s.mem ∧ t.ctxs = s.ctxs ∧
      SMap.get 0 t.pkg.dieWakeAt d.toNat = tickNow s) ∧
    (SMap.get .active s.pkg.dies d.toNat ≠ .waking ∨ tickNow s < SMap.get 0 s.pkg.dieWakeAt d.toNat + 120000 →
      exec (.dieWakeDone d) s = .next s) ∧
    (SMap.get .active s.pkg.dies d.toNat = .waking → SMap.get 0 s.pkg.dieWakeAt d.toNat + 120000 ≤ tickNow s →
      s.launches = [] → ∃ t, exec (.dieWakeDone d) s = .next t ∧
      SMap.get .active t.pkg.dies d.toNat = .active ∧ (∀ i, i < 10 → clusterSt t (10 * d.toNat + i) = .gated) ∧
      t.mem = s.mem ∧ t.ctxs = s.ctxs)) ∧
  (∀ (s : State) (c : BitVec 11), ∃ t, exec (.columnReenable c) s = .next t ∧ c.toNat ∉ t.pkg.retired ∧
    (c = s.self → t.retired = false) ∧ (c ≠ s.self → t.retired = s.retired) ∧ t.mem = s.mem ∧ t.ctxs = s.ctxs)

/-- R33, R120, R126, R127, R136, R405, R428: once its die has booted, the supervisor resumes a held context at TPC, clearing INH,
NEST and NCAUSE after an escalation, at PC after a PREEMPT, which leaves TPC as it was, or its handler at PC; one whose work
SYS 0 has ended stays held. It evicts a context, so that it unloads; and ends one that is not primary, so that it unloads and
is FINISHED. -/
def Claim.SupervisorContexts : Prop :=
  ∀ (s : State) (c : CtxId), let x := getCtx s c
    s.pkg.boot.getLsbD s.myDie = true → (x.sysEnded = true → exec (.supervisorResumeTpc c) s = .next s) ∧
    (x.st = .held → x.sysEnded = false → x.bank.nest = true → ∃ t, exec (.supervisorResumeTpc c) s = .next t ∧ (getCtx t c).st = .running ∧
      (getCtx t c).bank = { x.bank with pc := x.bank.tpc, inh := false, nest := false, ncause := 0 } ∧ t.mem = s.mem) ∧
    (x.st = .held → x.sysEnded = false → x.bank.nest = false → ∃ t, exec (.supervisorResumeTpc c) s = .next t ∧
      (getCtx t c).st = .running ∧ (getCtx t c).bank = (if x.preHeld then x.bank else { x.bank with pc := x.bank.tpc }) ∧ t.mem = s.mem) ∧
    (x.st = .held → x.bank.nest = true → x.bank.inh = true → ∃ t, exec (.supervisorResumePc c) s = .next t ∧
      (getCtx t c).st = .running ∧ (getCtx t c).bank = { x.bank with nest := false, ncause := 0 } ∧ t.mem = s.mem) ∧
    (x.st = .held → s.stream = none → ∃ t, exec (.supervisorEvict c) s = .next t ∧ (getCtx t c).st = .unloading ∧
      (getCtx t c).bank = x.bank ∧ t.mem = s.mem ∧
      t.stream = some { ctx := c, slot := x.slot.getD 0, unload := true, left := if x.bank.mown then 593 else 432, after := none }) ∧
    (x.st = .held → x.primary = false → ∃ t, exec (.supervisorEndContext c) s = .next t ∧ (getCtx t c).st = .unloading ∧
      (getCtx t c).ended = true ∧ (getCtx t c).bank = x.bank ∧ t.mem = s.mem) ∧
    (x.st ≠ .held → ∀ e, e ∈ [Instr.supervisorResumeTpc c, .supervisorResumePc c, .supervisorEvict c, .supervisorEndContext c] →
      exec e s = .next s)

/-- R428: a die in recovery runs no supervisor: none of its acts on this core does anything. -/
def Claim.RecoveringDie : Prop :=
  ∀ (s : State) (c : CtxId), s.pkg.boot.getLsbD s.myDie = false →
    ∀ e, (e ∈ [Instr.supervisorResumeTpc c, .supervisorResumePc c, .supervisorEvict c, .supervisorEndContext c]) ∨
      (∃ st, e = .supervisorEndPlan c st) ∨ (∃ v, e = .clkctlWrite v) ∨ (∃ off bs, e = .ctxRecordWrite c off bs) →
    exec e s = .next s

/-- R126, R136, R398, R405: the supervisor ends the plan of a held context with its status; ABORTED when SYS 1 holds the
context; and the banks of an evicted plan: one that no command is due on is refreshed. -/
def Claim.SupervisorPlans : Prop :=
  (∀ (s : State) (c : CtxId) (k : Nat) (l : Launch) (st : LaunchStatus), s.pkg.boot.getLsbD s.myDie = true → (getCtx s c).st = .held →
    liveLaunch s (getCtx s c).plan = some (k, l) → getLaunch s k = some l → l.st = .running →
    runningCode (endStatus s c st).code = true → (endStatus s c st).code ≠ 0 →
    ∃ t, exec (.supervisorEndPlan c st) s = .next t ∧ ∃ m, getLaunch t k = some m ∧ m.seq = l.seq ∧ m.st = .ended ∧
      m.status = endStatus s c st ∧ (heldBySys (getCtx s c) = some 1 → m.status.code = 1)) ∧
  (∀ (s : State) (c : CtxId) (st : LaunchStatus), (getCtx s c).st ≠ .held → exec (.supervisorEndPlan c st) s = .next s) ∧
  (∀ (s : State), (∀ n, n < 64 → parked s n = false) → exec .evictedBankRefresh s = .next s) ∧
  (∀ (s : State) (n : Nat), n < 64 → (∀ m, m < 64 → (parked s m = true ↔ m = n)) → (getBank s.vault n).state = 0 →
    (refreshOk s n = true → exec .evictedBankRefresh s = .next (refresh n s)) ∧
    (refreshOk s n = false → exec .evictedBankRefresh s = .next s))

/-- R11, R37, R293, R294, R431: management writes reach the registers of a held context, the range registers, SVCBUD and the
home table; a record of a context that is in no slot is written byte by byte; CLKCTL writes of FREQ wait for the end of a
timed plan, or take effect before the next cycle, and a read of CLKCTL clears STRC. Which bytes of a record a write reaches is the model's choice (log 52). -/
def Claim.ManagementAccess : Prop :=
  (∀ (s : State) (c : CtxId) (i : BitVec 6) (v : Dbl), s.pkg.boot.getLsbD s.myDie = true →
    ((getCtx s c).st = .held → ∃ t, exec (.mgmtRegisterWrite (.heldScalar c i) v) s = .next t ∧ (getCtx t c).bank.getS i = v ∧
      (∀ j, j ≠ i → (getCtx t c).bank.getS j = (getCtx s c).bank.getS j) ∧ t.mem = s.mem) ∧
    ((getCtx s c).st ≠ .held → exec (.mgmtRegisterWrite (.heldScalar c i) v) s = .next s)) ∧
  (∀ (s : State) (c : CtxId) (k : BitVec 3) (v : Dbl), s.pkg.boot.getLsbD s.myDie = true → ∃ t, exec (.mgmtRegisterWrite (.rgb c k) v) s = .next t ∧
    SMap.get 0 (getCtx t c).rgb k.toNat = v ∧ (getCtx t c).rga = (getCtx s c).rga ∧ t.mem = s.mem) ∧
  (∀ (s : State) (v : Dbl), s.pkg.boot.getLsbD s.myDie = true → exec (.mgmtRegisterWrite .svcbud v) s =
    .next { s with cluster := { s.cluster with budget := v.extractLsb' 0 24 } }) ∧
  (∀ (s : State) (core : BitVec 11) (idx : BitVec 12) (v : Dbl), s.pkg.boot.getLsbD (core.toNat / 160) = true →
    (layerOn s { core := core, vault := false } = true → ∃ t, exec (.mgmtRegisterWrite (.homeEntry core idx) v) s = .next t ∧
      t.ctxs = s.ctxs ∧ t.pkg.status = 0 ∧ entryAt t core.toNat idx.toNat = entryWrite (entryAt s core.toNat idx.toNat) v) ∧
    (layerOn s { core := core, vault := false } = false → ∃ t, exec (.mgmtRegisterWrite (.homeEntry core idx) v) s = .next t ∧
      t.ctxs = s.ctxs ∧ t.pkg.status = 1 ∧ t.mem = s.mem)) ∧
  (∀ (s : State) (cl : BitVec 7) (v : Dbl), s.pkg.boot.getLsbD (cl.toNat / 10) = true → cl.toNat < 80 →
    ∃ t, exec (.mgmtRegisterWrite (.busgate cl) v) s = .next t ∧ mgmtRead t (.busgate cl) = (v.extractLsb' 0 4).zeroExtend 64 ∧
      t.mem = s.mem ∧ t.ctxs = s.ctxs) ∧
  (∀ (s : State) (c : CtxId) (i : BitVec 6) (bs : Byte), s.pkg.boot.getLsbD s.myDie = true →
    layerOn s { core := s.self, vault := false } = true →
    ((getCtx s c).st = .resident ∨ (getCtx s c).st = .finished →
      ∃ t, exec (.ctxRecordWrite c (0x26000 + 8 * i.toNat) [bs]) s = .next t ∧
      t.pkg.status = 0 ∧ (getCtx t c).bank.getS i = (getCtx s c).bank.getS i &&& 0xFFFFFFFFFFFFFF00 ||| bs.zeroExtend 64 ∧
      t.mem = s.mem) ∧
    ((getCtx s c).st = .empty → ∃ t, exec (.ctxRecordWrite c (0x26000 + 8 * i.toNat) [bs]) s = .next t ∧
      t.pkg.status = 0 ∧ recByte t c (0x26000 + 8 * i.toNat) = bs ∧ (getCtx t c).st = .empty ∧ t.mem = s.mem) ∧
    (∀ off, recOpen (getCtx s c) = false → ∃ t, exec (.ctxRecordWrite c off [bs]) s = .next t ∧ t.pkg.status = 2 ∧
      t.ctxs = s.ctxs)) ∧
  (∀ (s : State) (v : Dbl), let f := v.extractLsb' 0 6
    s.pkg.boot.getLsbD s.myDie = true → (56 < f.toNat → exec (.clkctlWrite v) s = .next s) ∧
    (f.toNat ≤ 56 → timedRunning s = true → ∃ t, exec (.clkctlWrite v) s = .next t ∧ t.cluster.heldFreq = some f ∧
      t.cluster.freq = s.cluster.freq ∧ t.cluster.lock = s.cluster.lock) ∧
    (f.toNat ≤ 56 → timedRunning s = false → ∃ t, exec (.clkctlWrite v) s = .next t ∧ t.cluster.dueFreq = some f ∧
      t.cluster.freq = s.cluster.freq ∧ (clkctl t.cluster).extractLsb' 0 6 = f ∧ (clkctl t.cluster).getLsbD 7 = false ∧
      (takeFreq t).cluster.freq = f ∧ (takeFreq t).cluster.lock = false ∧
      (takeFreq t).cluster.lockAt = some (s.time + 2000 * Config.ns) ∧ t.mem = s.mem ∧ t.ctxs = s.ctxs)) ∧
  (∀ (s : State), exec .clkctlRead s =
    .next { s with pkg := { s.pkg with mgmt := clkctl s.cluster }, cluster := { s.cluster with strc := 0 } })

/-- R11, R33, R37, R126, R127, R136, R293, R294, R398, R405, R431: the parts of the statement. -/
def Obligations.SupervisorAccess : Prop :=
  Claim.SupervisorContexts ∧ Claim.RecoveringDie ∧ Claim.SupervisorPlans ∧ Claim.ManagementAccess

/-- R422, R423, R425 to R429, R433: the power windows and the FREQ steps over the limit; an energy interval charged to a
launch, to the overhead, and in equal parts to the plans of a core; the trip at 115 °C, the loss of the companion link for
too long, and reset: every context is EMPTY and every launch is gone, while memory, the black box and the retirement record
stay; power loss. Choices of the model: what reset and a loss of power keep (log 49), and what the overhead account is
charged (log 71). -/
def Claim.PowerAndReset : Prop :=
  (∀ (s : State) (w : Nat), (∀ u, s.pkg.winAt = some u → u + 1000000 ≤ tickNow s) →
    (1800 < w → ∃ t, exec (.powerWindow w) s = .next t ∧ t.pkg.overLimit = true ∧ t.pkg.overTicks = s.pkg.overTicks + 1000000 ∧
      (10000000 ≤ s.pkg.overTicks + 1000000 → t.pkg.noTimed = true) ∧ t.mem = s.mem ∧ t.ctxs = s.ctxs) ∧
    (w ≤ 1800 → ∃ t, exec (.powerWindow w) s = .next t ∧ t.pkg.overLimit = false ∧ t.pkg.overTicks = 0 ∧
      (w < 1700 → t.pkg.noTimed = false) ∧ (1700 ≤ w → t.pkg.noTimed = s.pkg.noTimed) ∧ t.mem = s.mem)) ∧
  (∀ (s : State),
    (s.pkg.overLimit = true → timedRunning s = false → s.cluster.freq ≠ 0 → s.cluster.dueFreq = none →
      (∀ u, s.pkg.stepAt = some u → u + 10000 ≤ tickNow s) → ∃ t f, exec .powerFreqStep s = .next t ∧
      t.cluster.dueFreq = some f ∧ f.toNat + 1 = s.cluster.freq.toNat ∧ t.mem = s.mem ∧ t.ctxs = s.ctxs) ∧
    (s.pkg.overLimit = false → exec .powerFreqStep s = .next s)) ∧
  (∀ (s : State) (n : Nat) (l : DebugLayer), ∀ p ∈ [EnergyPart.device n, .debug l n], exec (.energyInterval [p]) s =
    .next { s with pkg := { s.pkg with overhead := s.pkg.overhead + n } }) ∧
  (∀ (s : State) (k n : Nat) (l : Launch), liveLaunch s l.seq = some (k, l) → l.st ≠ .waiting →
    ∃ t, exec (.energyInterval [.issued l.seq n]) s = .next t ∧ (getLaunch t k).map (·.nj) = some (l.nj + n) ∧
      t.pkg = s.pkg ∧ t.mem = s.mem) ∧
  (∀ (s : State) (k j n : Nat) (l m : Launch) (p q : Plan) (r : BitVec 11), s.launches = [(k, l), (j, m)] → k ≠ j → l.seq < m.seq →
    liveLaunch s l.seq = some (k, l) → liveLaunch s m.seq = some (j, m) → s.plans = [p, q] → p.seq = l.seq → q.seq = m.seq → l.st ≠ .waiting → m.st ≠ .waiting →
    (resOf p r.toNat).isSome = true → (resOf q r.toNat).isSome = true →
    ∃ t, exec (.energyInterval [.idle r n]) s = .next t ∧ (getLaunch t k).map (·.nj) = some (l.nj + n / 2 + n % 2) ∧
      (getLaunch t j).map (·.nj) = some (m.nj + n / 2) ∧ t.pkg = s.pkg) ∧
  (∀ (s : State), (s.pkg.ebpinDown = false → exec .ebpinRetrainingStart s =
      .next { s with pkg := { s.pkg with ebpinDown := true, ebpinAt := tickNow s } }) ∧
    (s.pkg.ebpinDown = true → exec .ebpinRetrainingStart s = .next s) ∧
    (∃ t, exec .ebpinRetrainingDone s = .next t ∧ t.pkg.ebpinDown = false ∧ t.pkg.hostOut = [] ∧ t.ctxs = s.ctxs ∧
      t.mem = s.pkg.hostOut.foldl (fun m w => memWrite m w.1 w.2) s.mem) ∧
    (s.pkg.ebpinDown = false ∨ tickNow s < s.pkg.ebpinAt + 100000000 → exec .ebpinRetrainTimeout s = .next s)) ∧
  (∀ (s : State) (d : BitVec 3) (n : Nat) (e : Instr),
    (e = .thermalTrip d n ∧ 1150 ≤ n ∨ e = .ebpinRetrainTimeout ∧ s.pkg.ebpinDown = true ∧ s.pkg.ebpinAt + 100000000 ≤ tickNow s) → ∃ t, exec e s = .next t ∧
      t.ctxs = [] ∧ t.launches = [] ∧ t.plans = [] ∧ t.pkg.inReset = true ∧ t.pkg.boot = 0 ∧ t.mem = s.mem ∧
      t.blackBox.resets = s.blackBox.resets + 1 ∧ (∀ d, d < 8 → (boxOf t d).resets = (boxOf s d).resets + 1) ∧
      t.pkg.retired = s.pkg.retired ∧ t.pkg.accounts = s.pkg.accounts) ∧
  (∀ (s : State) (d : BitVec 3) (n : Nat), n < 1150 → exec (.thermalTrip d n) s = .next s) ∧
  (∀ (s : State) (m : BitVec 8), ∃ t, exec (.packageReset m) s = .next t ∧ t.pkg.boot = m ∧ t.pkg.inReset = false ∧
    t.mem = s.mem ∧ (s.pkg.inReset = false → t.ctxs = [] ∧ t.blackBox.resets = s.blackBox.resets + 1) ∧
    (s.pkg.inReset = true → t.ctxs = s.ctxs ∧ t.blackBox = s.blackBox)) ∧
  (∀ (s : State), ∃ t, exec .packagePowerLoss s = .next t ∧ t.pkg.powered = false ∧ t.ctxs = [] ∧
    t.pkg.retired = s.pkg.retired ∧
    ∀ a, memGet t.mem a = (if keyHost 0 ≤ a then memGet s.mem a else unlisted)) ∧
  (∀ (s : State) (nonce : List Byte), (nonce.length ≠ 64 → exec (.attestRequest nonce) s = .next s) ∧
    (nonce.length = 64 → ∃ t, exec (.attestRequest nonce) s = .next t ∧
      t.pkg.attest = (List.range Config.reportLen).map (Config.report nonce ((List.range 8).map Config.firmwareDigest) (sha512 (capBytes s)) s.blackBox.resets
        Config.signingKeys) ∧ t.mem = s.mem ∧ t.ctxs = s.ctxs)) ∧
  (∀ (s : State) (b : Nat), (b % 2 ^ 17 = 0 → b + 2 ^ 17 ≤ 2 ^ 52 → exec (.launchWindowRegister b) s =
      .next { s with pkg := { s.pkg with window := some b } }) ∧
    (b % 2 ^ 17 ≠ 0 ∨ 2 ^ 52 < b + 2 ^ 17 → exec (.launchWindowRegister b) s = .next s))

/-- R37, R431, R432: the debugger reads and writes a byte of a layer that is ACTIVE or debug-awake, and is answered
NOT_AWAKE otherwise; a layer wakes on request, and returns to retention when it is released or has been idle for 1 s. A
debug access in a record area goes through the record (log 50); one to a core that is not halted does nothing (log 83). -/
def Claim.DebugAccess : Prop :=
  (∀ (s : State) (l : DebugLayer) (off : Nat) (w : Option Byte), halted s l = false → exec (.debugAccess l off w) s = .next s) ∧
  (∀ (s : State) (l : DebugLayer) (off : Nat), l.core.toNat < 1280 → off < layerSize l → halted s l = true →
    (layerOn s l = false → ∀ w, ∃ t, exec (.debugAccess l off w) s = .next t ∧ t.pkg.status = 1 ∧ t.mem = s.mem ∧ t.ctxs = s.ctxs) ∧
    (layerOn s l = true → recordByte s l off = none →
      (∃ t, exec (.debugAccess l off none) s = .next t ∧ t.pkg.status = 0 ∧ t.mem = s.mem ∧
        t.pkg.mgmt = (memGet s.mem (layerKey l off)).zeroExtend 64) ∧
      (∀ b, ∃ t, exec (.debugAccess l off (some b)) s = .next t ∧ t.pkg.status = 0 ∧ t.ctxs = s.ctxs ∧
        t.mem = memSet s.mem (layerKey l off) b)) ∧
    (∀ c o, layerOn s l = true → recordByte s l off = some (c, o) →
      (recOpen (getCtx s c) = false → ∀ w, ∃ t, exec (.debugAccess l off w) s = .next t ∧ t.pkg.status = 2 ∧ t.ctxs = s.ctxs) ∧
      (recOpen (getCtx s c) = true → ∃ t, exec (.debugAccess l off none) s = .next t ∧ t.pkg.status = 0 ∧
        t.pkg.mgmt = (recByte s c o).zeroExtend 64 ∧ t.ctxs = s.ctxs)) ∧
    (l ∈ s.pkg.awake → ∀ w, ∃ t, exec (.debugAccess l off w) s = .next t ∧ layerTick t l = tickNow s)) ∧
  (∀ (s : State) (l : DebugLayer), l.core.toNat < 1280 → layerOn s l = false → l ∉ s.pkg.waking →
    ∃ t, exec (.debugWake l) s = .next t ∧ l ∈ t.pkg.waking ∧ t.pkg.awake = s.pkg.awake ∧ layerTick t l = tickNow s ∧
      t.mem = s.mem ∧ t.ctxs = s.ctxs) ∧
  (∀ (s : State) (l : DebugLayer),
    (l ∈ s.pkg.waking → layerTick s l + 20000 ≤ tickNow s →
      ∃ t, exec (.debugWakeDone l) s = .next t ∧ layerOn t l = true ∧ l ∉ t.pkg.waking ∧ t.mem = s.mem) ∧
    (l ∉ s.pkg.waking ∨ tickNow s < layerTick s l + 20000 → exec (.debugWakeDone l) s = .next s) ∧
    (tickNow s < layerTick s l + 1000000000 → exec (.debugIdleTimeout l) s = .next s) ∧
    (∀ e, e = .debugRelease l ∨ e = .debugIdleTimeout l ∧ layerTick s l + 1000000000 ≤ tickNow s →
      ∃ t, exec e s = .next t ∧ l ∉ t.pkg.awake ∧
      (∀ k, k ≠ l → (k ∈ t.pkg.awake ↔ k ∈ s.pkg.awake)) ∧ t.mem = s.mem ∧ t.ctxs = s.ctxs))

/-- R37, R422, R423, R425, R426, R427, R428, R429, R431, R432, R433: the parts of the statement. -/
def Obligations.PowerResetAndDebug : Prop :=
  Claim.PowerAndReset ∧ Claim.DebugAccess

/-- R32, R33, R111, R120, R122, R245, R267, R286, R298, R345, R404: what reset leaves where the spec gives the value: every
context EMPTY with clear shape records and control registers and no trap handler, nothing under way, every tag idle, no
error recorded, no plan, no launch; and every bus with the lane map CH(i) = i. Beside them stand choices of the model, which
no rule gives: bytes read 0 (log 3), a register without a reset value is 0 (log 4), tiers are of class 0, and with them DL
(log 21). -/
def Obligations.ResetValues : Prop :=
  (∀ c, (getCtx State.reset c).st = .empty ∧ (getCtx State.reset c).slot = none ∧ (getCtx State.reset c).snap = [] ∧
    (getCtx State.reset c).rel = [] ∧ (getCtx State.reset c).bank.inh = false ∧ (getCtx State.reset c).bank.nest = false ∧
    (getCtx State.reset c).bank.thand = 0 ∧ (getCtx State.reset c).bank.tpc = 0 ∧ (getCtx State.reset c).bank.fpcsr = 0 ∧
    (getCtx State.reset c).bank.rotb = 0 ∧ (∀ h, (getCtx State.reset c).bank.getH h = 0) ∧
    (∀ q, queueOf (getCtx State.reset c) q = []) ∧ (∀ i, ((getCtx State.reset c).getV i).tag = 15) ∧
    (∀ i, ((getCtx State.reset c).getZ i).tag = 15) ∧ ∀ i, ((getCtx State.reset c).getD i).tag = 15) ∧
  State.reset.flight = [] ∧ State.reset.ports = [] ∧ State.reset.plans = [] ∧ State.reset.launches = [] ∧
  State.reset.copyq = [] ∧ State.reset.error = 0 ∧ State.reset.retired = false ∧ (∀ t, tagCount State.reset t = 0) ∧
  (∀ n, (getBank State.reset.vault n).state = 0 ∧ (getBank State.reset.vault n).dl = Config.refreshInterval 0) ∧
  (∀ w, (getArr State.reset.matrix w).active.fmt = 7 ∧ (getArr State.reset.matrix w).shadow.fmt = 7) ∧
  State.reset.cluster.budget = 0xFFFFFF ∧ (∀ cl, gateReg State.reset cl = 0) ∧ State.reset.pkg.pass = false ∧
  (∀ b i, i < 16 → chOf (getBus State.reset b).mapL (getBus State.reset b).mapH i = i) ∧
  (∀ a, memGet State.reset.mem a = 0)

/-- The invariant of Safety.lean holds at reset: memory is in its canonical form and the next entry of each die's black box
is one of its 1,022 (R375, R433). -/
def Obligations.ResetHoldsInvariant : Prop := State.reset.Inv

/-- The invariant is kept by every step, from every state that meets it, whether an event, a cycle of the core or the lock
of the clock is next: the memory keeps its canonical form, and the next entry of each die's black box stays one of its 1,022
(R433). -/
def Obligations.StepKeepsInvariant : Prop := ∀ (s t : State), s.Inv → step s = .next t → t.Inv

/-- Every step of a machine with power answers a next state: no instruction word and no event stops it (R117, R118); one
without power does not run (R433). -/
def Obligations.StepAnswers : Prop :=
  ∀ (s : State), (s.pkg.powered = true → ∃ t, step s = .next t) ∧ (s.pkg.powered = false → step s = .fault .unpowered)

/-- No instruction word changes a byte of any memory when it issues, whether it completes, traps or waits: a store's bytes
are written when its result lands, or when the access that it makes is performed (R12, R91, R229, R265). -/
def Obligations.WordsLeaveMemory : Prop :=
  ∀ (i : Instr) (s t : State), (encode false i).isSome = true → exec i s = .next t → t.mem = s.mem

/-- R66, R102 to R106, R118, R119, R131, R139, R294, R402, log 2: what a step runs. The distributor decides first if a launch has
entered QUEUED or ended, and after the issue once pre-emptions have completed. An event of the agenda runs alone. Otherwise,
with the clock running, the cycle's arrivals, the issue of bundles and its departures follow each other; the issue takes the
bundle of the primary context in slot 0 first. A bundle of one word that decodes to i runs exactly i, at the bundle's address, and
is left behind when it raises no cause; its cause is delivered otherwise. Either way its pipes are not free for the
secondary stream in that cycle. -/
def Obligations.StepRunsInstruction : Prop :=
  (∀ (s : State), s.pkg.powered = true → step s = stepNext (distributorCycle s)) ∧
  (∀ (s : State), s.pkg.pass = false → distributorCycle s = s) ∧
  (∀ (s : State) (i : Instr) (l : List Instr), s.pkg.powered = true → s.pkg.pass = false → s.agenda = i :: l →
    step s = exec i { s with agenda := l }) ∧
  (∀ (s : State), s.pkg.powered = true → s.pkg.pass = false → s.agenda = [] → s.cluster.lock = true →
    step s = .next (epilogue (distributorCycle (issueCycle (prologue s))))) ∧
  (∀ (s : State), s.pkg.powered = true → s.pkg.pass = false → s.agenda = [] → s.cluster.lock = false → step s = .next (fllLock s)) ∧
  (∀ (s s1 : State) (c : CtxId) (used : List Nat), let s0 := allCtx.foldl stopCode (allCtx.foldl stopAsync s)
    slotCtx s0 0 = some c → (getCtx s0 c).primary = true → tryBundle s0 c [] false = .taken s1 used →
    issueCycle s = secondaryIssue used (turnOrder s1) s1) ∧
  (∀ (s t : State) (c : CtxId) (k : BitVec 2) (g : Seg) (code rest : List Word) (w : Word) (i : Instr) (used : List Nat),
    let x := getCtx s c
    x.st = .running → timeOk s x = true → s.retired = false → x.slot = some k →
    codeAt s k x.plan x.bank.pc.toNat = some (g, code) → forbiddenTag x = none →
    code.drop ((x.bank.pc.toNat - g.cbase) / 4) = w :: rest → chained w = false → decodeWord w = .ok i →
    exec i (enterBundle s c 1) = .next t → t.cur.wait = false → t.cur.stall = false → drawClash [i] t.cur.draws = none →
    (t.cur.snapNeed = 0 ∨ entriesInFlight (enterBundle s c 1) c + t.cur.snapNeed ≤ 64) →
    (enterBundle s c 1).cur.addr = x.bank.pc ∧ (enterBundle s c 1).cur.npc = x.bank.pc + 4 ∧
    (t.cur.trap = none → tryBundle s c used false = .taken (finishBundle c g x.rel.length false t) (demand [pipeOf w])) ∧
    (∀ cls why v, t.cur.trap = some (cls, why, v) → cls < 6 → why ≠ 0x0A →
      tryBundle s c used false = .taken (unreplay x c (deliver (enterBundle s c 1) c why v x.bank.pc s.cycle)) (demand [pipeOf w])))

/-- R64 to R66, R73 to R80: decoding gives every well-formed instruction back from the word that encodes it, with C and every
operand at every value that the encoding admits. -/
def Obligations.EncodingRoundTrip : Prop :=
  ∀ (c : Bool) (i : Instr) (w : Word), i.wellFormed = true → encode c i = some w → decodeWord w = .ok i ∧ chained w = c

/-- R64, R73 to R79: words written out from the spec's encodings, of each family, with what they stand for; the three words
that R79 and R80 give as illegal, with their KIND; and one word for each other KIND of R79. -/
def Obligations.DecodingRight : Prop :=
  decodeWord 0x94100003 = .ok (.li 1 3) ∧ chained 0x94100003 = true ∧
  decodeWord 0x14200000 = .ok (.li 2 0) ∧ chained 0x14200000 = false ∧
  decodeWord 0x8C208300 = .ok (.add 2 2 3 false) ∧ decodeWord 0x06040000 = .ok (.loop 1 0) ∧
  decodeWord 0x08000002 = .ok .ret ∧ decodeWord 0x24311810 = .ok (.ldd 3 4 16) ∧
  decodeWord 0x98434562 = .ok (.fmul 4 13 5 3) ∧ decodeWord 0xA0E3C001 = .ok (.mtc 14 15) ∧
  decodeWord 0xB0A23634 = .ok (.vadd 40 141 141) ∧ decodeWord 0x3843A718 = .ok (.vaddMasked 16 233 12 3) ∧
  decodeWord 0x4102C148 = .ok (.vkand 4 11 5) ∧ decodeWord 0xD6801078 = .ok (.vrsum 160 1 1 7) ∧
  decodeWord 0x58504100 = .ok (.dadd 5 1 1 false) ∧ decodeWord 0xE4E84001 = .ok (.mdrn 58 false 1) ∧
  decodeWord 0xEB503127 = .ok (.bact 53 6 295) ∧ decodeWord 0xEEF14001 = .ok (.xget 47 5) ∧
  decodeWord 0xF51D0002 = .ok (.orecv 17 52) ∧ decodeWord 0xF8046A41 = .ok (.gst 17 42 true) ∧
  decodeWord 0x7C069901 = .ok (.hst 26 25) ∧
  decodeWord 0x00000000 = .error 1 ∧ decodeWord 0xFFFFFFFF = .error 2 ∧ decodeWord 0x0C410515 = .error 2 ∧
  decodeWord 0x08000102 = .error 3 ∧ decodeWord 0xEEF1C001 = .error 4 ∧ decodeWord 0x984345A2 = .error 5 ∧
  decodeWord 0x44202B41 = .error 6
end

