-- ==== Sys2Proof/Laws/Sparse.lean ====
section
/-! SUPPORT. Laws of sparse tables: a read after a write, and the canonical form. -/

namespace Sys2Proof.Machine

variable {α : Type}

/-- A read after a put: the value at its key, every other key as before. -/
theorem SMap.get_put (d : α) (m : List (Nat × α)) (i j : Nat) (x : α) :
    SMap.get d (SMap.put m i x) j = if i = j then x else SMap.get d m j := by
  induction m with
  | nil => simp [SMap.put, SMap.get]
  | cons p t ih =>
    obtain ⟨k, v⟩ := p
    simp only [SMap.put]
    split
    · simp [SMap.get]
    · split
      · subst_vars; by_cases h : k = j <;> simp [SMap.get, h]
      · simp only [SMap.get, ih]; split <;> split <;> simp_all

/-- A read after a removal: the default at its key, every other key as before. -/
theorem SMap.get_del (d : α) (m : List (Nat × α)) (i j : Nat) :
    SMap.get d (SMap.del m i) j = if i = j then d else SMap.get d m j := by
  induction m with
  | nil => simp [SMap.del, SMap.get]
  | cons p t ih =>
    obtain ⟨k, v⟩ := p
    simp only [SMap.del]
    split
    · subst_vars; rw [ih]; by_cases h : k = j <;> simp [SMap.get, h]
    · simp only [SMap.get, ih]; split <;> split <;> simp_all

variable [DecidableEq α]

/-- A read after a write: the value at its key, every other key as before. -/
theorem SMap.get_set (d : α) (m : List (Nat × α)) (i j : Nat) (x : α) :
    SMap.get d (SMap.set d m i x) j = if i = j then x else SMap.get d m j := by
  unfold SMap.set
  split
  · subst_vars; simp only [SMap.get_del]
  · exact SMap.get_put d m i j x

/-- The read of the key just written. -/
@[simp] theorem SMap.get_set_self (d : α) (m : List (Nat × α)) (i : Nat) (x : α) :
    SMap.get d (SMap.set d m i x) i = x := by simp [SMap.get_set]

/-- The read of another key than the one just written. -/
theorem SMap.get_set_ne (d : α) (m : List (Nat × α)) {i j : Nat} (h : i ≠ j) (x : α) :
    SMap.get d (SMap.set d m i x) j = SMap.get d m j := by simp [SMap.get_set, h]

omit [DecidableEq α] in
/-- A key put is found. -/
theorem SMap.find_put (m : List (Nat × α)) (i : Nat) (x : α) :
    (SMap.put m i x).find? (fun p => p.1 == i) = some (i, x) := by
  induction m with
  | nil => simp [SMap.put]
  | cons p t ih =>
    obtain ⟨k, v⟩ := p
    simp only [SMap.put]
    split
    · simp
    · split
      · simp
      · rename_i h1 h2
        simp [ih, h2]

omit [DecidableEq α] in
/-- Another key than the one put is found as before. -/
theorem SMap.find_put_ne (m : List (Nat × α)) {i j : Nat} (h : i ≠ j) (x : α) :
    (SMap.put m i x).find? (fun p => p.1 == j) = m.find? (fun p => p.1 == j) := by
  induction m with
  | nil => simp [SMap.put, h]
  | cons p t ih =>
    obtain ⟨k, v⟩ := p
    simp only [SMap.put]
    split
    · simp [h]
    · split
      · subst_vars; simp [h]
      · simp only [List.find?_cons, ih]

/-! The canonical form -/

/-- A table in canonical form from a bound is one from every lower bound. -/
theorem SMap.wfFrom_mono (d : α) {a b : Nat} (h : a ≤ b) : {m : List (Nat × α)} → SMap.wfFrom d b m = true →
    SMap.wfFrom d a m = true
  | [], _ => rfl
  | (k, v) :: t, w => by
    simp only [SMap.wfFrom, Bool.and_eq_true, decide_eq_true_eq] at w ⊢
    exact ⟨⟨h.trans w.1.1, w.1.2⟩, w.2⟩

/-- A put of a value that is not the default keeps the canonical form. -/
theorem SMap.wfFrom_put (d : α) {b i : Nat} (hi : b ≤ i) {x : α} (hx : x ≠ d) : {m : List (Nat × α)} →
    SMap.wfFrom d b m = true → SMap.wfFrom d b (SMap.put m i x) = true
  | [], _ => by simp [SMap.put, SMap.wfFrom, hi, hx]
  | (k, v) :: t, w => by
    have w' := w
    simp only [SMap.wfFrom, Bool.and_eq_true, decide_eq_true_eq] at w
    simp only [SMap.put]
    split
    · simp only [SMap.wfFrom, Bool.and_eq_true, decide_eq_true_eq]
      refine ⟨⟨hi, hx⟩, ⟨?_, w.1.2⟩, w.2⟩
      omega
    · split
      · subst_vars
        simp only [SMap.wfFrom, Bool.and_eq_true, decide_eq_true_eq]
        exact ⟨⟨hi, hx⟩, w.2⟩
      · simp only [SMap.wfFrom, Bool.and_eq_true, decide_eq_true_eq]
        exact ⟨w.1, SMap.wfFrom_put d (by omega) hx w.2⟩

/-- A removal keeps the canonical form. -/
theorem SMap.wfFrom_del (d : α) (i : Nat) : {b : Nat} → {m : List (Nat × α)} → SMap.wfFrom d b m = true →
    SMap.wfFrom d b (SMap.del m i) = true
  | _, [], _ => rfl
  | b, (k, v) :: t, w => by
    simp only [SMap.wfFrom, Bool.and_eq_true, decide_eq_true_eq] at w
    simp only [SMap.del]
    split
    · exact SMap.wfFrom_mono d (by omega) (SMap.wfFrom_del d i w.2)
    · simp only [SMap.wfFrom, Bool.and_eq_true, decide_eq_true_eq]
      exact ⟨w.1, SMap.wfFrom_del d i w.2⟩

/-- Every write keeps the canonical form. -/
theorem SMap.wf_set (d : α) {m : List (Nat × α)} (i : Nat) (x : α) (h : SMap.wf d m = true) :
    SMap.wf d (SMap.set d m i x) = true := by
  unfold SMap.set
  split
  · exact SMap.wfFrom_del d i h
  · exact SMap.wfFrom_put d (Nat.zero_le _) ‹_› h

/-- A selection of entries keeps the canonical form. -/
theorem SMap.wfFrom_filter (d : α) (p : Nat × α → Bool) : {b : Nat} → {m : List (Nat × α)} → SMap.wfFrom d b m = true →
    SMap.wfFrom d b (m.filter p) = true
  | _, [], _ => rfl
  | b, (k, v) :: t, w => by
    simp only [SMap.wfFrom, Bool.and_eq_true, decide_eq_true_eq] at w
    simp only [List.filter_cons]
    split
    · simp only [SMap.wfFrom, Bool.and_eq_true, decide_eq_true_eq]
      exact ⟨w.1, SMap.wfFrom_filter d p w.2⟩
    · exact SMap.wfFrom_mono d (by omega) (SMap.wfFrom_filter d p w.2)

/-- Two tables, the first of keys below a bound, stand behind each other in canonical form. -/
theorem SMap.wfFrom_append (d : α) {c : Nat} {n : List (Nat × α)} (hn : SMap.wfFrom d c n = true) : {b : Nat} →
    {m : List (Nat × α)} → SMap.wfFrom d b m = true → b ≤ c → (∀ p, p ∈ m → p.1 < c) → SMap.wfFrom d b (m ++ n) = true
  | _, [], _, h, _ => SMap.wfFrom_mono d h hn
  | b, (k, v) :: t, w, _, hm => by
    simp only [SMap.wfFrom, Bool.and_eq_true, decide_eq_true_eq] at w
    have hk : k < c := hm (k, v) (by simp)
    simp only [List.cons_append, SMap.wfFrom, Bool.and_eq_true, decide_eq_true_eq]
    exact ⟨w.1, SMap.wfFrom_append d hn w.2 (by omega) (fun p hp => hm p (by simp [hp]))⟩

/-- Below its first possible key a canonical table gives the default. -/
theorem SMap.get_below (d : α) {i : Nat} : {b : Nat} → {m : List (Nat × α)} → SMap.wfFrom d b m = true → i < b →
    SMap.get d m i = d
  | _, [], _, _ => rfl
  | b, (k, v) :: t, w, h => by
    simp only [SMap.wfFrom, Bool.and_eq_true, decide_eq_true_eq] at w
    have hk : k ≠ i := by omega
    simp only [SMap.get, hk, if_false]
    exact SMap.get_below d w.2 (by omega)

/-- Canonical tables that read alike are equal. -/
theorem SMap.ext (d : α) : {b : Nat} → {m n : List (Nat × α)} → SMap.wfFrom d b m = true → SMap.wfFrom d b n = true →
    (∀ i, SMap.get d m i = SMap.get d n i) → m = n
  | _, [], [], _, _, _ => rfl
  | _, [], (k, v) :: t, _, w, h => by
    simp only [SMap.wfFrom, Bool.and_eq_true, decide_eq_true_eq] at w
    have := h k
    simp [SMap.get] at this
    exact absurd this.symm w.1.2
  | _, (k, v) :: t, [], w, _, h => by
    simp only [SMap.wfFrom, Bool.and_eq_true, decide_eq_true_eq] at w
    have := h k
    simp [SMap.get] at this
    exact absurd this w.1.2
  | _, (k, v) :: t, (l, u) :: r, w, x, h => by
    simp only [SMap.wfFrom, Bool.and_eq_true, decide_eq_true_eq] at w x
    have hk : k = l := by
      rcases Nat.lt_trichotomy k l with g | g | g
      · have := h k
        simp only [SMap.get, if_true, Nat.ne_of_gt g, if_false] at this
        rw [SMap.get_below d x.2 (by omega)] at this
        exact absurd this w.1.2
      · exact g
      · have := h l
        simp only [SMap.get, if_true, Nat.ne_of_gt g, if_false] at this
        rw [SMap.get_below d w.2 (by omega)] at this
        exact absurd this.symm x.1.2
    subst hk
    have hv : v = u := by simpa [SMap.get] using h k
    subst hv
    congr 1
    refine SMap.ext d w.2 x.2 (fun i => ?_)
    by_cases hi : k = i
    · subst hi; rw [SMap.get_below d w.2 (by omega), SMap.get_below d x.2 (by omega)]
    · simpa [SMap.get, hi] using h i

/-- A write of what a canonical table holds there leaves it as it is. -/
theorem SMap.set_get (d : α) {m : List (Nat × α)} (i : Nat) (h : SMap.wf d m = true) : SMap.set d m i (SMap.get d m i) = m := by
  refine SMap.ext d (SMap.wf_set d i _ h) h (fun j => ?_)
  rw [SMap.get_set]; split
  · subst_vars; rfl
  · rfl

end Sys2Proof.Machine
end

