-- ==== Sys2Proof/Laws/Memory.lean ====
section
/-! SUPPORT. Laws of memory: a read after a write gives the value written, a write leaves every other byte alone, every
write keeps the canonical form, and numbers and their little-endian bytes name each other. -/

namespace Sys2Proof.Machine

/-- A byte after a write of one byte. -/
theorem memGet_memSet (m : List Host.Cell) (a b : Nat) (v : Byte) :
    memGet (memSet m a v) b = if a = b then v else memGet m b := SMap.get_set unlisted m a b v

/-- A byte after a write of bytes. -/
theorem memGet_memWrite (bs : List Byte) (m : List Host.Cell) (a b : Nat) :
    memGet (memWrite m a bs) b = if a ≤ b ∧ b < a + bs.length then bs.getD (b - a) 0 else memGet m b := by
  induction bs generalizing m a with
  | nil => simp [memWrite]
  | cons x t ih =>
    simp only [memWrite, ih, memGet_memSet, List.length_cons]
    by_cases h : a = b
    · subst h; simp
    · by_cases h2 : a + 1 ≤ b ∧ b < a + 1 + t.length
      · rw [if_pos h2, if_pos (by omega), show b - a = (b - (a + 1)) + 1 by omega]
        simp
      · rw [if_neg h2, if_neg h, if_neg (by omega)]

/-- A write of bytes leaves every byte outside it alone. -/
theorem memGet_memWrite_ne (bs : List Byte) (m : List Host.Cell) {a b : Nat} (h : b < a ∨ a + bs.length ≤ b) :
    memGet (memWrite m a bs) b = memGet m b := by rw [memGet_memWrite, if_neg (by omega)]

/-- The bytes read are as many as asked for. -/
@[simp] theorem length_memRead (m : List Host.Cell) (a n : Nat) : (memRead m a n).length = n := by
  induction n generalizing a with
  | zero => rfl
  | succ n ih => simp [memRead, ih]

/-- The j-th byte read stands j bytes up. -/
theorem getElem?_memRead (m : List Host.Cell) (a n j : Nat) (h : j < n) : (memRead m a n)[j]? = some (memGet m (a + j)) := by
  induction n generalizing a j with
  | zero => omega
  | succ n ih =>
    cases j with
    | zero => simp [memRead]
    | succ j => simp [memRead, ih (a + 1) j (by omega), show a + 1 + j = a + (j + 1) by omega]

/-- A read of the bytes just written. -/
theorem memRead_memWrite (bs : List Byte) (m : List Host.Cell) (a : Nat) : memRead (memWrite m a bs) a bs.length = bs := by
  refine List.ext_getElem? (fun j => ?_)
  by_cases h : j < bs.length
  · rw [getElem?_memRead _ _ _ _ h, memGet_memWrite, if_pos (by omega), show a + j - a = j by omega]
    simp [List.getD, h]
  · rw [List.getElem?_eq_none (by simp; omega), List.getElem?_eq_none (by omega)]

/-- A read depends on the bytes of its range alone. -/
theorem memRead_congr {m k : List Host.Cell} {a n : Nat} (h : ∀ b, a ≤ b → b < a + n → memGet m b = memGet k b) :
    memRead m a n = memRead k a n := by
  induction n generalizing a with
  | zero => rfl
  | succ n ih =>
    simp only [memRead, h a (le_refl a) (by omega)]
    rw [ih (fun b h1 h2 => h b (by omega) (by omega))]

/-- The bytes of a number are as many as asked for. -/
@[simp] theorem length_leBytes (n v : Nat) : (leBytes n v).length = n := by
  induction n generalizing v with
  | zero => rfl
  | succ n ih => simp [leBytes, ih]

/-- Byte j of a number's bytes. -/
theorem getElem?_leBytes (n v j : Nat) (h : j < n) : (leBytes n v)[j]? = some (BitVec.ofNat 8 (v / 256 ^ j)) := by
  induction n generalizing v j with
  | zero => omega
  | succ n ih =>
    cases j with
    | zero => simp [leBytes]
    | succ j =>
      simp only [leBytes, List.getElem?_cons_succ, ih (v / 256) j (by omega), Nat.div_div_eq_div_mul, pow_succ']

/-- A number from its own bytes, modulo what they hold (R7). -/
theorem leNat_leBytes (n v : Nat) : leNat (leBytes n v) = v % 256 ^ n := by
  induction n generalizing v with
  | zero => simp [leBytes, leNat, Nat.mod_one]
  | succ n ih =>
    simp only [leBytes, leNat, ih]
    rw [BitVec.toNat_ofNat, show (2 : Nat) ^ 8 = 256 from rfl, pow_succ' 256 n, Nat.mod_mul]

/-- A double from its own bytes (R7). -/
@[simp] theorem leNat_leBytes_dbl (v : Dbl) : leNat (leBytes 8 v.toNat) = v.toNat := by
  rw [leNat_leBytes]; exact Nat.mod_eq_of_lt v.isLt

/-! The canonical form (R375) -/

/-- A write of one byte keeps the canonical form. -/
theorem wf_memSet {m : List Host.Cell} (a : Nat) (v : Byte) (h : Memory.wf m = true) : Memory.wf (memSet m a v) = true :=
  SMap.wf_set unlisted a v h

/-- A write of bytes keeps the canonical form. -/
theorem wf_memWrite (bs : List Byte) {m : List Host.Cell} (a : Nat) (h : Memory.wf m = true) :
    Memory.wf (memWrite m a bs) = true := by
  induction bs generalizing m a with
  | nil => exact h
  | cons x t ih => exact ih (a + 1) (wf_memSet a x h)

/-- A selection of cells keeps the canonical form. -/
theorem wf_filter (p : Host.Cell → Bool) {m : List Host.Cell} (h : Memory.wf m = true) : Memory.wf (m.filter p) = true :=
  SMap.wfFrom_filter unlisted p h

/-- Equal bytes everywhere are equal memories. -/
theorem mem_ext {m k : List Host.Cell} (hm : Memory.wf m = true) (hk : Memory.wf k = true)
    (h : ∀ a, memGet m a = memGet k a) : m = k := SMap.ext unlisted hm hk h

end Sys2Proof.Machine
end

