-- ==== Sys2Proof/Laws/State.lean ====
section
/-! SUPPORT. What an update of the state leaves alone: one lemma for each field and update, and the reads of what was
written. -/

namespace Sys2Proof.Machine

/-! setCtx -/

@[simp] theorem setCtx_self (s : State) (c : CtxId) (x : Ctx) : (setCtx s c x).self = s.self := rfl
@[simp] theorem setCtx_cycle (s : State) (c : CtxId) (x : Ctx) : (setCtx s c x).cycle = s.cycle := rfl
@[simp] theorem setCtx_time (s : State) (c : CtxId) (x : Ctx) : (setCtx s c x).time = s.time := rfl
@[simp] theorem setCtx_seq (s : State) (c : CtxId) (x : Ctx) : (setCtx s c x).seq = s.seq := rfl
@[simp] theorem setCtx_nextId (s : State) (c : CtxId) (x : Ctx) : (setCtx s c x).nextId = s.nextId := rfl
@[simp] theorem setCtx_free (s : State) (c : CtxId) (x : Ctx) : (setCtx s c x).free = s.free := rfl
@[simp] theorem setCtx_agenda (s : State) (c : CtxId) (x : Ctx) : (setCtx s c x).agenda = s.agenda := rfl
@[simp] theorem setCtx_cur (s : State) (c : CtxId) (x : Ctx) : (setCtx s c x).cur = s.cur := rfl
@[simp] theorem setCtx_justZero (s : State) (c : CtxId) (x : Ctx) : (setCtx s c x).justZero = s.justZero := rfl
@[simp] theorem setCtx_flight (s : State) (c : CtxId) (x : Ctx) : (setCtx s c x).flight = s.flight := rfl
@[simp] theorem setCtx_fetches (s : State) (c : CtxId) (x : Ctx) : (setCtx s c x).fetches = s.fetches := rfl
@[simp] theorem setCtx_oget (s : State) (c : CtxId) (x : Ctx) : (setCtx s c x).oget = s.oget := rfl
@[simp] theorem setCtx_oset (s : State) (c : CtxId) (x : Ctx) : (setCtx s c x).oset = s.oset := rfl
@[simp] theorem setCtx_ports (s : State) (c : CtxId) (x : Ctx) : (setCtx s c x).ports = s.ports := rfl
@[simp] theorem setCtx_lastSlot (s : State) (c : CtxId) (x : Ctx) : (setCtx s c x).lastSlot = s.lastSlot := rfl
@[simp] theorem setCtx_stream (s : State) (c : CtxId) (x : Ctx) : (setCtx s c x).stream = s.stream := rfl
@[simp] theorem setCtx_halves (s : State) (c : CtxId) (x : Ctx) : (setCtx s c x).halves = s.halves := rfl
@[simp] theorem setCtx_expansions (s : State) (c : CtxId) (x : Ctx) : (setCtx s c x).expansions = s.expansions := rfl
@[simp] theorem setCtx_dicts (s : State) (c : CtxId) (x : Ctx) : (setCtx s c x).dicts = s.dicts := rfl
@[simp] theorem setCtx_segs (s : State) (c : CtxId) (x : Ctx) : (setCtx s c x).segs = s.segs := rfl
@[simp] theorem setCtx_codeSize (s : State) (c : CtxId) (x : Ctx) : (setCtx s c x).codeSize = s.codeSize := rfl
@[simp] theorem setCtx_mem (s : State) (c : CtxId) (x : Ctx) : (setCtx s c x).mem = s.mem := rfl
@[simp] theorem setCtx_tags (s : State) (c : CtxId) (x : Ctx) : (setCtx s c x).tags = s.tags := rfl
@[simp] theorem setCtx_copyq (s : State) (c : CtxId) (x : Ctx) : (setCtx s c x).copyq = s.copyq := rfl
@[simp] theorem setCtx_engines (s : State) (c : CtxId) (x : Ctx) : (setCtx s c x).engines = s.engines := rfl
@[simp] theorem setCtx_xports (s : State) (c : CtxId) (x : Ctx) : (setCtx s c x).xports = s.xports := rfl
@[simp] theorem setCtx_xout (s : State) (c : CtxId) (x : Ctx) : (setCtx s c x).xout = s.xout := rfl
@[simp] theorem setCtx_vault (s : State) (c : CtxId) (x : Ctx) : (setCtx s c x).vault = s.vault := rfl
@[simp] theorem setCtx_error (s : State) (c : CtxId) (x : Ctx) : (setCtx s c x).error = s.error := rfl
@[simp] theorem setCtx_retired (s : State) (c : CtxId) (x : Ctx) : (setCtx s c x).retired = s.retired := rfl
@[simp] theorem setCtx_gate (s : State) (c : CtxId) (x : Ctx) : (setCtx s c x).gate = s.gate := rfl
@[simp] theorem setCtx_stop (s : State) (c : CtxId) (x : Ctx) : (setCtx s c x).stop = s.stop := rfl
@[simp] theorem setCtx_kept (s : State) (c : CtxId) (x : Ctx) : (setCtx s c x).kept = s.kept := rfl
@[simp] theorem setCtx_rxjobs (s : State) (c : CtxId) (x : Ctx) : (setCtx s c x).rxjobs = s.rxjobs := rfl
@[simp] theorem setCtx_reports (s : State) (c : CtxId) (x : Ctx) : (setCtx s c x).reports = s.reports := rfl
@[simp] theorem setCtx_matrix (s : State) (c : CtxId) (x : Ctx) : (setCtx s c x).matrix = s.matrix := rfl
@[simp] theorem setCtx_cluster (s : State) (c : CtxId) (x : Ctx) : (setCtx s c x).cluster = s.cluster := rfl
@[simp] theorem setCtx_replan (s : State) (c : CtxId) (x : Ctx) : (setCtx s c x).replan = s.replan := rfl
@[simp] theorem setCtx_pbarTick (s : State) (c : CtxId) (x : Ctx) : (setCtx s c x).pbarTick = s.pbarTick := rfl
@[simp] theorem setCtx_buses (s : State) (c : CtxId) (x : Ctx) : (setCtx s c x).buses = s.buses := rfl
@[simp] theorem setCtx_objs (s : State) (c : CtxId) (x : Ctx) : (setCtx s c x).objs = s.objs := rfl
@[simp] theorem setCtx_groups (s : State) (c : CtxId) (x : Ctx) : (setCtx s c x).groups = s.groups := rfl
@[simp] theorem setCtx_home (s : State) (c : CtxId) (x : Ctx) : (setCtx s c x).home = s.home := rfl
@[simp] theorem setCtx_launches (s : State) (c : CtxId) (x : Ctx) : (setCtx s c x).launches = s.launches := rfl
@[simp] theorem setCtx_history (s : State) (c : CtxId) (x : Ctx) : (setCtx s c x).history = s.history := rfl
@[simp] theorem setCtx_lastSeq (s : State) (c : CtxId) (x : Ctx) : (setCtx s c x).lastSeq = s.lastSeq := rfl
@[simp] theorem setCtx_images (s : State) (c : CtxId) (x : Ctx) : (setCtx s c x).images = s.images := rfl
@[simp] theorem setCtx_hostImages (s : State) (c : CtxId) (x : Ctx) : (setCtx s c x).hostImages = s.hostImages := rfl
@[simp] theorem setCtx_plans (s : State) (c : CtxId) (x : Ctx) : (setCtx s c x).plans = s.plans := rfl
@[simp] theorem setCtx_blackBox (s : State) (c : CtxId) (x : Ctx) : (setCtx s c x).blackBox = s.blackBox := rfl
@[simp] theorem setCtx_boxes (s : State) (c : CtxId) (x : Ctx) : (setCtx s c x).boxes = s.boxes := rfl
@[simp] theorem setCtx_fabric (s : State) (c : CtxId) (x : Ctx) : (setCtx s c x).fabric = s.fabric := rfl
@[simp] theorem setCtx_pkg (s : State) (c : CtxId) (x : Ctx) : (setCtx s c x).pkg = s.pkg := rfl

/-! sent -/

@[simp] theorem sent_self (s : State) (l : List Out) : (s.sent l).self = s.self := rfl
@[simp] theorem sent_cycle (s : State) (l : List Out) : (s.sent l).cycle = s.cycle := rfl
@[simp] theorem sent_time (s : State) (l : List Out) : (s.sent l).time = s.time := rfl
@[simp] theorem sent_seq (s : State) (l : List Out) : (s.sent l).seq = s.seq := rfl
@[simp] theorem sent_nextId (s : State) (l : List Out) : (s.sent l).nextId = s.nextId := rfl
@[simp] theorem sent_free (s : State) (l : List Out) : (s.sent l).free = s.free := rfl
@[simp] theorem sent_agenda (s : State) (l : List Out) : (s.sent l).agenda = s.agenda := rfl
@[simp] theorem sent_justZero (s : State) (l : List Out) : (s.sent l).justZero = s.justZero := rfl
@[simp] theorem sent_ctxs (s : State) (l : List Out) : (s.sent l).ctxs = s.ctxs := rfl
@[simp] theorem sent_fetches (s : State) (l : List Out) : (s.sent l).fetches = s.fetches := rfl
@[simp] theorem sent_oget (s : State) (l : List Out) : (s.sent l).oget = s.oget := rfl
@[simp] theorem sent_oset (s : State) (l : List Out) : (s.sent l).oset = s.oset := rfl
@[simp] theorem sent_ports (s : State) (l : List Out) : (s.sent l).ports = s.ports := rfl
@[simp] theorem sent_lastSlot (s : State) (l : List Out) : (s.sent l).lastSlot = s.lastSlot := rfl
@[simp] theorem sent_stream (s : State) (l : List Out) : (s.sent l).stream = s.stream := rfl
@[simp] theorem sent_halves (s : State) (l : List Out) : (s.sent l).halves = s.halves := rfl
@[simp] theorem sent_expansions (s : State) (l : List Out) : (s.sent l).expansions = s.expansions := rfl
@[simp] theorem sent_dicts (s : State) (l : List Out) : (s.sent l).dicts = s.dicts := rfl
@[simp] theorem sent_segs (s : State) (l : List Out) : (s.sent l).segs = s.segs := rfl
@[simp] theorem sent_codeSize (s : State) (l : List Out) : (s.sent l).codeSize = s.codeSize := rfl
@[simp] theorem sent_mem (s : State) (l : List Out) : (s.sent l).mem = s.mem := rfl
@[simp] theorem sent_tags (s : State) (l : List Out) : (s.sent l).tags = s.tags := rfl
@[simp] theorem sent_copyq (s : State) (l : List Out) : (s.sent l).copyq = s.copyq := rfl
@[simp] theorem sent_engines (s : State) (l : List Out) : (s.sent l).engines = s.engines := rfl
@[simp] theorem sent_xports (s : State) (l : List Out) : (s.sent l).xports = s.xports := rfl
@[simp] theorem sent_xout (s : State) (l : List Out) : (s.sent l).xout = s.xout := rfl
@[simp] theorem sent_vault (s : State) (l : List Out) : (s.sent l).vault = s.vault := rfl
@[simp] theorem sent_error (s : State) (l : List Out) : (s.sent l).error = s.error := rfl
@[simp] theorem sent_retired (s : State) (l : List Out) : (s.sent l).retired = s.retired := rfl
@[simp] theorem sent_gate (s : State) (l : List Out) : (s.sent l).gate = s.gate := rfl
@[simp] theorem sent_stop (s : State) (l : List Out) : (s.sent l).stop = s.stop := rfl
@[simp] theorem sent_kept (s : State) (l : List Out) : (s.sent l).kept = s.kept := rfl
@[simp] theorem sent_rxjobs (s : State) (l : List Out) : (s.sent l).rxjobs = s.rxjobs := rfl
@[simp] theorem sent_reports (s : State) (l : List Out) : (s.sent l).reports = s.reports := rfl
@[simp] theorem sent_matrix (s : State) (l : List Out) : (s.sent l).matrix = s.matrix := rfl
@[simp] theorem sent_cluster (s : State) (l : List Out) : (s.sent l).cluster = s.cluster := rfl
@[simp] theorem sent_replan (s : State) (l : List Out) : (s.sent l).replan = s.replan := rfl
@[simp] theorem sent_pbarTick (s : State) (l : List Out) : (s.sent l).pbarTick = s.pbarTick := rfl
@[simp] theorem sent_buses (s : State) (l : List Out) : (s.sent l).buses = s.buses := rfl
@[simp] theorem sent_objs (s : State) (l : List Out) : (s.sent l).objs = s.objs := rfl
@[simp] theorem sent_groups (s : State) (l : List Out) : (s.sent l).groups = s.groups := rfl
@[simp] theorem sent_home (s : State) (l : List Out) : (s.sent l).home = s.home := rfl
@[simp] theorem sent_launches (s : State) (l : List Out) : (s.sent l).launches = s.launches := rfl
@[simp] theorem sent_history (s : State) (l : List Out) : (s.sent l).history = s.history := rfl
@[simp] theorem sent_lastSeq (s : State) (l : List Out) : (s.sent l).lastSeq = s.lastSeq := rfl
@[simp] theorem sent_images (s : State) (l : List Out) : (s.sent l).images = s.images := rfl
@[simp] theorem sent_hostImages (s : State) (l : List Out) : (s.sent l).hostImages = s.hostImages := rfl
@[simp] theorem sent_plans (s : State) (l : List Out) : (s.sent l).plans = s.plans := rfl
@[simp] theorem sent_blackBox (s : State) (l : List Out) : (s.sent l).blackBox = s.blackBox := rfl
@[simp] theorem sent_boxes (s : State) (l : List Out) : (s.sent l).boxes = s.boxes := rfl
@[simp] theorem sent_fabric (s : State) (l : List Out) : (s.sent l).fabric = s.fabric := rfl
@[simp] theorem sent_pkg (s : State) (l : List Out) : (s.sent l).pkg = s.pkg := rfl

/-! blackBox -/

@[simp] theorem blackBox_self (s : State) (k : BitVec 8) (r : BitVec 11) (q : Nat) (a b : Dbl) : (Machine.blackBox s k r q a b).self = s.self := rfl
@[simp] theorem blackBox_cycle (s : State) (k : BitVec 8) (r : BitVec 11) (q : Nat) (a b : Dbl) : (Machine.blackBox s k r q a b).cycle = s.cycle := rfl
@[simp] theorem blackBox_time (s : State) (k : BitVec 8) (r : BitVec 11) (q : Nat) (a b : Dbl) : (Machine.blackBox s k r q a b).time = s.time := rfl
@[simp] theorem blackBox_seq (s : State) (k : BitVec 8) (r : BitVec 11) (q : Nat) (a b : Dbl) : (Machine.blackBox s k r q a b).seq = s.seq := rfl
@[simp] theorem blackBox_nextId (s : State) (k : BitVec 8) (r : BitVec 11) (q : Nat) (a b : Dbl) : (Machine.blackBox s k r q a b).nextId = s.nextId := rfl
@[simp] theorem blackBox_free (s : State) (k : BitVec 8) (r : BitVec 11) (q : Nat) (a b : Dbl) : (Machine.blackBox s k r q a b).free = s.free := rfl
@[simp] theorem blackBox_agenda (s : State) (k : BitVec 8) (r : BitVec 11) (q : Nat) (a b : Dbl) : (Machine.blackBox s k r q a b).agenda = s.agenda := rfl
@[simp] theorem blackBox_cur (s : State) (k : BitVec 8) (r : BitVec 11) (q : Nat) (a b : Dbl) : (Machine.blackBox s k r q a b).cur = s.cur := rfl
@[simp] theorem blackBox_justZero (s : State) (k : BitVec 8) (r : BitVec 11) (q : Nat) (a b : Dbl) : (Machine.blackBox s k r q a b).justZero = s.justZero := rfl
@[simp] theorem blackBox_ctxs (s : State) (k : BitVec 8) (r : BitVec 11) (q : Nat) (a b : Dbl) : (Machine.blackBox s k r q a b).ctxs = s.ctxs := rfl
@[simp] theorem blackBox_flight (s : State) (k : BitVec 8) (r : BitVec 11) (q : Nat) (a b : Dbl) : (Machine.blackBox s k r q a b).flight = s.flight := rfl
@[simp] theorem blackBox_fetches (s : State) (k : BitVec 8) (r : BitVec 11) (q : Nat) (a b : Dbl) : (Machine.blackBox s k r q a b).fetches = s.fetches := rfl
@[simp] theorem blackBox_oget (s : State) (k : BitVec 8) (r : BitVec 11) (q : Nat) (a b : Dbl) : (Machine.blackBox s k r q a b).oget = s.oget := rfl
@[simp] theorem blackBox_oset (s : State) (k : BitVec 8) (r : BitVec 11) (q : Nat) (a b : Dbl) : (Machine.blackBox s k r q a b).oset = s.oset := rfl
@[simp] theorem blackBox_ports (s : State) (k : BitVec 8) (r : BitVec 11) (q : Nat) (a b : Dbl) : (Machine.blackBox s k r q a b).ports = s.ports := rfl
@[simp] theorem blackBox_lastSlot (s : State) (k : BitVec 8) (r : BitVec 11) (q : Nat) (a b : Dbl) : (Machine.blackBox s k r q a b).lastSlot = s.lastSlot := rfl
@[simp] theorem blackBox_stream (s : State) (k : BitVec 8) (r : BitVec 11) (q : Nat) (a b : Dbl) : (Machine.blackBox s k r q a b).stream = s.stream := rfl
@[simp] theorem blackBox_halves (s : State) (k : BitVec 8) (r : BitVec 11) (q : Nat) (a b : Dbl) : (Machine.blackBox s k r q a b).halves = s.halves := rfl
@[simp] theorem blackBox_expansions (s : State) (k : BitVec 8) (r : BitVec 11) (q : Nat) (a b : Dbl) : (Machine.blackBox s k r q a b).expansions = s.expansions := rfl
@[simp] theorem blackBox_dicts (s : State) (k : BitVec 8) (r : BitVec 11) (q : Nat) (a b : Dbl) : (Machine.blackBox s k r q a b).dicts = s.dicts := rfl
@[simp] theorem blackBox_segs (s : State) (k : BitVec 8) (r : BitVec 11) (q : Nat) (a b : Dbl) : (Machine.blackBox s k r q a b).segs = s.segs := rfl
@[simp] theorem blackBox_codeSize (s : State) (k : BitVec 8) (r : BitVec 11) (q : Nat) (a b : Dbl) : (Machine.blackBox s k r q a b).codeSize = s.codeSize := rfl
@[simp] theorem blackBox_mem (s : State) (k : BitVec 8) (r : BitVec 11) (q : Nat) (a b : Dbl) : (Machine.blackBox s k r q a b).mem = s.mem := rfl
@[simp] theorem blackBox_tags (s : State) (k : BitVec 8) (r : BitVec 11) (q : Nat) (a b : Dbl) : (Machine.blackBox s k r q a b).tags = s.tags := rfl
@[simp] theorem blackBox_copyq (s : State) (k : BitVec 8) (r : BitVec 11) (q : Nat) (a b : Dbl) : (Machine.blackBox s k r q a b).copyq = s.copyq := rfl
@[simp] theorem blackBox_engines (s : State) (k : BitVec 8) (r : BitVec 11) (q : Nat) (a b : Dbl) : (Machine.blackBox s k r q a b).engines = s.engines := rfl
@[simp] theorem blackBox_xports (s : State) (k : BitVec 8) (r : BitVec 11) (q : Nat) (a b : Dbl) : (Machine.blackBox s k r q a b).xports = s.xports := rfl
@[simp] theorem blackBox_xout (s : State) (k : BitVec 8) (r : BitVec 11) (q : Nat) (a b : Dbl) : (Machine.blackBox s k r q a b).xout = s.xout := rfl
@[simp] theorem blackBox_vault (s : State) (k : BitVec 8) (r : BitVec 11) (q : Nat) (a b : Dbl) : (Machine.blackBox s k r q a b).vault = s.vault := rfl
@[simp] theorem blackBox_error (s : State) (k : BitVec 8) (r : BitVec 11) (q : Nat) (a b : Dbl) : (Machine.blackBox s k r q a b).error = s.error := rfl
@[simp] theorem blackBox_retired (s : State) (k : BitVec 8) (r : BitVec 11) (q : Nat) (a b : Dbl) : (Machine.blackBox s k r q a b).retired = s.retired := rfl
@[simp] theorem blackBox_gate (s : State) (k : BitVec 8) (r : BitVec 11) (q : Nat) (a b : Dbl) : (Machine.blackBox s k r q a b).gate = s.gate := rfl
@[simp] theorem blackBox_stop (s : State) (k : BitVec 8) (r : BitVec 11) (q : Nat) (a b : Dbl) : (Machine.blackBox s k r q a b).stop = s.stop := rfl
@[simp] theorem blackBox_kept (s : State) (k : BitVec 8) (r : BitVec 11) (q : Nat) (a b : Dbl) : (Machine.blackBox s k r q a b).kept = s.kept := rfl
@[simp] theorem blackBox_rxjobs (s : State) (k : BitVec 8) (r : BitVec 11) (q : Nat) (a b : Dbl) : (Machine.blackBox s k r q a b).rxjobs = s.rxjobs := rfl
@[simp] theorem blackBox_reports (s : State) (k : BitVec 8) (r : BitVec 11) (q : Nat) (a b : Dbl) : (Machine.blackBox s k r q a b).reports = s.reports := rfl
@[simp] theorem blackBox_matrix (s : State) (k : BitVec 8) (r : BitVec 11) (q : Nat) (a b : Dbl) : (Machine.blackBox s k r q a b).matrix = s.matrix := rfl
@[simp] theorem blackBox_cluster (s : State) (k : BitVec 8) (r : BitVec 11) (q : Nat) (a b : Dbl) : (Machine.blackBox s k r q a b).cluster = s.cluster := rfl
@[simp] theorem blackBox_replan (s : State) (k : BitVec 8) (r : BitVec 11) (q : Nat) (a b : Dbl) : (Machine.blackBox s k r q a b).replan = s.replan := rfl
@[simp] theorem blackBox_pbarTick (s : State) (k : BitVec 8) (r : BitVec 11) (q : Nat) (a b : Dbl) : (Machine.blackBox s k r q a b).pbarTick = s.pbarTick := rfl
@[simp] theorem blackBox_buses (s : State) (k : BitVec 8) (r : BitVec 11) (q : Nat) (a b : Dbl) : (Machine.blackBox s k r q a b).buses = s.buses := rfl
@[simp] theorem blackBox_objs (s : State) (k : BitVec 8) (r : BitVec 11) (q : Nat) (a b : Dbl) : (Machine.blackBox s k r q a b).objs = s.objs := rfl
@[simp] theorem blackBox_groups (s : State) (k : BitVec 8) (r : BitVec 11) (q : Nat) (a b : Dbl) : (Machine.blackBox s k r q a b).groups = s.groups := rfl
@[simp] theorem blackBox_home (s : State) (k : BitVec 8) (r : BitVec 11) (q : Nat) (a b : Dbl) : (Machine.blackBox s k r q a b).home = s.home := rfl
@[simp] theorem blackBox_launches (s : State) (k : BitVec 8) (r : BitVec 11) (q : Nat) (a b : Dbl) : (Machine.blackBox s k r q a b).launches = s.launches := rfl
@[simp] theorem blackBox_history (s : State) (k : BitVec 8) (r : BitVec 11) (q : Nat) (a b : Dbl) : (Machine.blackBox s k r q a b).history = s.history := rfl
@[simp] theorem blackBox_lastSeq (s : State) (k : BitVec 8) (r : BitVec 11) (q : Nat) (a b : Dbl) : (Machine.blackBox s k r q a b).lastSeq = s.lastSeq := rfl
@[simp] theorem blackBox_images (s : State) (k : BitVec 8) (r : BitVec 11) (q : Nat) (a b : Dbl) : (Machine.blackBox s k r q a b).images = s.images := rfl
@[simp] theorem blackBox_hostImages (s : State) (k : BitVec 8) (r : BitVec 11) (q : Nat) (a b : Dbl) : (Machine.blackBox s k r q a b).hostImages = s.hostImages := rfl
@[simp] theorem blackBox_plans (s : State) (k : BitVec 8) (r : BitVec 11) (q : Nat) (a b : Dbl) : (Machine.blackBox s k r q a b).plans = s.plans := rfl
@[simp] theorem blackBox_fabric (s : State) (k : BitVec 8) (r : BitVec 11) (q : Nat) (a b : Dbl) : (Machine.blackBox s k r q a b).fabric = s.fabric := rfl
@[simp] theorem blackBox_pkg (s : State) (k : BitVec 8) (r : BitVec 11) (q : Nat) (a b : Dbl) : (Machine.blackBox s k r q a b).pkg = s.pkg := rfl

/-! scratchWrite -/

@[simp] theorem scratchWrite_self (s : State) (a : Nat) (l : List Byte) : (scratchWrite s a l).self = s.self := rfl
@[simp] theorem scratchWrite_cycle (s : State) (a : Nat) (l : List Byte) : (scratchWrite s a l).cycle = s.cycle := rfl
@[simp] theorem scratchWrite_time (s : State) (a : Nat) (l : List Byte) : (scratchWrite s a l).time = s.time := rfl
@[simp] theorem scratchWrite_seq (s : State) (a : Nat) (l : List Byte) : (scratchWrite s a l).seq = s.seq := rfl
@[simp] theorem scratchWrite_nextId (s : State) (a : Nat) (l : List Byte) : (scratchWrite s a l).nextId = s.nextId := rfl
@[simp] theorem scratchWrite_free (s : State) (a : Nat) (l : List Byte) : (scratchWrite s a l).free = s.free := rfl
@[simp] theorem scratchWrite_agenda (s : State) (a : Nat) (l : List Byte) : (scratchWrite s a l).agenda = s.agenda := rfl
@[simp] theorem scratchWrite_cur (s : State) (a : Nat) (l : List Byte) : (scratchWrite s a l).cur = s.cur := rfl
@[simp] theorem scratchWrite_justZero (s : State) (a : Nat) (l : List Byte) : (scratchWrite s a l).justZero = s.justZero := rfl
@[simp] theorem scratchWrite_ctxs (s : State) (a : Nat) (l : List Byte) : (scratchWrite s a l).ctxs = s.ctxs := rfl
@[simp] theorem scratchWrite_flight (s : State) (a : Nat) (l : List Byte) : (scratchWrite s a l).flight = s.flight := rfl
@[simp] theorem scratchWrite_fetches (s : State) (a : Nat) (l : List Byte) : (scratchWrite s a l).fetches = s.fetches := rfl
@[simp] theorem scratchWrite_oget (s : State) (a : Nat) (l : List Byte) : (scratchWrite s a l).oget = s.oget := rfl
@[simp] theorem scratchWrite_oset (s : State) (a : Nat) (l : List Byte) : (scratchWrite s a l).oset = s.oset := rfl
@[simp] theorem scratchWrite_ports (s : State) (a : Nat) (l : List Byte) : (scratchWrite s a l).ports = s.ports := rfl
@[simp] theorem scratchWrite_lastSlot (s : State) (a : Nat) (l : List Byte) : (scratchWrite s a l).lastSlot = s.lastSlot := rfl
@[simp] theorem scratchWrite_stream (s : State) (a : Nat) (l : List Byte) : (scratchWrite s a l).stream = s.stream := rfl
@[simp] theorem scratchWrite_halves (s : State) (a : Nat) (l : List Byte) : (scratchWrite s a l).halves = s.halves := rfl
@[simp] theorem scratchWrite_expansions (s : State) (a : Nat) (l : List Byte) : (scratchWrite s a l).expansions = s.expansions := rfl
@[simp] theorem scratchWrite_dicts (s : State) (a : Nat) (l : List Byte) : (scratchWrite s a l).dicts = s.dicts := rfl
@[simp] theorem scratchWrite_segs (s : State) (a : Nat) (l : List Byte) : (scratchWrite s a l).segs = s.segs := rfl
@[simp] theorem scratchWrite_codeSize (s : State) (a : Nat) (l : List Byte) : (scratchWrite s a l).codeSize = s.codeSize := rfl
@[simp] theorem scratchWrite_tags (s : State) (a : Nat) (l : List Byte) : (scratchWrite s a l).tags = s.tags := rfl
@[simp] theorem scratchWrite_copyq (s : State) (a : Nat) (l : List Byte) : (scratchWrite s a l).copyq = s.copyq := rfl
@[simp] theorem scratchWrite_engines (s : State) (a : Nat) (l : List Byte) : (scratchWrite s a l).engines = s.engines := rfl
@[simp] theorem scratchWrite_xports (s : State) (a : Nat) (l : List Byte) : (scratchWrite s a l).xports = s.xports := rfl
@[simp] theorem scratchWrite_xout (s : State) (a : Nat) (l : List Byte) : (scratchWrite s a l).xout = s.xout := rfl
@[simp] theorem scratchWrite_vault (s : State) (a : Nat) (l : List Byte) : (scratchWrite s a l).vault = s.vault := rfl
@[simp] theorem scratchWrite_error (s : State) (a : Nat) (l : List Byte) : (scratchWrite s a l).error = s.error := rfl
@[simp] theorem scratchWrite_retired (s : State) (a : Nat) (l : List Byte) : (scratchWrite s a l).retired = s.retired := rfl
@[simp] theorem scratchWrite_gate (s : State) (a : Nat) (l : List Byte) : (scratchWrite s a l).gate = s.gate := rfl
@[simp] theorem scratchWrite_stop (s : State) (a : Nat) (l : List Byte) : (scratchWrite s a l).stop = s.stop := rfl
@[simp] theorem scratchWrite_kept (s : State) (a : Nat) (l : List Byte) : (scratchWrite s a l).kept = s.kept := rfl
@[simp] theorem scratchWrite_rxjobs (s : State) (a : Nat) (l : List Byte) : (scratchWrite s a l).rxjobs = s.rxjobs := rfl
@[simp] theorem scratchWrite_reports (s : State) (a : Nat) (l : List Byte) : (scratchWrite s a l).reports = s.reports := rfl
@[simp] theorem scratchWrite_matrix (s : State) (a : Nat) (l : List Byte) : (scratchWrite s a l).matrix = s.matrix := rfl
@[simp] theorem scratchWrite_cluster (s : State) (a : Nat) (l : List Byte) : (scratchWrite s a l).cluster = s.cluster := rfl
@[simp] theorem scratchWrite_replan (s : State) (a : Nat) (l : List Byte) : (scratchWrite s a l).replan = s.replan := rfl
@[simp] theorem scratchWrite_pbarTick (s : State) (a : Nat) (l : List Byte) : (scratchWrite s a l).pbarTick = s.pbarTick := rfl
@[simp] theorem scratchWrite_buses (s : State) (a : Nat) (l : List Byte) : (scratchWrite s a l).buses = s.buses := rfl
@[simp] theorem scratchWrite_objs (s : State) (a : Nat) (l : List Byte) : (scratchWrite s a l).objs = s.objs := rfl
@[simp] theorem scratchWrite_groups (s : State) (a : Nat) (l : List Byte) : (scratchWrite s a l).groups = s.groups := rfl
@[simp] theorem scratchWrite_home (s : State) (a : Nat) (l : List Byte) : (scratchWrite s a l).home = s.home := rfl
@[simp] theorem scratchWrite_launches (s : State) (a : Nat) (l : List Byte) : (scratchWrite s a l).launches = s.launches := rfl
@[simp] theorem scratchWrite_history (s : State) (a : Nat) (l : List Byte) : (scratchWrite s a l).history = s.history := rfl
@[simp] theorem scratchWrite_lastSeq (s : State) (a : Nat) (l : List Byte) : (scratchWrite s a l).lastSeq = s.lastSeq := rfl
@[simp] theorem scratchWrite_images (s : State) (a : Nat) (l : List Byte) : (scratchWrite s a l).images = s.images := rfl
@[simp] theorem scratchWrite_hostImages (s : State) (a : Nat) (l : List Byte) : (scratchWrite s a l).hostImages = s.hostImages := rfl
@[simp] theorem scratchWrite_plans (s : State) (a : Nat) (l : List Byte) : (scratchWrite s a l).plans = s.plans := rfl
@[simp] theorem scratchWrite_blackBox (s : State) (a : Nat) (l : List Byte) : (scratchWrite s a l).blackBox = s.blackBox := rfl
@[simp] theorem scratchWrite_boxes (s : State) (a : Nat) (l : List Byte) : (scratchWrite s a l).boxes = s.boxes := rfl
@[simp] theorem scratchWrite_fabric (s : State) (a : Nat) (l : List Byte) : (scratchWrite s a l).fabric = s.fabric := rfl
@[simp] theorem scratchWrite_pkg (s : State) (a : Nat) (l : List Byte) : (scratchWrite s a l).pkg = s.pkg := rfl

/-! mirrorWrite -/

@[simp] theorem mirrorWrite_self (s : State) (a : Nat) (l : List Byte) : (mirrorWrite s a l).self = s.self := rfl
@[simp] theorem mirrorWrite_cycle (s : State) (a : Nat) (l : List Byte) : (mirrorWrite s a l).cycle = s.cycle := rfl
@[simp] theorem mirrorWrite_time (s : State) (a : Nat) (l : List Byte) : (mirrorWrite s a l).time = s.time := rfl
@[simp] theorem mirrorWrite_seq (s : State) (a : Nat) (l : List Byte) : (mirrorWrite s a l).seq = s.seq := rfl
@[simp] theorem mirrorWrite_nextId (s : State) (a : Nat) (l : List Byte) : (mirrorWrite s a l).nextId = s.nextId := rfl
@[simp] theorem mirrorWrite_free (s : State) (a : Nat) (l : List Byte) : (mirrorWrite s a l).free = s.free := rfl
@[simp] theorem mirrorWrite_agenda (s : State) (a : Nat) (l : List Byte) : (mirrorWrite s a l).agenda = s.agenda := rfl
@[simp] theorem mirrorWrite_cur (s : State) (a : Nat) (l : List Byte) : (mirrorWrite s a l).cur = s.cur := rfl
@[simp] theorem mirrorWrite_justZero (s : State) (a : Nat) (l : List Byte) : (mirrorWrite s a l).justZero = s.justZero := rfl
@[simp] theorem mirrorWrite_ctxs (s : State) (a : Nat) (l : List Byte) : (mirrorWrite s a l).ctxs = s.ctxs := rfl
@[simp] theorem mirrorWrite_flight (s : State) (a : Nat) (l : List Byte) : (mirrorWrite s a l).flight = s.flight := rfl
@[simp] theorem mirrorWrite_fetches (s : State) (a : Nat) (l : List Byte) : (mirrorWrite s a l).fetches = s.fetches := rfl
@[simp] theorem mirrorWrite_oget (s : State) (a : Nat) (l : List Byte) : (mirrorWrite s a l).oget = s.oget := rfl
@[simp] theorem mirrorWrite_oset (s : State) (a : Nat) (l : List Byte) : (mirrorWrite s a l).oset = s.oset := rfl
@[simp] theorem mirrorWrite_ports (s : State) (a : Nat) (l : List Byte) : (mirrorWrite s a l).ports = s.ports := rfl
@[simp] theorem mirrorWrite_lastSlot (s : State) (a : Nat) (l : List Byte) : (mirrorWrite s a l).lastSlot = s.lastSlot := rfl
@[simp] theorem mirrorWrite_stream (s : State) (a : Nat) (l : List Byte) : (mirrorWrite s a l).stream = s.stream := rfl
@[simp] theorem mirrorWrite_halves (s : State) (a : Nat) (l : List Byte) : (mirrorWrite s a l).halves = s.halves := rfl
@[simp] theorem mirrorWrite_expansions (s : State) (a : Nat) (l : List Byte) : (mirrorWrite s a l).expansions = s.expansions := rfl
@[simp] theorem mirrorWrite_dicts (s : State) (a : Nat) (l : List Byte) : (mirrorWrite s a l).dicts = s.dicts := rfl
@[simp] theorem mirrorWrite_segs (s : State) (a : Nat) (l : List Byte) : (mirrorWrite s a l).segs = s.segs := rfl
@[simp] theorem mirrorWrite_codeSize (s : State) (a : Nat) (l : List Byte) : (mirrorWrite s a l).codeSize = s.codeSize := rfl
@[simp] theorem mirrorWrite_tags (s : State) (a : Nat) (l : List Byte) : (mirrorWrite s a l).tags = s.tags := rfl
@[simp] theorem mirrorWrite_copyq (s : State) (a : Nat) (l : List Byte) : (mirrorWrite s a l).copyq = s.copyq := rfl
@[simp] theorem mirrorWrite_engines (s : State) (a : Nat) (l : List Byte) : (mirrorWrite s a l).engines = s.engines := rfl
@[simp] theorem mirrorWrite_xports (s : State) (a : Nat) (l : List Byte) : (mirrorWrite s a l).xports = s.xports := rfl
@[simp] theorem mirrorWrite_xout (s : State) (a : Nat) (l : List Byte) : (mirrorWrite s a l).xout = s.xout := rfl
@[simp] theorem mirrorWrite_vault (s : State) (a : Nat) (l : List Byte) : (mirrorWrite s a l).vault = s.vault := rfl
@[simp] theorem mirrorWrite_error (s : State) (a : Nat) (l : List Byte) : (mirrorWrite s a l).error = s.error := rfl
@[simp] theorem mirrorWrite_retired (s : State) (a : Nat) (l : List Byte) : (mirrorWrite s a l).retired = s.retired := rfl
@[simp] theorem mirrorWrite_gate (s : State) (a : Nat) (l : List Byte) : (mirrorWrite s a l).gate = s.gate := rfl
@[simp] theorem mirrorWrite_stop (s : State) (a : Nat) (l : List Byte) : (mirrorWrite s a l).stop = s.stop := rfl
@[simp] theorem mirrorWrite_kept (s : State) (a : Nat) (l : List Byte) : (mirrorWrite s a l).kept = s.kept := rfl
@[simp] theorem mirrorWrite_rxjobs (s : State) (a : Nat) (l : List Byte) : (mirrorWrite s a l).rxjobs = s.rxjobs := rfl
@[simp] theorem mirrorWrite_reports (s : State) (a : Nat) (l : List Byte) : (mirrorWrite s a l).reports = s.reports := rfl
@[simp] theorem mirrorWrite_matrix (s : State) (a : Nat) (l : List Byte) : (mirrorWrite s a l).matrix = s.matrix := rfl
@[simp] theorem mirrorWrite_cluster (s : State) (a : Nat) (l : List Byte) : (mirrorWrite s a l).cluster = s.cluster := rfl
@[simp] theorem mirrorWrite_replan (s : State) (a : Nat) (l : List Byte) : (mirrorWrite s a l).replan = s.replan := rfl
@[simp] theorem mirrorWrite_pbarTick (s : State) (a : Nat) (l : List Byte) : (mirrorWrite s a l).pbarTick = s.pbarTick := rfl
@[simp] theorem mirrorWrite_buses (s : State) (a : Nat) (l : List Byte) : (mirrorWrite s a l).buses = s.buses := rfl
@[simp] theorem mirrorWrite_objs (s : State) (a : Nat) (l : List Byte) : (mirrorWrite s a l).objs = s.objs := rfl
@[simp] theorem mirrorWrite_groups (s : State) (a : Nat) (l : List Byte) : (mirrorWrite s a l).groups = s.groups := rfl
@[simp] theorem mirrorWrite_home (s : State) (a : Nat) (l : List Byte) : (mirrorWrite s a l).home = s.home := rfl
@[simp] theorem mirrorWrite_launches (s : State) (a : Nat) (l : List Byte) : (mirrorWrite s a l).launches = s.launches := rfl
@[simp] theorem mirrorWrite_history (s : State) (a : Nat) (l : List Byte) : (mirrorWrite s a l).history = s.history := rfl
@[simp] theorem mirrorWrite_lastSeq (s : State) (a : Nat) (l : List Byte) : (mirrorWrite s a l).lastSeq = s.lastSeq := rfl
@[simp] theorem mirrorWrite_images (s : State) (a : Nat) (l : List Byte) : (mirrorWrite s a l).images = s.images := rfl
@[simp] theorem mirrorWrite_hostImages (s : State) (a : Nat) (l : List Byte) : (mirrorWrite s a l).hostImages = s.hostImages := rfl
@[simp] theorem mirrorWrite_plans (s : State) (a : Nat) (l : List Byte) : (mirrorWrite s a l).plans = s.plans := rfl
@[simp] theorem mirrorWrite_blackBox (s : State) (a : Nat) (l : List Byte) : (mirrorWrite s a l).blackBox = s.blackBox := rfl
@[simp] theorem mirrorWrite_boxes (s : State) (a : Nat) (l : List Byte) : (mirrorWrite s a l).boxes = s.boxes := rfl
@[simp] theorem mirrorWrite_fabric (s : State) (a : Nat) (l : List Byte) : (mirrorWrite s a l).fabric = s.fabric := rfl
@[simp] theorem mirrorWrite_pkg (s : State) (a : Nat) (l : List Byte) : (mirrorWrite s a l).pkg = s.pkg := rfl

/-! setBus -/

@[simp] theorem setBus_self (b : BitVec 2) (x : Bus) (s : State) : (setBus b x s).self = s.self := rfl
@[simp] theorem setBus_cycle (b : BitVec 2) (x : Bus) (s : State) : (setBus b x s).cycle = s.cycle := rfl
@[simp] theorem setBus_time (b : BitVec 2) (x : Bus) (s : State) : (setBus b x s).time = s.time := rfl
@[simp] theorem setBus_seq (b : BitVec 2) (x : Bus) (s : State) : (setBus b x s).seq = s.seq := rfl
@[simp] theorem setBus_nextId (b : BitVec 2) (x : Bus) (s : State) : (setBus b x s).nextId = s.nextId := rfl
@[simp] theorem setBus_free (b : BitVec 2) (x : Bus) (s : State) : (setBus b x s).free = s.free := rfl
@[simp] theorem setBus_agenda (b : BitVec 2) (x : Bus) (s : State) : (setBus b x s).agenda = s.agenda := rfl
@[simp] theorem setBus_cur (b : BitVec 2) (x : Bus) (s : State) : (setBus b x s).cur = s.cur := rfl
@[simp] theorem setBus_justZero (b : BitVec 2) (x : Bus) (s : State) : (setBus b x s).justZero = s.justZero := rfl
@[simp] theorem setBus_ctxs (b : BitVec 2) (x : Bus) (s : State) : (setBus b x s).ctxs = s.ctxs := rfl
@[simp] theorem setBus_flight (b : BitVec 2) (x : Bus) (s : State) : (setBus b x s).flight = s.flight := rfl
@[simp] theorem setBus_fetches (b : BitVec 2) (x : Bus) (s : State) : (setBus b x s).fetches = s.fetches := rfl
@[simp] theorem setBus_oget (b : BitVec 2) (x : Bus) (s : State) : (setBus b x s).oget = s.oget := rfl
@[simp] theorem setBus_oset (b : BitVec 2) (x : Bus) (s : State) : (setBus b x s).oset = s.oset := rfl
@[simp] theorem setBus_ports (b : BitVec 2) (x : Bus) (s : State) : (setBus b x s).ports = s.ports := rfl
@[simp] theorem setBus_lastSlot (b : BitVec 2) (x : Bus) (s : State) : (setBus b x s).lastSlot = s.lastSlot := rfl
@[simp] theorem setBus_stream (b : BitVec 2) (x : Bus) (s : State) : (setBus b x s).stream = s.stream := rfl
@[simp] theorem setBus_halves (b : BitVec 2) (x : Bus) (s : State) : (setBus b x s).halves = s.halves := rfl
@[simp] theorem setBus_expansions (b : BitVec 2) (x : Bus) (s : State) : (setBus b x s).expansions = s.expansions := rfl
@[simp] theorem setBus_dicts (b : BitVec 2) (x : Bus) (s : State) : (setBus b x s).dicts = s.dicts := rfl
@[simp] theorem setBus_segs (b : BitVec 2) (x : Bus) (s : State) : (setBus b x s).segs = s.segs := rfl
@[simp] theorem setBus_codeSize (b : BitVec 2) (x : Bus) (s : State) : (setBus b x s).codeSize = s.codeSize := rfl
@[simp] theorem setBus_mem (b : BitVec 2) (x : Bus) (s : State) : (setBus b x s).mem = s.mem := rfl
@[simp] theorem setBus_tags (b : BitVec 2) (x : Bus) (s : State) : (setBus b x s).tags = s.tags := rfl
@[simp] theorem setBus_copyq (b : BitVec 2) (x : Bus) (s : State) : (setBus b x s).copyq = s.copyq := rfl
@[simp] theorem setBus_engines (b : BitVec 2) (x : Bus) (s : State) : (setBus b x s).engines = s.engines := rfl
@[simp] theorem setBus_xports (b : BitVec 2) (x : Bus) (s : State) : (setBus b x s).xports = s.xports := rfl
@[simp] theorem setBus_xout (b : BitVec 2) (x : Bus) (s : State) : (setBus b x s).xout = s.xout := rfl
@[simp] theorem setBus_vault (b : BitVec 2) (x : Bus) (s : State) : (setBus b x s).vault = s.vault := rfl
@[simp] theorem setBus_error (b : BitVec 2) (x : Bus) (s : State) : (setBus b x s).error = s.error := rfl
@[simp] theorem setBus_retired (b : BitVec 2) (x : Bus) (s : State) : (setBus b x s).retired = s.retired := rfl
@[simp] theorem setBus_gate (b : BitVec 2) (x : Bus) (s : State) : (setBus b x s).gate = s.gate := rfl
@[simp] theorem setBus_stop (b : BitVec 2) (x : Bus) (s : State) : (setBus b x s).stop = s.stop := rfl
@[simp] theorem setBus_kept (b : BitVec 2) (x : Bus) (s : State) : (setBus b x s).kept = s.kept := rfl
@[simp] theorem setBus_rxjobs (b : BitVec 2) (x : Bus) (s : State) : (setBus b x s).rxjobs = s.rxjobs := rfl
@[simp] theorem setBus_reports (b : BitVec 2) (x : Bus) (s : State) : (setBus b x s).reports = s.reports := rfl
@[simp] theorem setBus_matrix (b : BitVec 2) (x : Bus) (s : State) : (setBus b x s).matrix = s.matrix := rfl
@[simp] theorem setBus_cluster (b : BitVec 2) (x : Bus) (s : State) : (setBus b x s).cluster = s.cluster := rfl
@[simp] theorem setBus_replan (b : BitVec 2) (x : Bus) (s : State) : (setBus b x s).replan = s.replan := rfl
@[simp] theorem setBus_pbarTick (b : BitVec 2) (x : Bus) (s : State) : (setBus b x s).pbarTick = s.pbarTick := rfl
@[simp] theorem setBus_objs (b : BitVec 2) (x : Bus) (s : State) : (setBus b x s).objs = s.objs := rfl
@[simp] theorem setBus_groups (b : BitVec 2) (x : Bus) (s : State) : (setBus b x s).groups = s.groups := rfl
@[simp] theorem setBus_home (b : BitVec 2) (x : Bus) (s : State) : (setBus b x s).home = s.home := rfl
@[simp] theorem setBus_launches (b : BitVec 2) (x : Bus) (s : State) : (setBus b x s).launches = s.launches := rfl
@[simp] theorem setBus_history (b : BitVec 2) (x : Bus) (s : State) : (setBus b x s).history = s.history := rfl
@[simp] theorem setBus_lastSeq (b : BitVec 2) (x : Bus) (s : State) : (setBus b x s).lastSeq = s.lastSeq := rfl
@[simp] theorem setBus_images (b : BitVec 2) (x : Bus) (s : State) : (setBus b x s).images = s.images := rfl
@[simp] theorem setBus_hostImages (b : BitVec 2) (x : Bus) (s : State) : (setBus b x s).hostImages = s.hostImages := rfl
@[simp] theorem setBus_plans (b : BitVec 2) (x : Bus) (s : State) : (setBus b x s).plans = s.plans := rfl
@[simp] theorem setBus_blackBox (b : BitVec 2) (x : Bus) (s : State) : (setBus b x s).blackBox = s.blackBox := rfl
@[simp] theorem setBus_boxes (b : BitVec 2) (x : Bus) (s : State) : (setBus b x s).boxes = s.boxes := rfl
@[simp] theorem setBus_fabric (b : BitVec 2) (x : Bus) (s : State) : (setBus b x s).fabric = s.fabric := rfl
@[simp] theorem setBus_pkg (b : BitVec 2) (x : Bus) (s : State) : (setBus b x s).pkg = s.pkg := rfl

/-! takePort -/

@[simp] theorem takePort_self (q : BitVec 2) (w : Bool) (n : Nat) (s : State) : (takePort q w n s).self = s.self := rfl
@[simp] theorem takePort_cycle (q : BitVec 2) (w : Bool) (n : Nat) (s : State) : (takePort q w n s).cycle = s.cycle := rfl
@[simp] theorem takePort_time (q : BitVec 2) (w : Bool) (n : Nat) (s : State) : (takePort q w n s).time = s.time := rfl
@[simp] theorem takePort_seq (q : BitVec 2) (w : Bool) (n : Nat) (s : State) : (takePort q w n s).seq = s.seq := rfl
@[simp] theorem takePort_nextId (q : BitVec 2) (w : Bool) (n : Nat) (s : State) : (takePort q w n s).nextId = s.nextId := rfl
@[simp] theorem takePort_free (q : BitVec 2) (w : Bool) (n : Nat) (s : State) : (takePort q w n s).free = s.free := rfl
@[simp] theorem takePort_agenda (q : BitVec 2) (w : Bool) (n : Nat) (s : State) : (takePort q w n s).agenda = s.agenda := rfl
@[simp] theorem takePort_cur (q : BitVec 2) (w : Bool) (n : Nat) (s : State) : (takePort q w n s).cur = s.cur := rfl
@[simp] theorem takePort_justZero (q : BitVec 2) (w : Bool) (n : Nat) (s : State) : (takePort q w n s).justZero = s.justZero := rfl
@[simp] theorem takePort_ctxs (q : BitVec 2) (w : Bool) (n : Nat) (s : State) : (takePort q w n s).ctxs = s.ctxs := rfl
@[simp] theorem takePort_flight (q : BitVec 2) (w : Bool) (n : Nat) (s : State) : (takePort q w n s).flight = s.flight := rfl
@[simp] theorem takePort_fetches (q : BitVec 2) (w : Bool) (n : Nat) (s : State) : (takePort q w n s).fetches = s.fetches := rfl
@[simp] theorem takePort_oget (q : BitVec 2) (w : Bool) (n : Nat) (s : State) : (takePort q w n s).oget = s.oget := rfl
@[simp] theorem takePort_oset (q : BitVec 2) (w : Bool) (n : Nat) (s : State) : (takePort q w n s).oset = s.oset := rfl
@[simp] theorem takePort_lastSlot (q : BitVec 2) (w : Bool) (n : Nat) (s : State) : (takePort q w n s).lastSlot = s.lastSlot := rfl
@[simp] theorem takePort_stream (q : BitVec 2) (w : Bool) (n : Nat) (s : State) : (takePort q w n s).stream = s.stream := rfl
@[simp] theorem takePort_halves (q : BitVec 2) (w : Bool) (n : Nat) (s : State) : (takePort q w n s).halves = s.halves := rfl
@[simp] theorem takePort_expansions (q : BitVec 2) (w : Bool) (n : Nat) (s : State) : (takePort q w n s).expansions = s.expansions := rfl
@[simp] theorem takePort_dicts (q : BitVec 2) (w : Bool) (n : Nat) (s : State) : (takePort q w n s).dicts = s.dicts := rfl
@[simp] theorem takePort_segs (q : BitVec 2) (w : Bool) (n : Nat) (s : State) : (takePort q w n s).segs = s.segs := rfl
@[simp] theorem takePort_codeSize (q : BitVec 2) (w : Bool) (n : Nat) (s : State) : (takePort q w n s).codeSize = s.codeSize := rfl
@[simp] theorem takePort_mem (q : BitVec 2) (w : Bool) (n : Nat) (s : State) : (takePort q w n s).mem = s.mem := rfl
@[simp] theorem takePort_tags (q : BitVec 2) (w : Bool) (n : Nat) (s : State) : (takePort q w n s).tags = s.tags := rfl
@[simp] theorem takePort_copyq (q : BitVec 2) (w : Bool) (n : Nat) (s : State) : (takePort q w n s).copyq = s.copyq := rfl
@[simp] theorem takePort_engines (q : BitVec 2) (w : Bool) (n : Nat) (s : State) : (takePort q w n s).engines = s.engines := rfl
@[simp] theorem takePort_xports (q : BitVec 2) (w : Bool) (n : Nat) (s : State) : (takePort q w n s).xports = s.xports := rfl
@[simp] theorem takePort_xout (q : BitVec 2) (w : Bool) (n : Nat) (s : State) : (takePort q w n s).xout = s.xout := rfl
@[simp] theorem takePort_vault (q : BitVec 2) (w : Bool) (n : Nat) (s : State) : (takePort q w n s).vault = s.vault := rfl
@[simp] theorem takePort_error (q : BitVec 2) (w : Bool) (n : Nat) (s : State) : (takePort q w n s).error = s.error := rfl
@[simp] theorem takePort_retired (q : BitVec 2) (w : Bool) (n : Nat) (s : State) : (takePort q w n s).retired = s.retired := rfl
@[simp] theorem takePort_gate (q : BitVec 2) (w : Bool) (n : Nat) (s : State) : (takePort q w n s).gate = s.gate := rfl
@[simp] theorem takePort_stop (q : BitVec 2) (w : Bool) (n : Nat) (s : State) : (takePort q w n s).stop = s.stop := rfl
@[simp] theorem takePort_kept (q : BitVec 2) (w : Bool) (n : Nat) (s : State) : (takePort q w n s).kept = s.kept := rfl
@[simp] theorem takePort_rxjobs (q : BitVec 2) (w : Bool) (n : Nat) (s : State) : (takePort q w n s).rxjobs = s.rxjobs := rfl
@[simp] theorem takePort_reports (q : BitVec 2) (w : Bool) (n : Nat) (s : State) : (takePort q w n s).reports = s.reports := rfl
@[simp] theorem takePort_matrix (q : BitVec 2) (w : Bool) (n : Nat) (s : State) : (takePort q w n s).matrix = s.matrix := rfl
@[simp] theorem takePort_cluster (q : BitVec 2) (w : Bool) (n : Nat) (s : State) : (takePort q w n s).cluster = s.cluster := rfl
@[simp] theorem takePort_replan (q : BitVec 2) (w : Bool) (n : Nat) (s : State) : (takePort q w n s).replan = s.replan := rfl
@[simp] theorem takePort_pbarTick (q : BitVec 2) (w : Bool) (n : Nat) (s : State) : (takePort q w n s).pbarTick = s.pbarTick := rfl
@[simp] theorem takePort_buses (q : BitVec 2) (w : Bool) (n : Nat) (s : State) : (takePort q w n s).buses = s.buses := rfl
@[simp] theorem takePort_objs (q : BitVec 2) (w : Bool) (n : Nat) (s : State) : (takePort q w n s).objs = s.objs := rfl
@[simp] theorem takePort_groups (q : BitVec 2) (w : Bool) (n : Nat) (s : State) : (takePort q w n s).groups = s.groups := rfl
@[simp] theorem takePort_home (q : BitVec 2) (w : Bool) (n : Nat) (s : State) : (takePort q w n s).home = s.home := rfl
@[simp] theorem takePort_launches (q : BitVec 2) (w : Bool) (n : Nat) (s : State) : (takePort q w n s).launches = s.launches := rfl
@[simp] theorem takePort_history (q : BitVec 2) (w : Bool) (n : Nat) (s : State) : (takePort q w n s).history = s.history := rfl
@[simp] theorem takePort_lastSeq (q : BitVec 2) (w : Bool) (n : Nat) (s : State) : (takePort q w n s).lastSeq = s.lastSeq := rfl
@[simp] theorem takePort_images (q : BitVec 2) (w : Bool) (n : Nat) (s : State) : (takePort q w n s).images = s.images := rfl
@[simp] theorem takePort_hostImages (q : BitVec 2) (w : Bool) (n : Nat) (s : State) : (takePort q w n s).hostImages = s.hostImages := rfl
@[simp] theorem takePort_plans (q : BitVec 2) (w : Bool) (n : Nat) (s : State) : (takePort q w n s).plans = s.plans := rfl
@[simp] theorem takePort_blackBox (q : BitVec 2) (w : Bool) (n : Nat) (s : State) : (takePort q w n s).blackBox = s.blackBox := rfl
@[simp] theorem takePort_boxes (q : BitVec 2) (w : Bool) (n : Nat) (s : State) : (takePort q w n s).boxes = s.boxes := rfl
@[simp] theorem takePort_fabric (q : BitVec 2) (w : Bool) (n : Nat) (s : State) : (takePort q w n s).fabric = s.fabric := rfl
@[simp] theorem takePort_pkg (q : BitVec 2) (w : Bool) (n : Nat) (s : State) : (takePort q w n s).pkg = s.pkg := rfl

/-! transfer -/

@[simp] theorem transfer_self (v : Dbl) (g : Nat) (s : State) : (transfer v g s).self = s.self := rfl
@[simp] theorem transfer_cycle (v : Dbl) (g : Nat) (s : State) : (transfer v g s).cycle = s.cycle := rfl
@[simp] theorem transfer_time (v : Dbl) (g : Nat) (s : State) : (transfer v g s).time = s.time := rfl
@[simp] theorem transfer_seq (v : Dbl) (g : Nat) (s : State) : (transfer v g s).seq = s.seq := rfl
@[simp] theorem transfer_nextId (v : Dbl) (g : Nat) (s : State) : (transfer v g s).nextId = s.nextId := rfl
@[simp] theorem transfer_free (v : Dbl) (g : Nat) (s : State) : (transfer v g s).free = s.free := rfl
@[simp] theorem transfer_agenda (v : Dbl) (g : Nat) (s : State) : (transfer v g s).agenda = s.agenda := rfl
@[simp] theorem transfer_justZero (v : Dbl) (g : Nat) (s : State) : (transfer v g s).justZero = s.justZero := rfl
@[simp] theorem transfer_ctxs (v : Dbl) (g : Nat) (s : State) : (transfer v g s).ctxs = s.ctxs := rfl
@[simp] theorem transfer_flight (v : Dbl) (g : Nat) (s : State) : (transfer v g s).flight = s.flight := rfl
@[simp] theorem transfer_fetches (v : Dbl) (g : Nat) (s : State) : (transfer v g s).fetches = s.fetches := rfl
@[simp] theorem transfer_oget (v : Dbl) (g : Nat) (s : State) : (transfer v g s).oget = s.oget := rfl
@[simp] theorem transfer_oset (v : Dbl) (g : Nat) (s : State) : (transfer v g s).oset = s.oset := rfl
@[simp] theorem transfer_ports (v : Dbl) (g : Nat) (s : State) : (transfer v g s).ports = s.ports := rfl
@[simp] theorem transfer_lastSlot (v : Dbl) (g : Nat) (s : State) : (transfer v g s).lastSlot = s.lastSlot := rfl
@[simp] theorem transfer_stream (v : Dbl) (g : Nat) (s : State) : (transfer v g s).stream = s.stream := rfl
@[simp] theorem transfer_halves (v : Dbl) (g : Nat) (s : State) : (transfer v g s).halves = s.halves := rfl
@[simp] theorem transfer_expansions (v : Dbl) (g : Nat) (s : State) : (transfer v g s).expansions = s.expansions := rfl
@[simp] theorem transfer_dicts (v : Dbl) (g : Nat) (s : State) : (transfer v g s).dicts = s.dicts := rfl
@[simp] theorem transfer_segs (v : Dbl) (g : Nat) (s : State) : (transfer v g s).segs = s.segs := rfl
@[simp] theorem transfer_codeSize (v : Dbl) (g : Nat) (s : State) : (transfer v g s).codeSize = s.codeSize := rfl
@[simp] theorem transfer_mem (v : Dbl) (g : Nat) (s : State) : (transfer v g s).mem = s.mem := rfl
@[simp] theorem transfer_tags (v : Dbl) (g : Nat) (s : State) : (transfer v g s).tags = s.tags := rfl
@[simp] theorem transfer_copyq (v : Dbl) (g : Nat) (s : State) : (transfer v g s).copyq = s.copyq := rfl
@[simp] theorem transfer_engines (v : Dbl) (g : Nat) (s : State) : (transfer v g s).engines = s.engines := rfl
@[simp] theorem transfer_xports (v : Dbl) (g : Nat) (s : State) : (transfer v g s).xports = s.xports := rfl
@[simp] theorem transfer_xout (v : Dbl) (g : Nat) (s : State) : (transfer v g s).xout = s.xout := rfl
@[simp] theorem transfer_vault (v : Dbl) (g : Nat) (s : State) : (transfer v g s).vault = s.vault := rfl
@[simp] theorem transfer_error (v : Dbl) (g : Nat) (s : State) : (transfer v g s).error = s.error := rfl
@[simp] theorem transfer_retired (v : Dbl) (g : Nat) (s : State) : (transfer v g s).retired = s.retired := rfl
@[simp] theorem transfer_gate (v : Dbl) (g : Nat) (s : State) : (transfer v g s).gate = s.gate := rfl
@[simp] theorem transfer_stop (v : Dbl) (g : Nat) (s : State) : (transfer v g s).stop = s.stop := rfl
@[simp] theorem transfer_kept (v : Dbl) (g : Nat) (s : State) : (transfer v g s).kept = s.kept := rfl
@[simp] theorem transfer_rxjobs (v : Dbl) (g : Nat) (s : State) : (transfer v g s).rxjobs = s.rxjobs := rfl
@[simp] theorem transfer_reports (v : Dbl) (g : Nat) (s : State) : (transfer v g s).reports = s.reports := rfl
@[simp] theorem transfer_matrix (v : Dbl) (g : Nat) (s : State) : (transfer v g s).matrix = s.matrix := rfl
@[simp] theorem transfer_cluster (v : Dbl) (g : Nat) (s : State) : (transfer v g s).cluster = s.cluster := rfl
@[simp] theorem transfer_replan (v : Dbl) (g : Nat) (s : State) : (transfer v g s).replan = s.replan := rfl
@[simp] theorem transfer_pbarTick (v : Dbl) (g : Nat) (s : State) : (transfer v g s).pbarTick = s.pbarTick := rfl
@[simp] theorem transfer_buses (v : Dbl) (g : Nat) (s : State) : (transfer v g s).buses = s.buses := rfl
@[simp] theorem transfer_objs (v : Dbl) (g : Nat) (s : State) : (transfer v g s).objs = s.objs := rfl
@[simp] theorem transfer_groups (v : Dbl) (g : Nat) (s : State) : (transfer v g s).groups = s.groups := rfl
@[simp] theorem transfer_home (v : Dbl) (g : Nat) (s : State) : (transfer v g s).home = s.home := rfl
@[simp] theorem transfer_launches (v : Dbl) (g : Nat) (s : State) : (transfer v g s).launches = s.launches := rfl
@[simp] theorem transfer_history (v : Dbl) (g : Nat) (s : State) : (transfer v g s).history = s.history := rfl
@[simp] theorem transfer_lastSeq (v : Dbl) (g : Nat) (s : State) : (transfer v g s).lastSeq = s.lastSeq := rfl
@[simp] theorem transfer_images (v : Dbl) (g : Nat) (s : State) : (transfer v g s).images = s.images := rfl
@[simp] theorem transfer_hostImages (v : Dbl) (g : Nat) (s : State) : (transfer v g s).hostImages = s.hostImages := rfl
@[simp] theorem transfer_plans (v : Dbl) (g : Nat) (s : State) : (transfer v g s).plans = s.plans := rfl
@[simp] theorem transfer_blackBox (v : Dbl) (g : Nat) (s : State) : (transfer v g s).blackBox = s.blackBox := rfl
@[simp] theorem transfer_boxes (v : Dbl) (g : Nat) (s : State) : (transfer v g s).boxes = s.boxes := rfl
@[simp] theorem transfer_fabric (v : Dbl) (g : Nat) (s : State) : (transfer v g s).fabric = s.fabric := rfl
@[simp] theorem transfer_pkg (v : Dbl) (g : Nat) (s : State) : (transfer v g s).pkg = s.pkg := rfl

/-! Reads of what was written -/

/-- A context just put in its place is read back. -/
@[simp] theorem getCtx_setCtx_self (s : State) (c : CtxId) (x : Ctx) : getCtx (setCtx s c x) c = x := SMap.get_set_self _ _ _ _

/-- Another context than the one put in its place is as before. -/
theorem getCtx_setCtx_ne (s : State) {c d : CtxId} (h : d ≠ c) (x : Ctx) : getCtx (setCtx s c x) d = getCtx s d :=
  SMap.get_set_ne _ _ (fun e => h (BitVec.eq_of_toNat_eq e.symm)) _

/-- A context after another, or the same, is put in its place. -/
theorem getCtx_setCtx (s : State) (c d : CtxId) (x : Ctx) :
    getCtx (setCtx s c x) d = if d = c then x else getCtx s d := by
  split
  · subst_vars; simp
  · exact getCtx_setCtx_ne s ‹_› x

/-- The contexts of a state are those of its list. -/
theorem getCtx_congr {s t : State} (h : t.ctxs = s.ctxs) (c : CtxId) : getCtx t c = getCtx s c := by unfold getCtx; rw [h]

/-- The issuing context just put in its place is read back. -/
@[simp] theorem cx_setCx (s : State) (x : Ctx) : cx (setCx s x) = x := getCtx_setCtx_self s s.cur.ctx x

@[simp] theorem sent_flight (s : State) (l : List Out) : (s.sent l).flight = s.flight ++ l.map (Out.toFlight s) := rfl
@[simp] theorem sent_cur_ctx (s : State) (l : List Out) : (s.sent l).cur.ctx = s.cur.ctx := rfl
@[simp] theorem sent_cur_trap (s : State) (l : List Out) : (s.sent l).cur.trap = s.cur.trap := rfl
@[simp] theorem cx_sent (s : State) (l : List Out) : cx (s.sent l) = cx s := rfl
@[simp] theorem getCtx_sent (s : State) (l : List Out) (c : CtxId) : getCtx (s.sent l) c = getCtx s c := rfl
@[simp] theorem getCtx_blackBox (s : State) (k : BitVec 8) (r : BitVec 11) (q : Nat) (a b : Dbl) (c : CtxId) :
    getCtx (Machine.blackBox s k r q a b) c = getCtx s c := rfl
@[simp] theorem getCtx_scratchWrite (s : State) (a : Nat) (l : List Byte) (c : CtxId) :
    getCtx (scratchWrite s a l) c = getCtx s c := rfl
@[simp] theorem getCtx_setBus (b : BitVec 2) (x : Bus) (s : State) (c : CtxId) : getCtx (setBus b x s) c = getCtx s c := rfl
@[simp] theorem scratchWrite_mem (s : State) (a : Nat) (l : List Byte) :
    (scratchWrite s a l).mem = memWrite s.mem (keyScratch s.me a) l := rfl
@[simp] theorem mirrorWrite_mem (s : State) (a : Nat) (l : List Byte) :
    (mirrorWrite s a l).mem = memWrite s.mem (keyMirror s.me a) l := rfl

/-- A bus just put in its place is read back. -/
@[simp] theorem getBus_setBus_self (b : BitVec 2) (x : Bus) (s : State) : getBus (setBus b x s) b = x := SMap.get_set_self _ _ _ _

/-- Another bus than the one put in its place is as before. -/
theorem getBus_setBus_ne {b d : BitVec 2} (h : d ≠ b) (x : Bus) (s : State) : getBus (setBus b x s) d = getBus s d :=
  SMap.get_set_ne _ _ (fun e => h (BitVec.eq_of_toNat_eq e.symm)) _

/-- A bank just put in its place is read back. -/
@[simp] theorem getBank_setBank_self (v : Vault) (n : Nat) (b : VBank) : getBank (setBank v n b) n = b := SMap.get_set_self _ _ _ _
/-- Another bank than the one put in its place is as before. -/
theorem getBank_setBank_ne (v : Vault) {n m : Nat} (h : m ≠ n) (b : VBank) : getBank (setBank v n b) m = getBank v m :=
  SMap.get_set_ne _ _ (Ne.symm h) _
@[simp] theorem getTier_setBank (v : Vault) (n m : Nat) (b : VBank) : getTier (setBank v n b) m = getTier v m := rfl
/-- A tier just put in its place is read back. -/
@[simp] theorem getTier_setTier_self (v : Vault) (n : Nat) (b : VTier) : getTier (setTier v n b) n = b := SMap.get_set_self _ _ _ _
/-- Another tier than the one put in its place is as before. -/
theorem getTier_setTier_ne (v : Vault) {n m : Nat} (h : m ≠ n) (b : VTier) : getTier (setTier v n b) m = getTier v m :=
  SMap.get_set_ne _ _ (Ne.symm h) _
@[simp] theorem getBank_setTier (v : Vault) (n m : Nat) (b : VTier) : getBank (setTier v n b) m = getBank v m := rfl

/-- An array just put in its place is read back. -/
@[simp] theorem getArr_setArr_self (m : Matrix) (a : BitVec 2) (x : MArray) : getArr (setArr m a x) a = x := SMap.get_set_self _ _ _ _
/-- Another array than the one put in its place is as before. -/
theorem getArr_setArr_ne (m : Matrix) {a b : BitVec 2} (h : b ≠ a) (x : MArray) : getArr (setArr m a x) b = getArr m b :=
  SMap.get_set_ne _ _ (fun e => h (BitVec.eq_of_toNat_eq e.symm)) _

/-- A sync object just put in its place is read back. -/
@[simp] theorem getObj_setObj_self (o : Nat) (x : SyncObj) (s : State) : getObj (setObj o x s) o = x := SMap.get_set_self _ _ _ _
/-- A port just put in its place is read back. -/
@[simp] theorem getPort_setPort_self (p : BitVec 4) (x : PortSt) (s : State) : getPort (setPort p x s) p = x :=
  SMap.get_set_self _ _ _ _

/-- A launch just put in its slot is read back. -/
theorem getLaunch_put (s : State) (k : Nat) (l : Launch) :
    getLaunch { s with launches := SMap.put s.launches k l } k = some l := by
  unfold getLaunch; rw [SMap.find_put]; rfl
/-- A launch moved is read back from its slot. -/
@[simp] theorem getLaunch_moveLaunch (k : Nat) (l : Launch) (s : State) : getLaunch (moveLaunch k l s) k = some l := by
  unfold moveLaunch; dsimp only; (repeat' split) <;> exact getLaunch_put s k l

/-- An entry of a table with a value put in it is that value or an entry from before. -/
theorem SMap.mem_put {α : Type} (m : List (Nat × α)) (i : Nat) (x : α) {p : Nat × α} (h : p ∈ SMap.put m i x) :
    p = (i, x) ∨ p ∈ m := by
  induction m with
  | nil => simpa [SMap.put] using h
  | cons a t ih =>
    obtain ⟨k, v⟩ := a
    unfold SMap.put at h
    split at h
    · simpa using h
    · split at h
      · rcases List.mem_cons.1 h with h | h
        · exact .inl h
        · exact .inr (List.mem_cons_of_mem _ h)
      · rcases List.mem_cons.1 h with h | h
        · exact .inr (h ▸ List.mem_cons_self)
        · exact (ih h).imp_right (List.mem_cons_of_mem _)

/-- The next entry of a black-box record stays one of its 1,022, in this die's record and in the others (R433). -/
theorem blackBox_next (s : State) (k : BitVec 8) (r : BitVec 11) (q : Nat) (a b : Dbl) (h : s.blackBox.next < 1022) :
    (Machine.blackBox s k r q a b).blackBox.next < 1022 := by
  change (if _ then _ else _ : BlackBox).next < 1022
  split
  · exact Nat.mod_lt _ (by decide)
  · exact h
theorem blackBox_rings (s : State) (k : BitVec 8) (r : BitVec 11) (q : Nat) (a b : Dbl)
    (h : ∀ p ∈ s.boxes, p.2.next < 1022) : ∀ p ∈ (Machine.blackBox s k r q a b).boxes, p.2.next < 1022 := by
  intro p hp
  change p ∈ (if _ then _ else _ : List (Nat × BlackBox)) at hp
  split at hp
  · exact h p hp
  · rcases SMap.mem_put _ _ _ hp with rfl | hp
    · exact Nat.mod_lt _ (by decide)
    · exact h p hp

end Sys2Proof.Machine
end

