-- ==== Sys2Proof/Laws/Ops.lean ====
section
/-! SUPPORT. What the shared operations can do, said once: the issue of a word, the taking of an exception, waits, the
release buffer, tags and queues. -/

namespace Sys2Proof.Machine

/-! Causes -/

/-- No cause is picked exactly when there is none. -/
theorem pickCause_none : {l : List Cause} → pickCause l = none ↔ l = []
  | [] => by simp [pickCause]
  | c :: t => by
    simp only [pickCause]
    split
    · split <;> simp
    · simp

/-- The cause picked is one of the list. -/
theorem pickCause_mem {c : Cause} : {l : List Cause} → pickCause l = some c → c ∈ l
  | [], h => by simp [pickCause] at h
  | d :: t, h => by
    simp only [pickCause] at h
    split at h
    · rename_i e he
      split at h
      · simp only [Option.some.injEq] at h; subst h; exact List.mem_cons_of_mem _ (pickCause_mem he)
      · simp only [Option.some.injEq] at h; subst h; exact List.mem_cons_self
    · simp only [Option.some.injEq] at h; subst h; exact List.mem_cons_self

/-- A first cause that no later one precedes in class is picked. -/
theorem pickCause_head {c : Cause} {t : List Cause} (h : ∀ d, d ∈ t → c.cls ≤ d.cls) : pickCause (c :: t) = some c := by
  simp only [pickCause]
  split
  · rename_i d hd
    rw [if_neg (Nat.not_lt.mpr (h d (pickCause_mem hd)))]
  · rfl

/-- A bundle that finds room in the snapshot buffer raises no SNAPSHOT_FULL (R129). -/
theorem snapCause_room {s : State} {n : Nat} (h : n = 0 ∨ s.roomFor n) : snapCause s n = [] := by
  unfold snapCause failIf State.roomFor at *
  simp only [Bool.and_eq_true, decide_eq_true_eq]
  rw [if_neg]; omega

/-- Every cause of a full snapshot buffer is of class 4 (R118). -/
theorem snapCause_cls {s : State} {n : Nat} {d : Cause} (h : d ∈ snapCause s n) : d.cls = 4 := by
  unfold snapCause failIf at h
  split at h <;> simp_all

/-! The issue of a word (R12, R118, R119, R129) -/

/-- A word without causes, whose results find room, puts them in flight and has its other effects. -/
theorem issue_next (s : State) (outs : List Out) (eff : State → State) (h : needOf outs = 0 ∨ s.roomFor (needOf outs)) :
    issue s [] outs eff = eff (s.sent outs) := by
  unfold issue
  simp only [List.nil_append]
  change (match pickCause (snapCause s (needOf outs)) with | some c => _ | none => _) = _
  rw [snapCause_room h]
  simp [pickCause, State.sent, needOf]

/-- A word with causes traps with the one that is picked. -/
theorem issue_trap (s : State) (cs : List Cause) (outs : List Out) (eff : State → State) (c : Cause)
    (h : pickCause (cs ++ snapCause s (needOf outs)) = some c) :
    (issue s cs outs eff).cur.trap = some (c.cls, c.code, c.tval) := by
  unfold issue
  change (match pickCause (cs ++ snapCause s (needOf outs)) with | some c => _ | none => _ : State).cur.trap = _
  rw [h]; rfl

/-- A word whose first cause no other precedes in class traps with it. -/
theorem issue_trap_head (s : State) (c : Cause) (t : List Cause) (outs : List Out) (eff : State → State)
    (h : ∀ d, d ∈ t → c.cls ≤ d.cls) (hs : c.cls ≤ 4 ∨ needOf outs = 0 ∨ s.roomFor (needOf outs)) :
    (issue s (c :: t) outs eff).cur.trap = some (c.cls, c.code, c.tval) := by
  refine issue_trap s _ outs eff c (pickCause_head (fun d hd => ?_))
  rcases List.mem_append.mp hd with hd | hd
  · exact h d hd
  · rcases hs with hs | hs
    · rw [snapCause_cls hd]; exact hs
    · rw [snapCause_room hs] at hd; simp at hd

/-- What the issue of a word gives: a trap, or its results in flight and its effects. -/
theorem issue_cases (s : State) (cs : List Cause) (outs : List Out) (eff : State → State) :
    (∃ c u, issue s cs outs eff = trapWord u c ∧ u.mem = s.mem ∧ u.ctxs = s.ctxs ∧ u.blackBox = s.blackBox ∧ u.cur.ctx = s.cur.ctx ∧
      u.cur.addr = s.cur.addr ∧ u.cycle = s.cycle ∧ u.self = s.self) ∨
    (cs = [] ∧ issue s cs outs eff = eff (s.sent outs)) := by
  by_cases h : pickCause (cs ++ snapCause s (needOf outs)) = none
  · right
    have h2 := pickCause_none.mp h
    have h3 : cs = [] := (List.append_eq_nil_iff.mp h2).1
    have h4 : snapCause s (needOf outs) = [] := (List.append_eq_nil_iff.mp h2).2
    subst h3
    refine ⟨rfl, ?_⟩
    unfold issue
    simp only [List.nil_append]
    change (match pickCause (snapCause s (needOf outs)) with | some c => _ | none => _) = _
    rw [h4]
    simp [pickCause, State.sent, needOf]
  · left
    obtain ⟨c, hc⟩ := Option.ne_none_iff_exists'.mp h
    refine ⟨c, { s with cur := { s.cur with
      snapNeed := s.cur.snapNeed + needOf outs,
      draws := if outs.any Out.draws then s.cur.draws ++ [s.cur.slot] else s.cur.draws } },
      ?_, rfl, rfl, rfl, rfl, rfl, rfl, rfl⟩
    unfold issue
    change (match pickCause (cs ++ snapCause s (needOf outs)) with | some c => _ | none => _) = _
    rw [hc]; rfl

/-! Taking an exception (R119 to R125) -/

@[simp] theorem freeze_mem (s : State) (c : CtxId) (k : BitVec 8) (v : Dbl) : (freeze s c k v).mem = s.mem := by
  unfold freeze; split <;> rfl
@[simp] theorem freeze_ctxs (s : State) (c : CtxId) (k : BitVec 8) (v : Dbl) : (freeze s c k v).ctxs = s.ctxs := by
  unfold freeze; split <;> rfl
@[simp] theorem freeze_cur (s : State) (c : CtxId) (k : BitVec 8) (v : Dbl) : (freeze s c k v).cur = s.cur := by
  unfold freeze; split <;> rfl
@[simp] theorem freeze_blackBox (s : State) (c : CtxId) (k : BitVec 8) (v : Dbl) : (freeze s c k v).blackBox = s.blackBox := by
  unfold freeze; split <;> rfl
@[simp] theorem capture_mem (s : State) (c : CtxId) (t : Nat) (r : SMap Row) : (capture s c t r).mem = s.mem := rfl
@[simp] theorem capture_cur (s : State) (c : CtxId) (t : Nat) (r : SMap Row) : (capture s c t r).cur = s.cur := rfl
@[simp] theorem capture_blackBox (s : State) (c : CtxId) (t : Nat) (r : SMap Row) : (capture s c t r).blackBox = s.blackBox := rfl
@[simp] theorem holdAt_mem (s : State) (c : CtxId) (a : Dbl) : (holdAt s c a).mem = s.mem := rfl
@[simp] theorem holdAt_cur (s : State) (c : CtxId) (a : Dbl) : (holdAt s c a).cur = s.cur := rfl
@[simp] theorem holdAt_blackBox (s : State) (c : CtxId) (a : Dbl) : (holdAt s c a).blackBox = s.blackBox := rfl
@[simp] theorem escalate_mem (s : State) (c : CtxId) (k : BitVec 8) (a : Dbl) : (escalate s c k a).mem = s.mem := rfl
@[simp] theorem escalate_cur (s : State) (c : CtxId) (k : BitVec 8) (a : Dbl) : (escalate s c k a).cur = s.cur := rfl

/-- Taking an exception changes no memory (R119). -/
@[simp] theorem deliver_mem (s : State) (c : CtxId) (k : BitVec 8) (v a : Dbl) (t : Nat) (z : Ctx) :
    (deliver s c k v a t z).mem = s.mem := by
  unfold deliver; dsimp only
  split
  · simp
  · split
    · simp
    · split
      · simp
      · split <;> simp

/-- Taking an exception leaves the record of the word being issued alone. -/
@[simp] theorem deliver_cur (s : State) (c : CtxId) (k : BitVec 8) (v a : Dbl) (t : Nat) (z : Ctx) :
    (deliver s c k v a t z).cur = s.cur := by
  unfold deliver; dsimp only
  split
  · simp
  · split
    · simp
    · split
      · simp
      · split <;> simp

/-- Captured results are those of one context. -/
theorem getCtx_capture_ne (s : State) {c d : CtxId} (h : d ≠ c) (t : Nat) (r : SMap Row) :
    getCtx (capture s c t r) d = getCtx s d := by
  unfold capture; exact getCtx_setCtx_ne s h _
/-- A context held is the one named. -/
theorem getCtx_holdAt_ne (s : State) {c d : CtxId} (h : d ≠ c) (a : Dbl) : getCtx (holdAt s c a) d = getCtx s d :=
  getCtx_setCtx_ne s h _
/-- An escalation changes the context named. -/
theorem getCtx_escalate_ne (s : State) {c d : CtxId} (h : d ≠ c) (k : BitVec 8) (a : Dbl) :
    getCtx (escalate s c k a) d = getCtx s d := by
  unfold escalate; simp only [getCtx_blackBox]; rw [getCtx_holdAt_ne _ h, getCtx_setCtx_ne _ h]

/-- Taking an exception changes no other context (R119). -/
theorem getCtx_deliver_ne (s : State) {c d : CtxId} (h : d ≠ c) (k : BitVec 8) (v a : Dbl) (t : Nat) (z : Ctx) :
    getCtx (deliver s c k v a t z) d = getCtx s d := by
  have hf : ∀ w, getCtx (setCtx (freeze s c k v) c w) d = getCtx s d := fun w => by
    rw [getCtx_setCtx_ne _ h]; exact getCtx_congr (freeze_ctxs s c k v) d
  unfold deliver; dsimp only
  split
  · rw [getCtx_escalate_ne _ h]; exact getCtx_congr (freeze_ctxs s c k v) d
  · split
    · rw [getCtx_holdAt_ne _ h, getCtx_capture_ne _ h, hf]
    · split
      · rw [getCtx_escalate_ne _ h, getCtx_capture_ne _ h, hf]
      · split
        · rw [getCtx_escalate_ne _ h, getCtx_capture_ne _ h, hf]
        · rw [getCtx_setCtx_ne _ h, getCtx_capture_ne _ h, hf]

@[simp] theorem trapWord_mem (s : State) (c : Cause) : (trapWord s c).mem = s.mem := deliver_mem _ _ _ _ _ _ _
@[simp] theorem trapWord_trap (s : State) (c : Cause) : (trapWord s c).cur.trap = some (c.cls, c.code, c.tval) := rfl

/-- The issue of a word changes no memory, if its other effects do not. -/
theorem issue_mem (s : State) (cs : List Cause) (outs : List Out) (eff : State → State) (h : ∀ u, (eff u).mem = u.mem) :
    (issue s cs outs eff).mem = s.mem := by
  rcases issue_cases s cs outs eff with ⟨c, u, e, hm, _⟩ | ⟨_, e⟩
  · rw [e, trapWord_mem, hm]
  · rw [e, h]; rfl

/-- The issue of a word with results alone changes no memory. -/
@[simp] theorem results_mem (s : State) (outs : List Out) : (results s outs).mem = s.mem := issue_mem s [] outs id (fun _ => rfl)

/-! Waits, the release buffer, tags, queues -/

@[simp] theorem waitFor_mem (s : State) (w : Wait) : (waitFor s w).mem = s.mem := rfl
@[simp] theorem cx_waitFor (s : State) (w : Wait) :
    cx (waitFor s w) = { cx s with st := .blocked, waits := (cx s).waits ++ [w], blockedAt := s.cycle } := by
  have h : ∀ (y : Ctx) (k : Cur), k.ctx = s.cur.ctx → cx { setCx s y with cur := k } = y := fun y k e => by
    unfold cx; rw [e]; exact getCtx_setCtx_self s s.cur.ctx y
  exact h _ _ rfl
@[simp] theorem enterRel_mem (op : AccOp) (q : Option (BitVec 2)) (s : State) : (enterRel op q s).mem = s.mem := by
  unfold enterRel; cases q <;> rfl
@[simp] theorem leaveNow_mem (op : AccOp) (q : Option (BitVec 2)) (s : State) : (leaveNow op q s).mem = s.mem := by
  unfold leaveNow; cases q <;> rfl

/-- The release buffer takes an operation behind the others (R265). -/
theorem cx_enterRel (op : AccOp) (q : Option (BitVec 2)) (s : State) :
    cx (enterRel op q s) = (let x := { cx s with rel := (cx s).rel ++ [{ id := s.nextId, op := op }] };
      match q with | some k => owe k s.nextId x | none => x) := by
  unfold enterRel cx setCx; cases q <;> simp

/-- An operation that leaves at its issue stands behind those that have left (R292, R361). -/
theorem cx_leaveNow (op : AccOp) (q : Option (BitVec 2)) (s : State) :
    cx (leaveNow op q s) = (let x := { cx s with out := (cx s).out ++ [{ id := s.nextId, op := op, tick := takenAt s }] };
      match q with | some k => owe k s.nextId x | none => x) := by
  unfold leaveNow cx setCx; cases q <;> simp

@[simp] theorem tagUp_mem (t : BitVec 6) (s : State) : (tagUp t s).mem = s.mem := rfl
@[simp] theorem tagUp_ctxs (t : BitVec 6) (s : State) : (tagUp t s).ctxs = s.ctxs := rfl
@[simp] theorem cx_tagUp (t : BitVec 6) (s : State) : cx (tagUp t s) = cx s := rfl
@[simp] theorem tagDown_mem (t : BitVec 6) (s : State) : (tagDown t s).mem = s.mem := by unfold tagDown; dsimp only; split <;> rfl
@[simp] theorem tagDown_ctxs (t : BitVec 6) (s : State) : (tagDown t s).ctxs = s.ctxs := by
  unfold tagDown; dsimp only; split <;> rfl

/-- A tag's count falls by 1, and stays at 0 (R286). -/
theorem tagCount_tagDown (t : BitVec 6) (s : State) : tagCount (tagDown t s) t.toNat = tagCount s t.toNat - 1 := by
  unfold tagDown tagCount; dsimp only
  split
  · rename_i h; rw [h]; rfl
  · rename_i h
    rw [SMap.get_set_self]
    have : (SMap.get 0 s.tags t.toNat).toNat ≠ 0 := fun e => h (BitVec.eq_of_toNat_eq e)
    have one : (1 : BitVec 8).toNat = 1 := rfl
    rw [BitVec.toNat_sub_of_le (by rw [BitVec.le_def, one]; omega), one]

/-- A tag's count below 255 rises by 1 (R286). -/
theorem tagCount_tagUp (t : BitVec 6) (s : State) (h : tagCount s t.toNat < 255) :
    tagCount (tagUp t s) t.toNat = tagCount s t.toNat + 1 := by
  unfold tagUp tagCount at *
  have one : (1 : BitVec 8).toNat = 1 := rfl
  rw [SMap.get_set_self, BitVec.toNat_add, one]; omega

end Sys2Proof.Machine
end

