-- ==== Sys2Proof/Tests/Slice0.lean ====
section
/-! SUPPORT. Tests: the states and witnesses that meet the hypotheses of the statements, the decoding of words written out
from the encoding tables, the refusal of ill-formed instructions, and the results of single words worked out by hand. -/

set_option maxRecDepth 100000
set_option exponentiation.threshold 20000

namespace Sys2Proof
open Sys2Proof.Machine

/-! The states that the tests stand on. -/

/-- What the plan of the tests has on core 0. -/
def tRes : CoreRes :=
  { sect := 1, core := 0, ctxs := 2, prim := true, entries := [0, 0], thand := 64, sbase := 0x10000, ssize := 0x10000,
    mbase := 0x100000, msize := 0x10000, owned := 1, served := 0x10000, tags := 0xF, mwords := 64, ranges := [],
    cbase := 0, clen := 65536, csize := 65536 }
/-- A timed plan on cluster 0. -/
def tPlan : Plan :=
  { seq := 7, timed := true, matrix := true, optical := true, clusters := [0], res := [tRes], groups := [1], objs := [1],
    routes := [], replan := [], hostWins := [(0, 2 ^ 20)] }
/-- Its primary context, which runs in slot 0. -/
def tCtx : Ctx := { st := .running, slot := some 0, plan := 7, primary := true, bank := { pc := 12, thand := 64, mown := true } }
/-- A word of the primary context is about to be issued at address 12, in cycle 10. -/
def t0 : State :=
  { State.reset with
    cycle := 10, time := 5 * Config.ns, plans := [tPlan], codeSize := 65536,
    segs := [(7, [{ cbase := 0, npkt := 100, hdr := 3072, dict := 0, next := 0xFFFFFFFF }])],
    ctxs := [(0, tCtx)], cur := { addr := 12, npc := 16 } }
/-- The issuing context changed. -/
def onX (f : Ctx → Ctx) (s : State) : State := setCx s (f (cx s))
/-- Its bank changed. -/
def onB (f : Bank → Bank) (s : State) : State := onX (fun x => { x with bank := f x.bank }) s
/-- A scalar set. -/
def setS (i : Nat) (v : Dbl) (s : State) : State := onB (fun b => { b with s := SMap.put b.s i v }) s
/-- A row set. -/
def setV (i : Nat) (g : Tag) (d : BitVec 2048) (s : State) : State := onX (fun x => { x with v := SMap.put x.v i { tag := g, data := d } }) s
/-- A shape record set. -/
def setH (i : Nat) (h : BitVec 256) (s : State) : State := onB (fun b => { b with h := SMap.put b.h i h }) s
/-- A result of the issuing context in flight. -/
def tFlight (r : Res) : Flight := { ctx := 0, land := 11, seq := 0, slot := 0, res := r, fp := 0, mx := 0 }
/-- So many scalar results in flight. -/
def crowd (n : Nat) (s : State) : State := { s with flight := List.replicate n (tFlight (.scalar 1 0)) }

/-! Witnesses of the hypotheses, at the edge of their range. -/

/-- The snapshot buffer has room for as many results as the statements ask, and for none more. -/
theorem witness_roomFor :
    (crowd 63 t0).roomFor 1 ∧ (crowd 62 t0).roomFor 2 ∧ (crowd 57 t0).roomFor 7 ∧ (crowd 54 t0).roomFor 10 ∧
    ¬ (crowd 64 t0).roomFor 1 := by
  unfold State.roomFor; decide
theorem witness_ScalarDivisionResults :
    let s := setS 1 0x8000000000000000 (setS 2 0xFFFFFFFFFFFFFFFF (setS 3 0x100000000 t0))
    s.roomFor 1 ∧ rs s 2 ≠ 0 ∧ (rs s 2).setWidth 32 ≠ (0 : BitVec 32) ∧ rs s 4 = 0 ∧ rs s 3 ≠ 0 ∧ (rs s 3).setWidth 32 = (0 : BitVec 32) := by
  unfold State.roomFor; decide
theorem witness_ScalarFloatDraws :
    let s := onB (fun b => { b with fpcsr := 4 }) (crowd 62 t0)
    s.roomFor 2 ∧ (cx s).bank.fpcsr.toNat % 8 = 4 ∧ (cx t0).bank.fpcsr.toNat % 8 ≠ 4 := by
  unfold State.roomFor; decide
theorem witness_FloatCompare : (crowd 63 t0).roomFor 1 ∧ (3 : BitVec 3).toNat < 4 ∧ (0 : BitVec 5) = 0 := by
  unfold State.roomFor; decide
theorem witness_ControlRegisterWrites :
    let s := setS 1 2 (setS 2 4 (setS 3 3 (setS 4 5 t0)))
    s.roomFor 1 ∧ (7 : BitVec 6) ≠ 8 ∧ (9 : BitVec 6) ≠ 10 ∧ (rs s 1).extractLsb' 0 2 ≠ 3 ∧ ((rs s 2).extractLsb' 0 3).ule 4 = true ∧
    (rs s 3).extractLsb' 0 2 = 3 ∧ ((rs s 4).extractLsb' 0 3).ult 5 = false := by
  unfold State.roomFor; decide
theorem witness_QueuePops :
    let s := onX (fun x => { x with queues := [(3, [(5, 9)])] }) (crowd 62 t0)
    s.roomFor 2 ∧ queueOf (cx s) 3 = (5, 9) :: [] ∧ queueOf (cx s) 0 = [] := by
  unfold State.roomFor; decide
theorem witness_QueueDelivery :
    let o : Owed := { q := 3, id := 4, val := some 6, cyc := 9 }
    let x : Ctx := { tCtx with owed := [o], queues := [(3, List.replicate (Config.queueDepth 3 - 1) (5, 9))] }
    let y : Ctx := { x with queues := [(3, List.replicate (Config.queueDepth 3) (5, 9))] }
    let z : Ctx := { x with owed := [{ o with val := none }] }
    let s := onX (fun _ => x) t0
    (getCtx s 0).owed = [o] ∧ o.q = 3 ∧ o.val = some 6 ∧ o.cyc + 1 ≤ s.cycle ∧
    (queueOf (getCtx s 0) 3).length + arrivingIn (getCtx s 0) 3 < Config.queueDepth 3 ∧
    Config.queueDepth 3 ≤ (queueOf (getCtx (onX (fun _ => y) t0) 0) 3).length + arrivingIn y 3 ∧
    (getCtx (onX (fun _ => z) t0) 0).owed = [{ o with val := none }] := by decide
theorem witness_BranchResults :
    t0.roomFor 1 ∧ rp t0 0 = true ∧ rp t0 0 ≠ false ∧ codeCause t0 (cx t0).plan (t0.cur.addr + (BitVec.ofInt 18 (-3)).signExtend 64 * 4) = none ∧
    codeCause t0 (cx t0).plan (t0.cur.addr + (296 : BitVec 18).signExtend 64 * 4) = none := by
  unfold State.roomFor; decide
theorem witness_TransferTargetChecks :
    let s := setS 1 2 (setS 2 1200 t0)
    (rs s 1).toNat % 4 ≠ 0 ∧ (rs s 2).toNat % 4 = 0 ∧ segAt s (cx s).plan (rs s 2).toNat = none ∧ s.cur.addr.toNat % 4 = 0 ∧
    rp s 0 ≠ false ∧ segAt s (cx s).plan (s.cur.addr + (297 : BitVec 18).signExtend 64 * 4).toNat = none ∧ rp s 0 = true := by decide
theorem witness_LoopResults :
    let s := setS 1 1 (setS 2 2 (crowd 62 t0))
    s.roomFor 2 ∧ rs s 0 = 0 ∧ rs s 1 = 1 ∧ 1 < (rs s 2).toNat ∧ codeCause s (cx s).plan (s.cur.addr + (0 : BitVec 18).signExtend 64 * 4) = none := by
  unfold State.roomFor; decide
theorem witness_RotationRegisters : tCtx.wrote.contains 6 = false ∧ tCtx.wrote.contains 7 = false := by decide
theorem witness_IndirectJumps :
    let s := setS 1 1196 (setS 63 0 t0)
    codeCause s (cx s).plan (rs s 1) = none ∧ codeCause s (cx s).plan (rs s 63) = none := by decide
/-- Two ranges of 16 MiB, the first of them writable, with their home in this package. -/
def tRange (s : State) : State :=
  onX (fun x => { x with rga := [(0, 0xC000000000000000), (1, 0x8000000001000000)], rgb := [(0, 0x100), (1, 0x100)] }) s
theorem witness_FenceHostAndWriteSignal :
    let s := setS 1 (2 ^ 20 - 8) (setS 2 0x10000 (setS 3 0x100 (onX (fun x => { x with rel := List.replicate 63 { id := 1, op := .gfence } }) (tRange t0))))
    hostChecks s (rs s 1).toNat = [] ∧ (cx s).rel.length < 64 ∧ gwsChecks s (rs s 4) (rs s 2) (rs s 3) = [] := by decide
theorem witness_UserTrapEntry :
    let s := onB (fun b => { b with inh := true }) t0
    let u := onB (fun b => { b with thand := 0 }) t0
    let w := onB (fun b => { b with thand := 2 }) t0
    (nextCx t0).wrote = [] ∧ (nextCx t0).bank.thand = (cx t0).bank.thand ∧ (nextCx s).wrote = [] ∧ (nextCx u).wrote = [] ∧
    (nextCx w).wrote = [] ∧ (cx t0).bank.inh = false ∧ (cx t0).bank.thand ≠ 0 ∧
    codeCause t0 (cx t0).plan (cx t0).bank.thand = none ∧ (cx s).bank.inh = true ∧ (cx u).bank.inh = false ∧ (cx u).bank.thand = 0 ∧
    (cx w).bank.inh = false ∧ (codeCause w (cx w).plan (cx w).bank.thand).isSome = true := by decide
theorem witness_SystemCall :
    let f := fun (p : Nat) (x : Ctx) => ({ x with rerun := { phase := p, start := 3, len1 := 7 } } : Ctx)
    let s := onX (f 1) t0
    let u := onX (f 2) t0
    let w := onX (fun x => { f 2 x with rerun := { (f 2 x).rerun with sig1 := BitVec.allOnes 64 } }) t0
    (cx t0).rerun.phase = 0 ∧ (cx t0).wrote = [] ∧ (cx s).rerun.phase = 1 ∧ (cx s).xch = false ∧
    (cx u).rerun.phase = 2 ∧ (cx u).rerun.sig ≠ (cx u).rerun.sig1 ∧ (cx w).rerun.phase = 2 ∧ w.cycle - (cx w).rerun.start = (cx w).rerun.len1 ∧
    (cx w).rerun.sig = (cx w).rerun.sig1 := by decide
theorem witness_ExceptionEntry :
    let s := onB (fun b => { b with inh := true }) t0
    let u := onB (fun b => { b with thand := 0 }) t0
    toSupervisor 0x15 = false ∧ (getCtx t0 0).wrote = [] ∧ (getCtx t0 0).bank.inh = false ∧ (getCtx t0 0).bank.thand ≠ 0 ∧
    codeCause t0 (getCtx t0 0).plan (getCtx t0 0).bank.thand = none ∧ (getCtx s 0).bank.inh = true ∧ (getCtx s 0).wrote = [] ∧
    (getCtx u 0).bank.inh = false ∧ (getCtx u 0).bank.thand = 0 ∧ (getCtx u 0).wrote = [] := by decide
theorem witness_HandlerReturn :
    let s := onB (fun b => { b with inh := true, tpc := 1196 }) t0
    let u := onB (fun b => { b with inh := true, tpc := 2 }) t0
    (cx s).bank.inh = true ∧ codeCause s (cx s).plan (cx s).bank.tpc = none ∧ (cx t0).bank.inh = false ∧
    (cx u).bank.inh = true ∧ (cx u).bank.tpc.toNat % 4 ≠ 0 := by decide
theorem witness_AsynchronousCauses :
    let s := onX (fun x => { x with pend := { miss := some 5 } }) t0
    let u := onX (fun x => { x with pend := { pre := true }, bank := { x.bank with inh := true } }) t0
    let w := onB (fun b => { b with inh := true }) t0
    let p := fun (q : Pend) (h : Dbl) => onX (fun x => { x with pend := q, bank := { x.bank with thand := h } }) t0
    let b := onX (fun x => { x with st := .blocked, pend := { refo := some 1, late := some 2 } }) t0
    (∀ v ∈ [s, u, w, p { refo := some 1 } 1196, p { late := some 2 } 0, p { atom := some 4 } 1196, p { atom := some 4 } 0, p { atom := some 4 } 2],
      (getCtx v 0).st = .running ∧ (getCtx v 0).slot ≠ none ∧ timeOk v (getCtx v 0) = true ∧ v.retired = false ∧ (getCtx v 0).wrote = []) ∧
    (getCtx b 0).st = .blocked ∧ (getCtx b 0).slot ≠ none ∧ timeOk b (getCtx b 0) = true ∧ b.retired = false ∧ (getCtx b 0).bank.inh = false ∧
    codeCause (p { atom := some 4 } 1196) (getCtx t0 0).plan 1196 = none ∧ codeCause (p { atom := some 4 } 2) (getCtx t0 0).plan 2 = some 0x10 ∧
    (getCtx (p { atom := some 4 } 0) 0).bank.inh = false ∧ (getCtx (p { atom := some 4 } 0) 0).pend = { atom := some 4 } ∧
    (getCtx u 0).pend = { pre := true } ∧ (getCtx w 0).pend = {} ∧
    (getCtx s 0).bank.inh = false ∧ (getCtx s 0).pend.refo = none ∧ (getCtx s 0).pend.late = none ∧ (getCtx s 0).pend.miss = some 5 ∧
    (getCtx u 0).pend.pre = true ∧ (getCtx u 0).bank.inh = true ∧ (getCtx w 0).pend.pre = false ∧ (getCtx w 0).bank.inh = true := by decide
/-- The last doubleword of the window, and the first byte beyond it. -/
theorem witness_ScratchAccess :
    let s := setS 1 0x1FFF8 (crowd 63 t0)
    let p := (rs s 1 + (0 : BitVec 11).signExtend 64).toNat
    (8, Instr.ldd 0 1 0) ∈ [(1, Instr.ldb 0 1 0), (2, .ldh 0 1 0), (4, .ldw 0 1 0), (8, .ldd 0 1 0)] ∧
    (8, Instr.std 0 1 0) ∈ [(1, Instr.stb 0 1 0), (2, .sth 0 1 0), (4, .stw 0 1 0), (8, .std 0 1 0)] ∧
    s.roomFor 1 ∧ p % 8 = 0 ∧ inScratch s (cx s).plan p 8 = true ∧ portHolder s (quadOf p) false s.cycle = none ∧
    portHolder s (quadOf p) true (s.cycle + 2) = none := by
  refine ⟨by simp, by simp, ?_⟩
  unfold State.roomFor; decide
theorem witness_ScratchAccessTraps :
    let s := setS 1 0x1FFF9 (crowd 63 t0)
    let u := setS 1 0x20000 t0
    let w := setS 1 0x10000 { t0 with ports := [{ cycle := 10, quad := 0, write := false, holder := 1 }] }
    s.roomFor 1 ∧ (rs s 1 + (0 : BitVec 11).signExtend 64).toNat % 8 ≠ 0 ∧ (rs u 1).toNat % 8 = 0 ∧
    inScratch u (cx u).plan (rs u 1).toNat 8 = false ∧ (rs w 1).toNat % 8 = 0 ∧ inScratch w (cx w).plan (rs w 1).toNat 8 = true ∧
    portHolder w (quadOf (rs w 1).toNat) false w.cycle = some 1 := by
  unfold State.roomFor; decide
theorem witness_RowAndRecordAccess :
    let s := setS 1 0x1FF00 (setS 2 0x1FFE0 (setV 8 3 0 (crowd 63 t0)))
    let p := (rs s 1).toNat
    let q := (rs s 2).toNat
    s.roomFor 1 ∧ p % 256 = 0 ∧ inScratch s (cx s).plan p 256 = true ∧ portHolder s (quadOf p) false s.cycle = none ∧
    portHolder s (quadOf p) true (s.cycle + 2) = none ∧ (rv s 8).tag ≠ 15 ∧ (rv s 9).tag = 15 ∧ q % 32 = 0 ∧
    inScratch s (cx s).plan q 32 = true ∧ portHolder s (quadOf q) false s.cycle = none ∧
    portHolder s (quadOf q) true (s.cycle + 2) = none := by
  unfold State.roomFor; decide
theorem witness_MirrorAccess :
    let s := setS 1 0x1FF00 (setS 2 0x10FF00 (setS 3 0x10FFF8 (crowd 63 t0)))
    let p := (rs s 1).toNat
    let o := (rs s 2).toNat
    let e := (rs s 3).toNat
    s.roomFor 1 ∧ e % 8 = 0 ∧ mirrorReserved s e 8 = false ∧ inMirror s (cx s).plan e 8 = true ∧ p % 256 = 0 ∧
    inScratch s (cx s).plan p 256 = true ∧ o % 256 = 0 ∧ mirrorReserved s o 256 = false ∧ inMirror s (cx s).plan o 256 = true ∧
    portHolder s (quadOf p) true (s.cycle + 24) = none ∧ portHolder s (quadOf p) false s.cycle = none := by
  unfold State.roomFor; decide
theorem witness_StoreReachesMemory :
    let s := setS 1 0x1FFF8 t0
    s.flight = [] ∧ s.fetches = [] ∧ (∀ c, (getCtx s c).replayAt = none) ∧
    ∃ t, exec (.std 2 1 0) s = .next t ∧ t.cur.trap = none := by
  refine ⟨rfl, rfl, by decide, _, rfl, by decide⟩
theorem witness_SumReachesRegister :
    t0.flight = [] ∧ t0.fetches = [] ∧ (∀ c, (getCtx t0 c).replayAt = none) ∧
    ∃ t, exec (.add 2 1 1 true) t0 = .next t ∧ t.cur.trap = none := by
  refine ⟨rfl, rfl, by decide, _, rfl, by decide⟩
theorem witness_StoreLanding :
    (tFlight (.scratch 0x10000 [1, 2])).res = .scratch 0x10000 [1, 2] ∧ (tFlight (.mirror 0x100000 [3])).res = .mirror 0x100000 [3] :=
  ⟨rfl, rfl⟩
theorem witness_VectorArithmeticCompletes :
    let s := setV 8 4 0 (setV 9 4 0 (setV 10 4 0 (setV 11 4 0 (crowd 62 t0))))
    let u := setV 8 1 0 (setV 9 1 0 (setV 10 1 0 t0))
    s.roomFor 2 ∧ (rv s 8).tag = 4 ∧ (rv s 9).tag = 4 ∧ (rv s 10).tag = 4 ∧ tagArith 4 = true ∧ (rv s (groupRow 10 1)).tag = 4 ∧
    rotSpan (cx s).bank 10 2 = false ∧ u.roomFor 2 ∧ (rv u 8).tag = 1 ∧ (rv u 9).tag = 1 ∧ (rv u 10).tag = 1 ∧ tagInt 1 = true := by
  unfold State.roomFor; decide
theorem witness_VectorIntegerLanes :
    let s := setV 8 3 0 (setV 9 3 0 (setV 10 3 0 (crowd 63 t0)))
    s.roomFor 1 ∧ tagInt 3 = true ∧ (rv s 8).tag = 3 ∧ (rv s 9).tag = 3 ∧ (rv s 10).tag = 3 := by
  unfold State.roomFor; decide
theorem witness_VectorBitwiseCompletes :
    let s := setV 8 0 0 (setV 9 13 0 (setV 10 4 0 (crowd 63 t0)))
    s.roomFor 1 ∧ (rv s 8).tag = 0 ∧ (rv s 9).tag = 13 ∧ tagAny 0 = true ∧ tagAny 13 = true ∧ (rv s 10).tag = 4 ∧ tagArith 4 = true := by
  unfold State.roomFor; decide
theorem witness_MaskResults :
    let s := setV 8 3 0 (setV 9 3 0 (crowd 63 t0))
    s.roomFor 1 ∧ (15 : BitVec 4) ≠ 0 ∧ (rv s 8).tag = (rv s 9).tag ∧ tagArith (rv s 8).tag = true ∧ (rv s 8).tag = 3 ∧
    (5 : BitVec 3).toNat < 6 := by
  unfold State.roomFor; decide
theorem witness_RetagKeepsBits :
    let s := setV 8 13 0 (crowd 63 t0)
    s.roomFor 1 ∧ tagAny (rv s 8).tag = true ∧ (13 : Tag).toNat < 14 ∧ 14 ≤ (14 : Tag).toNat ∧ (1 : Rm) ≠ 0 := by
  unfold State.roomFor; decide
/-- FP32 to FP16 and back, FP32 to an MX format, FP32 to FP8, and an MX format to FP32. -/
theorem witness_VectorConversionsComplete :
    let s := setV 8 4 0 (setV 9 4 0 (setV 10 4 0 (setV 11 4 0 (crowd 54 t0))))
    let u := setV 8 9 0 (setV 9 0 0 t0)
    s.roomFor 10 ∧ (rv s 8).tag = 4 ∧ 1 ≤ (8 : Tag).toNat ∧ (8 : Tag).toNat ≤ 8 ∧
    needRun s 8 (max 1 (tagLanes 8 / tagLanes 4)) (fun u => decide (1 ≤ u.toNat) && decide (u.toNat ≤ 8)) = [] ∧
    rotSpan (cx s).bank 8 4 = false ∧ tagMx 10 = true ∧ needRun s 8 (max 1 (tagLanes 10 / tagLanes 4)) tagFp = [] ∧
    rotSpan (cx s).bank 20 2 = false ∧ needRun s 8 (max 1 (tagLanes 7 / tagLanes 4)) tagFp = [] ∧
    u.roomFor 10 ∧ tagFp 4 = true ∧ tagMx (rv u 8).tag = true ∧ (rv u (groupRow 8 1)).tag = 0 ∧ rotSpan (cx u).bank 8 2 = false := by
  unfold State.roomFor; decide
theorem witness_SpecialFunctionsComplete :
    let s := setV 8 5 0 (setV 9 5 0 (crowd 62 t0))
    (5, Instr.vsqrt 9 8 3 0) ∈ [(0, Instr.vexp2 9 8 3 0), (1, .vlog2 9 8 3 0), (2, .vrcp 9 8 3 0), (3, .vrsqrt 9 8 3 0),
      (4, .vtanh 9 8 3 0), (5, .vsqrt 9 8 3 0)] ∧ s.roomFor 2 ∧ tagFp (rv s 8).tag = true ∧ (rv s 9).tag = (rv s 8).tag := by
  refine ⟨by simp, ?_⟩
  unfold State.roomFor; decide
theorem witness_LaneMovesComplete :
    let s := setV 8 4 0 (setV 9 3 0 (crowd 62 t0))
    s.roomFor 2 ∧ tagAny (rv s 8).tag = true ∧ (rv s 8).tag ≠ 9 ∧ (rv s 9).tag = indexTag (rv s 8).tag ∧ tagMx (rv s 8).tag = false := by
  unfold State.roomFor; decide
theorem witness_ReductionsComplete :
    let s := setV 8 4 0 (setV 9 7 0 (onX (fun x => { x with z := [(3, { tag := 4, data := 0 })] }) (crowd 62 t0)))
    (Red.sum, Instr.vrsum 8 3 0 7) ∈ [(Red.sum, Instr.vrsum 8 3 0 7), (.min, .vrmin 8 3 0 7), (.max, .vrmax 8 3 0 7)] ∧
    s.roomFor 2 ∧ tagArith (rv s 8).tag = true ∧ ((cx s).getZ 3).tag = accTag (rv s 8).tag ∧ ((cx s).getZ 0).tag ≠ accTag (rv s 8).tag ∧
    tagArith (rv s 10).tag = false := by
  refine ⟨by simp, ?_⟩
  unfold State.roomFor; decide
theorem witness_LatchUpdate :
    let s := onX (fun x => { x with z := [(3, { tag := 3, data := 0 })] }) t0
    let f := tFlight (.reduce 3 63 2 3 5 0 0)
    f.res = .reduce 3 63 2 3 5 0 0 ∧ (2 : BitVec 3).toNat < 3 ∧ ((getCtx s f.ctx).getZ 3).tag = 3 ∧ ((getCtx t0 f.ctx).getZ 3).tag ≠ 3 ∧
    (∀ g ∈ ([] : List Flight), g.ctx = f.ctx → ∀ tg d, g.res ≠ .latch 3 tg d) := by
  refine ⟨rfl, by decide, by decide, by decide, by simp⟩
theorem witness_LatchMoves :
    let s := onX (fun x => { x with z := [(3, { tag := 4, data := 0 })] }) (crowd 63 t0)
    s.roomFor 1 ∧ ((cx s).getZ 3).tag ≠ 15 := by
  unfold State.roomFor; decide
/-- Distribution registers: the two sources of a word, of given tags and lineages. -/
def tDists (s1 l1 s2 l2 : BitVec 32) (s : State) : State :=
  onX (fun x => { x with d := [(1, { tag := 14, sset := s1, lin := l1 }), (2, { tag := 14, sset := s2, lin := l2 })] }) s
theorem witness_AllPairing :
    let s := tDists 1 0 2 0 (crowd 57 t0)
    let u := tDists 1 0 3 0 t0
    let w := tDists 0 0 3 0 t0
    Instr.dmin 3 1 2 false ∈ [Instr.dadd 3 1 2 false, .dsub 3 1 2 false, .dmul 3 1 2 false, .dmax 3 1 2 false, .dmin 3 1 2 false] ∧
    (rd s 1).tag = 14 ∧ (rd s 2).tag = 14 ∧ (rd s 1).sset &&& (rd s 2).sset = 0 ∧ s.roomFor 7 ∧
    (rd u 1).tag = 14 ∧ (rd u 2).tag = 14 ∧ (rd u 1).sset &&& (rd u 2).sset ≠ 0 ∧ (rd w 1).tag = 14 ∧ (rd w 1).sset = 0 := by
  refine ⟨by simp, ?_⟩
  unfold State.roomFor; decide
theorem witness_SamePairing :
    let s := tDists 1 5 1 5 (crowd 57 t0)
    let u := tDists 1 0 1 0 t0
    (rd s 1).tag = 14 ∧ (rd s 2).tag = 14 ∧ (rd s 1).sset = (rd s 2).sset ∧ (rd s 1).lin = (rd s 2).lin ∧ (rd s 1).lin ≠ 0 ∧
    weightsDiffer (rd s 1) (rd s 2) = false ∧ s.roomFor 7 ∧ (rd u 1).tag = 14 ∧ (rd u 2).tag = 14 ∧ ¬ (rd u 1).lin ≠ 0 := by
  unfold State.roomFor; decide
theorem witness_DistributionWordsComplete :
    let s := setS 1 0x1FA00 (setS 2 0x100 (tDists 1 5 1 5 (crowd 57 t0)))
    let u := (List.range 6).foldl (fun s i => setV (8 + i) (if i < 4 then 4 else 2) 0 s) t0
    s.roomFor 7 ∧ (rd s 1).tag = 14 ∧ (rs s 2).getLsbD 8 = true ∧ (rs s 1).getLsbD 8 = false ∧ rotSpan (cx s).bank 254 2 = false ∧
    (rd s 3).tag ≠ 14 ∧ u.roomFor 7 ∧ (∀ k, k < 4 → (rv u (groupRow 8 k)).tag = 4) ∧ (rv u (groupRow 8 4)).tag = 2 ∧
    (rv u (groupRow 8 5)).tag = 2 ∧ rotSpan (cx u).bank 8 6 = false ∧ pieceChecks s (rs s 1) = [] ∧
    (∀ q, portHolder s q false s.cycle = none) ∧ (∀ q, portHolder s q true (s.cycle + 2) = none) := by
  unfold State.roomFor; decide
/-- Array 2 of the engine, with a format in its active copy. -/
def tArray (f : BitVec 3) (busy : Nat) (s : State) : State :=
  { s with matrix := { s.matrix with arrays := [(2, { active := { fmt := f }, busy := busy })] } }
theorem witness_MatrixMultiply :
    let s := tArray 4 10 (setV 8 13 0 (setV 9 0 0 (setV 10 4 0 (crowd 63 t0))))
    let u := onB (fun b => { b with mown := false }) s
    let w := tArray 4 11 s
    mfTag (4 : BitVec 3).toNat = some (rv s 8).tag ∧ (rv s (groupRow 8 1)).tag = 0 ∧ (rv s 10).tag = 4 ∧
    rotSpan (cx s).bank 8 2 = false ∧ s.roomFor 1 ∧ (cx s).bank.mown = true ∧ mmaBlocked s 2 4 = false ∧ routineOn s = false ∧
    (getArr s.matrix 2).active.fmt = 4 ∧ (getArr s.matrix 1).active.fmt ≠ 4 ∧ (cx u).bank.mown = false ∧
    mfTag (4 : BitVec 3).toNat = some (rv u 8).tag ∧ (rv u (groupRow 8 1)).tag = 0 ∧ mmaBlocked w 2 4 = true := by
  unfold State.roomFor; decide
theorem witness_MatrixProductLanding :
    let f := tFlight (.mma 10 2 true 1 false true true [] 0 0)
    let s := { t0 with flight := [f], cycle := 11 }
    s.flight = [f] ∧ f.land ≤ s.cycle ∧ s.fetches = [] ∧ (getCtx s f.ctx).rerun.phase = 0 := by
  refine ⟨rfl, by decide, rfl, by decide⟩
/-- A shape record of SPACE 0: BASE, STRIDE1, DIM0, DIM1 and FMT, with DIM2 of 1 and the other strides 0. -/
def tShape (base : Dbl) (s1 : BitVec 32) (d0 d1 : BitVec 16) (fmt : BitVec 4) : BitVec 256 :=
  base ++ (0 : BitVec 32) ++ s1 ++ (0 : BitVec 32) ++ d0 ++ d1 ++ (1 : BitVec 16) ++ (0 : BitVec 4) ++ fmt ++ (0 : BitVec 40)
theorem witness_MatrixWordsComplete :
    let s := setH 2 (tShape 0x1C000 256 64 64 11) (setS 1 0x8000000000000000 (setS 2 63 (setS 3 64 (crowd 63 { t0 with matrix := { size := 64, table := [(1, 5)] } }))))
    let r : MRoutine := { idx := 1, id := 1, m := [], next := 0, start := 0, base := 0 }
    let u := { s with matrix := { s.matrix with run := some r } }
    let v := { u with matrix := { u.matrix with pend := some r } }
    let w := onB (fun b => { b with mown := false }) s
    let h := setH 2 (tShape 0x1C000 256 64 64 15) s
    s.roomFor 1 ∧ (cx s).bank.mown = true ∧ routineOn s = false ∧ mldbBlocked s 2 = false ∧
    mldbChecks s (cx s).plan (rh s 2) (rh s (shScaleH (rh s 2))) = [] ∧ (rs s 1).getLsbD 63 = true ∧ (rs s 1).extractLsb' 16 47 = (0 : BitVec 47) ∧ (rs s 2).getLsbD 63 = false ∧
    (rs s 2).extractLsb' 16 47 = (0 : BitVec 47) ∧ ((rs s 2).extractLsb' 0 16).toNat < s.matrix.size ∧
    routineOn u = true ∧ SMap.get 0xFFFF s.matrix.table 1 ≠ 0xFFFF ∧ s.matrix.pend = none ∧ s.matrix.run = none ∧
    u.matrix.run ≠ none ∧ u.matrix.pend = none ∧ (cx w).bank.mown = false ∧ (v.matrix.run.isSome && v.matrix.pend.isSome) = true ∧
    SMap.get 0xFFFF s.matrix.table 2 = 0xFFFF ∧ routineOn v = true ∧ mprogRes s (rs s 3) (rs s 1) = none ∧
    mldbBlocked { s with matrix := { s.matrix with arrays := [(2, { swap := some 11 })] } } 2 = true := by
  unfold State.roomFor; decide
theorem witness_MatrixSwapLanding :
    (tFlight (.mldb 2 4 0 0)).res = .mldb 2 4 0 0 ∧ (tFlight (.mdrn 8 2 true none)).res = .mdrn 8 2 true none := ⟨rfl, rfl⟩
/-- A routine at microword 5 of a store that holds one word there. -/
def tRoutine (w : Dbl) (s : State) : State :=
  { s with matrix := { s.matrix with size := 6, store := if w = 0 then [] else [(5, w)],
                                     run := some { idx := 1, id := 1, m := [], next := 5, start := 10, base := 5 } } }
theorem witness_RoutineEvents :
    let s := tRoutine 0 t0
    let u := tRoutine 0x1000000000000000 (tArray 0 11 t0)
    let r : MRoutine := { idx := 1, id := 1, m := [], next := 5, start := 10, base := 5 }
    let q := tRoutine 0x1800000000000000 (tArray 0 11 t0)
    let v := { q with matrix := { q.matrix with run := some { r with issued := true } } }
    let h := { s with matrix := { s.matrix with hold := true } }
    s.matrix.hold = false ∧ h.matrix.hold = true ∧ mxOwner v = some 0 ∧ mmaBlocked v (BitVec.ofNat 2 ((0x1800000000000000 : Dbl).toNat / 2 ^ 58)) ((0x1800000000000000 : Dbl).toNat / 2 ^ 55 % 8) = true ∧
    (0x1800000000000000 : Dbl).toNat / 2 ^ 60 = 1 ∧ mxOwner s = some 0 ∧ s.matrix.run = some r ∧ r.start ≤ s.cycle ∧ r.next < s.matrix.size ∧ SMap.get 0 s.matrix.store r.next = 0 ∧
    mxOwner u = some 0 ∧ u.matrix.run = some r ∧ SMap.get 0 u.matrix.store r.next = 0x1000000000000000 ∧
    (0x1000000000000000 : Dbl).toNat / 2 ^ 60 = 1 ∧ (0x1000000000000000 : Dbl).extractLsb' 0 48 = (0 : BitVec 48) := by decide
theorem witness_RoutineEvents_go :
    let r : MRoutine := { idx := 1, id := 1, m := [(3, 0x160014)], next := 5, start := 10, base := 5 }
    let m : Matrix := { size := 6, run := some r }
    let s := setV 20 9 0 (setV 21 0 0 { t0 with matrix := { m with store := [(5, 0x140B000000000000)] } })
    let u := setH 2 (tShape 0x1C000 256 64 64 11) { t0 with matrix := { m with store := [(5, 0x2498000000000000)] } }
    let b := { s with matrix := { s.matrix with store := [(5, 0x108B000000000000)] } }
    (mxOwner s = some 0 ∧ s.matrix.run = some r ∧ ∃ s' r', microWord s 0 r = .go s' r') ∧
    (mxOwner u = some 0 ∧ u.matrix.run = some r ∧ ∃ s' r', microWord u 0 r = .go s' r') ∧
    (mxOwner b = some 0 ∧ b.matrix.run = some r ∧ ∃ s' r' st w, microWord b 0 r = .stop s' r' st w) :=
  ⟨⟨by decide, rfl, _, _, rfl⟩, ⟨by decide, rfl, _, _, rfl⟩, by decide, rfl, _, _, _, _, rfl⟩
/-- Bank 0, of the plan, in a state. -/
def tBank (k : VBank) (s : State) : State := { s with vault := { s.vault with banks := [(0, k)] } }
theorem witness_VaultBankCommands :
    let s := tBank { dl := 8 * 62500 } (setS 1 8191 (setS 2 8192 t0))
    let u := tBank { state := 2, dl := 5 } t0
    bankOwn s (cx s).plan 0 = 0 ∧ s.vault.emergency.contains (cx s).plan = false ∧ (getBank s.vault 0).state = 0 ∧ (getBank s.vault 0).act = 0 ∧
    (getTier s.vault 0).rrd = 0 ∧ (getTier s.vault 0).faw3 = 0 ∧ (0 : Int) ≤ ((rs s 1).toNat : Int) + (0 : BitVec 11).toInt ∧
    ((rs s 1).toNat : Int) + (0 : BitVec 11).toInt ≤ 8191 ∧ (8191 : Int) < ((rs s 2).toNat : Int) + (0 : BitVec 11).toInt ∧
    ((rs s 3).toNat : Int) + (0x7FF : BitVec 11).toInt < 0 ∧
    (getBank s.vault 0).dl ≤ 8 * Config.refreshInterval (getTier s.vault 0).cls.toNat ∧
    bankOwn u (cx u).plan 0 = 0 ∧ u.vault.emergency.contains (cx u).plan = false ∧ (getBank u.vault 0).state = 2 ∧ (getBank u.vault 0).pre = 0 := by decide
theorem witness_VaultCommandTraps :
    let s := setS 1 0x1FF80 (crowd 63 t0)
    let u := tBank { state := 1 } t0
    let e := { t0 with vault := { t0.vault with emergency := [7] } }
    let o := tBank { state := 2, pre := 1 } t0
    e.vault.emergency.contains (cx e).plan = true ∧ bankOwn e (cx e).plan 0 = 0 ∧ bankOwn o (cx o).plan 0 = 0 ∧
    (getBank o.vault 0).state = 2 ∧ (getBank o.vault 0).pre ≠ 0 ∧ (0 : Int) ≤ ((rs u 0).toNat : Int) + (0 : BitVec 11).toInt ∧
    ((rs u 0).toNat : Int) + (0 : BitVec 11).toInt ≤ 8191 ∧
    portHolder s (quadOf (rs s 1).toNat) true (s.cycle + (28 * (32 + s.cluster.freq.toNat) + 79) / 80) = none ∧
    bankOwn s (cx s).plan 63 ≠ 0 ∧ bankOwn u (cx u).plan 0 = 0 ∧ (getBank u.vault 0).state = 1 ∧ bankOwn s (cx s).plan 0 = 0 ∧
    (getBank s.vault 0).state = 0 ∧ s.roomFor 1 ∧ (rs s 1).toNat % 128 = 0 ∧ inScratch s (cx s).plan (rs s 1).toNat 128 = true ∧
    portHolder s (quadOf (rs s 1).toNat) false s.cycle = none := by
  unfold State.roomFor; decide
theorem witness_VaultDataCommands :
    let s := tBank { state := 2 } (setS 1 0x1FF80 (crowd 63 t0))
    let p := (rs s 1).toNat
    s.roomFor 1 ∧ bankOwn s (cx s).plan 0 = 0 ∧ s.vault.emergency.contains (cx s).plan = false ∧ (getBank s.vault 0).state = 2 ∧ (getTier s.vault 0).ccd = 0 ∧
    p % 128 = 0 ∧ inScratch s (cx s).plan p 128 = true ∧ (getTier s.vault 0).wtr = 0 ∧
    portHolder s (quadOf p) true (s.cycle + (28 * (32 + s.cluster.freq.toNat) + 79) / 80) = none ∧
    portHolder s (quadOf p) false s.cycle = none := by
  unfold State.roomFor; decide
theorem witness_VaultDataCommands_idle :
    ∀ m, (getBank t0.vault m).state = 0 ∨ (getBank t0.vault m).state = 2 ∧ (getBank t0.vault m).pre = 0 := fun _ => .inl rfl
theorem witness_VaultEvents :
    let w : RowWrite := { ctx := 0, land := 10, bank := 0, row := 8191, col := 15, bytes := [1] }
    let s := { tBank { dl := 0 } t0 with vault := { banks := [(0, { dl := 0 })], writes := [w] } }
    let u := { t0 with vault := { banks := [(0, { state := 2 })], emergency := [7] } }
    let r := { t0 with replan := { need := 1, age := 2000001 } }
    let p := { tPlan with res := [tRes, { tRes with core := 1, owned := 2 }] }
    let f := { t0 with plans := [p] }
    s.vault.writes = [w] ∧ w.land ≤ s.cycle ∧ SMap.wf ({} : VBank) s.vault.banks = true ∧
    (compilerBanks s).contains (0 : BitVec 6).toNat = true ∧ (getBank s.vault (0 : BitVec 6).toNat).dl = 0 ∧
    s.vault.emergency.contains (ownerOf s 0) = false ∧ primaryOf s (ownerOf s 0) = some 0 ∧ (getCtx s 0).pend.refo = none ∧
    u.vault.emergency.contains (ownerOf u 0) = true ∧ (getBank s.vault (1 : BitVec 6).toNat).dl ≠ 0 ∧
    (1 : BitVec 11) ≠ f.self ∧ f.plans = [p] ∧ resOf p 1 = some { tRes with core := 1, owned := 2 } ∧ (2 : Dbl).getLsbD 1 = true ∧
    (primaryOf f p.seq).isSome = true ∧ t0.vault.emergency = [] ∧ tPlan ∈ u.plans ∧ u.vault.emergency.contains tPlan.seq = true ∧
    0 ∈ banksOf u tPlan ∧ (getBank u.vault 0).state = 2 ∧ (getBank u.vault 0).pre = 0 ∧
    r.replan.var.toNat < r.replan.need.toNat ∧ 2000000 < r.replan.age ∧ s.replan.need.toNat ≤ s.replan.var.toNat ∧
    (getBank s.vault (0 : BitVec 6).toNat).state ≠ 2 := by decide
theorem witness_ExchangeWords :
    let w : XWord := { port := 1, arrive := 10, v := 5 }
    let e : GEntry := { index := 0, dep := 99, count := 8, dst := 16 }
    let s := { crowd 63 t0 with xports := [w], gate := { list := [e], step := some 0, old := [{ e with words := List.replicate 63 (0, 0) }] } }
    (1 : BitVec 3).toNat < 4 ∧ s.roomFor 1 ∧ partner s ((1 : BitVec 3).extractLsb' 0 2).toNat ≠ none ∧ oldest s 1 = some w ∧
    partner s 2 ≠ none ∧ oldest s 2 = none ∧ partner s 3 = none ∧ (3 : BitVec 3).toNat < 4 ∧
    timedPrimary s = true ∧ s.gate.step ≠ none ∧ roomIn s.gate.list = true ∧ heldWords (s.gate.list ++ s.gate.old) < 64 := by
  unfold State.roomFor; decide
/-- The gateway buffers: a context that is not primary, a full list, words to pop, and a plan that uses the fabric ports. -/
theorem witness_ExchangeWords_buffers :
    let e : GEntry := { index := 0, dep := 99, count := 8, dst := 16 }
    let f := { tPlan with routes := [{ step := 0, src := 0, dst := 0, dep := 0, count := 1, port := some (0, 60) }] }
    let g := fun (x : Gateway) => ({ t0 with plans := [f], gate := x, fabric := { t0.fabric with ports := [(0, { state := 2 })] } } : State)
    let n := onX (fun x => { x with primary := false }) t0
    let s := g { list := [{ e with words := List.replicate 8 (0, 0) }], step := some 0, rx := [(1, 5)], fi := [(1, 6)] }
    let w := g { foList := [{ e with count := 64, words := List.replicate 64 (0, 0) }], step := some 0 }
    timedPrimary n = false ∧ fabricUser n = false ∧ primaryCtx n = none ∧ n.gate.step = none ∧ timedPrimary s = true ∧
    roomIn s.gate.list = false ∧ primaryCtx s = some 0 ∧ (getCtx s 0).pend.late = none ∧ (getCtx s 0).pend.miss = none ∧
    rxHead s s.gate.rx = some 5 ∧ rxHead t0 t0.gate.rx = none ∧ fabricUser s = true ∧ rxHead s s.gate.fi = some 6 ∧ fabricEdge s = false ∧
    fabricUser w = true ∧ 64 ≤ heldWords w.gate.foList ∧ rxHead w w.gate.fi = none ∧ heldWords s.gate.foList < 64 ∧
    roomIn s.gate.foList = false ∧ roomIn (g { foList := [e], step := some 0 }).gate.foList = true := by decide
/-- A fabric port whose link is not trained. -/
theorem witness_ExchangeWords_edge :
    let f := { tPlan with routes := [{ step := 0, src := 0, dst := 0, dep := 0, count := 1, port := some (0, 60) }] }
    let s := { t0 with plans := [f] }
    fabricUser s = true ∧ fabricEdge s = true ∧ rxHead s s.gate.fi = none ∧ primaryCtx s = some 0 ∧ (getCtx s 0).pend.miss = none := by decide
theorem witness_ExchangeEvents :
    let w : XWord := { port := 1, arrive := 6, v := 5 }
    let s := { t0 with xports := [w] }
    let u := { t0 with xports := [{ w with arrive := 7 }] }
    let y := { t0 with cluster := { t0.cluster with csync := some (3, 5, 6) } }
    let z := { t0 with cluster := { t0.cluster with csync := some (3, 5, 7) } }
    (partner s 1).isSome = true ∧ (∀ v, v ∈ s.xports → v.port = 1 → v.arrive ≠ s.cycle) ∧
    (∃ v, v ∈ ({ t0 with xports := [{ w with arrive := 10 }] } : State).xports ∧ v.port = 1 ∧ v.arrive = 10) ∧ s.stop = none ∧
    primaryCtx s = some 0 ∧ (getCtx s 0).pend.miss = none ∧ w.arrive + 4 ≤ s.cycle ∧ primaryCtx u = some 0 ∧ u.cycle < 7 + 4 ∧
    6 + 4 ≤ y.cycle ∧ z.cycle < 7 + 4 ∧ y.cluster.csync = some (3, 5, 6) ∧ z.cluster.csync = some (3, 5, 7) := by decide
theorem witness_BarrierWords :
    let s := setS 1 1 { t0 with tags := [(3, 254)] }
    let u := onX (fun x => { x with arrived := some 2 }) { t0 with pbarTick := some 4, gate := { t0.gate with seq := 7 } }
    tagChecks s 3 = [] ∧ ((rs s 1).extractLsb' 0 16).getLsbD s.myIndex = true ∧
    (rs s 1).extractLsb' 0 16 &&& ~~~(clusterMask s s.cur.ctx) = 0 ∧ s.cluster.csync = none ∧ (cx s).primary = true ∧
    releaseSeen s (cx s) = none ∧ (cx u).primary = true ∧ releaseSeen u (cx u) = some 4 := by decide
/-- The only access that is out, of context 0. -/
def tOut (a : Access) (s : State) : State := onX (fun x => { x with out := [a] }) s
/-- Two flits of this core for one link leave its station in order of arrival, one in each service tick (R304). -/
theorem test_one_flit_per_link :
    let a : Access := { id := 1, op := .global (.load false) 64 0 true false 0, left := some 3, tick := 7, hops := 3 }
    let b : Access := { a with id := 2, ord := 1 }
    let s := onX (fun x => { x with out := [a, b] }) { t0 with time := 7 * Config.ns }
    let t := onX (fun x => { x with out := [{ a with hops := 2, tick := 9 }, b] }) { t0 with time := 7 * Config.ns }
    mayHop s a = true ∧ mayHop s b = false ∧ mayHop t b = false ∧
    (match exec .serviceFlitHop s with
     | .next u => u.ctxs
     | _ => []) = t.ctxs := by decide
theorem witness_RouteEvents :
    let a : Access := { id := 1, op := .global (.load false) 64 0 true false 0, left := some 3, tick := 7, hops := 3 }
    let s := tOut a { t0 with time := 7 * Config.ns }
    let e : GEntry := { index := 0, dep := 4, count := 1, dst := 16, words := [(4, 9)] }
    let l : GEntry := { e with count := 2 }
    let f : GEntry := { e with dep := 5 }
    let g := fun (e : GEntry) => ({ t0 with gate := { list := [e] } } : State)
    let b := onX (fun x => { x with waits := [.barrier], st := .blocked }) t0
    let c := onX (fun x => { x with arrived := some 20 }) t0
    ownGlobal s = [(0, a)] ∧ (getCtx s 0).out = [a] ∧ a.hops ≠ 0 ∧ a.tick ≤ tickNow s ∧ tickNow s % 8 = 7 ∧ tickNow t0 % 8 ≠ 7 ∧
    (g e).stop = none ∧ e.gone = false ∧ seen (g e) e.dep = true ∧ (inTime e).length = e.count ∧ seen (g l) l.dep = true ∧
    (inTime l).length < l.count ∧ primaryCtx (g l) = some 0 ∧ (getCtx (g l) 0).pend.late = none ∧ seen (g f) f.dep = false ∧
    ([1, 2] : List Dbl).length ≤ 8 ∧ t0.gate.rx.length + 8 ≤ 64 ∧
    atBarrier (getCtx b 0) = true ∧ (getCtx b 0).arrived = none ∧ quiet b 0 = true ∧
    quiet (onX (fun x => { x with rel := [{ id := 1, op := .gfence }] }) b) 0 = false ∧
    c.pbarTick = none ∧ (getCtx c 0).arrived = some 20 ∧ findPlan c (getCtx c 0).plan = some tPlan ∧ 32 % 8 = 0 ∧
    leastRelease c tPlan 20 ≤ 32 ∧ 33 % 8 ≠ 0 := by decide
theorem witness_PeerWords :
    let s := setS 1 0x1FFF8 (onX (fun x => { x with rel := List.replicate 63 { id := 1, op := .gfence } }) t0)
    let u := setS 1 0x1FFF8 (onX (fun x => { x with rel := List.replicate 64 { id := 1, op := .gfence } }) t0)
    peerChecks s (rs s 1) = [] ∧ (cx s).rel.length < 64 ∧ peerChecks u (rs u 1) = [] ∧ 64 ≤ (cx u).rel.length := by decide
/-- A shape record of SPACE 0 or 1, of one run of eight bytes. -/
def tRun (base : Dbl) (sp : BitVec 4) : BitVec 256 :=
  base ++ (0 : BitVec 96) ++ (8 : BitVec 16) ++ (1 : BitVec 16) ++ (1 : BitVec 16) ++ sp ++ (0 : BitVec 44)
theorem witness_CopyAndTagWords :
    let s := setS 1 3 (setH 1 (tRun 0x1FFF8 0) (setH 2 (tRun 0x10000 0) (setH 3 (tRun 0x1FFF8 2) (crowd 63 { t0 with tags := [(3, 254)] }))))
    let u := setS 1 3 { t0 with tags := [(0, 1)] }
    let w := setS 1 3 { t0 with tags := [(0, 1), (1, 255)] }
    s.roomFor 1 ∧ cpyChecks s (rh s 1) (rh s 2) 3 = [] ∧ shSpace (rh s 1) < 2 ∧ cpyChecks s (rh s 3) (rh s 2) 3 = [] ∧
    2 ≤ shSpace (rh s 3) ∧ shapeOk (rh s 4) = false ∧
    idleTags s &&& (rs s 1 &&& planTags s 0) = rs s 1 &&& planTags s 0 ∧
    idleTags u &&& (rs u 1 &&& planTags u 0) ≠ rs u 1 &&& planTags u 0 ∧ idleTags u &&& (rs u 1 &&& planTags u 0) ≠ 0 ∧
    rs s 2 &&& planTags s 0 = 0 ∧ idleTags w &&& (rs w 1 &&& planTags w 0) = 0 ∧ rs w 1 &&& planTags w 0 ≠ 0 := by
  unfold State.roomFor; decide
theorem witness_CopyEvents :
    let s := setS 1 1 (onX (fun x => { x with st := .blocked, waits := [.tagsAll 1] }) t0)
    let u := { s with tags := [(0, 1)] }
    let v := onX (fun x => { x with waits := [.tagsAny 2] }) s
    let r : CopyReq := { ctx := 0, id := 1, hd := tRun 0x100F8 0, hs := tRun 0x10000 0, tag := 3 }
    let g := { r with got := [(0, List.replicate 8 7)] }
    let e := { t0 with engines := [(0, r)] }
    let k := { t0 with engines := [(0, g)] }
    let p := fun (w : Bool) (s : State) => ({ s with ports := [{ cycle := if w then 10 else 9, quad := 0, write := w, holder := 0 }] } : State)
    let a : Access := { id := 1, op := .peer (2 ^ 19 + 0x10000) (some 5), left := some 8 }
    let b := { a with op := .peer (2 ^ 19 + 0x10000) none }
    let c := { a with left := some 9 }
    (∀ d, d ≠ 0 → (getCtx s d).st ≠ .blocked) ∧ (getCtx s 0).st = .blocked ∧ (getCtx s 0).waits = [.tagsAll 1] ∧ tagCount s 0 = 0 ∧
    idleTags s &&& ((getCtx s 0).bank.getS 1 &&& planTags s 0) = (getCtx s 0).bank.getS 1 &&& planTags s 0 ∧ tagCount u 0 ≠ 0 ∧
    (getCtx v 0).waits = [.tagsAny 2] ∧ (getCtx v 0).bank.getS 2 &&& planTags v 0 = 0 ∧ t0.engines = [] ∧
    fenceHolds { t0 with copyq := [r] } r.ctx { id := r.id, op := .copy r.hd r.hs r.tag } = false ∧ r.runs = 0 ∧ runCount r.hd = 1 ∧
    shSpace r.hs = 0 ∧ shSpace r.hd = 0 ∧ shDim0 r.hd = 8 ∧ shDim0 r.hs = 8 ∧ runAt r.hd 0 % 256 + 8 ≤ 256 ∧ r.put = [] ∧ r.got = [] ∧
    readFree e (runAt r.hs 0) = true ∧ readFree (p false e) (runAt r.hs 0) = false ∧ g.got = [(0, List.replicate 8 7)] ∧
    (List.replicate 8 (7 : Byte)).length = 8 ∧ writeFree k (runAt r.hd 0) = true ∧ writeFree (p true k) (runAt r.hd 0) = false ∧
    (0x10000 : BitVec 19).toNat % 8 = 0 ∧ (1279 : BitVec 11) ≠ t0.self ∧ (1279 : BitVec 11).toNat < 1280 ∧
    (0x7FFF8 : BitVec 19).toNat + 8 ≤ 2 ^ 19 ∧ ownPeer (tOut a t0) = [(0, a)] ∧ (getCtx (tOut a t0) 0).out = [a] ∧
    peerCore t0 (2 ^ 19 + 0x10000) ≠ t0.me ∧ t0.copyq = [] ∧ 8 + 2 ≤ t0.cycle ∧ ownPeer (tOut b t0) = [(0, b)] ∧
    ownPeer (tOut c t0) = [(0, c)] ∧ t0.cycle < 9 + 2 := by decide
theorem witness_Checkpoint :
    let s := { crowd 1 t0 with seq := 1 }
    let f := fun (p : Nat) (x : Ctx) => ({ x with rerun := { phase := p, start := 3, len1 := 7 } } : Ctx)
    let k := onX (fun x => { x with rerun := { skip := true } }) t0
    let u := onX (f 1) t0
    let v := onX (f 2) t0
    let w := onX (fun x => { f 2 x with rerun := { (f 2 x).rerun with sig1 := BitVec.allOnes 64 } }) t0
    (cx t0).rerun.phase = 0 ∧ (cx t0).rerun.skip = false ∧ inFlight t0 t0.cur.ctx = false ∧ inFlight k k.cur.ctx = false ∧
    (cx k).rerun.skip = true ∧ (cx u).rerun.phase = 1 ∧ (cx u).xch = false ∧ inFlight u u.cur.ctx = false ∧ (cx v).rerun.phase = 2 ∧
    (cx v).rerun.sig ≠ (cx v).rerun.sig1 ∧ w.cycle - (cx w).rerun.start = (cx w).rerun.len1 ∧ (cx w).rerun.sig = (cx w).rerun.sig1 ∧
    inFlight s s.cur.ctx = true := by decide
/-- A rollback point at address 24. -/
def tCkpt : Ckpt := { bank := { pc := 24 }, pc := 24, id := 1, matrix := none, banks := [], tiers := [], entry := false }
theorem witness_RollbackRestores :
    let s := onX (fun x => { x with ckpt := some tCkpt, v := [(8, { tag := 3 })] }) t0
    (getCtx s 0).ckpt = some tCkpt ∧ SMap.wf ({} : Row) (getCtx s 0).v = true ∧ slotted s = [0] ∧ (getCtx s 0).rerun.phase = 0 ∧
    (getCtx s 0).xch = false := by decide
theorem witness_BankRestoreEnds :
    let r : Restore := { banks := [(0, {})], tiers := [], bref := true }
    let f := fun (r : Restore) => onX (fun x => { x with ckpt := some tCkpt, restore := some r, rerun := { wait := true } }) t0
    let s := f { r with refreshed := [0] }
    let u := tBank { dl := 62500 } (f r)
    let w := onX (fun x => { x with first := true }) (f { r with refreshed := [0], ready := true })
    (∀ d, d ≠ 0 → (getCtx s d).restore = none ∧ (getCtx s d).rerun.wait = false) ∧ (getCtx s 0).rerun.wait = true ∧
    (getCtx s 0).st = .running ∧ ownBanks s (getCtx s 0).plan = [0] ∧ bankReady s { r with refreshed := [0] } 0 = true ∧
    (∀ k, k < 4 → tierReady s { r with refreshed := [0] } k = true) ∧ (getCtx u 0).restore = some r ∧ r.bref = true ∧ 0 ∉ r.refreshed ∧
    r.opened = [] ∧ refreshOk u 0 = true ∧ (getCtx w 0).restore = some { r with refreshed := [0], ready := true } ∧
    (getCtx w 0).first = true := by decide
theorem witness_GlobalWords :
    let s := setS 1 0xFFFFC0 (onX (fun x => { x with rel := List.replicate 63 { id := 1, op := .gfence } }) (tRange t0))
    translate s (cx s) (rs s 1).toNat = some (0xFFFFC0, 0) ∧ (rs s 1).toNat % 64 = 0 ∧ (rs s 1).toNat % 8 = 0 ∧
    rangeWr (cx s) 0 = true ∧ (cx s).rel.length < 64 := by decide
theorem witness_GlobalWordTraps :
    let s := setS 1 0xFFFFF9 (setS 2 0x2000000 (setS 3 0x1000000 (tRange t0)))
    (rs s 1).toNat % 8 ≠ 0 ∧ (rs s 2).toNat % 8 = 0 ∧ translate s (cx s) (rs s 2).toNat = none ∧ (rs s 3).toNat % 8 = 0 ∧
    translate s (cx s) (rs s 3).toNat = some (0, 1) ∧ rangeWr (cx s) 1 = false := by decide
/-- A group and an object of the plan. -/
def tBus (s : State) : State := { s with groups := [(1, { plan := 7, members := [0, 16] })], objs := [(1, { plan := 7 })] }
theorem witness_BusWordsComplete :
    let s := setS 1 0x2001 (setS 2 0x1FFF8 (setS 3 0x4001 (setS 4 1 (tBus (crowd 63 { t0 with tags := [(3, 254)] })))))
    let r : Recv := { id := 1, bus := 0, group := 1, len := 8, reduce := false, bf16 := false, men := false, mtch := 0, dst := 0, tick := 0 }
    let u := onX (fun x => { x with recv := List.replicate 15 r, rel := List.replicate 63 { id := 1, op := .gfence } }) s
    let w := onX (fun x => { x with recv := List.replicate 16 r, relTick := some 4 }) s
    let k := onX (fun x => { x with grants := [(1, true)] }) s
    s.roomFor 1 ∧ sendChecks s true (rs s 1) (rs s 2) 3 = [] ∧ recvChecks u (rs u 3) (rs u 2) = [] ∧ armedOf u (cx u) < 16 ∧
    recvChecks w (rs w 3) (rs w 2) = [] ∧ 16 ≤ armedOf w (cx w) ∧ objCheck u (rs u 4) = [] ∧
    (cx u).grants.contains ((rs u 4).extractLsb' 0 12, false) = false ∧ (cx u).out.any (ghost (cx u) (.acquire ((rs u 4).extractLsb' 0 12) false)) = false ∧
    (cx k).grants.contains ((rs k 4).extractLsb' 0 12, true) = true ∧ (cx k).owed = [] ∧ objCheck k (rs k 4) = [] ∧
    (cx u).rel.length < 64 ∧ gbarChecks s (rs s 4) = [] ∧ (cx s).relTick = none ∧ gbarChecks w (rs w 4) = [] ∧
    (cx w).relTick = some 4 ∧ seen w 4 = true := by
  unfold State.roomFor; decide
theorem witness_BusWordsComplete_registers :
    let s := setS 1 0x1001 (setS 2 0x365 (setS 3 0x1000 (tBus t0)))
    (rs s 1).toNat < 2 ^ 16 ∧ readable s (rs s 1).toNat = true ∧ (rs s 2).toNat < 2 ^ 16 ∧ writable s (rs s 2).toNat = true ∧
    4096 ≤ (rs s 3).toNat := by decide
theorem witness_OpticalControlWrites :
    15 < 16 ∧ (getBus t0 3).mpend = false ∧ (getBus t0 3).quiet = none ∧ mapOk (getBus t0 3).stagedL (getBus t0 3).stagedH = true ∧
    mapOk (getBus { t0 with buses := [(3, { stagedL := 0 })] } 3).stagedL (getBus t0 3).stagedH = false := by decide
theorem witness_LandingOfResults :
    let f := tFlight (.reduce 3 63 0 3 5 0 0)
    let s := onX (fun x => { x with z := [(3, { tag := 3, data := 0 })] }) { t0 with flight := [f], cycle := 11 }
    s.flight = [f] ∧ f.land ≤ s.cycle ∧ f.fp = 0 ∧ f.mx = 0 ∧ s.fetches = [] ∧ (getCtx s f.ctx).rerun.phase = 0 ∧
    (List.replicate 128 (0 : Byte)).length = 128 ∧ ((getCtx s f.ctx).getZ 3).tag = 3 := by
  refine ⟨rfl, by decide, rfl, rfl, rfl, by decide, by decide, by decide⟩
/-- A snapshot entry of scalar 5, one cycle after the restart. -/
def tSnap : SnapEntry :=
  { data := 7, addr := 0, len := 0, mxfl := 0, fpfl := 0, index := 5, cls := 0, tag := 0, part := 0, offset := 1, order := 0, reduce := none, key := 0 }
theorem witness_ReplayEvent :
    let s := onX (fun x => { x with snap := [tSnap], replayAt := some 9 }) t0
    let u := onX (fun x => { x with snap := [tSnap], replayAt := some 10 }) t0
    (∀ d, d ≠ 0 → (getCtx s d).replayAt = none) ∧ (getCtx s 0).replayAt = some 9 ∧ (getCtx s 0).snap = [tSnap] ∧ tSnap.cls = 0 ∧
    tSnap.mxfl = 0 ∧ tSnap.fpfl = 0 ∧ s.fetches = [] ∧ (getCtx s 0).rerun.phase = 0 ∧ 9 + tSnap.offset ≤ s.cycle ∧
    (getCtx u 0).replayAt = some 10 ∧ u.cycle < 10 + tSnap.offset := by
  refine ⟨by decide, rfl, rfl, rfl, rfl, rfl, rfl, rfl, by decide, rfl, by decide⟩
theorem witness_SlotEvents :
    let r : Ctx := { tCtx with st := .resident, slot := none }
    let s := { t0 with ctxs := [(0, r)] }
    let u := { t0 with ctxs := [(0, { r with primary := false })] }
    let w := { t0 with stream := some { ctx := 0, slot := 0, unload := true, left := 0, after := none } }
    let l := { t0 with stream := some { ctx := 0, slot := 0, unload := false, left := 0, after := none } }
    let e : Expansion := { slot := 0, half := true, cbase := 0, left := 0, primary := true }
    let x := { t0 with expansions := [e] }
    s.stream = none ∧ s.retired = false ∧ (∀ d, d ≠ 0 → (getCtx s d).st ≠ .resident) ∧ (getCtx s 0).st = .resident ∧
    (getCtx s 0).waits = [] ∧ preempted s 7 = false ∧ (getCtx s 0).primary = true ∧ slotCtx s 0 = none ∧
    (getCtx u 0).st = .resident ∧ (getCtx u 0).primary = false ∧ (∃ k, (openSlots u).find? (fun k => (slotCtx u k).isNone) = some k) ∧
    tCtx.raw = [] ∧ (getCtx l 0).restore = none ∧ (getCtx w 0).bank.mown = true ∧ slotCtx x e.slot = some 0 ∧
    (segAt x (getCtx x 0).plan e.cbase).isSome = true ∧ e.left = 0 := by
  refine ⟨rfl, rfl, by decide, rfl, rfl, rfl, rfl, by decide, rfl, rfl, ⟨_, rfl⟩, rfl, rfl, rfl, by decide, by decide, rfl⟩
theorem witness_ClockAndMeterEvents :
    let s := { t0 with cluster := { t0.cluster with droops := List.replicate 16 10, lock := false, lockAt := some 9 } }
    let a : Access := { id := 1, op := .global (.load false) 64 2 true false 3 }
    let u := tOut a { t0 with cluster := { t0.cluster with egress := [(1, 0)], used := 4, budget := 5 } }
    let w := tOut a { t0 with cluster := { t0.cluster with egress := [(1, 0)], used := 5, budget := 5 } }
    t0.cluster.stretchNext = false ∧ (t0.cluster.droops.filter (fun c => decide (t0.cycle < c + 1023))).length < 16 ∧
    s.cluster.stretchNext = false ∧ 16 ≤ (s.cluster.droops.filter (fun c => decide (s.cycle < c + 1023))).length ∧
    s.cluster.lock = false ∧ s.cluster.lockAt = some 9 ∧ t0.cluster.lock = true ∧ tickNow State.reset % 1000 = 0 ∧ tickNow t0 % 1000 ≠ 0 ∧
    (∀ d, d ≠ 0 → (getCtx u d).out = []) ∧ (getCtx u 0).out = [a] ∧ u.cluster.egress = [(a.id, a.sub)] ∧ a.left = none ∧
    fenceHolds u 0 a = false ∧ (getCtx u 0).side = [] ∧ (getCtx u 0).acks = [] ∧ mayMeter u 1 = true ∧ mayMeter w 1 = false ∧ fenceHolds w 0 a = false := by decide
/-- A frame. -/
def tFrame (k : BitVec 4) (id : BitVec 12) (sender : BitVec 11) : Frame :=
  { kind := k, utag := 0, id := id, len := 8, fmt := 0, bus := 1, sender := sender, ctx := 0, payload := [] }
/-- Bus 1 in a state, with every station present from tick 0 on. -/
def tBus1 (x : Bus) (s : State) : State :=
  { s with buses := [(1, { x with present := BitVec.allOnes 80, views := [{ tick := 0, pos := 0, round := 0, present := BitVec.allOnes 80 }] })] }
/-- A frame on bus 1 that all its stations have seen from tick 4 on. -/
def tAir (f : Frame) (s : State) : State :=
  tBus1 { air := [{ tick := 4, frame := f, mapL := 0x398A418820, mapH := 0x7B9AC5A928 }] } s
theorem witness_TokenEvents :
    let e : TxEntry := { frame := tFrame 6 0 0, tag := some 3 }
    let s := tBus1 { pos := 79, txq := [e], quietNext := true, sending := true } t0
    let u := tBus1 { pos := 78, txq := [e] } t0
    let o := tBus1 { pos := 1, arr := 4, next := 5 } t0
    let z := { t0 with self := 16 }
    let p := { o with time := 7 * Config.ns }
    (getBus s 1).sending = true ∧ (getBus s 1).txq = e :: [] ∧ e.tag = some 3 ∧ e.frame.kind = 6 ∧ (getBus s 1).quietNext = true ∧
    seen s ((getBus s 1).arr + beats e.frame) = true ∧ (getBus u 1).sending = false ∧ (getBus u 1).pos % 80 ≠ 79 ∧
    (getBus u 1).next ≤ tickNow u ∧ (getBus u 1).txq = e :: [] ∧ loaded e = true ∧ z.myCluster ≠ 0 ∧ (getBus t0 1).next + 1 < tickNow t0 ∧
    readyFrames s = [] ∧ (getBus t0 1).sending = false ∧ (getBus t0 1).pos % 80 = 79 ∧
    (getBus t0 1).next ≤ tickNow t0 ∧ (getBus t0 1).resumeAt = none ∧ (getBus o 1).sending = false ∧ (tFrame 2 1 16).bus = 1 ∧
    (tFrame 2 1 16).sender.toNat / 16 = (getBus o 1).pos ∧ (getBus o 1).pos ≠ o.myCluster ∧
    (getBus o 1).present.getLsbD (getBus o 1).pos = true ∧ (getBus o 1).next = (getBus o 1).arr + 1 ∧
    (getBus o 1).arr + beats (tFrame 2 1 16) ≤ tickNow p ∧ tickNow o < (getBus o 1).arr + beats (tFrame 6 1 16) := by decide
theorem witness_StationQueue :
    let f := tFrame 5 1 0
    let a : Access := { id := 1, op := .frame f 0 0, tick := 5 }
    let s := tOut a (tBus1 { txq := List.replicate 63 { frame := f } } t0)
    let u := tOut a (tBus1 { txq := List.replicate 64 { frame := f } } t0)
    let e : TxEntry := { frame := tFrame 0 1 15, read := 8, tick := 5 }
    let w := tBus1 { late := [e] } t0
    (∀ d, d ≠ 0 → (getCtx s d).out = [] ∧ (getCtx s d).rel = []) ∧ (getCtx s 0).rel = [] ∧ (getCtx s 0).out = [a] ∧
    (∀ k, (getBus s k).late = []) ∧ a.op = .frame f 0 0 ∧ f.bus = 1 ∧ f.kind = 5 ∧ a.left = none ∧ a.tick ≤ tickNow s ∧ txRoom s 1 = true ∧
    txRoom u 1 = false ∧ (tFrame 0 1 15).sender.toNat / 16 = s.myCluster ∧ (tFrame 0 1 15).sender ≠ s.self ∧ (tFrame 5 1 15).kind.toNat < 6 ∧
    (∀ d, (getCtx w d).out = [] ∧ (getCtx w d).rel = []) ∧ (∀ k, k ≠ 1 → (getBus w k).late = []) ∧ (getBus w 1).late = [e] ∧
    e.frame.bus = 1 ∧ e.tag = none ∧ e.tick ≤ tickNow w ∧ txRoom w 1 = true ∧ ownPresent w 1 = true ∧ ownPresent t0 1 = false ∧
    tickNow { w with time := 0 } < e.tick := by decide
/-- A receive of the context, and the group that its frames come in. -/
def tRecv (r : Recv) (f : Frame) (s : State) : State := onX (fun x => { x with recv := [r] }) (tBus (tAir f s))
theorem witness_DataFrames :
    let f := tFrame 0 1 16
    let r : Recv := { id := 1, bus := 1, group := 1, len := 8, reduce := false, bf16 := false, men := false, mtch := 0, dst := 0x10000,
                      tick := 0, armed := true }
    let s := tRecv r f t0
    let u := tBus (tAir f t0)
    let a : AirFrame := { tick := 4, frame := f, mapL := 0x398A418820, mapH := 0x7B9AC5A928 }
    let w := { u with buses := [(1, { (getBus u 1) with views := [] })] }
    let y := { s with time := 4 * Config.ns }
    Sees s f (frameCrc f) a [] ∧ f.kind = 0 ∧ (getGroup s f.id.toNat).members.contains s.me = true ∧
    planCtxs s (getGroup s f.id.toNat).plan = [0] ∧ (getCtx s 0).recv = [r] ∧ r.armed = true ∧ r.full = false ∧ r.reduce = false ∧
    sameKind f r = true ∧ Sees u f (frameCrc f) a [] ∧ (getGroup u f.id.toNat).members.contains u.me = true ∧
    planCtxs u (getGroup u f.id.toNat).plan = [0] ∧ (getCtx u 0).recv = [] ∧ received (getBus s 1) a (frameCrc f + 1) = false ∧
    presentAt w 1 a.tick = false ∧ seen y a.tick = false ∧ (getBus s 1).air = a :: [] ∧ Settled s 1 a [] ∧ Settled w 1 a [] := by
  unfold Sees Settled; decide
theorem witness_ReduceFrames :
    let f := tFrame 1 1 16
    let r : Recv := { id := 1, bus := 1, group := 1, len := 8, reduce := true, bf16 := false, men := false, mtch := 0, dst := 0x10000,
                      tick := 0, armed := true }
    let s := tRecv r f t0
    let a : AirFrame := { tick := 4, frame := f, mapL := 0x398A418820, mapH := 0x7B9AC5A928 }
    f.kind = 1 ∧ Sees s f (frameCrc f) a [] ∧ (getGroup s f.id.toNat).members.contains s.me = true ∧
    planCtxs s (getGroup s f.id.toNat).plan = [0] ∧ (getCtx s 0).recv = [r] ∧ r.reduce = true ∧ takes s f a.tick r = true ∧
    Sees (tBus (tAir f t0)) f (frameCrc f) a [] ∧ (getCtx (tBus (tAir f t0)) 0).recv = [] := by unfold Sees Settled; decide
theorem witness_ReceiveWrites :
    let r : Recv := { id := 1, bus := 1, group := 1, len := 8, reduce := false, bf16 := false, men := false, mtch := 0, dst := 0x10000,
                      tick := 0, full := true, fin := some (5, 3) }
    let j : RxJob := { ctx := 0, id := 1, dst := 0x10000, off := 248, bytes := List.replicate 8 1, reduce := false, first := true }
    let k : RxJob := { j with off := 252 }
    let s := onX (fun x => { x with recv := [r] }) { t0 with rxjobs := [j] }
    let u := { s with ports := [{ cycle := 10, quad := quadOf 0x100F8, write := true, holder := 0 }] }
    let w := { s with rxjobs := [] }
    s.rxjobs = j :: [] ∧ writeFree s (j.dst + j.off) = true ∧ (j.dst + j.off) % 256 + j.bytes.length = 256 ∧ writeFree u (j.dst + j.off) = false ∧
    256 < (k.dst + k.off) % 256 + k.bytes.length ∧ writeFree { s with rxjobs := [k] } (k.dst + k.off) = true ∧
    (getCtx s 0).recv = [r] ∧ r.fin = some (5, 3) ∧ writing s 0 r = true ∧ (getCtx w 0).recv = [r] ∧ writing w 0 r = false := by decide
theorem witness_SyncFrames :
    let f := tFrame 2 1 16
    let a : AirFrame := { tick := 4, frame := f, mapL := 0x398A418820, mapH := 0x7B9AC5A928 }
    let s := tBus (tAir f t0)
    let q := frameReq s f
    let h : Requester := { q with core := 32 }
    let held := fun (w : List (Requester × Bool)) => ({ s with objs := [(1, { excl := some q, waiters := w })] } : State)
    let u := { s with objs := [(1, { excl := some h })] }
    let w : Access := { id := 1, op := .acquire 1 false, left := some 3 }
    let o : Owed := { q := 1, id := 1, val := none, cyc := 0 }
    let y := onX (fun x => { x with out := [w], owed := [o] }) (tBus (tAir (tFrame 2 1 0) t0))
    Sees s f (frameCrc f) a [] ∧ busWaiters s 1 < 1024 ∧ isMine s q = false ∧
    inScope (getObj s 1) q = true ∧ (getObj s 1).excl = none ∧ (getObj s 1).shared = [] ∧ (getObj s 1).waiters = [] ∧
    (getObj u 1).excl = some h ∧ h ≠ q ∧ inScope (getObj u 1) q = true ∧ (getObj (held []) 1).excl = some q ∧
    (getObj (held [(h, false)]) 1).waiters = (h, false) :: [] ∧ inScope (getObj (held [(h, false)]) 1) q = true ∧
    busWaiters (held [(h, false)]) 1 < 1024 ∧ isMine y (frameReq y (tFrame 2 1 0)) = true ∧ (getCtx y 0).out = [w] ∧
    acqOf 1 false false w = true ∧ (getCtx y 0).owed = [o] ∧ o.id = w.id ∧ o.val = none ∧
    Sees y (tFrame 2 1 0) (frameCrc (tFrame 2 1 0)) { a with frame := tFrame 2 1 0 } [] := by
  unfold Sees Settled; decide
theorem witness_MarkAndMapFrames :
    let f := tFrame 5 1 16
    let s := { tAir f t0 with groups := [(1, { plan := 7, members := [0, 16], marked := [0] })] }
    let u := { s with groups := [(1, { plan := 7, members := [0, 16] })] }
    let w := { s with groups := [(1, { plan := 7, members := [0, 16], marked := [0], wide := true })] }
    let m := { tFrame 6 0 16 with payload := leBytes 8 5 ++ leBytes 8 6 }
    let a : AirFrame := { tick := 4, frame := f, mapL := 0x398A418820, mapH := 0x7B9AC5A928 }
    Sees s f (frameCrc f) a [] ∧ (getGroup s 1).members.contains 16 = true ∧ (getGroup s 1).marked.contains 16 = false ∧
    (∀ k, k ∈ (getGroup s 1).members → k = 16 ∨ (getGroup s 1).marked.contains k = true) ∧ (getGroup s 1).wide = false ∧
    Sees w f (frameCrc f) a [] ∧ (getGroup w 1).wide = true ∧ (getGroup w 1).others = none ∧
    0 ∈ (getGroup u 1).members ∧ (getGroup u 1).marked.contains 0 = false ∧ absentAt u (BitVec.ofNat 2 1) a.tick 0 = false ∧
    Sees (tAir m t0) m (frameCrc m) { a with frame := m } [] ∧ m.kind = 6 ∧
    m.payload = leBytes 8 (5 : Dbl).toNat ++ leBytes 8 (6 : Dbl).toNat ∧ BitVec.ofNat 2 f.id.toNat = f.bus ∧
    Sees u f (frameCrc f) a [] := by
  unfold Sees Settled; decide
theorem witness_StationRegisters :
    let s := { t0 with time := 65540 * Config.ns, buses := [(1, { quiet := some 4 }), (2, { quiet := some 5 }), (3, { stagedL := 0 })],
                       pkg := { t0.pkg with boot := 1 } }
    (79 : BitVec 7).toNat < 80 ∧ (getBus s 0).mpend = false ∧ isQuiet s (getBus s 0) = false ∧ mapOk (getBus s 0).stagedL (getBus s 0).stagedH = true ∧
    mapOk (getBus s 3).stagedL (getBus s 3).stagedH = false ∧ (getBus s 3).mpend = false ∧ isQuiet s (getBus s 3) = false ∧
    s.blackBox.ring.all (fun p => p.2.tick != tickNow s) = true ∧ (getBus s 1).quiet = some 4 ∧ 4 + 65536 ≤ tickNow s ∧ (getBus s 2).quiet = some 5 ∧
    tickNow s < 5 + 65536 ∧ s.pkg.boot.getLsbD (s.myCluster / 10) = true ∧ s.myCluster < 80 ∧ s.myCluster / 10 = s.myDie := by decide
/-- A valid entry of the home table: V and the permissions, bank 16, row 0. -/
def tEntry : Dbl := 0x807F008000000000
/-- The entry of page 0 of core 0. -/
def tHome (e : Dbl) (s : State) : State := putEntry 0 0 e s
/-- A write to page 0 that waits in the side log. -/
def tSide : Access := { id := 1, op := .global (.store false 5) 8 0 false false 0, left := some 3 }
theorem witness_HomePerforms :
    let s := tHome tEntry t0
    let ld := GlobalOp.load false
    let a := fun (op : GlobalOp) => ({ id := 1, op := .global op 8 0 (op == ld) false 0, left := some 3, tick := 5 } : Access)
    let o : Owed := { q := 0, id := 1, val := none, cyc := 0 }
    let w := onX (fun x => { x with owed := [o] }) (tOut (a ld) s)
    let v := tOut (a (.store false 5)) s
    let d := tHome 0x8000000000000000 (tOut (a ld) t0)
    let m := tHome (tEntry ||| 0x0200000000000000) t0
    let g := tHome (tEntry ||| 0x0600000000000000) t0
    let c := tHome (tEntry ||| 0x0080000000000000) t0
    ownGlobal w = [(0, a ld)] ∧ (getCtx w 0).out = [a ld] ∧ iaPkg 8 = myPkg w ∧ (a ld).wait = false ∧ (a ld).hops = 0 ∧
    (a ld).tick ≤ tickNow w ∧ (getCtx w 0).side = [] ∧ w.engines = [] ∧ w.home.held = [] ∧ mappedAt w 8 = true ∧
    lacks w.pkg.rev.toNat ld = false ∧ inSpace s (8 : BitVec 48).toNat = true ∧
    (resolve 8 ld .near w).2 = .place (keyVault 0 16 0 8) (tEntry ||| 0x2000000000000000) ∧
    poisonIn (resolve 8 ld .near w).1 (keyVault 0 16 0 8) (opBytes ld) = [] ∧ (getCtx w 0).owed = [o] ∧
    ownGlobal v = [(0, a (.store false 5))] ∧ mappedAt v 8 = true ∧
    (resolve 8 (.store false 5) .near v).2 = .place (keyVault 0 16 0 8) (tEntry ||| 0x3000000000000000) ∧
    mappedAt d 8 = true ∧ (resolve 8 ld .near d).2 = .denied 0xA000000000000000 ∧
    (resolve 8 ld .near m).2 = .away (tEntry ||| 0x2200000000000000) ∧ (tEntry ||| 0x2200000000000000).getLsbD 58 = false ∧
    (resolve 8 ld .near g).2 = .away (tEntry ||| 0x2600000000000000) ∧ (tEntry ||| 0x2600000000000000).getLsbD 58 = true ∧
    (resolve 8 ld .companion c).2 = .place (keyVault 0 16 0 8) (tEntry ||| 0x2080000000000000) ∧
    (resolve 8 ld .companion s).2 = .denied (tEntry ||| 0x2000000000000000) ∧
    homeAllows s 0 (tEntry ||| 0x0020000000000000) ld (.far 1) = true ∧
    homeAllows s 0 (tEntry ||| 0x0080000000000000) ld .companion = true := by decide
theorem witness_HomeEvents :
    let s := tHome tEntry t0
    let l := onX (fun x => { x with side := [tSide] }) s
    let p : Part := ⟨.store false 5, 8⟩
    let n := onX (fun x => { x with side := [tSide] }) t0
    let b : Access := { tSide with op := .global (.store false 5) (2 ^ 42 + 8) 0 false false 0 }
    let f := onX (fun x => { x with side := [b] }) t0
    l.home.faults = [] ∧ eV (entryAt t0 0 (entryIdx t0 0 0)) = false ∧
    eV (entryAt s 0 (entryIdx s 0 0)) = true ∧ s.home.held = [] ∧ (∀ c, (getCtx s c).side = []) ∧
    eV (entryAt l 0 (entryIdx l 0 0)) = true ∧ l.home.held = [] ∧ (∀ d, d ≠ 0 → (getCtx l d).side = []) ∧ (getCtx l 0).side = [tSide] ∧
    (getCtx l 0).out = [] ∧ nextPart tSide = some p ∧ (pagesOf l tSide).contains (pageNo l 0 0) = true ∧ isFlag p.op = false ∧
    iaPkg p.ia = myPkg l ∧ movedAway l p.ia = false ∧ mapped l p = true ∧
    (performHome p.ia p.op .near (getCtx l 0).plan l).2 = .reply (.done 0 false) ∧ (performHome p.ia p.op .near (getCtx l 0).plan l).1.ctxs = l.ctxs ∧
    (performHome p.ia p.op .near (getCtx l 0).plan l).1.home.held = [] ∧ nextPart tSide = some p ∧ mapped n p = false ∧
    (getCtx f 0).side = [b] ∧ nextPart b = some ⟨.store false 5, 2 ^ 42 + 8⟩ ∧ iaPkg (2 ^ 42 + 8) ≠ myPkg f := by decide
theorem witness_HomeEvents_host :
    let a : Access := { id := 1, op := .host 64 (some 5), left := some 3, tick := 5 }
    let b : Access := { id := 1, op := .host 64 none, left := some 3, tick := 5 }
    let s := tOut a t0
    let u := tOut b (onX (fun x => { x with owed := [{ q := 0, id := 1, val := none, cyc := 0 }] }) t0)
    let d := { s with pkg := { s.pkg with ebpinDown := true } }
    s.engines = [] ∧ (64 : BitVec 52).toNat + ([1, 2] : List Byte).length ≤ 2 ^ 52 ∧
    ownHost s = [(0, a)] ∧ (getCtx s 0).out = [a] ∧ s.pkg.ebpinDown = false ∧ a.tick ≤ tickNow s ∧ ownHost u = [(0, b)] ∧
    (getCtx u 0).out = [b] ∧ b.tick ≤ tickNow u ∧ (getCtx u 0).owed = [{ q := 0, id := 1, val := none, cyc := 0 }] ∧
    ownHost d = [(0, a)] ∧ d.pkg.ebpinDown = true ∧ s.pkg.ebpinOrd ≤ a.ord ∧ u.pkg.ebpinOrd ≤ b.ord := by decide
theorem witness_TranslationEvents :
    let d := { t0 with pkg := { t0.pkg with boot := 0xFF } }
    let s := setHtinv 3 { pend := true } d
    let u := setHtinv 3 { pend := true, queue := [5] } d
    let e := tEntry
    let r := fun (e : Dbl) (n : Nat) => { tHome e t0 with home := { runs := [(0, (7, n))] } }
    let b := e ||| 0x0200000000000000
    (getHtinv s 3).pend = true ∧ (getHtinv t0 3).pend = false ∧ (5 : Dbl).getLsbD 12 = false ∧ (getHtinv s 3).queue = [] ∧
    (getHtinv u 3).pend = true ∧ (getHtinv u 3).queue = 5 :: [] ∧ eV (entryAt t0 0 (entryIdx t0 0 0)) = false ∧
    entryAt (r e 64) 0 (entryIdx (r e 64) 0 0) = e ∧ eV e = true ∧ e.getLsbD 58 = false ∧ e.getLsbD 57 = false ∧ e.getLsbD 59 = false ∧
    eBits e 44 4 = tickNow t0 / 2 ^ 20 % 16 ∧ SMap.get (0, 0) (r e 64).home.runs (pageNo (r e 64) 0 0) = ((7 : BitVec 6).toNat, 64) ∧
    eBits (e ||| 0x0000060000000000) 41 3 < 4 ∧ 4 ≤ eBits (e ||| 0x0000080000000000) 41 3 ∧
    eV (e ||| 0x0000080000000000) = true ∧ (e ||| 0x0400000000000000).getLsbD 58 = true ∧ (e ||| 0x0400000000000000).getLsbD 57 = false ∧
    entryAt (r b 0) 0 (entryIdx (r b 0) 0 0) = b ∧ b.getLsbD 57 = true ∧ (0 : BitVec 6).toNat = myPkg (r b 0) ∧
    s.pkg.boot.getLsbD ((3 : BitVec 11).toNat / 160) = true ∧ u.pkg.boot.getLsbD 0 = true ∧ d.pkg.boot.getLsbD 0 = true ∧ (getHtinv d 3).pend = false ∧
    iaPkg (2 ^ 42 : BitVec 48).toNat ≠ myPkg t0 ∧ (b ||| 0x0400000000000000).getLsbD 57 = true ∧ (b ||| 0x0400000000000000).getLsbD 58 = true ∧ (r e 64).home.held = [] := by decide
/-- The link at port 0, whose gateway core this is, in a state. -/
def tLink (st : BitVec 2) (s : State) : State :=
  { s with fabric := { s.fabric with ports := [(0, { state := st })],
                                     topo := { self := 0, revs := [(0, 3), (1, 3)], links := [{ port := 0, peer := 1, pport := 1, pad := 60 }], paths := [] } } }
theorem witness_FabricEvents :
    let s := tLink 2 { t0 with plans := [{ tPlan with routes := [{ step := 0, src := 0, dst := 0, dep := 0, count := 1, port := some (0, 60) }] }] }
    let a : Access := { id := 1, op := .global (.load true) (2 ^ 40) 0 true false 0, left := some 3, tick := 5 }
    let u := tOut a (onX (fun x => { x with owed := [{ q := 0, id := 1, val := none, cyc := 0 }] }) t0)
    let r : FabricRequest := { src := 1, token := 0x1000000000000000, ia := 0, op := .load false, ret := true }
    let m : SyncMessage := { kind := 2, obj := 1, pkg := 1, core := 0, ctx := 0 }
    let y := { t0 with objs := [(1, { plan := 7, scope := 5 })], plans := [{ tPlan with clusters := [0, 256] }], time := 7 * Config.ns }
    let v := tLink 2 { t0 with time := 70 * Config.ns, gate := { t0.gate with seq := 7, rels := [8] }, plans := [{ tPlan with clusters := [256, 0], routes := [{ step := 0, src := 0, dst := 16, dep := 0, count := 1, port := some (1, 0) }] }] }
    let q : Requester := { pkg := 1, core := 0, ctx := 0 }
    (linkAt s 0).isSome = true ∧ (getPort s 0).state = 2 ∧ (getPort (tLink 0 t0) 0).state = 0 ∧ (getPort (tLink 1 t0) 0).state = 1 ∧
    myPort s = some 0 ∧ routesOn s 0 = true ∧ (List.replicate 8 (0 : Dbl)).length ≤ 8 ∧
    ({ s with gate := { fi := List.replicate 56 (0, 0) } } : State).gate.fi.length + 8 ≤ 64 ∧ s.stop = none ∧ fabricEdge s = false ∧
    iaPkg r.ia.toNat = myPkg s ∧ iaDie r.ia.toNat < 8 ∧ iaCol r.ia.toNat < 160 ∧ ingressReason s r = 1 ∧ ownGlobal s = [] ∧
    a.wait = false ∧ a.hops = 0 ∧ (getCtx u 0).side = [] ∧ u.engines = [] ∧
    ownGlobal u = [(0, a)] ∧ (getCtx u 0).out = [a] ∧ iaPkg (2 ^ 40) ≠ myPkg u ∧ iaPkg (2 ^ 40) ∉ u.fabric.unreachable ∧ a.tick ≤ tickNow u ∧
    (getCtx u 0).owed = [{ q := 0, id := 1, val := none, cyc := 0 }] ∧ isSys t0 m.obj = false ∧ m.kind ≠ 5 ∧ isSys y m.obj = true ∧ objHome y 1 = true ∧ isMine y q = false ∧
    inScope (getObj y 1) q = true ∧ busWaiters y 1 < 1024 ∧ (getObj y 1).excl = none ∧ (getObj y 1).shared = [] ∧ (getObj y 1).waiters = [] ∧
    m.kind.toNat < 5 ∧ tickNow y % 8 = 7 ∧ ofPlacement y m = true ∧ u.fabric.topo.revs = [(0, 3)] ∧ lacks 3 (.load true) = false ∧
    tickNow t0 % 8 ≠ 7 ∧ tickNow { s with time := 7 * Config.ns } % 8 = 7 ∧ myPort v = some 0 ∧ flitDue v 0 1 = true ∧ flitDue v 0 2 = false ∧
    fabricEdge v = false ∧ v.stop = none ∧ (∀ k ∈ s.fabric.topo.links, 16 ≤ k.pad.toNat ∧ k.pad.toNat ≤ 1024 ∧ k.pad.toNat % 8 ≠ 0) := by
  decide
/-- The fields of a token above its MAC are those of its upper 40 bits. -/
theorem token_fields (h : BitVec 40) (x : BitVec 24) : (h ++ x).toNat / 2 ^ 24 = h.toNat := by
  rw [BitVec.toNat_append, Nat.shiftLeft_eq, Nat.mul_comm, ← Nat.two_pow_add_eq_or_of_lt x.isLt]
  have := x.isLt
  omega
/-- A token passes the ingress when its MAC is the one that KEYA gives: here RD on every column of package 0. -/
theorem witness_FabricEvents_token :
    let m : Dbl := 0x0100FFF000010000
    let t : Dbl := (0x0100FFF000 : BitVec 40) ++ mac t0.fabric.keyA m
    ingressReason t0 { src := 1, token := t, ia := 0, op := .load false, ret := true } = 0 ∧
      (performHome 0 (.load false) (.far 1) 0 (tHome (tEntry ||| 0x0020000000000000) t0)).2 = .reply (.done 0 false) ∧
      (performHome 0 (.load false) (.far 1) 0 (tHome (tEntry ||| 0x0600000000000000) t0)).2 =
        .away (tEntry ||| 0x2600000000000000) ∧
      (performHome 0 (.load false) (.far 1) 0 t0).2 = .fault ∧ holdsAtFault (.load false) true = true ∧
      holdsAtFault (.store false 0) false = false := by
  refine ⟨?_, by decide, by decide, by decide, by decide, by decide⟩
  generalize hx : mac t0.fabric.keyA 0x0100FFF000010000 = x
  have hd := token_fields 0x0100FFF000 x
  have hm : tokenMsg ((0x0100FFF000 : BitVec 40) ++ x) 1 = 0x0100FFF000010000 := by
    unfold tokenMsg; rw [hd]; decide
  have he : ((0x0100FFF000 : BitVec 40) ++ x).extractLsb' 0 24 = x := by
    apply BitVec.eq_of_toNat_eq
    rw [BitVec.extractLsb'_toNat, BitVec.toNat_append, Nat.shiftLeft_eq, Nat.mul_comm, ← Nat.two_pow_add_eq_or_of_lt x.isLt, Nat.shiftRight_zero]
    have := x.isLt
    omega
  have hf : ∀ k n, ((0x0100FFF000 : BitVec 40) ++ x).toNat / 2 ^ (24 + k) % 2 ^ n = 0x0100FFF000 / 2 ^ k % 2 ^ n := by
    intro k n; rw [Nat.pow_add, ← Nat.div_div_eq_div_mul, hd]; rfl
  have hb : ((0x0100FFF000 : BitVec 40) ++ x).getLsbD 56 = true := by
    rw [BitVec.getLsbD_append, if_neg (by decide)]; decide
  have h1 := hf 36 4
  have h2 := hf 0 12
  have h3 := hf 24 8
  have h4 := hf 20 4
  have h5 := hf 12 8
  simp only [Nat.reduceAdd, Nat.add_zero] at h1 h2 h3 h4 h5
  unfold ingressReason
  simp only [show (1 : BitVec 6).toNat = 1 from rfl, hm, he, hx, h1, h2, h3, h4, h5, rightOf, hb, Nat.add_zero]
  simp
  decide
/-- A record of SEQ q in slot 0 of the window at 0, its first 32 bytes and its CANCEL given. -/
def tRecord (q img cancel : Nat) (s : State) : State :=
  { s with pkg := { s.pkg with boot := 0xFF, inReset := false, window := some 0 },
           mem := memWrite (memWrite s.mem (keyHost 0) (leBytes 8 q ++ leBytes 8 img ++ leBytes 8 77 ++ leBytes 4 4096)) (keyHost 0xD8) (leBytes 8 cancel) }
/-- A launch of SEQ 7. -/
def tLaunch (st : LaunchSt) : Launch :=
  { seq := 7, imgAddr := 64, version := 77, imgLen := 4096, prio := 0, urgent := false, depOk := 1, account := 0, deps := [3], argAddr := 0,
    argLen := 0, dieMask := 1, near := 0, hostWins := [], st := st, status := statusDone, since := 0, start := 0, fin := 0, nj := 0,
    preempts := 0, clusters := [0] }
/-- That launch alone, in slot 0. -/
def tLaunched (l : Launch) (s : State) : State := { s with launches := [(0, l)] }
/-- A link that trains until its time is out, a launch with a cluster in package 1, and a group whose members stand in two
packages. -/
theorem witness_FabricEvents_far :
    let s : State := { tLink 1 t0 with time := 10000000 * Config.ns }
    let l : Launch := { (tLaunch .running) with clusters := [0, 256] }
    let u := { t0 with launches := [(0, l)] }
    let g : Group := { plan := 7, members := [0, 16], marked := [0, 16], wide := true, doneAt := some 40 }
    let w := { t0 with groups := [(1, g)], time := 50 * Config.ns, plans := [{ tPlan with clusters := [0, 256] }] }
    let m : SyncMessage := { kind := 5, obj := 1, pkg := 1, core := 0, ctx := 0 }
    (getPort s 0).state = 1 ∧ (getPort s 0).since + 10000000 ≤ tickNow s ∧ tickNow t0 ≤ (getPort (tLink 1 t0) 0).since + 10000000 ∧
    ownGlobal u = [] ∧ u.launches = [(0, l)] ∧ reaches u 1 l = true ∧ t0.launches.any (fun l => reaches t0 1 l.2) = false ∧
    (getGroup w 1).wide = true ∧ (getGroup w 1).marked ≠ [] ∧
    (getGroup w 1).members.all (fun n => (getGroup w 1).marked.contains n) = true ∧ (getGroup w 1).doneAt = some 40 ∧
    findPlan w (getGroup w 1).plan = some { tPlan with clusters := [0, 256] } ∧ ofPlacement w m = true ∧ m.obj.toNat < 256 ∧
    (getCtx (onX (fun x => { x with mark := some 1 }) w) 0).mark = some 1 ∧
    presentAt { w with buses := (tBus1 {} t0).buses } (BitVec.ofNat 2 1) (tickNow w - 1) = true := by decide
theorem witness_LaunchRecords :
    let s := tRecord 1 64 0 t0
    let u := tRecord 1 65 0 t0
    let w := tLaunched (tLaunch .queued) (tRecord 8 64 1 t0)
    let p := tLaunched (tLaunch .placing) (tRecord 8 64 1 t0)
    let v := tLaunched (tLaunch .queued) s
    let z := tRecord 0 64 0 { t0 with pkg := { t0.pkg with seen := [(0, 5)] } }
    s.pkg.boot = 0xFF ∧ s.pkg.inReset = false ∧ s.pkg.ebpinDown = false ∧ SMap.get 0 s.pkg.seen 0 ≠ recField (slotBytes s 0) 0 8 ∧
    recField (slotBytes s 0) 0 8 ≠ 0 ∧ slotCseq s 0 ≠ recField (slotBytes s 0) 0 8 ∧ slotLive s 0 = false ∧ recordFault s (slotBytes s 0) = none ∧
    recordFault u (slotBytes u 0) = some (failWith 0x0100 8 0) ∧ slotLive u 0 = false ∧ recField (slotBytes u 0) 0 8 ≠ 0 ∧
    slotCseq u 0 ≠ recField (slotBytes u 0) 0 8 ∧ SMap.get 0 u.pkg.seen 0 ≠ recField (slotBytes u 0) 0 8 ∧
    slotLive w 0 = true ∧ slotCseq w 0 ≠ recField (slotBytes w 0) 0 8 ∧ SMap.get 0 w.pkg.seen 0 ≠ recField (slotBytes w 0) 0 8 ∧
    recField (slotBytes w 0) 0 8 ≠ 0 ∧ w.pkg.boot = 0xFF ∧ w.pkg.inReset = false ∧ w.pkg.ebpinDown = false ∧
    SMap.get 0 z.pkg.seen 0 ≠ recField (slotBytes z 0) 0 8 ∧ recField (slotBytes z 0) 0 8 = 0 ∧ z.pkg.boot = 0xFF ∧ z.pkg.inReset = false ∧
    ({ s with pkg := { s.pkg with boot := 1 } } : State).pkg.boot ≠ 0xFF ∧
    getLaunch w 0 = some (tLaunch .queued) ∧ cancelSeen w 0 (tLaunch .queued) = true ∧ (tLaunch .queued).st ≠ .ended ∧ (tLaunch .queued).st ≠ .placing ∧
    getLaunch p 0 = some (tLaunch .placing) ∧ cancelSeen p 0 (tLaunch .placing) = true ∧ (tLaunch .placing).st = .placing ∧
    getLaunch v 0 = some (tLaunch .queued) ∧ cancelSeen v 0 (tLaunch .queued) = false := by decide
/-- An entry of a section table: KIND, ARG, OFFSET, SIZE. -/
def tEntryOf (kind arg off size : Nat) : BitVec 128 := BitVec.ofNat 128 (kind + arg * 2 ^ 16 + off * 2 ^ 32 + size * 2 ^ 64)
/-- An image of one core, one context and one segment: its header says TIMED, one core, FREQ 48 and 64 KiB of code, and its
table lists a dictionary, a CORE section and a segment. -/
def tImage : Image :=
  { version := 77, addr := 64, len := 4096,
    header := leBytes 4 0x4D48414F ++ leBytes 2 1 ++ leBytes 2 1 ++ leBytes 4 3 ++ leBytes 4 64 ++ leBytes 2 1 ++ leBytes 1 48 ++ leBytes 1 0 ++
      leBytes 4 1 ++ leBytes 40 0,
    table := [tEntryOf 2 1 112 3072, tEntryOf 1 0 3200 64, tEntryOf 3 1 3184 16], sign := none,
    sects := [{ sect := 1, map := 1, decl := { tRes with ctxs := 1 } }], dicts := [(1, [0])],
    segs := [{ core := 1, sect := 2, cbase := 0, npkt := 1, next := 0xFFFFFFFF, toks := [0, 0] }], data := [], routes := [], replan := [],
    routines := [], groups := [], syncs := [], relocs := [], syms := [] }
/-- Its header and its table are in form, and so is its CORE section's bitmap: core 0 alone. -/
theorem test_image_format :
    headerFault tImage = none ∧ tableFault tImage = none ∧ tImage.timed = true ∧ tImage.signed = false ∧ tImage.freq = 48 ∧ tImage.ncore = 1 ∧
    tImage.cores = [{ tRes with ctxs := 1 }] := by decide
theorem witness_LaunchDependences :
    let l := tLaunch .waiting
    let s := tLaunched l t0
    let m := { l with met := [(3, 0)] }
    let u := tLaunched m { t0 with images := [(77, tImage)] }
    let b := { l with met := [(3, 2)] }
    let c := { l with cancel := true }
    getLaunch s 0 = some l ∧ l.st = .waiting ∧ cancelSeen s 0 l = false ∧ depFailed l = none ∧ depsEnded l = false ∧
    getLaunch u 0 = some m ∧ m.st = .waiting ∧ cancelSeen u 0 m = false ∧ depFailed m = none ∧ depsEnded m = true ∧
    u.images.find? (fun p => p.1 == m.version) = some (m.version, tImage) ∧ tImage.addr = m.imgAddr ∧ tImage.len = m.imgLen ∧
    depFailed b = some (failWith 0x0102 3 2) ∧ cancelSeen s 0 b = false ∧ cancelSeen s 0 c = true := by decide
/-- The machine without a plan, with the image stored. -/
def tIdle : State := { t0 with plans := [], ctxs := [], codeSize := 0, segs := [], images := [(77, tImage)], pkg := { t0.pkg with pass := true } }
theorem witness_LaunchProgress :
    let l := tLaunch .queued
    let s := tLaunched l tIdle
    let p := { tPlan with matrix := false, optical := false, res := [{ tRes with ctxs := 1 }] }
    let h := { tLaunch .placing with plan := some p }
    let u := tLaunched h tIdle
    let f := { p with clusters := [79] }
    let w := tLaunched { h with plan := some f, clusters := [79] } tIdle
    let r := tLaunched (tLaunch .running) t0
    let e := tLaunched (tLaunch .running) (onX (fun x => { x with st := .held, sysEnded := true }) t0)
    let c := { tLaunch .running with cancel := true }
    s.pkg.pass = true ∧ cancelSeen s 0 l = false ∧ getLaunch s 0 = some l ∧ inLine s = [(0, l)] ∧ imageOf s l = some tImage ∧
    findPlace s (holding s) l tImage [] = some [0] ∧ t0.pkg.pass = false ∧ u.pkg.pass = true ∧
    inLine u = [] ∧ getLaunch u 0 = some h ∧ h.cancel = false ∧ h.plan = some p ∧ imageOf u h = some tImage ∧ h.st = .placing ∧
    allAwake u h.clusters = true ∧ relocFail h p tImage = none ∧ resOf p u.me = some { tRes with ctxs := 1 } ∧ u.pkg.window = none ∧
    resOf f w.me = none ∧ allAwake w [79] = true ∧ l.st ≠ .placing ∧ (tLaunch .running).st = .running ∧
    runningCode (failWith 1 0 0).code = true ∧ (failWith 1 0 0).code ≠ 0 ∧ cancelSeen r 0 (tLaunch .running) = false ∧
    reported r 7 (failWith 1 0 0) = true ∧ cancelSeen r 0 c = true ∧ c.st = .running ∧
    statusDone.code = 0 ∧ getLaunch r 0 = some (tLaunch .running) ∧ workEnded r 7 = false ∧ workEnded e 7 = true ∧
    cancelSeen e 0 (tLaunch .running) = false := by decide
theorem witness_PreemptEvents :
    let s := tLaunched (tLaunch .running) t0
    let u := tLaunched (tLaunch .placing) t0
    liveLaunch s 7 = some (0, tLaunch .running) ∧ getLaunch s 0 = some (tLaunch .running) ∧ (tLaunch .running).preempting = none ∧
    planHere s 7 = [0] ∧ (getCtx s 0).st = .running ∧ (getCtx s 0).primary = true ∧ s.stop = none ∧ u.kept = [] ∧
    (∀ q ∈ (recOf u 7).stop, False) ∧ (tLaunch .placing).cancel = false ∧
    liveLaunch u 7 = some (0, tLaunch .placing) ∧ (tLaunch .placing).st ≠ .running ∧ (tLaunch .placing).plan = none ∧
    allAwake u (tLaunch .placing).clusters = true ∧ tickNow u < 6 ∧ planHere u 7 = [0] ∧ (getCtx u 0).st ≠ .finished ∧
    (tLaunch .running).st ≠ .placing := by decide
theorem witness_PowerStates :
    let v := { t0 with time := 200000 * Config.ns }
    let s := { v with pkg := { t0.pkg with clusters := (List.range 10).map (fun i => (70 + i, .gated)) } }
    let u := { v with pkg := { t0.pkg with clusters := [(0, .waking)], dies := [(0, .gated), (1, .waking)] } }
    let w := { u with time := 0 }
    clusterSt v 79 = .active ∧ (holding v).any (fun p => onCluster p 79) = false ∧ debugOn v 79 = false ∧ idleSince v 79 + 65536 ≤ tickNow v ∧
    tickNow t0 < idleSince t0 79 + 65536 ∧ clusterSt t0 0 = .active ∧
    (holding t0).any (fun p => onCluster p 0) = true ∧ clusterSt s 79 = .gated ∧ SMap.get .active s.pkg.dies (79 / 10) = .active ∧
    clusterSt u 0 = .waking ∧ SMap.get 0 u.pkg.wakeAt 0 + 18000 ≤ tickNow u ∧ tickNow w < SMap.get 0 w.pkg.wakeAt 0 + 18000 ∧
    0 = u.myCluster ∧ clusterSt u 1 ≠ .waking ∧ dieDown s 7 = false ∧
    (∀ i, i < 10 → clusterSt s (10 * 7 + i) = .gated ∧ gatedSince s (10 * 7 + i) + 65536 ≤ tickNow s) ∧
    dieDown s 0 = false ∧ clusterSt s (10 * 0 + 9) ≠ .gated ∧ tickNow { s with time := 0 } < gatedSince s 79 + 65536 ∧
    SMap.get .active u.pkg.dies 0 = .gated ∧ SMap.get .active u.pkg.dies 1 = .waking ∧
    SMap.get 0 u.pkg.dieWakeAt 1 + 120000 ≤ tickNow u ∧ tickNow w < SMap.get 0 w.pkg.dieWakeAt 1 + 120000 ∧ u.launches = [] := by decide
theorem witness_SupervisorContexts :
    let d := { t0 with pkg := { t0.pkg with boot := 0xFF } }
    let h := fun (b : Bank) => onX (fun x => { x with st := .held, bank := b }) d
    let s := h { nest := true, inh := true }
    let u := onX (fun x => { x with primary := false }) (h {})
    let p := onX (fun x => { x with preHeld := true }) (h {})
    let e := onX (fun x => { x with sysEnded := true }) (h {})
    s.pkg.boot.getLsbD s.myDie = true ∧ (getCtx s 0).st = .held ∧ (getCtx s 0).sysEnded = false ∧ (getCtx s 0).bank.nest = true ∧
    (getCtx s 0).bank.inh = true ∧ s.stream = none ∧ (getCtx u 0).st = .held ∧ (getCtx u 0).sysEnded = false ∧
    (getCtx u 0).bank.nest = false ∧ (getCtx u 0).preHeld = false ∧ (getCtx p 0).preHeld = true ∧ (getCtx p 0).st = .held ∧
    (getCtx u 0).primary = false ∧ (getCtx e 0).sysEnded = true ∧ (getCtx d 0).st ≠ .held := by decide
theorem witness_RecoveringDie :
    let s := { t0 with pkg := { t0.pkg with boot := 0xFE } }
    s.pkg.boot.getLsbD s.myDie = false := by decide
theorem witness_SupervisorPlans :
    let s := tLaunched (tLaunch .running) (onX (fun x => { x with st := .held, bank := { tcause := 0x20, tval := 1 } }) { t0 with pkg := { t0.pkg with boot := 1 } })
    let u := onX (fun x => { x with saved := some ([(0, {})], []) }) (tBank { dl := 62500 } t0)
    let w := onX (fun x => { x with saved := some ([(0, {})], []) }) (tBank { act := 1 } t0)
    s.pkg.boot.getLsbD s.myDie = true ∧ (getCtx s 0).st = .held ∧ liveLaunch s (getCtx s 0).plan = some (0, tLaunch .running) ∧ getLaunch s 0 = some (tLaunch .running) ∧
    runningCode (endStatus s 0 statusDone).code = true ∧ (endStatus s 0 statusDone).code ≠ 0 ∧ heldBySys (getCtx s 0) = some 1 ∧
    (getCtx t0 0).st ≠ .held ∧ (∀ n, n < 64 → parked t0 n = false) ∧ (∀ m, m < 64 → (parked u m = true ↔ m = 0)) ∧
    (getBank u.vault 0).state = 0 ∧ refreshOk u 0 = true ∧ (∀ m, m < 64 → (parked w m = true ↔ m = 0)) ∧ (getBank w.vault 0).state = 0 ∧
    refreshOk w 0 = false := by decide
theorem witness_ManagementAccess :
    let d := { t0 with pkg := { t0.pkg with boot := 0xFF } }
    let s := onX (fun x => { x with st := .held }) d
    let u := onX (fun x => { x with st := .resident }) d
    let e := { d with ctxs := [] }
    let g := { d with pkg := { d.pkg with clusters := [(79, .gated)] } }
    let r := tLaunched (tLaunch .running) d
    s.pkg.boot.getLsbD s.myDie = true ∧ (getCtx s 0).st = .held ∧ (getCtx d 0).st ≠ .held ∧ layerOn u { core := u.self, vault := false } = true ∧
    (getCtx u 0).st = .resident ∧ (getCtx e 0).st = .empty ∧ recOpen (getCtx d 0) = false ∧
    d.pkg.boot.getLsbD ((1279 : BitVec 11).toNat / 160) = true ∧ layerOn d { core := 1279, vault := false } = true ∧
    layerOn g { core := 1279, vault := false } = false ∧ d.pkg.boot.getLsbD ((79 : BitVec 7).toNat / 10) = true ∧ (79 : BitVec 7).toNat < 80 ∧
    56 < ((57 : Dbl).extractLsb' 0 6).toNat ∧ ((56 : Dbl).extractLsb' 0 6).toNat ≤ 56 ∧
    timedRunning r = true ∧ timedRunning d = false := by decide
theorem witness_PowerAndReset :
    let s := { t0 with pkg := { t0.pkg with overLimit := true, overTicks := 9000000, ebpinDown := true, inReset := true } }
    let u := tLaunched (tLaunch .running) t0
    (∀ w ∈ t0.pkg.winAt, False) ∧ (∀ w ∈ t0.pkg.stepAt, False) ∧ s.cluster.dueFreq = none ∧ (tLaunch .running).st ≠ .waiting ∧
    { s with time := 100000000 * Config.ns }.pkg.ebpinAt + 100000000 ≤ tickNow { s with time := 100000000 * Config.ns } ∧
    tickNow s < s.pkg.ebpinAt + 100000000 ∧
    (1800 < 1801) ∧ 10000000 ≤ s.pkg.overTicks + 1000000 ∧ 1699 < 1700 ∧ s.pkg.overLimit = true ∧ timedRunning s = false ∧ s.cluster.freq ≠ 0 ∧
    t0.pkg.overLimit = false ∧ liveLaunch u (tLaunch .running).seq = some (0, tLaunch .running) ∧
    t0.pkg.ebpinDown = false ∧ s.pkg.ebpinDown = true ∧ 1150 ≤ 1150 ∧ 1149 < 1150 ∧ s.pkg.inReset = true ∧
    ({ s with pkg := { s.pkg with inReset := false } } : State).pkg.inReset = false ∧ (List.replicate 64 (0 : Byte)).length = 64 ∧
    (List.replicate 63 (0 : Byte)).length ≠ 64 ∧ 2 ^ 17 % 2 ^ 17 = 0 ∧ (2 ^ 52 - 2 ^ 17) + 2 ^ 17 ≤ 2 ^ 52 ∧ 1 % 2 ^ 17 ≠ 0 ∧
    2 ^ 52 < 2 ^ 52 + 2 ^ 17 := by decide
theorem witness_DebugAccess :
    let l : DebugLayer := { core := 0, vault := false }
    let g : DebugLayer := { core := 1279, vault := true }
    let s := onX (fun x => { x with st := .resident }) { t0 with pkg := { t0.pkg with clusters := [(79, .gated)] } }
    let h := onX (fun x => { x with st := .held }) t0
    let w := { s with pkg := { s.pkg with waking := [g] }, time := 20000 * Config.ns }
    let a := { s with pkg := { s.pkg with awake := [g] } }
    l.core.toNat < 1280 ∧ g.core.toNat < 1280 ∧ 0xFFFFFF < layerSize l ∧ 0x3FFFFFFF < layerSize g ∧ layerOn s g = false ∧ layerOn s l = true ∧
    halted t0 l = false ∧ halted s l = true ∧ halted s g = true ∧ halted h l = true ∧
    recordByte s l 0xBFFFFF = none ∧ recordByte s l 0xC00000 = some (0, 0) ∧ recOpen (getCtx s 0) = true ∧
    recordByte h l 0xC00000 = some (0, 0) ∧ recOpen (getCtx h 0) = false ∧ layerOn h l = true ∧ g ∉ s.pkg.waking ∧ g ∈ w.pkg.waking ∧
    layerTick w g + 20000 ≤ tickNow w ∧ tickNow { w with time := 0 } < layerTick w g + 20000 ∧ g ∈ a.pkg.awake ∧ halted a g = true ∧
    tickNow s < layerTick s g + 1000000000 ∧ layerTick s g + 1000000000 ≤ tickNow { s with time := 1000000000 * Config.ns } := by decide
/-- The invariant holds of the states of the tests, and a step of one of them answers. -/
theorem witness_StepKeepsInvariant : t0.Inv ∧ ∃ t, step { t0 with pkg := { t0.pkg with powered := true } } = .next t :=
  ⟨⟨by decide, by decide, by decide⟩, _, rfl⟩
theorem witness_StepAnswers : State.reset.pkg.powered = true ∨ State.reset.pkg.powered = false := by decide
theorem witness_WordsLeaveMemory : (encode false (.add 1 2 3 true)).isSome = true ∧ ∃ t, exec (.add 1 2 3 true) t0 = .next t :=
  ⟨by decide, _, rfl⟩
/-- The words of slot 0: NOP, and the words that follow it. -/
def tCode (l : List Word) (s : State) : State :=
  onB (fun b => { b with pc := 0 }) { s with halves := [(halfKey 0 false, { cbase := 0, words := l })], pkg := { s.pkg with powered := true } }
theorem witness_StepRunsInstruction :
    let s := tCode [0x08000000] t0
    let a := { s with agenda := [.nop] }
    let g : Seg := { cbase := 0, npkt := 100, hdr := 3072, dict := 0, next := 0xFFFFFFFF }
    let s0 := allCtx.foldl stopCode (allCtx.foldl stopAsync s)
    s.pkg.pass = false ∧ a.pkg.powered = true ∧ a.agenda = .nop :: [] ∧ s.agenda = [] ∧ s.cluster.lock = true ∧
    ({ s with cluster := { s.cluster with lock := false } } : State).cluster.lock = false ∧
    slotCtx s0 0 = some 0 ∧ (getCtx s0 0).primary = true ∧
    (getCtx s 0).st = .running ∧ timeOk s (getCtx s 0) = true ∧ s.retired = false ∧ (getCtx s 0).slot = some 0 ∧
    codeAt s 0 7 (getCtx s 0).bank.pc.toNat = some (g, [0x08000000]) ∧ forbiddenTag (getCtx s 0) = none ∧
    chained 0x08000000 = false ∧ decodeWord 0x08000000 = .ok .nop ∧
    (∃ t, exec .nop (enterBundle s 0 1) = .next t ∧ t.cur.wait = false ∧ t.cur.stall = false ∧ drawClash [.nop] t.cur.draws = none ∧
      t.cur.snapNeed = 0 ∧ t.cur.trap = none) ∧
    decodeWord 0x08000105 = .ok (.trap 1) := by
  refine ⟨rfl, by decide, rfl, rfl, by decide, rfl, by decide, by decide, by decide, by decide, by decide, by decide, by decide, by decide,
    by decide, by decide, ⟨_, rfl, by decide, by decide, by decide, by decide, by decide⟩, by decide⟩
theorem witness_EncodingRoundTrip :
    Instr.wellFormed (.vqnt 8 16 13 7) = true ∧ (encode true (.vqnt 8 16 13 7)).isSome = true := by decide

/-! Witnesses of the remaining hypotheses. -/

theorem witness_BreakpointHolds : (nextCx t0).wrote = [] := by decide
theorem witness_ScratchLoads :
    let s := setS 1 0x1FFF9 (crowd 63 t0)
    let p := (rs s 1 + (-1 : BitVec 11).signExtend 64).toNat
    p % 8 = 0 ∧ inScratch s (cx s).plan p 8 = true ∧ portHolder s (quadOf p) false s.cycle = none ∧ s.roomFor 1 := by
  unfold State.roomFor; decide
theorem witness_ScratchStores :
    let s := setS 1 0x10000 (crowd 63 t0)
    let p := (rs s 1 + (0 : BitVec 11).signExtend 64).toNat
    p % 8 = 0 ∧ inScratch s (cx s).plan p 8 = true ∧ portHolder s (quadOf p) true (s.cycle + 2) = none ∧ s.roomFor 1 := by
  unfold State.roomFor; decide
theorem witness_MatrixDrainLanding :
    (tFlight (.mdrn 3 1 true none)).res = .mdrn 3 1 true none ∧ (tFlight (.mdrn 3 1 false none)).res = .mdrn 3 1 false none := by decide
theorem witness_UncorrectableErrors :
    let s := onX (fun x => { x with ckpt := some tCkpt }) t0
    (8 : BitVec 4) ≠ 9 ∧ (8 : BitVec 4) ≠ 0 ∧ (9 : BitVec 4).toNat ≤ 9 ∧ 9 < (10 : BitVec 4).toNat ∧ slotted s = [0] ∧ (getCtx s 0).rerun.phase = 0 ∧ (getCtx s 0).xch = false ∧ (getCtx s 0).ckpt = some tCkpt := by
  decide

/-! Witnesses of further clauses. -/

theorem witness_BarrierWords_more :
    let s := { t0 with tags := [(3, 254)] }
    let u := setS 1 1 { s with cluster := { t0.cluster with csync := some (1, 3, 9) } }
    let v := setS 1 3 { s with plans := [tPlan] }
    let n := onX (fun x => { x with primary := false }) t0
    let b := { t0 with plans := [{ tPlan with replan := [(5, 1, 0x400000)] }], replan := { need := 1 }, gate := { t0.gate with seq := 7 } }
    tagChecks s 3 = [] ∧ primaryCtx s = some 0 ∧ (getCtx s 0).pend.miss = none ∧
    ((rs s 1).extractLsb' 0 16).getLsbD s.myIndex = false ∧ u.cluster.csync.isSome = true ∧
    (rs v 1).extractLsb' 0 16 &&& ~~~(clusterMask v v.cur.ctx) ≠ 0 ∧ (cx n).primary = false ∧ (cx n).pend.late = none ∧
    switchAt b 5 = some (1, 0x400000) ∧ switchCause b true 5 ≠ [] ∧ switchCause t0 true 5 = [] ∧
    switchAt { b with plans := [{ tPlan with replan := [(5, 1, 12)] }] } 5 = some (1, 12) := by decide
theorem witness_RouteEvents_more :
    let s := { t0 with gate := { t0.gate with rx := List.replicate 64 (0, 0) } }
    s.gate.rx.length = 64 ∧ ([1] : List Dbl) ≠ [] ∧ s.stop = none ∧ primaryCtx s = some 0 ∧ (getCtx s 0).pend.miss = none := by decide
theorem witness_MaskResults_more :
    let s := setV 8 6 0 (setV 9 6 0 (crowd 63 t0))
    s.roomFor 1 ∧ (rv s 8).tag = (rv s 9).tag ∧ tagArith (rv s 8).tag = true := by
  unfold State.roomFor; decide
theorem witness_LaneMovesComplete_more :
    let s := setV 8 9 0 (setV 9 2 0 (crowd 62 t0))
    s.roomFor 2 ∧ (rv s 8).tag = 9 ∧ tagAny (rv s 8).tag = true ∧ tagMx (rv s 8).tag = true ∧ tagAny (rv s 10).tag = false := by
  unfold State.roomFor; decide
theorem witness_DistributionWordsComplete_more :
    let s := onB (fun b => { b with vrot := 4 }) (tDists 1 5 1 5 (crowd 57 t0))
    s.roomFor 7 ∧ (rd s 1).tag = 14 ∧ rotSpan (cx s).bank 247 2 = true := by
  unfold State.roomFor; decide
theorem witness_LaunchProgress_more :
    let s := tLaunched (tLaunch .running) t0
    let st := { failWith 0x13 5 0 with core := 0 }
    getLaunch s 0 = some (tLaunch .running) ∧ runningCode st.code = true ∧ st.code ≠ 0 ∧ reported s 7 st = false ∧
    cancelSeen s 0 (tLaunch .running) = false ∧ reported ({ s with reports := [(7, 0x13, 5, 0)] } : State) 7 st = true := by decide
theorem witness_PreemptEvents_more :
    let s := { tLaunched (tLaunch .placing) t0 with stop := some { seq := 7, cycle := 9, tick := 16 }, gate := { t0.gate with seq := 7 } }
    s.kept = [] ∧ (recOf s 7).stop = some { seq := 7, cycle := 9, tick := 16 } ∧ 16 % 8 = 0 ∧ 24 % 8 = 0 ∧ 25 % 8 ≠ 0 ∧ tickNow s < 24 ∧
    liveLaunch s 7 = some (0, tLaunch .placing) ∧ (tLaunch .placing).cancel = false ∧ planHere s 7 = [0] ∧ (getCtx s 0).st ≠ .finished := by decide
theorem witness_PowerStates_more :
    let s := { t0 with time := 120000 * Config.ns, pkg := { t0.pkg with clusters := [(0, .waking)], wakeAt := [(0, 102000)], dies := [(1, .waking)] } }
    clusterSt s 0 = .waking ∧ SMap.get 0 s.pkg.wakeAt 0 + 18000 ≤ tickNow s ∧
    SMap.get .active s.pkg.dies 1 = .waking ∧ SMap.get 0 s.pkg.dieWakeAt 1 + 120000 ≤ tickNow s ∧ s.launches = [] ∧
    tickNow t0 < SMap.get 0 t0.pkg.dieWakeAt 1 + 120000 ∧ tickNow t0 < SMap.get 0 t0.pkg.wakeAt 0 + 18000 ∧
    SMap.get .active t0.pkg.dies 1 ≠ .waking := by decide
theorem witness_ManagementAccess_empty :
    (getCtx t0 3).st = .empty ∧ asleep t0 t0.myCluster = false ∧ recOpen (getCtx t0 0) = false := by decide
theorem witness_PowerAndReset_more :
    let s := { t0 with time := 100000007 * Config.ns, pkg := { t0.pkg with ebpinDown := true, ebpinAt := 7 } }
    s.pkg.ebpinDown = true ∧ s.pkg.ebpinAt + 100000000 ≤ tickNow s ∧ tickNow t0 < t0.pkg.ebpinAt + 100000000 := by decide
theorem witness_PowerAndReset_parts :
    let l := tLaunch .running
    let m := { (tLaunch .running) with seq := l.seq + 1 }
    let p := { tPlan with seq := l.seq }
    let q := { tPlan with seq := m.seq }
    let s := { t0 with launches := [(0, l), (1, m)], plans := [p, q] }
    let u := { t0 with time := 1000007 * Config.ns, pkg := { t0.pkg with winAt := some 7, stepAt := some 990007 } }
    0 ≠ 1 ∧ l.seq < m.seq ∧ liveLaunch s l.seq = some (0, l) ∧ liveLaunch s m.seq = some (1, m) ∧ s.plans = [p, q] ∧
    (resOf p 0).isSome = true ∧ (resOf q 0).isSome = true ∧ (∀ n, t0.pkg.winAt = some n → n + 1000000 ≤ tickNow t0) ∧
    u.pkg.winAt = some 7 ∧ 7 + 1000000 ≤ tickNow u ∧ u.pkg.stepAt = some 990007 ∧ 990007 + 10000 ≤ tickNow u := by
  simp [t0]; decide
theorem witness_DebugAccess_more :
    let l : DebugLayer := { core := 1279, vault := true }
    let s := { t0 with time := 20000 * Config.ns, pkg := { t0.pkg with waking := [l] } }
    let u := { t0 with time := 1000000000 * Config.ns, pkg := { t0.pkg with awake := [l] } }
    l ∈ s.pkg.waking ∧ layerTick s l + 20000 ≤ tickNow s ∧ tickNow t0 < layerTick t0 l + 20000 ∧
    layerTick u l + 1000000000 ≤ tickNow u ∧ tickNow s < layerTick s l + 1000000000 := by decide

/-! Ill-formed instructions: each operand value that an encoding does not allow is refused (R45, R76, R78, R79). -/

theorem test_illFormed_control :
    Instr.wellFormed (.j true 0 5) = false ∧ Instr.wellFormed (.call true 0 5) = false ∧ Instr.wellFormed (.fence 0 1) = false ∧
    Instr.wellFormed (.fence 1 6) = false ∧ Instr.wellFormed (.shli 1 2 64) = false ∧ Instr.wellFormed (.shri 1 2 64) = false ∧
    Instr.wellFormed (.srai 1 2 64) = false ∧ Instr.wellFormed (.cmp 1 2 3 6) = false ∧ Instr.wellFormed (.fcmp 1 2 3 4) = false ∧
    Instr.wellFormed (.mfc 1 15) = false ∧ Instr.wellFormed (.mtc 15 1) = false ∧ Instr.wellFormed (.qpopaNr 1 2 0) = false ∧
    Instr.wellFormed (.qpopNr 1 2 0) = false := by decide
theorem test_illFormed_rounding :
    Instr.wellFormed (.fadd 1 2 3 5) = false ∧ Instr.wellFormed (.fsub 1 2 3 6) = false ∧ Instr.wellFormed (.fmul 1 2 3 5) = false ∧
    Instr.wellFormed (.fdiv 1 2 3 6) = false ∧ Instr.wellFormed (.fsqrt 1 2 5) = false ∧ Instr.wellFormed (.fma 1 2 3 5) = false ∧
    Instr.wellFormed (.fcvtfi 1 2 5) = false ∧ Instr.wellFormed (.fcvtif 1 2 6) = false ∧ Instr.wellFormed (.vaddMasked 1 2 3 5) = false ∧
    Instr.wellFormed (.vsubMasked 1 2 3 5) = false ∧ Instr.wellFormed (.vmulMasked 1 2 3 6) = false ∧
    Instr.wellFormed (.vfmaMasked 1 3 3 5) = false ∧ Instr.wellFormed (.vexp2 1 2 3 5) = false ∧ Instr.wellFormed (.vlog2 1 2 3 5) = false ∧
    Instr.wellFormed (.vrcp 1 2 3 5) = false ∧ Instr.wellFormed (.vrsqrt 1 2 3 5) = false ∧ Instr.wellFormed (.vtanh 1 2 3 6) = false ∧
    Instr.wellFormed (.vsqrt 1 2 3 6) = false ∧ Instr.wellFormed (.vrsum 1 2 3 5) = false ∧ Instr.wellFormed (.vrmin 1 2 3 5) = false ∧
    Instr.wellFormed (.vrmax 1 2 3 6) = false ∧ Instr.wellFormed (.vcvt 0 8 3 5) = false ∧ Instr.wellFormed (.vqnt 0 8 7 5) = false ∧
    Instr.wellFormed (.vdqnt 0 8 4 6) = false := by decide
theorem test_illFormed_rows :
    Instr.wellFormed (.ldv 1 2 14 3) = false ∧ Instr.wellFormed (.vretag 1 2 14) = false ∧ Instr.wellFormed (.vfmaMasked 1 255 3 0) = false ∧
    Instr.wellFormed (.vfmaMasked 8 7 3 0) = false ∧ Instr.wellFormed (.vfmaMasked 7 7 3 0) = false ∧ Instr.wellFormed (.vcvt 253 8 3 0) = false ∧
    Instr.wellFormed (.vcvt 8 253 3 0) = false ∧ Instr.wellFormed (.vcvt 0 8 0 0) = false ∧ Instr.wellFormed (.vcvt 0 8 9 0) = false ∧
    Instr.wellFormed (.vcvt 0 3 3 0) = false ∧ Instr.wellFormed (.vqnt 249 8 7 0) = false ∧ Instr.wellFormed (.vqnt 8 249 7 0) = false ∧
    Instr.wellFormed (.vqnt 0 8 6 0) = false ∧ Instr.wellFormed (.vqnt 0 8 14 0) = false ∧ Instr.wellFormed (.vqnt 0 7 7 0) = false ∧
    Instr.wellFormed (.vdqnt 249 8 4 0) = false ∧ Instr.wellFormed (.vdqnt 8 249 4 0) = false ∧ Instr.wellFormed (.vdqnt 0 8 3 0) = false ∧
    Instr.wellFormed (.vdqnt 0 8 7 0) = false ∧ Instr.wellFormed (.vdqnt 0 7 4 0) = false ∧ Instr.wellFormed (.vbcs 1 2 9) = false ∧
    Instr.wellFormed (.viota 1 2 0) = false ∧ Instr.wellFormed (.viota 1 2 4) = false ∧ Instr.wellFormed (.vzclr 2 1 1) = false ∧
    Instr.wellFormed (.dmom 255 1) = false ∧ Instr.wellFormed (.dfrom 251 1 1) = false := by decide
theorem test_illFormed_system :
    Instr.wellFormed (.mma 0 255 0 false false 0 1) = false ∧ Instr.wellFormed (.mma 9 2 0 false false 0 5) = false ∧
    Instr.wellFormed (.mma 9 2 0 false false 1 0) = false ∧ Instr.wellFormed (.mma 9 2 0 false false 2 3) = false ∧
    Instr.wellFormed (.mma 9 2 0 false false 2 4) = false ∧ Instr.wellFormed (.mma 3 2 0 false false 0 1) = false ∧
    Instr.wellFormed (.mma 2 2 0 false false 0 1) = false ∧ Instr.wellFormed (.mfid 3) = false ∧ Instr.wellFormed (.mstat 1 2) = false ∧
    Instr.wellFormed (.bstat 0 1 7) = false ∧ Instr.wellFormed (.bstat 1 1 6) = false ∧ Instr.wellFormed (.xput 5 1) = false ∧
    Instr.wellFormed (.xput 7 1) = false ∧ Instr.wellFormed (.xget 1 6) = false ∧ Instr.wellFormed (.xget 1 7) = false := by decide

/-! Single words: the results that the rules give on chosen operands, worked out by hand. -/

/-- The results a word puts in flight, with its flags. -/
def sentBy (r : Answer) : List (Res × BitVec 6) :=
  match r with
  | .next t => t.flight.map (fun f => (f.res, f.fp))
  | .fault _ => []
  | .refused _ => []
/-- A word that traps puts nothing in flight; these are the class, the cause and the value of its trap. -/
def trapOf (r : Answer) : Option (Nat × BitVec 8 × Dbl) :=
  match r with
  | .next t => t.cur.trap
  | .fault _ => none
  | .refused _ => none
theorem test_add_wraps : sentBy (exec (.add 3 1 2 false) (setS 1 0xFFFFFFFFFFFFFFFF (setS 2 2 t0))) = [(.scalar 3 1, 0)] := by decide
theorem test_sub_w_extends_the_sign : sentBy (exec (.sub 3 1 2 true) (setS 1 0x100000000 (setS 2 1 t0))) = [(.scalar 3 0xFFFFFFFFFFFFFFFF, 0)] := by
  decide
theorem test_sra_takes_the_amount_modulo_64 :
    sentBy (exec (.sra 3 1 2 false) (setS 1 0x8000000000000000 (setS 2 67 t0))) = [(.scalar 3 0xF000000000000000, 0)] := by decide
theorem test_div_by_zero : sentBy (exec (.div 3 1 2 true true) (setS 1 5 t0)) = [(.scalar 3 0xFFFFFFFF, flDZ)] := by decide
theorem test_rem_sign_of_the_dividend :
    sentBy (exec (.rem 3 1 2 false false) (setS 1 0xFFFFFFFFFFFFFFF9 (setS 2 2 t0))) = [(.scalar 3 0xFFFFFFFFFFFFFFFF, 0)] := by decide
theorem test_adds_clamps :
    sentBy (exec (.adds 3 1 2 false false) (setS 1 0x7FFFFFFFFFFFFFFF (setS 2 1 t0))) = [(.scalar 3 0x7FFFFFFFFFFFFFFF, flSAT)] := by decide
theorem test_mulh_signed :
    sentBy (exec (.mulh 3 1 1 false false) (setS 1 0xFFFFFFFFFFFFFFFF t0)) = [(.scalar 3 0, 0)] ∧
    sentBy (exec (.mulh 3 1 1 false true) (setS 1 0xFFFFFFFFFFFFFFFF t0)) = [(.scalar 3 0xFFFFFFFFFFFFFFFE, 0)] := by decide
theorem test_lis_appends : sentBy (exec (.lis 1 5) (setS 1 1 t0)) = [(.scalar 1 0x40005, 0)] := by decide
/-- 1.0 + 2^-24 is a tie, to the even neighbour; 1.0 / 0.0 sets DZ. -/
theorem test_fadd_tie : sentBy (exec (.fadd 3 1 2 0) (setS 1 0x3F800000 (setS 2 0x33800000 t0))) = [(.scalar 3 0x3F800000, flNX)] := by decide
theorem test_fdiv_by_zero : sentBy (exec (.fdiv 3 1 2 0) (setS 1 0xBF800000 t0)) = [(.scalar 3 0xFF800000, flDZ)] := by decide
theorem test_fma_keeps_the_product_exact :
    sentBy (exec (.fma 3 1 2 0) (setS 1 0x3F800001 (setS 2 0x3F800001 (setS 3 0xBF800002 t0)))) = [(.scalar 3 0x28800000, 0)] := by decide
theorem test_fmin_of_zeros : sentBy (exec (.fmin 3 1 2) (setS 1 0 (setS 2 0x80000000 t0))) = [(.scalar 3 0x80000000, 0)] := by decide
theorem test_cmp_signed_and_unsigned :
    sentBy (exec (.cmp 3 1 2 2) (setS 1 0xFFFFFFFFFFFFFFFF t0)) = [(.pred 3 true, 0)] ∧
    sentBy (exec (.cmp 3 1 2 4) (setS 1 0xFFFFFFFFFFFFFFFF t0)) = [(.pred 3 false, 0)] := by decide
/-- 15_cluster.md: with tags 2 and 5 busy, TFFR of the mask 0x24 gives 64. -/
theorem test_tffr_none_idle :
    sentBy (exec (.tffr 7 4) (setS 4 0x24 { t0 with tags := [(2, 1), (5, 1)] })) = [(.scalar 7 64, 0)] := by
  decide
theorem test_load_is_zero_extended :
    sentBy (exec (.ldb 3 1 (-1)) (setS 1 0x10001 { t0 with mem := memWrite [] (keyScratch 0 0x10000) [0xFE] })) = [(.scalar 3 0xFE, 0)] := by decide
theorem test_load_misaligned : trapOf (exec (.ldw 3 1 2) (setS 1 0x10000 t0)) = some (5, 0x12, 0x10002) := by decide
theorem test_vcmp_tags_differ : trapOf (exec (.vadd 1 2 3) (setV 2 4 0 (setV 3 3 0 t0))) = some (4, 0x03, 0x30303) := by decide

/-! The examples that the spec works out. -/

/-- 02_numbers.md: 1 + 2^-9 to BF16 under SR, with two draws. -/
theorem test_stochastic_rounding :
    fconv f32 bf16 { mode := 4, draw := 0x3FFFFFFF } 0x3F804000 = (0x3F81, flNX) ∧
    fconv f32 bf16 { mode := 4, draw := 0x40000000 } 0x3F804000 = (0x3F80, flNX) := by decide
/-- 02_numbers.md: the MXINT8 element 0xA0 under the scale 0x82 is -12.0. -/
theorem test_block_scale : dequant f32 8 rne 0x82 (signedOf 8 0xA0) = (0xC1400000, 0) := by decide
/-- 02_numbers.md: -12.0 in a block whose amax is 12.0 quantises to the scale 130 and the element -96. -/
theorem test_quantise : (quantBlock f32 8 [rne, rne] [0xC1400000, 0x41400000]).1 = 130 ∧
    (quantBlock f32 8 [rne, rne] [0xC1400000, 0x41400000]).2.1 = [-96, 96] := by decide
/-- 02_numbers.md: scales 0xFE and 0xFE with S = -5, onto 1.0. -/
theorem test_scale_overflow : mxAdd 8 { xa := 0xFE, xb := 0xFE, s := -5, h := 0, f := 0 } (-5) 0x3F800000 = (0xFF7FFFFF, 1) := by decide
/-- 02_numbers.md: the sum of 2^24, 1, 1 and zeros by the tree of R57. -/
theorem test_reduction_tree :
    (redTree .sum true (fun _ => rne) 6 0 (0x4B800000 :: 0x3F800000 :: 0x3F800000 :: List.replicate 61 0)).1 = 0x4B800000 := by decide
/-- 02_numbers.md: 2^24, 1.0 and -2^24 added to a cleared XADD cell, in two orders. -/
theorem test_xadd_any_order :
    xaddRead (xaddUpdate (xaddUpdate (xaddUpdate 0 0x4B800000) 0x3F800000) 0xCB800000) = 0x3F800000 ∧
    xaddRead (xaddUpdate (xaddUpdate (xaddUpdate 0 0xCB800000) 0x3F800000) 0x4B800000) = 0x3F800000 := by decide
/-- The distributions X and Y of 09_distribution_registers.md. -/
def tX : Elem := List.replicate 4 (0, 0x1800) ++ List.replicate 4 (0x3F800000, 0x2800)
def tY : Elem := List.replicate 7 (0, 8192) ++ [(0x40000000, 8192)]
/-- 09_distribution_registers.md: their sum through the lens, its mean and the two quantiles. -/
def tSum : Elem := [(0, 8192), (0, 8192), (0x3EC00000, 8192)] ++ List.replicate 4 (0x3F800000, 8192) ++ [(0x40280000, 8192)]
theorem test_lens : pairElem .add tX tY = (some tSum, 0) := by decide
theorem test_mean : (moments tSum).1.1 = 0x3F600000 ∧ (moments tSum).1.2.1 = 0x3F1D0000 := by decide
theorem test_quantiles : (quantElem tSum 0x3E800000).1 = 0x3E400000 ∧ (quantElem tSum 0x3F680000).1 = 0x400E0000 := by decide
/-- Words whose encodings the spec gives beside their source (09, 10, 15 and 18). -/
theorem test_decode_worked_words :
    decodeTableWord 32 0x24311810 = some (.ldd 3 4 16) ∧ decodeTableWord 32 0x6C114000 = some (.xput 1 5) ∧
    decodeTableWord 32 0x6C60C001 = some (.xget 6 3) ∧ decodeTableWord 32 0x74414200 = some (.obcst 4 5 2) ∧
    decodeTableWord 32 0x58004306 = some (.dld 0 1 3) ∧ decodeTableWord 32 0x58108406 = some (.dld 1 2 4) ∧
    decodeTableWord 32 0x58200100 = some (.dadd 2 0 1 false) ∧ decodeTableWord 32 0x5C202000 = some (.dmom 8 2) ∧
    decodeTableWord 32 0x5C282141 = some (.dqnt 10 2 5) ∧ decodeTableWord 32 0x58308000 = some (.dadd 3 2 0 false) := by decide

/-! Words written out from the encodings of the spec. -/

theorem test_decode_control :
    decodeTableWord 32 0x84369A8F = some (.j false 13 170639) ∧
    decodeTableWord 32 0x056E24BF = some (.call false 27 140479) ∧
    decodeTableWord 32 0x063254C7 = some (.loop 12 152775) ∧
    decodeTableWord 32 0x08000000 = some (.nop) ∧
    decodeTableWord 32 0x08300001 = some (.jr 3) ∧
    decodeTableWord 32 0x08000002 = some (.ret) ∧
    decodeTableWord 32 0x88000003 = some (.ckpt) ∧
    decodeTableWord 32 0x88011F04 = some (.sys 287) ∧
    decodeTableWord 32 0x08017405 = some (.trap 372) ∧
    decodeTableWord 32 0x8800F306 = some (.brk 243) ∧
    decodeTableWord 32 0x08000007 = some (.eret) ∧
    decodeTableWord 32 0x0A614008 = some (.fence 38 5) := by decide

theorem test_decode_scalar :
    decodeTableWord 32 0x0E599A00 = some (.add 37 38 26 false) ∧
    decodeTableWord 32 0x0C393701 = some (.sub 3 36 55 false) ∧
    decodeTableWord 32 0x8DB2A302 = some (.mul 27 10 35 false) ∧
    decodeTableWord 32 0x8E4D6C03 = some (.mulh 36 53 44 false false) ∧
    decodeTableWord 32 0x0D81E404 = some (.div 24 7 36 false false) ∧
    decodeTableWord 32 0x0E0B23C5 = some (.rem 32 44 35 true true) ∧
    decodeTableWord 32 0x8E6F1E86 = some (.and 38 60 30 true) ∧
    decodeTableWord 32 0x8D0CCC07 = some (.or 16 51 12 false) ∧
    decodeTableWord 32 0x0E552288 = some (.xor 37 20 34 true) ∧
    decodeTableWord 32 0x8EF75309 = some (.andn 47 29 19 false) ∧
    decodeTableWord 32 0x0E16CB8A = some (.shl 33 27 11 true) ∧
    decodeTableWord 32 0x0FC81B0B = some (.shr 60 32 27 false) ∧
    decodeTableWord 32 0x0F19258C = some (.sra 49 36 37 true) ∧
    decodeTableWord 32 0x8ED5E7CD = some (.min 45 23 39 true true) ∧
    decodeTableWord 32 0x0F61BDCE = some (.max 54 6 61 true true) ∧
    decodeTableWord 32 0x0C4BEDCF = some (.adds 4 47 45 true true) ∧
    decodeTableWord 32 0x8EE67990 = some (.subs 46 25 57 true false) ∧
    decodeTableWord 32 0x8D72C011 = some (.clz 23 11 false) ∧
    decodeTableWord 32 0x8C438092 = some (.ctz 4 14 true) ∧
    decodeTableWord 32 0x0F040093 = some (.popc 48 16 true) ∧
    decodeTableWord 32 0x8FBE0094 = some (.mov 59 56 true) ∧
    decodeTableWord 32 0x10B74337 = some (.addi 11 29 823) ∧
    decodeTableWord 32 0x93924E8E = some (.andi 57 9 1678) ∧
    decodeTableWord 32 0x9389123B = some (.ori 56 36 571) ∧
    decodeTableWord 32 0x917B1F13 = some (.xori 23 44 1811) ∧
    decodeTableWord 32 0x93E3E03F = some (.shli 62 15 63) ∧
    decodeTableWord 32 0x10C2A83F = some (.shri 12 10 63) ∧
    decodeTableWord 32 0x1018303F = some (.srai 1 32 63) ∧
    decodeTableWord 32 0x1114F809 = some (.muli 17 19 9) ∧
    decodeTableWord 32 0x15B2236C = some (.li 27 140140) ∧
    decodeTableWord 32 0x968643EF = some (.lis 40 148463) ∧
    decodeTableWord 32 0x97D88081 = some (.adr 61 32897) := by decide

theorem test_decode_float_predicate :
    decodeTableWord 32 0x19EEB8E0 = some (.fadd 30 58 56 7) ∧
    decodeTableWord 32 0x99A69A61 = some (.fsub 26 26 26 3) ∧
    decodeTableWord 32 0x98434562 = some (.fmul 4 13 5 3) ∧
    decodeTableWord 32 0x1885A703 = some (.fdiv 8 22 39 0) ∧
    decodeTableWord 32 0x1A528004 = some (.fsqrt 37 10 0) ∧
    decodeTableWord 32 0x9A808505 = some (.fmin 40 2 5) ∧
    decodeTableWord 32 0x1A864A06 = some (.fmax 40 25 10) ∧
    decodeTableWord 32 0x9BE5E767 = some (.fma 62 23 39 3) ∧
    decodeTableWord 32 0x188DC068 = some (.fcvtfi 8 55 3) ∧
    decodeTableWord 32 0x99F50029 = some (.fcvtif 31 20 1) ∧
    decodeTableWord 32 0x1F0B6140 = some (.cmp 24 22 48 5) ∧
    decodeTableWord 32 0x9F7696C1 = some (.fcmp 27 45 11 3) ∧
    decodeTableWord 32 0x1CFEFA02 = some (.test 7 61 61) ∧
    decodeTableWord 32 0x9CABA403 = some (.pand 5 23 18) ∧
    decodeTableWord 32 0x1F289404 = some (.por 25 17 10) ∧
    decodeTableWord 32 0x1EEE1205 = some (.pxor 23 28 9) ∧
    decodeTableWord 32 0x9FC30006 = some (.pnot 30 6) := by decide

theorem test_decode_control_move :
    decodeTableWord 32 0xA3238000 = some (.mfc 50 14) ∧
    decodeTableWord 32 0xA0E3C001 = some (.mtc 14 15) ∧
    decodeTableWord 32 0x23410002 = some (.mfk 52 4) ∧
    decodeTableWord 32 0xA0CD0003 = some (.mtk 12 52) ∧
    decodeTableWord 32 0x20D00004 = some (.mfp 13) ∧
    decodeTableWord 32 0xA005C005 = some (.mtp 23) ∧
    decodeTableWord 32 0x2021C006 = some (.mfm 2 7) ∧
    decodeTableWord 32 0xA0444007 = some (.mtm 4 17) ∧
    decodeTableWord 32 0x22D0C008 = some (.qpopa 45 3) ∧
    decodeTableWord 32 0xA1D0CC08 = some (.qpopaNr 29 3 12) := by decide

theorem test_decode_scratchpad :
    decodeTableWord 32 0xA463C0D2 = some (.ldb 6 15 210) ∧
    decodeTableWord 32 0x25F34AB4 = some (.ldh 31 13 692) ∧
    decodeTableWord 32 0x25FA17E2 = some (.ldw 31 40 2018) ∧
    decodeTableWord 32 0x25FEDD3A = some (.ldd 31 59 1338) ∧
    decodeTableWord 32 0xA74AA0AE = some (.stb 52 42 174) ∧
    decodeTableWord 32 0x27B66E43 = some (.sth 59 25 1603) ∧
    decodeTableWord 32 0x25FE716E = some (.stw 31 57 366) ∧
    decodeTableWord 32 0xA73A7AA9 = some (.std 51 41 681) ∧
    decodeTableWord 32 0x2B3BDD33 = some (.ldv 206 61 13 51) ∧
    decodeTableWord 32 0xA99F00FA = some (.stv 103 48 122) ∧
    decodeTableWord 32 0x2EF2C000 = some (.ldmBlock 47 11) ∧
    decodeTableWord 32 0x2C908100 = some (.ldmScalar 9 2) ∧
    decodeTableWord 32 0x2E6E8001 = some (.stmBlock 38 58) ∧
    decodeTableWord 32 0xAF4A8101 = some (.stmScalar 52 42) ∧
    decodeTableWord 32 0x2CAD4002 = some (.ldshp 10 53) ∧
    decodeTableWord 32 0xACBF0003 = some (.stshp 11 60) := by decide

theorem test_decode_vector :
    decodeTableWord 32 0xB0A23634 = some (.vadd 40 141 141) ∧
    decodeTableWord 32 0x30181335 = some (.vsub 6 4 205) ∧
    decodeTableWord 32 0x321F03C2 = some (.vmul 135 192 240) ∧
    decodeTableWord 32 0x31C3F783 = some (.vfma 112 253 224) ∧
    decodeTableWord 32 0x375380DC = some (.vmin 212 224 55) ∧
    decodeTableWord 32 0x3504DD2D = some (.vmax 65 55 75) ∧
    decodeTableWord 32 0x37125D52 = some (.vand 196 151 84) ∧
    decodeTableWord 32 0xB631B35B = some (.vor 140 108 214) := by decide

theorem test_decode_masked :
    decodeTableWord 32 0x3843A718 = some (.vaddMasked 16 233 12 3) ∧
    decodeTableWord 32 0xBB53AFC9 = some (.vsubMasked 212 235 15 1) ∧
    decodeTableWord 32 0x3A1E0C5A = some (.vmulMasked 135 131 1 3) ∧
    decodeTableWord 32 0x38F29F4B = some (.vfmaMasked 60 167 13 1) ∧
    decodeTableWord 32 0x3895EA84 = some (.vminMasked 37 122 10) ∧
    decodeTableWord 32 0x3A3C4185 = some (.vmaxMasked 143 16 6) ∧
    decodeTableWord 32 0xBB271C86 = some (.vandMasked 201 199 2) ∧
    decodeTableWord 32 0x3900C547 = some (.vorMasked 64 49 5) ∧
    decodeTableWord 32 0x3F186A40 = some (.vxor 198 26 9) ∧
    decodeTableWord 32 0xBE402341 = some (.vshl 144 8 13) ∧
    decodeTableWord 32 0x3DC95282 = some (.vshr 114 84 10) ∧
    decodeTableWord 32 0x3EC91E03 = some (.vsra 178 71 8) ∧
    decodeTableWord 32 0xBE0BC904 = some (.vmulh 130 242 4) ∧
    decodeTableWord 32 0xBFB643C5 = some (.vabs 237 144 15) ∧
    decodeTableWord 32 0x3F61CCC6 = some (.vneg 216 115 3) ∧
    decodeTableWord 32 0xBC819607 = some (.vmov 32 101 8) := by decide

theorem test_decode_vector_other :
    decodeTableWord 32 0xC0AB0F84 = some (.vcmp 2 172 62 4) ∧
    decodeTableWord 32 0x4102C148 = some (.vkand 4 11 5) ∧
    decodeTableWord 32 0x43C340D0 = some (.vkor 15 13 3) ∧
    decodeTableWord 32 0xC0C143D8 = some (.vkxor 3 5 15) ∧
    decodeTableWord 32 0x42010020 = some (.vknot 8 4) ∧
    decodeTableWord 32 0x47F15638 = some (.vcvt 252 85 8 7) ∧
    decodeTableWord 32 0x47E15759 = some (.vqnt 248 85 13 3) ∧
    decodeTableWord 32 0xC696B582 = some (.vdqnt 165 173 6 0) ∧
    decodeTableWord 32 0xC4155F43 = some (.vretag 5 87 13) ∧
    decodeTableWord 32 0xC9C6D450 = some (.vexp2 113 181 1 2) ∧
    decodeTableWord 32 0xCA13D889 = some (.vlog2 132 246 2 1) ∧
    decodeTableWord 32 0x4859114A = some (.vrcp 22 68 5 1) ∧
    decodeTableWord 32 0xCB088BBB = some (.vrsqrt 194 34 14 7) ∧
    decodeTableWord 32 0xC9A09E64 = some (.vtanh 104 39 9 4) ∧
    decodeTableWord 32 0xCAD15085 = some (.vsqrt 180 84 2 0) ∧
    decodeTableWord 32 0x4DB7984C = some (.vperm 109 230 19) ∧
    decodeTableWord 32 0xD3C42200 = some (.vbcs 241 2 8) ∧
    decodeTableWord 32 0x53391181 = some (.vext 206 17 6) ∧
    decodeTableWord 32 0x50491E02 = some (.vins 18 17 56) ∧
    decodeTableWord 32 0x51D40003 = some (.vrng 117) ∧
    decodeTableWord 32 0x515E40C4 = some (.viota 87 36 3) := by decide

theorem test_decode_reduction :
    decodeTableWord 32 0xD6801078 = some (.vrsum 160 1 1 7) ∧
    decodeTableWord 32 0x57C410C1 = some (.vrmin 241 1 3 0) ∧
    decodeTableWord 32 0x54D022E2 = some (.vrmax 52 2 11 4) ∧
    decodeTableWord 32 0x552C2003 = some (.vzdrn 75 2) ∧
    decodeTableWord 32 0x54102D04 = some (.vzclr 4 2 52) := by decide

theorem test_decode_distribution :
    decodeTableWord 32 0x58504100 = some (.dadd 5 1 1 false) ∧
    decodeTableWord 32 0x58920481 = some (.dsub 9 8 4 true) ∧
    decodeTableWord 32 0x58B38B82 = some (.dmul 11 14 11 true) ∧
    decodeTableWord 32 0xD8938F83 = some (.dmax 9 14 15 true) ∧
    decodeTableWord 32 0xD8C10484 = some (.dmin 12 4 4 true) ∧
    decodeTableWord 32 0x58E3EE05 = some (.daff 14 15 46) ∧
    decodeTableWord 32 0x5875FF06 = some (.dld 7 23 63) ∧
    decodeTableWord 32 0x58E24007 = some (.dst 14 9) ∧
    decodeTableWord 32 0x582A4008 = some (.dtag 2 41) ∧
    decodeTableWord 32 0xD9C0C409 = some (.dpt 28 3 4) ∧
    decodeTableWord 32 0x5FF8E000 = some (.dmom 254 14) ∧
    decodeTableWord 32 0xDF7C9AC1 = some (.dqnt 223 9 43) ∧
    decodeTableWord 32 0xDE684B42 = some (.dcdf 154 4 45) ∧
    decodeTableWord 32 0xDFE88303 = some (.dfrom 250 8 12) := by decide

theorem test_decode_matrix :
    decodeTableWord 32 0x630D69E4 = some (.mma 195 90 1 true true 2 2) ∧
    decodeTableWord 32 0xE4104000 = some (.mldb 1 1) ∧
    decodeTableWord 32 0xE4E84001 = some (.mdrn 58 false 1) ∧
    decodeTableWord 32 0xE4200002 = some (.mfid 2) ∧
    decodeTableWord 32 0x65F48003 = some (.mprog 31 18) ∧
    decodeTableWord 32 0x65004004 = some (.mstat 16 1) ∧
    decodeTableWord 32 0x64600005 = some (.mcall 6) := by decide

theorem test_decode_vault :
    decodeTableWord 32 0xEB503127 = some (.bact 53 6 295) ∧
    decodeTableWord 32 0xEA621B83 = some (.brd 38 3 7 3) ∧
    decodeTableWord 32 0xE9454A0B = some (.bwr 20 41 4 11) ∧
    decodeTableWord 32 0x6AB60000 = some (.bpre 43) ∧
    decodeTableWord 32 0xEA080000 = some (.bprea 2) ∧
    decodeTableWord 32 0xE8AA0000 = some (.bref 10) ∧
    decodeTableWord 32 0xE80D4006 = some (.bstat 0 40 6) := by decide

theorem test_decode_exchange :
    decodeTableWord 32 0x6C6D4000 = some (.xput 6 53) ∧
    decodeTableWord 32 0xEEF14001 = some (.xget 47 5) ∧
    decodeTableWord 32 0x6C0EE202 = some (.csync 59 34) ∧
    decodeTableWord 32 0x6C015D03 = some (.pbar false 349) ∧
    decodeTableWord 32 0x6C00C004 = some (.cld 3) ∧
    decodeTableWord 32 0x6C0A5805 = some (.cst 41 24) ∧
    decodeTableWord 32 0x70739D00 = some (.cpy 7 14 29) ∧
    decodeTableWord 32 0x700A4001 = some (.twall 41) ∧
    decodeTableWord 32 0x7298C002 = some (.twany 41 35) ∧
    decodeTableWord 32 0x72044003 = some (.tffr 32 17) := by decide

theorem test_decode_optical :
    decodeTableWord 32 0x75ED0500 = some (.obcst 30 52 5) ∧
    decodeTableWord 32 0x76B88501 = some (.ored 43 34 5) ∧
    decodeTableWord 32 0xF51D0002 = some (.orecv 17 52) ∧
    decodeTableWord 32 0x740DC003 = some (.acq 55) ∧
    decodeTableWord 32 0xF4040004 = some (.acqs 16) ∧
    decodeTableWord 32 0x7403F005 = some (.rel 15 48) ∧
    decodeTableWord 32 0xF4080006 = some (.gbar 32) ∧
    decodeTableWord 32 0xF457C007 = some (.oget 5 31) ∧
    decodeTableWord 32 0xF40C8308 = some (.oset 50 3) := by decide

theorem test_decode_global :
    decodeTableWord 32 0x78014000 = some (.gld 5 false) ∧
    decodeTableWord 32 0xF8046A41 = some (.gst 17 42 true) ∧
    decodeTableWord 32 0x7807C4C2 = some (.gaadd false 31 4 true true) ∧
    decodeTableWord 32 0x780B20C3 = some (.gamin false 44 32 true true) ∧
    decodeTableWord 32 0xF817B204 = some (.gamax true 30 50 false false) ∧
    decodeTableWord 32 0xF80F1F45 = some (.gaand false 60 31 false true) ∧
    decodeTableWord 32 0xF80D61C6 = some (.gaor false 53 33 true true) ∧
    decodeTableWord 32 0xF80EFD07 = some (.gaxor false 59 61 false false) ∧
    decodeTableWord 32 0x780C22C8 = some (.gaswp false 48 34 true true) ∧
    decodeTableWord 32 0x7A7D6989 = some (.gacas 39 53 41 true false) ∧
    decodeTableWord 32 0xF8083A8A = some (.gafadd false 32 58 true) ∧
    decodeTableWord 32 0xF802C18B = some (.gafmin false 11 1 true) ∧
    decodeTableWord 32 0xF8152F0C = some (.gafmax true 20 47 false) ∧
    decodeTableWord 32 0xF816550D = some (.gabadd true 25 21 false) ∧
    decodeTableWord 32 0xF800558E = some (.gxadd 1 21 true) ∧
    decodeTableWord 32 0xF802000F = some (.gxrd 8) ∧
    decodeTableWord 32 0x78000010 = some (.gfence) ∧
    decodeTableWord 32 0x7BAC1311 = some (.gws 58 48 19) := by decide

theorem test_decode_host_queue :
    decodeTableWord 32 0xFC060000 = some (.hld 24) ∧
    decodeTableWord 32 0x7C069901 = some (.hst 26 25) ∧
    decodeTableWord 32 0x7D808002 = some (.qpop 24 2) ∧
    decodeTableWord 32 0xFF704902 = some (.qpopNr 55 1 9) := by decide


end Sys2Proof
end

section
/-! SUPPORT. What the landing of a result writes and leaves as it is, for each register file and for a store, and a result followed
from its issue to its landing. -/
namespace Sys2Proof.Machine

/-! Landing of register results -/

/-- Registers of different numbers have different keys in their table. -/
theorem regKey_ne {n : Nat} {i j : BitVec n} (h : j ≠ i) : i.toNat ≠ j.toNat := fun e => h (BitVec.eq_of_toNat_eq e.symm)

/-- One bit set or cleared in the predicate file: that bit is the value, the others stay. -/
theorem getLsbD_predBit (w : BitVec 32) (p j : BitVec 5) (b : Bool) :
    (if b then w ||| (1#32 <<< p.toNat) else w &&& ~~~(1#32 <<< p.toNat)).getLsbD j.toNat =
      if j = p then b else w.getLsbD j.toNat := by
  have hj : j.toNat < 32 := j.isLt
  have hone : (1#32 <<< p.toNat).getLsbD j.toNat = decide (j = p) := by
    rw [BitVec.getLsbD_shiftLeft, BitVec.getLsbD_one, Bool.eq_iff_iff]
    simp only [Bool.and_eq_true, decide_eq_true_eq, Bool.not_eq_true', decide_eq_false_iff_not, ← BitVec.toNat_inj]
    omega
  cases b
  · simp only [Bool.false_eq_true, if_false, BitVec.getLsbD_and, BitVec.getLsbD_not, hone, hj, decide_true, Bool.true_and]
    by_cases h : j = p <;> simp [h]
  · simp only [if_true, BitVec.getLsbD_or, hone]
    by_cases h : j = p <;> simp [h]

theorem landReg_scalar_frame (x : Ctx) (i : BitVec 6) (v : Dbl) :
    let y := landReg x (.scalar i v)
    y.bank.getS i = v ∧ (∀ j, j ≠ i → y.bank.getS j = x.bank.getS j) ∧ y = { x with bank := { x.bank with s := y.bank.s } } :=
  ⟨SMap.get_set_self _ _ _ _, fun _ h => SMap.get_set_ne _ _ (regKey_ne h) _, rfl⟩

theorem landReg_pred_frame (x : Ctx) (p : BitVec 5) (b : Bool) :
    let y := landReg x (.pred p b)
    (p ≠ 0 → y.bank.getP p = b) ∧ (∀ j, j ≠ p → y.bank.getP j = x.bank.getP j) ∧
      y = { x with bank := { x.bank with p := y.bank.p } } := by
  by_cases hp : p = 0
  · subst hp; simp [landReg]
  · simp only [landReg, hp, if_false, Bank.getP, getLsbD_predBit, if_true]
    exact ⟨fun h => by rw [beq_eq_false_iff_ne.mpr h, Bool.false_or], fun j hj => by simp [hj], trivial⟩

theorem landReg_mask_frame (x : Ctx) (k : BitVec 4) (v : Dbl) :
    let y := landReg x (.mask k v)
    (k ≠ 0 → y.bank.getK k = v) ∧ (∀ j, j ≠ k → y.bank.getK j = x.bank.getK j) ∧
      y = { x with bank := { x.bank with k := y.bank.k } } := by
  by_cases hk : k = 0
  · subst hk; simp [landReg]
  · simp only [landReg, hk, if_false, Bank.getK]
    exact ⟨fun _ => SMap.get_set_self _ _ _ _, fun j hj => by rw [SMap.get_set_ne _ _ (regKey_ne hj)], trivial⟩

theorem landReg_mparam_frame (x : Ctx) (m : BitVec 3) (v : Dbl) :
    let y := landReg x (.mparam m v)
    y.bank.getM m = v ∧ (∀ j, j ≠ m → y.bank.getM j = x.bank.getM j) ∧ y = { x with bank := { x.bank with m := y.bank.m } } :=
  ⟨SMap.get_set_self _ _ _ _, fun _ h => SMap.get_set_ne _ _ (regKey_ne h) _, rfl⟩

theorem landReg_shape_frame (x : Ctx) (k : BitVec 4) (h : BitVec 256) :
    let y := landReg x (.shape k h)
    y.bank.getH k = h ∧ (∀ j, j ≠ k → y.bank.getH j = x.bank.getH j) ∧ y = { x with bank := { x.bank with h := y.bank.h } } :=
  ⟨SMap.get_set_self _ _ _ _, fun _ h => SMap.get_set_ne _ _ (regKey_ne h) _, rfl⟩

/-- A bit of a merged row comes from the word where the word writes it, and from the old row elsewhere (R153). -/
theorem getLsbD_mergeRow (old data bits : BitVec 2048) (j : Nat) :
    (mergeRow old data bits).getLsbD j = if bits.getLsbD j then data.getLsbD j else old.getLsbD j := by
  by_cases hj : j < 2048
  · simp only [mergeRow, BitVec.getLsbD_or, BitVec.getLsbD_and, BitVec.getLsbD_not, hj, decide_true, Bool.true_and]
    cases bits.getLsbD j <;> simp
  · simp [BitVec.getLsbD_of_ge _ j (Nat.le_of_not_lt hj)]

theorem landReg_row_frame (x : Ctx) (r : BitVec 8) (g : Tag) (data bits : BitVec 2048) :
    let y := landReg x (.row r g data bits)
    g = (y.getV r).tag ∧ (∀ j, (y.getV r).data.getLsbD j = if bits.getLsbD j then data.getLsbD j else (x.getV r).data.getLsbD j) ∧
      (∀ j, j ≠ r → y.getV j = x.getV j) ∧ y = { x with v := y.v } := by
  have hy : (landReg x (.row r g data bits)).getV r = { tag := g, data := mergeRow (x.getV r).data data bits } :=
    SMap.get_set_self _ _ _ _
  exact ⟨by rw [hy], fun j => by rw [hy]; exact getLsbD_mergeRow _ _ _ j,
    fun _ h => SMap.get_set_ne _ _ (regKey_ne h) _, rfl⟩

theorem landReg_latch_frame (x : Ctx) (z : BitVec 2) (g : Tag) (data : BitVec 2048) :
    let y := landReg x (.latch z g data)
    y.getZ z = { tag := g, data := data } ∧ (∀ j, j ≠ z → y.getZ j = x.getZ j) ∧ y = { x with z := y.z } :=
  ⟨SMap.get_set_self _ _ _ _, fun _ h => SMap.get_set_ne _ _ (regKey_ne h) _, rfl⟩

/-- Settles O18: one frame lemma for each kind of register result. -/
theorem registerLandingFrame : Obligations.RegisterLandingFrame := by
  intro x i p k m r z v b g data bits h
  exact ⟨landReg_scalar_frame x i v, landReg_pred_frame x p b, landReg_mask_frame x k v, landReg_mparam_frame x m v,
    landReg_shape_frame x k h, landReg_row_frame x r g data bits, landReg_latch_frame x z g data⟩


/-! A result alone in flight, from its issue to its landing -/

/-- A word that sends results and does not trap has put them in flight and has had its other effects. -/
theorem issue_of_not_trapped {s t : State} {cs : List Cause} {outs : List Out} {eff : State → State}
    (h : issue s cs outs eff = t) (ht : t.cur.trap = none) : t = eff (s.sent outs) := by
  rcases issue_cases s cs outs eff with ⟨c, u, e, _⟩ | ⟨_, e⟩
  · rw [← h, e, trapWord_trap] at ht; cases ht
  · rw [← h, e]

/-- No context waits for the replay of snapshot entries (R131). -/
def NoReplay (s : State) : Prop := ∀ c, (getCtx s c).replayAt = none

theorem NoReplay.congr {s t : State} (hs : NoReplay s) (h : t.ctxs = s.ctxs) : NoReplay t :=
  fun c => by rw [getCtx_congr h]; exact hs c

theorem replaysOf_noReplay {s : State} (h : NoReplay s) (c : CtxId) : replaysOf s c = [] := by
  simp [replaysOf, h c]

theorem dropReplays_noReplay {s : State} (h : NoReplay s) (c : CtxId) : dropReplays s c = s := by
  simp [dropReplays, h c]

/-- A scalar or scratchpad result without flags: no other part of a landing looks at it than the write itself. -/
structure PlainResult (f : Flight) : Prop where
  kind : (∃ d v, f.res = .scalar d v) ∨ ∃ p bs, f.res = .scratch p bs
  fp : f.fp = 0
  mx : f.mx = 0

theorem PlainResult.sideOf {f : Flight} (h : PlainResult f) (a : LandAcc) : sideOf a f = a := by
  rcases h.kind with ⟨d, v, e⟩ | ⟨p, bs, e⟩ <;> simp [Machine.sideOf, e]
theorem PlainResult.drainRes {f : Flight} (h : PlainResult f) (s : State) : drainRes s f = f := by
  rcases h.kind with ⟨d, v, e⟩ | ⟨p, bs, e⟩ <;> simp [Machine.drainRes, e]
theorem PlainResult.drainClear {f : Flight} (h : PlainResult f) (s : State) : drainClear s f = s := by
  rcases h.kind with ⟨d, v, e⟩ | ⟨p, bs, e⟩ <;> simp [Machine.drainClear, e]
theorem PlainResult.dropLost {f : Flight} (h : PlainResult f) : dropLost [] [f] = [f] := by
  rcases h.kind with ⟨d, v, e⟩ | ⟨p, bs, e⟩ <;> simp [Machine.dropLost, lostTo, trimFlags, e]
theorem PlainResult.flags {f : Flight} (h : PlainResult f) (base : State) (a : LandAcc) :
    (landOne base a f).flags = a.flags ++ [(f.ctx, 0, 0)] := by
  rcases h.kind with ⟨d, v, e⟩ | ⟨p, bs, e⟩ <;> simp [landOne, landAs, e, h.fp, h.mx]
theorem PlainResult.fetches {f : Flight} (h : PlainResult f) (base : State) (a : LandAcc) :
    (landOne base a f).s.fetches = a.s.fetches := by
  rcases h.kind with ⟨d, v, e⟩ | ⟨p, bs, e⟩ <;> simp [landOne, landAs, e]

/-- Without reads of words in flight none is made. -/
theorem runFetches_nil {s : State} (h : s.fetches = []) : runFetches s = s := by
  cases s; cases h; rfl

/-- The state in which the last result in flight is written. -/
def lastLanding (s : State) (f : Flight) : State := (landOne s { s := { s with flight := [] }, flags := [], rows := [] } f).s

/-- The landing of the only result in flight: its write, and the ports of past cycles are free. -/
theorem land_plain {s : State} {f : Flight} (hf : s.flight = [f]) (hp : PlainResult f) (hl : f.land ≤ s.cycle)
    (hn : NoReplay s) (hfe : s.fetches = []) :
    land s = { lastLanding s f with ports := (lastLanding s f).ports.filter (fun r => decide ((lastLanding s f).cycle ≤ r.cycle)) } := by
  have hreps : allCtx.flatMap (replaysOf s) = [] := by simp [replaysOf_noReplay hn]
  have hdrop : allCtx.foldl dropReplays { s with flight := [] } = { s with flight := [] } :=
    List.foldl_fixed' (fun c => dropReplays_noReplay (s := { s with flight := [] }) hn c) _
  simp only [land, landWith, landLog, if_true, hreps, hf, List.filter_cons, List.filter_nil, hl, decide_true, Bool.and_self,
    Bool.not_true, Bool.false_eq_true, if_false, hdrop, hp.dropLost, List.nil_append, Machine.dropLost, List.foldl_cons,
    List.foldl_nil, hp.sideOf, hp.drainClear, List.map_cons, List.map_nil, hp.drainRes, hp.flags]
  exact runFetches_nil ((hp.fetches _ _).trans hfe)

/-! A store's landing (R12, R229) -/

theorem landOne_scratch (base : State) (acc : LandAcc) (f : Flight) (p : Nat) (bs : List Byte) (h : f.res = .scratch p bs) :
    (landOne base acc f).s = scratchWrite acc.s p bs := by simp [landOne, h]
theorem landOne_mirror (base : State) (acc : LandAcc) (f : Flight) (p : Nat) (bs : List Byte) (h : f.res = .mirror p bs) :
    (landOne base acc f).s = mirrorWrite acc.s p bs := by simp [landOne, h]

/-- Bytes written are read back in their places. -/
theorem getElem?_of_memWrite (bs : List Byte) (m : List Host.Cell) (a j : Nat) (h : j < bs.length) :
    bs[j]? = some (memGet (memWrite m a bs) (a + j)) := by
  rw [memGet_memWrite, if_pos (by omega), Nat.add_sub_cancel_left]
  simp [List.getD, h]

theorem keyScratch_add (core a j : Nat) : keyScratch core (a + j) = keyScratch core a + j := (Nat.add_assoc _ _ _).symm
theorem keyMirror_add (core a j : Nat) : keyMirror core (a + j) = keyMirror core a + j := (Nat.add_assoc _ _ _).symm

theorem storeLanding : Claim.StoreLanding := by
  intro base acc f p bs
  constructor
  · intro h
    simp only [landOne_scratch base acc f p bs h]
    exact ⟨fun j hj => by rw [State.scratchByte, keyScratch_add]; exact getElem?_of_memWrite bs _ _ j hj,
      fun k hk => memGet_memWrite_ne bs _ hk, rfl⟩
  · intro h
    simp only [landOne_mirror base acc f p bs h]
    exact ⟨fun j hj => by rw [State.mirrorByte, keyMirror_add]; exact getElem?_of_memWrite bs _ _ j hj,
      fun k hk => memGet_memWrite_ne bs _ hk, rfl⟩

/-! A store from its issue to its landing (R12, R237) -/

/-- The j-th byte that a store of n bytes writes is byte j of its source. -/
theorem getElem?_leBytes_toNat (n : Nat) (v : Dbl) (j : Nat) (h : j < n) :
    (leBytes n v.toNat)[j]? = some (v.extractLsb' (8 * j) 8) := by
  rw [getElem?_leBytes n _ j h, show (256 : Nat) = 2 ^ 8 from rfl, ← Nat.pow_mul, ← Nat.shiftRight_eq_div_pow]
  rfl

/-- The landing of a store that is the only result in flight. -/
theorem land_scratch {s : State} {f : Flight} {p : Nat} {bs : List Byte} (hr : f.res = .scratch p bs) (hf : s.flight = [f])
    (hp : PlainResult f) (hl : f.land ≤ s.cycle) (hn : NoReplay s) (hfe : s.fetches = []) :
    (land s).mem = memWrite s.mem (keyScratch s.me p) bs ∧ (land s).ctxs = s.ctxs ∧ (land s).cur = s.cur ∧
      (land s).self = s.self ∧ (land s).flight = [] := by
  rw [land_plain hf hp hl hn hfe]
  simp only [lastLanding, landOne_scratch _ _ f _ _ hr]
  exact ⟨rfl, rfl, rfl, rfl, rfl⟩

/-- A store of n bytes of which nothing else is under way: its bytes are in place two cycles later, and nothing else has
changed. -/
theorem storeScalar_reaches {s t : State} {b a : BitVec 6} {i : BitVec 11} {n : Nat} (hf : s.flight = []) (hfe : s.fetches = [])
    (hn : NoReplay s) (h : storeScalar b a i n s = .next t) (ht : t.cur.trap = none) :
    let p := scalarAddr s a i
    let u := land { t with cycle := s.cycle + 2 }
    (∀ j, j < n → u.scratchByte (p + j) = (rs s b).extractLsb' (8 * j) 8) ∧
    (∀ k, (k < keyScratch s.me p ∨ keyScratch s.me p + n ≤ k) → memGet u.mem k = memGet s.mem k) ∧
    (∀ e, rs u e = rs s e) ∧ u.ctxs = s.ctxs ∧ u.flight = [] := by
  intro p u
  have e := issue_of_not_trapped (Host.Outcome.next.inj h) ht
  obtain ⟨hmem, hctx, hcur, hself, hfl⟩ : u.mem = memWrite s.mem (keyScratch s.me p) (leBytes n (rs s b).toNat) ∧
      u.ctxs = s.ctxs ∧ u.cur = t.cur ∧ u.self = s.self ∧ u.flight = [] := by
    have hctxs : t.ctxs = s.ctxs := by rw [e]; rfl
    have hmem : t.mem = s.mem := by rw [e]; rfl
    have hself : t.self = s.self := by rw [e]; rfl
    have hl := land_scratch (s := { t with cycle := s.cycle + 2 })
      (f := Out.toFlight s { lat := 2, res := .scratch p (leBytes n (rs s b).toNat) }) rfl
      (by rw [e]; change s.flight ++ _ = _; rw [hf]; rfl)
      ⟨.inr ⟨_, _, rfl⟩, rfl, rfl⟩ (le_refl _) (hn.congr hctxs) (by rw [e]; exact hfe)
    rw [← hctxs, ← hmem, ← hself, State.me, ← hself]
    exact hl
  have hc : cx u = cx s := by
    unfold cx; rw [getCtx_congr hctx, hcur, e]; rfl
  refine ⟨fun j hj => ?_, fun k hk => ?_, fun r => by unfold rs; rw [hc], hctx, hfl⟩
  · have hb := getElem?_of_memWrite (leBytes n (rs s b).toNat) s.mem (keyScratch s.me p) j (by simpa using hj)
    rw [getElem?_leBytes_toNat n _ j hj, Option.some_inj] at hb
    rw [hb, State.scratchByte, keyScratch_add, hmem, show u.me = s.me from congrArg BitVec.toNat hself]
  · rw [hmem]; exact memGet_memWrite_ne _ _ (by simpa using hk)

theorem storeReachesMemory : Claim.StoreReachesMemory := by
  intro s t b a i n w hw hf hfe hn h ht
  have hst : storeScalar b a i n s = .next t := by
    simp only [List.mem_cons, Prod.mk.injEq, List.not_mem_nil, or_false] at hw
    rcases hw with ⟨rfl, rfl⟩ | ⟨rfl, rfl⟩ | ⟨rfl, rfl⟩ | ⟨rfl, rfl⟩ <;> exact h
  exact storeScalar_reaches hf hfe hn hst ht

/-! A sum from its issue to its landing (R12, R93) -/

/-- The code of an integer read from n bits is that of the bits. -/
theorem ofInt_signedOf (n v : Nat) : BitVec.ofInt n (signedOf n v) = BitVec.ofNat n v := by
  have hmod : signedOf n v % (2 ^ n : Nat) = (v % 2 ^ n : Nat) := by
    unfold signedOf
    split <;> simp
  refine BitVec.eq_of_toNat_eq ?_
  rw [BitVec.toNat_ofInt, hmod, Int.toNat_natCast, BitVec.toNat_ofNat]

/-- The sum of R93 in W form or not: the sum of the codes in the word's width. -/
theorem intResult_add (w : Bool) (x y : Dbl) :
    intResult w false (intOperand w false x + intOperand w false y) = wide w (x + y) := by
  cases w
  · simp [intResult, intOperand, wide, BitVec.ofInt_add, ofInt_signedOf]
  · simp only [intResult, intOperand, wide, if_true, BitVec.ofInt_add, ofInt_signedOf, Bool.false_eq_true, if_false]
    congr 1
    exact BitVec.eq_of_toNat_eq (by simp)

/-- The landing of a scalar that is the only result in flight. -/
theorem land_scalar {s : State} {f : Flight} {d : BitVec 6} {v : Dbl} (hr : f.res = .scalar d v) (hf : s.flight = [f])
    (hp : PlainResult f) (hl : f.land ≤ s.cycle) (hn : NoReplay s) (hfe : s.fetches = []) :
    (∀ c, getCtx (land s) c = if c = f.ctx then landReg (getCtx s c) (.scalar d v) else getCtx s c) ∧ (land s).mem = s.mem ∧
      (land s).matrix = s.matrix ∧ (land s).cur = s.cur ∧ (land s).flight = [] := by
  rw [land_plain hf hp hl hn hfe]
  simp only [lastLanding, landOne, hr, landAs]
  refine ⟨fun c => ?_, rfl, rfl, rfl, rfl⟩
  refine (getCtx_setCtx { s with flight := [] } f.ctx c _).trans ?_
  split
  · rename_i h; rw [h]; rfl
  · rfl

theorem sumReachesRegister : Claim.SumReachesRegister := by
  intro s t d a b w hf hfe (hn : NoReplay s) h ht u
  have e := issue_of_not_trapped (Host.Outcome.next.inj h) ht
  obtain ⟨hctx, hmem, hmat, hcur, hfl⟩ : (∀ c, getCtx u c = if c = s.cur.ctx then
        landReg (getCtx s c) (.scalar d (wide w (rs s a + rs s b))) else getCtx s c) ∧
      u.mem = s.mem ∧ u.matrix = s.matrix ∧ u.cur = t.cur ∧ u.flight = [] := by
    have hctxs : t.ctxs = s.ctxs := by rw [e]; rfl
    have hmem : t.mem = s.mem := by rw [e]; rfl
    have hmat : t.matrix = s.matrix := by rw [e]; rfl
    rw [← intResult_add]
    have hl := land_scalar (s := { t with cycle := s.cycle + 1 })
      (f := Out.toFlight s (scalarOut 1 d (intResult w false (intOperand w false (rs s a) + intOperand w false (rs s b))))) rfl
      (by rw [e]; change s.flight ++ _ = _; rw [hf]; rfl)
      ⟨.inl ⟨_, _, rfl⟩, rfl, rfl⟩ (le_refl _) (hn.congr hctxs) (by rw [e]; exact hfe)
    simp only [← getCtx_congr hctxs, ← hmem, ← hmat]
    exact hl
  have hc : cx u = landReg (cx s) (.scalar d (wide w (rs s a + rs s b))) := by
    have hcc : u.cur.ctx = s.cur.ctx := by rw [hcur, e]; rfl
    unfold cx; rw [hcc, hctx, if_pos rfl]
  obtain ⟨hd, hne, hframe⟩ := landReg_scalar_frame (cx s) d (wide w (rs s a + rs s b))
  rw [← hc] at hd hne hframe
  exact ⟨hd, hne, (congrArg Ctx.bank hframe :), fun c hcne => by rw [hctx, if_neg hcne], (congrArg Ctx.v hframe :), hmem, hmat, hfl⟩

/-- Settles O17: the issue puts one result in flight, whose landing is the only write. -/
theorem resultsReachTheirPlace : Obligations.ResultsReachTheirPlace :=
  ⟨storeReachesMemory, sumReachesRegister, storeLanding⟩

end Sys2Proof.Machine
end

section
/-! SUPPORT. No word changes memory at its issue: the effects that words have beside their results, one lemma each, and
the case split over the words. -/
namespace Sys2Proof.Machine

/-- An answer to a state leaves its memory as it is. -/
def KeepsMem (s : State) (a : Answer) : Prop := ∀ t, a = .next t → t.mem = s.mem

theorem keepsMem_next {s t : State} (h : t.mem = s.mem) : KeepsMem s (.next t) := fun _ e => by cases e; exact h

/-- A word that issues keeps memory if its effects do; its results only enter State.flight. -/
theorem keepsMem_issue {s : State} {a : Answer} {cs : List Cause} {outs : List Out} {eff : State → State}
    (e : a = .next (issue s cs outs eff)) (h : ∀ u, (eff u).mem = u.mem) : KeepsMem s a :=
  e ▸ keepsMem_next (issue_mem s cs outs eff h)

/-- What each of several effects leaves as it is, all of them one after another do. -/
theorem foldl_keeps {α β : Type} {π : State → β} {f : State → α → State} (h : ∀ s a, π (f s a) = π s) (l : List α) (s : State) :
    π (l.foldl f s) = π s := by
  induction l generalizing s with
  | nil => rfl
  | cons a l ih => rw [List.foldl_cons, ih, h]

/-- Effects that follow each other keep memory if each does. -/
theorem foldl_mem {α : Type} {f : State → α → State} (h : ∀ s a, (f s a).mem = s.mem) (l : List α) (s : State) :
    (l.foldl f s).mem = s.mem := foldl_keeps h l s

/-! Effects of single words -/

@[simp] theorem takeIf_mem (b : Bool) (v : Dbl) (s : State) : (takeIf b v s).mem = s.mem := by
  unfold takeIf; split <;> rfl
@[simp] theorem popHead_mem (q : BitVec 2) (s : State) : (popHead q s).mem = s.mem := by
  unfold popHead; dsimp only; split <;> rfl
@[simp] theorem precharge_mem (n : Nat) (s : State) : (precharge n s).mem = s.mem := by
  unfold precharge; dsimp only; split <;> rfl
@[simp] theorem markTimed_mem (s : State) : (markTimed s).mem = s.mem := rfl
@[simp] theorem raiseLate_mem (c : CtxId) (v : Dbl) (s : State) : (raiseLate c v s).mem = s.mem := by
  unfold raiseLate; dsimp only; split <;> rfl
@[simp] theorem raiseMiss_mem (k p q n : Nat) (s : State) : (raiseMiss k p q n s).mem = s.mem := by
  unfold raiseMiss; split
  · dsimp only; split <;> rfl
  · rfl
@[simp] theorem lateIn_mem (k e n j : Nat) (s : State) : (lateIn k e n j s).mem = s.mem := by
  unfold lateIn; split <;> simp

/-! Exchange ports and the gateway (R281, R310, R440) -/

@[simp] theorem pushPort_mem (p : BitVec 2) (v : Dbl) (j : Nat) (s : State) : (pushPort p v j s).mem = s.mem := by
  unfold pushPort; split <;> simp
@[simp] theorem popPort_mem (p : BitVec 2) (j : Nat) (s : State) : (popPort p j s).mem = s.mem := by
  unfold popPort; split
  · simp
  · split <;> simp
@[simp] theorem pushGate_mem (v : Dbl) (j : Nat) (s : State) : (pushGate v j s).mem = s.mem := by
  unfold pushGate; split
  · simp
  · split <;> simp
@[simp] theorem pushFo_mem (v : Dbl) (j : Nat) (s : State) : (pushFo v j s).mem = s.mem := by
  unfold pushFo; split
  · simp
  · split
    · simp
    · split <;> simp
@[simp] theorem popGate_mem (j : Nat) (s : State) : (popGate j s).mem = s.mem := by
  unfold popGate; split
  · simp
  · split <;> simp
@[simp] theorem popFi_mem (j : Nat) (s : State) : (popFi j s).mem = s.mem := by
  unfold popFi; split
  · simp
  · split <;> simp
@[simp] theorem startSync_mem (m : BitVec 16) (t : BitVec 6) (j : Nat) (s : State) : (startSync m t j s).mem = s.mem := by
  unfold startSync; split
  · simp
  · split <;> simp

/-! PBAR (R313, R317) -/

@[simp] theorem failUnfilled_mem (l : List GEntry) (s : State) : (failUnfilled l s).mem = s.mem :=
  foldl_mem (fun s e => by split <;> simp) l s
@[simp] theorem dropLeft_mem (s : State) : (dropLeft s).mem = s.mem := by
  unfold dropLeft; dsimp only; split
  · split <;> simp
  · split <;> simp
@[simp] theorem releaseFreq_mem (s : State) : (releaseFreq s).mem = s.mem := by
  unfold releaseFreq; split <;> rfl
@[simp] theorem replanPoint_mem (k : Nat) (s : State) : (replanPoint k s).mem = s.mem := by
  unfold replanPoint; split <;> rfl
@[simp] theorem startStep_mem (r : Bool) (k : BitVec 12) (rel : Nat) (s : State) : (startStep r k rel s).mem = s.mem := by
  have hleft : (dropLeft (failUnfilled s.gate.foList (failUnfilled s.gate.list s))).mem = s.mem := by simp
  unfold startStep; dsimp only; split
  · rw [replanPoint_mem, releaseFreq_mem]; exact hleft
  · exact hleft
/-- What a plan's gateway undergoes keeps memory if it does so alone. -/
theorem withPlan_mem {f : State → State} (h : ∀ u, (f u).mem = u.mem) (q : Nat) (s : State) : (withPlan q f s).mem = s.mem := by
  unfold withPlan; split
  · exact h s
  · exact h _

/-! Reruns, CKPT and SYS (R107, R109, R259, R264) -/

@[simp] theorem discardTags_mem (l : List Access) (s : State) : (discardTags l s).mem = s.mem :=
  foldl_mem (fun s a => by split <;> simp) l s
@[simp] theorem rollCtx_mem (t n : Nat) (c : CtxId) (s : State) : (rollCtx t n c s).mem = s.mem := by
  unfold rollCtx; dsimp only; rw [setCtx_mem, discardTags_mem]
@[simp] theorem report_mem (q : Nat) (k : BitVec 16) (a b : Dbl) (s : State) : (report q k a b s).mem = s.mem := by
  unfold report; split <;> rfl
@[simp] theorem retire_mem (q : Nat) (s : State) : (retire q s).mem = s.mem := by
  unfold retire; dsimp only; rw [foldl_mem (fun s p => report_mem _ _ _ _ s), blackBox_mem]
theorem endRerun_mem {done : State → State} (h : ∀ u, (done u).mem = u.mem) (c : CtxId) (s : State) :
    (endRerun c done s).mem = s.mem := by
  unfold endRerun; dsimp only; split
  · split <;> simp
  · split
    · exact h s
    · simp
@[simp] theorem softTrap_mem (s : State) (k : BitVec 8) (n : BitVec 12) (t : Nat) (z : Ctx) : (softTrap s k n t z).mem = s.mem :=
  deliver_mem _ _ _ _ _ _ _
@[simp] theorem heldNext_mem (c : CtxId) (s : State) : (heldNext c s).mem = s.mem := by
  unfold heldNext; dsimp only; split <;> rfl
@[simp] theorem sysTrap_mem (k : BitVec 12) (s : State) : (sysTrap k s).mem = s.mem := by
  unfold sysTrap; dsimp only; split
  · exact softTrap_mem _ _ _ _ _
  · exact softTrap_mem _ _ _ _ _

theorem execCkpt_keepsMem (s : State) : KeepsMem s (execCkpt s) := by
  unfold execCkpt; dsimp only; split
  · exact keepsMem_issue rfl (fun _ => rfl)
  · split
    · exact keepsMem_issue rfl (fun _ => rfl)
    · split
      · exact keepsMem_next (endRerun_mem (fun _ => rfl) _ s)
      · split
        · exact keepsMem_next (retire_mem _ s)
        · exact keepsMem_issue rfl (fun _ => rfl)
theorem execSys_keepsMem (k : BitVec 12) (s : State) : KeepsMem s (execSys k s) := by
  unfold execSys; dsimp only; split
  · exact keepsMem_next (sysTrap_mem k s)
  · split
    · exact keepsMem_next (endRerun_mem (fun _ => rfl) _ s)
    · exact keepsMem_next (endRerun_mem (fun u => by rw [sysTrap_mem]; rfl) _ s)
/-- TRAP and BRK deliver their cause and issue nothing (R109). -/
theorem softTrap_keepsMem (s : State) (c : CtxId) (k : BitVec 8) (n : BitVec 12) (t : Nat) (z : Ctx) :
    KeepsMem s (.next (heldNext c (softTrap s k n t z))) :=
  keepsMem_next (by rw [heldNext_mem, softTrap_mem])

/-! Words that wait, or whose form decides what they send -/

theorem popStall_keepsMem (d : BitVec 6) (q : BitVec 2) (s : State) : KeepsMem s (popStall d q s) := by
  unfold popStall; split
  · exact keepsMem_next (waitFor_mem s _)
  · exact keepsMem_issue rfl (popHead_mem q)
theorem popReady_keepsMem (d : BitVec 6) (q : BitVec 2) (p : BitVec 5) (s : State) : KeepsMem s (popReady d q p s) := by
  unfold popReady; split
  · exact keepsMem_next (results_mem s _)
  · exact keepsMem_issue rfl (popHead_mem q)
theorem execVqnt_keepsMem (d v : BitVec 8) (t : Tag) (r : Rm) (s : State) : KeepsMem s (execVqnt d v t r s) := by
  unfold execVqnt; dsimp only; split <;> exact keepsMem_issue rfl (fun _ => rfl)
theorem execMma_keepsMem (d a : BitVec 8) (w : BitVec 2) (g n : Bool) (f : BitVec 2) (m : BitVec 3) (s : State) :
    KeepsMem s (execMma d a w g n f m s) := by
  unfold execMma; dsimp only; split
  · exact keepsMem_issue rfl (fun _ => rfl)
  · split <;> exact keepsMem_issue rfl (fun _ => rfl)
theorem execMldb_keepsMem (w : BitVec 2) (h : BitVec 4) (s : State) : KeepsMem s (execMldb w h s) := by
  unfold execMldb; dsimp only; split <;> exact keepsMem_issue rfl (fun _ => rfl)
theorem execMdrn_keepsMem (v : BitVec 8) (b : Bool) (w : BitVec 2) (s : State) : KeepsMem s (execMdrn v b w s) := by
  unfold execMdrn; split <;> exact keepsMem_next (results_mem s _)
theorem execMprog_keepsMem (a b : BitVec 6) (s : State) : KeepsMem s (execMprog a b s) := by
  unfold execMprog; split
  · exact keepsMem_next (results_mem s _)
  · split <;> exact keepsMem_next (results_mem s _)
theorem execMcall_keepsMem (i : BitVec 6) (s : State) : KeepsMem s (execMcall i s) := by
  have hfail : ∀ k fl, KeepsMem s (mcallFail s k i fl) := fun _ _ => keepsMem_issue rfl (fun _ => rfl)
  unfold execMcall; dsimp only; split
  · exact hfail _ _
  · split
    · exact hfail _ _
    · split
      · exact hfail _ _
      · exact keepsMem_issue rfl (fun _ => rfl)
theorem execXput_keepsMem (f : BitVec 3) (a : BitVec 6) (s : State) : KeepsMem s (execXput f a s) := by
  unfold execXput; dsimp only; split
  · exact keepsMem_issue rfl (fun u => pushGate_mem _ _ (markTimed u))
  · split
    · exact keepsMem_next rfl
    · exact keepsMem_issue rfl (fun u => pushFo_mem _ _ (markTimed u))
  · exact keepsMem_issue rfl (fun u => pushPort_mem _ _ _ (markTimed u))
theorem execXget_keepsMem (d : BitVec 6) (f : BitVec 3) (s : State) : KeepsMem s (execXget d f s) := by
  unfold execXget; dsimp only; split
  · exact keepsMem_issue rfl (fun u => popGate_mem _ (markTimed u))
  · split
    · exact keepsMem_next rfl
    · exact keepsMem_issue rfl (fun u => popFi_mem _ (markTimed u))
  · exact keepsMem_issue rfl (fun u => popPort_mem _ _ (markTimed u))
theorem execPbar_keepsMem (r : Bool) (k : BitVec 12) (s : State) : KeepsMem s (execPbar r k s) := by
  unfold execPbar; split
  · exact keepsMem_issue rfl (fun u => raiseLate_mem _ _ (markTimed u))
  · split
    · exact keepsMem_issue rfl (fun u => withPlan_mem (startStep_mem r k _) _ (markTimed u))
    · exact keepsMem_next (waitFor_mem s _)
theorem execCpy_keepsMem (d a : BitVec 4) (t : BitVec 6) (s : State) : KeepsMem s (execCpy d a t s) :=
  keepsMem_issue rfl (fun u => by dsimp only; split <;> rfl)
theorem execTwall_keepsMem (a : BitVec 6) (s : State) : KeepsMem s (execTwall a s) := by
  unfold execTwall; dsimp only; split
  · exact keepsMem_next (results_mem s _)
  · exact keepsMem_next (waitFor_mem s _)
theorem execTwany_keepsMem (d a : BitVec 6) (s : State) : KeepsMem s (execTwany d a s) := by
  unfold execTwany; dsimp only; split
  · exact keepsMem_next (results_mem s _)
  · exact keepsMem_next (waitFor_mem s _)
theorem execOrecv_keepsMem (a b : BitVec 6) (s : State) : KeepsMem s (execOrecv a b s) := by
  unfold execOrecv; dsimp only; split
  · exact keepsMem_next (waitFor_mem s _)
  · exact keepsMem_issue rfl (fun _ => rfl)
@[simp] theorem startAcquire_mem (o : BitVec 12) (sh : Bool) (s : State) : (startAcquire o sh s).mem = s.mem := by
  unfold startAcquire; dsimp only; split
  · rfl
  · split
    · rfl
    · exact leaveNow_mem _ _ s
theorem execGbar_keepsMem (a : BitVec 6) (s : State) : KeepsMem s (execGbar a s) := by
  unfold execGbar; dsimp only; split
  · split
    · split
      · exact keepsMem_issue rfl (fun _ => rfl)
      · exact keepsMem_next (waitFor_mem s _)
    · exact keepsMem_next (waitFor_mem s _)
  · exact keepsMem_issue rfl (fun _ => rfl)
/-- A global word puts its access in the release buffer or lets it leave (R351, R361, R365). -/
theorem globalWord_keepsMem (s : State) (a : BitVec 6) (op : GlobalOp) (n : Nat) (w m r t : Bool) (f : BitVec 6) :
    KeepsMem s (globalWord s a op n w m r t f) :=
  keepsMem_issue rfl (fun u => by
    split
    · split
      · exact enterRel_mem _ _ u
      · exact leaveNow_mem _ _ u
    · rfl)
theorem execGws_keepsMem (k a b : BitVec 6) (s : State) : KeepsMem s (execGws k a b s) :=
  keepsMem_issue rfl (fun u => by
    split
    · exact enterRel_mem _ _ u
    · rfl)

/-! All words -/

/-- A word that has an encoding keeps memory at its issue: those named here by their own lemmas, the others by the issue of
their results and effects that do not mention memory. An event has no encoding. -/
theorem exec_word_keepsMem (i : Instr) (s : State) (hi : (encode false i).isSome = true) : KeepsMem s (exec i s) := by
  cases i <;> cases hi
  case j => exact keepsMem_issue rfl (takeIf_mem _ _)
  case call => exact keepsMem_issue rfl (takeIf_mem _ _)
  case loop => exact keepsMem_issue rfl (takeIf_mem _ _)
  case ckpt => exact execCkpt_keepsMem s
  case sys k => exact execSys_keepsMem k s
  case trap => exact softTrap_keepsMem s _ _ _ _ _
  case brk => exact softTrap_keepsMem s _ _ _ _ _
  case qpopa d q => exact popStall_keepsMem d q s
  case qpop d q => exact popStall_keepsMem d q s
  case qpopaNr d q p => exact popReady_keepsMem d q p s
  case qpopNr d q p => exact popReady_keepsMem d q p s
  case vqnt d v t r => exact execVqnt_keepsMem d v t r s
  case mma d a w g n f m => exact execMma_keepsMem d a w g n f m s
  case mldb w h => exact execMldb_keepsMem w h s
  case mdrn v b w => exact execMdrn_keepsMem v b w s
  case mprog a b => exact execMprog_keepsMem a b s
  case mcall k => exact execMcall_keepsMem k s
  case bpre b => exact keepsMem_issue rfl (precharge_mem _)
  case bprea => exact keepsMem_issue rfl (fun u => foldl_mem (fun s n => precharge_mem n s) _ u)
  case xput f a => exact execXput_keepsMem f a s
  case xget d f => exact execXget_keepsMem d f s
  case csync => exact keepsMem_issue rfl (fun u => startSync_mem _ _ _ (markTimed u))
  case pbar r k => exact execPbar_keepsMem r k s
  case cpy d a t => exact execCpy_keepsMem d a t s
  case twall a => exact execTwall_keepsMem a s
  case twany d a => exact execTwany_keepsMem d a s
  case orecv a b => exact execOrecv_keepsMem a b s
  case acq => exact keepsMem_issue rfl (startAcquire_mem _ _)
  case acqs => exact keepsMem_issue rfl (startAcquire_mem _ _)
  case gbar a => exact execGbar_keepsMem a s
  case gws k a b => exact execGws_keepsMem k a b s
  case gld | gst | gaadd | gamin | gamax | gaand | gaor | gaxor | gaswp | gacas | gafadd | gafmin | gafmax | gabadd | gxadd | gxrd =>
    exact globalWord_keepsMem s _ _ _ _ _ _ _ _
  all_goals exact keepsMem_issue rfl (fun _ => rfl)

/-- Settles O57: the case split over the words. -/
theorem wordsLeaveMemory : Obligations.WordsLeaveMemory := fun i s t hi h => exec_word_keepsMem i s hi t h

end Sys2Proof.Machine
end

section
/-! SUPPORT. What the supervisor and the management port do: each act's effect on the context, the plan or the register it is about,
and what the die's state of boot makes of it. -/
namespace Sys2Proof.Machine

/-! The supervisor of a die (R428) -/

theorem onDie_booted {s : State} {die : Nat} (h : s.pkg.boot.getLsbD die = true) (t : State) : onDie die t s = .next t := by
  simp [onDie, h]
theorem onDie_recovering {s : State} {die : Nat} (h : s.pkg.boot.getLsbD die = false) (t : State) : onDie die t s = .next s := by
  simp [onDie, h]

/-! A context leaves its slot (R33, R126, R405) -/

theorem withPlan_ctxs {f : State → State} (h : ∀ u, (f u).ctxs = u.ctxs) (q : Nat) (s : State) :
    (withPlan q f s).ctxs = s.ctxs := by
  unfold withPlan; split <;> exact h _
theorem withPlan_stream {f : State → State} (h : ∀ u, (f u).stream = u.stream) (q : Nat) (s : State) :
    (withPlan q f s).stream = s.stream := by
  unfold withPlan; split <;> exact h _

theorem getCtx_beginUnload (c : CtxId) (a : Option CtxId) (s : State) :
    getCtx (beginUnload c a s) c = { getCtx s c with st := .unloading } :=
  (getCtx_congr (s := setCtx s c { getCtx s c with st := .unloading }) rfl c).trans (getCtx_setCtx_self _ _ _)

/-- The context unloads, and its registered arrival is gone, with a release that is not part of an urgent stop (R315). -/
def leaving (c : CtxId) (s : State) : State :=
  withPlan (getCtx s c).plan
    (fun u => { u with pbarTick := if (getCtx s c).arrived.isSome && u.stop.isNone then none else u.pbarTick })
    (setCtx s c { getCtx s c with st := .unloading, arrived := none })

/-- The stream of the unload begins at once if no other runs. -/
theorem leaveSlot_eq (c : CtxId) (s : State) :
    leaveSlot c s = if (leaving c s).stream.isSome then leaving c s else beginUnload c none (leaving c s) := rfl

theorem getCtx_leaving (c : CtxId) (s : State) :
    getCtx (leaving c s) c = { getCtx s c with st := .unloading, arrived := none } :=
  (getCtx_congr (withPlan_ctxs (by intro u; rfl) _ _) c).trans (getCtx_setCtx_self _ _ _)
theorem leaving_mem (c : CtxId) (s : State) : (leaving c s).mem = s.mem := withPlan_mem (by intro u; rfl) _ _
theorem leaving_stream (c : CtxId) (s : State) : (leaving c s).stream = s.stream := withPlan_stream (by intro u; rfl) _ _

/-- The context that leaves its slot unloads, its registered arrival is gone, and the rest of it stays. -/
theorem getCtx_leaveSlot (c : CtxId) (s : State) :
    getCtx (leaveSlot c s) c = { getCtx s c with st := .unloading, arrived := none } := by
  rw [leaveSlot_eq]; split
  · exact getCtx_leaving c s
  · rw [getCtx_beginUnload, getCtx_leaving]

@[simp] theorem leaveSlot_mem (c : CtxId) (s : State) : (leaveSlot c s).mem = s.mem := by
  rw [leaveSlot_eq]; split
  · exact leaving_mem c s
  · exact leaving_mem c s

/-- With the streams free, the unload begins at once (R34). -/
theorem leaveSlot_stream {s : State} (c : CtxId) (h : s.stream = none) : (leaveSlot c s).stream =
    some { ctx := c, slot := (getCtx s c).slot.getD 0, unload := true, left := streamLen (getCtx s c), after := none } := by
  rw [leaveSlot_eq, leaving_stream, h, Option.isSome_none, if_neg Bool.false_ne_true]
  simp only [beginUnload, getCtx_leaving]
  rfl

@[simp] theorem precharge_ctxs (n : Nat) (s : State) : (precharge n s).ctxs = s.ctxs := by
  unfold precharge; dsimp only; split <;> rfl
@[simp] theorem precharge_stream (n : Nat) (s : State) : (precharge n s).stream = s.stream := by
  unfold precharge; dsimp only; split <;> rfl

/-- The record of an evicted plan's banks touches the vault and two fields of the context (R136). -/
theorem recordBanks_frame (c : CtxId) (s : State) :
    (recordBanks c s).mem = s.mem ∧ (recordBanks c s).stream = s.stream ∧
      ∃ saved, getCtx (recordBanks c s) c = { getCtx s c with saved := saved, held := none } := by
  unfold recordBanks; dsimp only
  refine ⟨(foldl_mem (fun s n => ?_) _ _).trans (setCtx_mem _ _ _), (foldl_keeps (fun s n => ?_) _ _).trans (setCtx_stream _ _ _),
    _, (getCtx_congr (foldl_keeps (fun s n => ?_) _ _) c).trans (getCtx_setCtx_self _ _ _)⟩
  · split <;> simp
  · split <;> simp
  · split <;> simp

/-! Contexts of the supervisor (R126, R127, R405) -/

theorem evictCtx_held {s : State} {c : CtxId} (h : (getCtx s c).st = .held) :
    (getCtx (evictCtx c s) c).st = .unloading ∧ (getCtx (evictCtx c s) c).bank = (getCtx s c).bank ∧ (evictCtx c s).mem = s.mem ∧
      (s.stream = none → (evictCtx c s).stream = some {
        ctx := c, slot := (getCtx s c).slot.getD 0, unload := true,
        left := if (getCtx s c).bank.mown then 593 else 432, after := none }) := by
  obtain ⟨hmem, hstr, saved, hctx⟩ := recordBanks_frame c s
  unfold evictCtx
  rw [if_neg (not_not.mpr h), getCtx_leaveSlot, leaveSlot_mem]
  split
  · rw [hctx, hmem]
    refine ⟨rfl, rfl, rfl, fun hs => ?_⟩
    rw [leaveSlot_stream c (hstr.trans hs), hctx]; rfl
  · exact ⟨rfl, rfl, rfl, leaveSlot_stream c⟩

theorem endContext_held {s : State} {c : CtxId} (h : (getCtx s c).st = .held) (hp : (getCtx s c).primary = false) :
    (getCtx (endContext c s) c).st = .unloading ∧ (getCtx (endContext c s) c).ended = true ∧
      (getCtx (endContext c s) c).bank = (getCtx s c).bank ∧ (endContext c s).mem = s.mem := by
  have e : endContext c s = leaveSlot c (setCtx s c { getCtx s c with ended := true }) := by simp [endContext, h, hp]
  rw [e, getCtx_leaveSlot, leaveSlot_mem, getCtx_setCtx_self]
  exact ⟨rfl, rfl, rfl, rfl⟩

/-- A context that is not HELD is not resumed, evicted or ended. -/
theorem supervisor_not_held {s : State} {c : CtxId} (h : (getCtx s c).st ≠ .held) :
    resumeTpc c s = s ∧ resumePc c s = s ∧ evictCtx c s = s ∧ endContext c s = s := by
  simp [resumeTpc, resumePc, evictCtx, endContext, h]

/-- The resumption at TPC after an escalation (R126, R127). -/
theorem resumeTpc_nested {s : State} {c : CtxId} (h : (getCtx s c).st = .held) (he : (getCtx s c).sysEnded = false)
    (hn : (getCtx s c).bank.nest = true) :
    (getCtx (resumeTpc c s) c).st = .running ∧ (getCtx (resumeTpc c s) c).bank =
      { (getCtx s c).bank with pc := (getCtx s c).bank.tpc, inh := false, nest := false, ncause := 0 } ∧
      (resumeTpc c s).mem = s.mem := by
  unfold resumeTpc
  rw [if_neg (by simp [h, he]), if_pos hn, getCtx_setCtx_self]
  exact ⟨rfl, rfl, rfl⟩

/-- The resumption without an escalation: at PC after a PREEMPT, at TPC otherwise (R120, R126). -/
theorem resumeTpc_plain {s : State} {c : CtxId} (h : (getCtx s c).st = .held) (he : (getCtx s c).sysEnded = false)
    (hn : (getCtx s c).bank.nest = false) :
    (getCtx (resumeTpc c s) c).st = .running ∧ (getCtx (resumeTpc c s) c).bank =
      (if (getCtx s c).preHeld then (getCtx s c).bank else { (getCtx s c).bank with pc := (getCtx s c).bank.tpc }) ∧
      (resumeTpc c s).mem = s.mem := by
  have hpc : (if (!(getCtx s c).bank.nest && (getCtx s c).preHeld) = true then (getCtx s c).bank.pc else (getCtx s c).bank.tpc) =
      if (getCtx s c).preHeld then (getCtx s c).bank.pc else (getCtx s c).bank.tpc := by rw [hn]; rfl
  unfold resumeTpc
  rw [if_neg (by simp [h, he]), if_neg (by simp [hn]), getCtx_setCtx_self, hpc]
  refine ⟨rfl, ?_, rfl⟩
  cases (getCtx s c).preHeld <;> rfl

/-- The resumption of a handler that has escalated, at PC (R127). -/
theorem resumePc_nested {s : State} {c : CtxId} (h : (getCtx s c).st = .held) (hn : (getCtx s c).bank.nest = true)
    (hi : (getCtx s c).bank.inh = true) :
    (getCtx (resumePc c s) c).st = .running ∧ (getCtx (resumePc c s) c).bank =
      { (getCtx s c).bank with nest := false, ncause := 0 } ∧ (resumePc c s).mem = s.mem := by
  unfold resumePc
  rw [if_pos (by simp [h, hn, hi]), getCtx_setCtx_self]
  exact ⟨rfl, rfl, rfl⟩

theorem supervisorContexts : Claim.SupervisorContexts := by
  intro s c x hb
  refine ⟨fun (he : (getCtx s c).sysEnded = true) => ?_,
    fun h he hn => ⟨_, onDie_booted hb _, resumeTpc_nested h he hn⟩,
    fun h he hn => ⟨_, onDie_booted hb _, resumeTpc_plain h he hn⟩,
    fun h hn hi => ⟨_, onDie_booted hb _, resumePc_nested h hn hi⟩, fun h hs => ?_,
    fun h hp => ⟨_, onDie_booted hb _, endContext_held h hp⟩, fun h e hmem => ?_⟩
  · have hstay : resumeTpc c s = s := by simp [resumeTpc, he]
    exact (onDie_booted hb _).trans (congrArg _ hstay)
  · obtain ⟨hst, hbank, hmem, hstr⟩ := evictCtx_held h
    exact ⟨_, onDie_booted hb _, hst, hbank, hmem, hstr hs⟩
  · obtain ⟨htpc, hpc, hev, hend⟩ := supervisor_not_held h
    simp only [List.mem_cons, List.not_mem_nil, or_false] at hmem
    rcases hmem with rfl | rfl | rfl | rfl
    · exact (onDie_booted hb _).trans (congrArg _ htpc)
    · exact (onDie_booted hb _).trans (congrArg _ hpc)
    · exact (onDie_booted hb _).trans (congrArg _ hev)
    · exact (onDie_booted hb _).trans (congrArg _ hend)

theorem recoveringDie : Claim.RecoveringDie := by
  intro s c hb e he
  simp only [List.mem_cons, List.not_mem_nil, or_false] at he
  rcases he with (rfl | rfl | rfl | rfl) | ⟨st, rfl⟩ | ⟨v, rfl⟩ | ⟨off, bs, rfl⟩
  all_goals exact onDie_recovering hb _

/-! The end of a plan (R126, R398, R405) -/

/-- A launch that ends stands ENDED in its slot with its status. -/
theorem getLaunch_endLaunch (k : Nat) (l : Launch) (st : LaunchStatus) (s : State) :
    ∃ m, getLaunch (endLaunch k l st s) k = some m ∧ m.seq = l.seq ∧ m.st = .ended ∧ m.status = st := by
  have hdrop : ∀ u, getLaunch (dropImages u) k = getLaunch u k := fun _ => rfl
  unfold endLaunch; dsimp only
  rw [hdrop, getLaunch_moveLaunch]
  exact ⟨_, rfl, rfl, rfl, rfl⟩

/-- A context that SYS 1 holds ends its plan as ABORTED (R398, R405). -/
theorem endStatus_sys_one {s : State} {c : CtxId} {st : LaunchStatus} (h : heldBySys (getCtx s c) = some 1) :
    (endStatus s c st).code = 1 := by
  simp [endStatus, h]

/-! The banks of evicted plans (R136) -/

/-- A list without repetitions, cut to one of its members. -/
theorem filter_range_eq_singleton {p : Nat → Bool} {n N : Nat} (hn : n < N) (h : ∀ m, m < N → (p m = true ↔ m = n)) :
    (List.range N).filter p = [n] := by
  have hp : (List.range N).filter p = (List.range N).filter (· == n) :=
    List.filter_congr (fun m hm => by rw [Bool.eq_iff_iff, h m (List.mem_range.mp hm), beq_iff_eq])
  rw [hp, List.filter_beq, List.count_eq_one_of_mem List.nodup_range (List.mem_range.mpr hn)]
  rfl

theorem execEvictedBankRefresh_none {s : State} (h : ∀ n, n < 64 → parked s n = false) :
    exec .evictedBankRefresh s = .next s := by
  have hown : (List.range 64).filter (parked s) = [] :=
    List.filter_eq_nil_iff.mpr (fun n hn => by rw [h n (List.mem_range.mp hn)]; exact Bool.false_ne_true)
  change execEvictedBankRefresh s = _
  unfold execEvictedBankRefresh
  rw [hown]; rfl

/-- One recorded bank that stands IDLE: it is refreshed when it may be. -/
theorem execEvictedBankRefresh_one {s : State} {n : Nat} (hn : n < 64) (h : ∀ m, m < 64 → (parked s m = true ↔ m = n))
    (hi : (getBank s.vault n).state = 0) :
    exec .evictedBankRefresh s = .next (if refreshOk s n then refresh n s else s) := by
  change execEvictedBankRefresh s = _
  unfold execEvictedBankRefresh
  rw [filter_range_eq_singleton hn h]
  have hclosed : (getBank s.vault n).state ≠ stOPEN := by rw [hi]; decide
  simp only [List.foldl_cons, List.foldl_nil, hclosed, decide_false, Bool.false_and, Bool.false_eq_true, if_false,
    List.find?_cons, List.find?_nil]
  cases refreshOk s n <;> rfl

theorem supervisorPlans : Claim.SupervisorPlans := by
  refine ⟨fun s c k l st hb hh hl hk hr hcode hne => ?_, fun s c st hh => ?_, fun s h => execEvictedBankRefresh_none h,
    fun s n hn hpk hi => ⟨fun hok => ?_, fun hok => ?_⟩⟩
  · have e : endPlan c st s = endLaunch k l (endStatus s c st) s := by
      unfold endPlan
      rw [if_neg (by simpa [hh, hcode] using hne), hl]
      exact if_pos hr
    obtain ⟨m, hm, hseq, hst, hstat⟩ := getLaunch_endLaunch k l (endStatus s c st) s
    refine ⟨_, onDie_booted hb _, m, by rw [e]; exact hm, hseq, hst, hstat, fun h1 => ?_⟩
    rw [hstat]; exact endStatus_sys_one h1
  · have e : endPlan c st s = s := by simp [endPlan, hh]
    change onDie s.myDie (endPlan c st s) s = _
    rw [e, onDie]; simp
  · rw [execEvictedBankRefresh_one hn hpk hi, hok]; rfl
  · rw [execEvictedBankRefresh_one hn hpk hi, hok]; rfl
/-! Home tables and BUSGATE (R353, R406) -/

/-- An entry put in its place is read back. -/
theorem entryAt_putEntry (core idx : Nat) (e : Dbl) (s : State) : entryAt (putEntry core idx e s) core idx = e := by
  have hread : memRead (memWrite s.mem (entryKey core idx) (leBytes 8 e.toNat)) (entryKey core idx) 8 = leBytes 8 e.toNat := by
    have h := memRead_memWrite (leBytes 8 e.toNat) s.mem (entryKey core idx)
    rwa [length_leBytes] at h
  simp only [entryAt, putEntry, hread, leNat_leBytes_dbl, BitVec.ofNat_toNat, BitVec.setWidth_eq]

/-- An entry is one of memory's. -/
theorem entryAt_congr {s t : State} (h : t.mem = s.mem) (core idx : Nat) : entryAt t core idx = entryAt s core idx := by
  unfold entryAt; rw [h]

@[simp] theorem touchLayer_mem (l : DebugLayer) (s : State) : (touchLayer l s).mem = s.mem := by
  unfold touchLayer; split <;> rfl
@[simp] theorem touchLayer_ctxs (l : DebugLayer) (s : State) : (touchLayer l s).ctxs = s.ctxs := by
  unfold touchLayer; split <;> rfl

/-- GATE reads as the value last written (R406). -/
theorem busgateWrite_reads {s : State} {k : Nat} (v : Dbl) (h : k < 80) :
    gateReg (busgateWrite k v s) k = v.extractLsb' 0 4 ∧ (busgateWrite k v s).mem = s.mem ∧ (busgateWrite k v s).ctxs = s.ctxs := by
  unfold busgateWrite; dsimp only
  rw [if_neg (Nat.not_le.mpr h)]
  refine ⟨?_, rfl, rfl⟩
  simp only [gateReg, blackBox_pkg, List.filter_append, List.filter_cons, beq_self_eq_true, if_true, List.filter_nil,
    List.getLast?_append, List.getLast?_singleton, Option.some_or, Option.map_some, Option.getD_some]

/-! Records (R37) -/

/-- The low byte of a word replaced, as its upper bytes before the new one. -/
theorem bvByte_zero_append (v : Dbl) (b : Byte) : bvByte v 0 b = v.extractLsb' 8 56 ++ b := by
  refine BitVec.eq_of_toNat_eq ?_
  have hv := v.isLt
  have hb := b.isLt
  rw [BitVec.toNat_append, ← Nat.shiftLeft_add_eq_or_of_lt hb, Nat.shiftLeft_eq, BitVec.extractLsb'_toNat, Nat.shiftRight_eq_div_pow]
  simp only [bvByte, withByte, BitVec.toNat_ofNat, pow_zero, Nat.div_one, mul_one]
  omega

/-- The low byte of a word replaced, as a mask and the new byte. -/
theorem bvByte_zero (v : Dbl) (b : Byte) : bvByte v 0 b = v &&& 0xFFFFFFFFFFFFFF00 ||| b.zeroExtend 64 := by
  rw [bvByte_zero_append, show (0xFFFFFFFFFFFFFF00 : Dbl) = (BitVec.allOnes 56 ++ 0#8 : BitVec 64) by decide]
  refine BitVec.eq_of_getLsbD_eq (fun i hi => ?_)
  simp only [BitVec.getLsbD_append, BitVec.getLsbD_or, BitVec.getLsbD_and, BitVec.zeroExtend_eq_setWidth, BitVec.getLsbD_setWidth, hi,
    decide_true, Bool.true_and, BitVec.getLsbD_extractLsb', BitVec.getLsbD_allOnes]
  by_cases h : i < 8
  · simp [h]
  · simp only [h, if_false, BitVec.getLsbD_of_ge b i (Nat.le_of_not_lt h), Bool.or_false, show 8 + (i - 8) = i by omega]
    rw [Bool.and_comm]

/-- The place of the low byte of a scalar register in the record (R36). -/
theorem recAt_scalar (i : BitVec 6) : recAt (0x26000 + 8 * i.toNat) = .scalar i.toNat 0 := by
  have hi : i.toNat < 64 := i.isLt
  unfold recAt
  iterate 14 rw [if_neg (by omega)]
  rw [if_pos (by omega), show (0x26000 + 8 * i.toNat - 0x26000) / 8 = i.toNat by omega, show (0x26000 + 8 * i.toNat) % 8 = 0 by omega]

theorem recMask_scalar (i : BitVec 6) : recMask (0x26000 + 8 * i.toNat) = 0xFF := by
  simp only [recMask, recAt_scalar]

/-- The mask of a whole byte keeps all of it. -/
theorem and_wholeMask (b : Byte) : b &&& 0xFF = b := BitVec.and_allOnes
/-- A whole byte written covers what stood there. -/
theorem whole_byte (a b : Byte) : (a &&& ~~~(0xFF : Byte)) ||| (b &&& 0xFF) = b := by
  rw [and_wholeMask, show ~~~(0xFF : Byte) = 0#8 by decide, BitVec.and_zero, BitVec.zero_or]

/-- The low byte of a scalar register of a record is written into the register. -/
theorem recSet_scalar {s : State} {c : CtxId} (i : BitVec 6) (b : Byte) (h : (getCtx s c).st ≠ .empty) :
    recSet c (0x26000 + 8 * i.toNat) b s = setCtx s c { getCtx s c with
      bank := { (getCtx s c).bank with s := SMap.set 0 (getCtx s c).bank.s i.toNat (bvByte ((getCtx s c).bank.getS i) 0 b) } } := by
  unfold recSet
  rw [recMask_scalar, recAt_scalar]
  dsimp only
  rw [if_neg (by decide), if_neg h, whole_byte]
  simp only [bankByte, BitVec.ofNat_toNat, BitVec.setWidth_eq]

/-- In the record of an EMPTY context the byte stands as written until the next load (R37). -/
theorem recSet_scalar_empty {s : State} {c : CtxId} (i : BitVec 6) (b : Byte) (h : (getCtx s c).st = .empty) :
    recSet c (0x26000 + 8 * i.toNat) b s = setCtx s c { getCtx s c with
      raw := SMap.put (getCtx s c).raw (0x26000 + 8 * i.toNat) b } := by
  unfold recSet
  rw [recMask_scalar]
  dsimp only
  rw [if_neg (by decide), if_pos h, and_wholeMask]

/-- One byte written to a record that may be accessed. -/
theorem recordWrite_byte {s : State} {c : CtxId} {o : Nat} (b : Byte) (hl : layerOn s { core := s.self, vault := false } = true)
    (ho : recOpen (getCtx s c) = true) (hr : o + 1 ≤ 0x40000) :
    recordWrite c o [b] s = mgmtStatus 0 (recSet c o b (touchLayer (mirrorLayer s.self) s)) := by
  unfold recordWrite mirrorLayer
  rw [hl, ho, if_neg (by decide), if_neg (by simp; omega)]
  rfl

/-- The record of a context in a slot or on its way is not accessed (R37, R431). -/
theorem recordWrite_busy {s : State} {c : CtxId} (o : Nat) (bs : List Byte)
    (hl : layerOn s { core := s.self, vault := false } = true) (ho : recOpen (getCtx s c) = false) :
    recordWrite c o bs s = mgmtStatus 2 s := by
  unfold recordWrite mirrorLayer
  rw [hl, ho, if_neg (by decide), if_pos (by simp)]

theorem recordWrite_scalar {s : State} {c : CtxId} (i : BitVec 6) (b : Byte)
    (hl : layerOn s { core := s.self, vault := false } = true) (h : (getCtx s c).st = .resident ∨ (getCtx s c).st = .finished) :
    let t := recordWrite c (0x26000 + 8 * i.toNat) [b] s
    t.pkg.status = 0 ∧ (getCtx t c).bank.getS i = (getCtx s c).bank.getS i &&& 0xFFFFFFFFFFFFFF00 ||| b.zeroExtend 64 ∧
      t.mem = s.mem := by
  have hi : i.toNat < 64 := i.isLt
  have hctx := getCtx_congr (touchLayer_ctxs (mirrorLayer s.self) s) c
  have hopen : recOpen (getCtx s c) = true := by rcases h with h | h <;> simp [recOpen, h]
  have hne : (getCtx (touchLayer (mirrorLayer s.self) s) c).st ≠ .empty := by
    rw [hctx]; rcases h with h | h <;> rw [h] <;> decide
  intro t
  have e : t = mgmtStatus 0 (recSet c (0x26000 + 8 * i.toNat) b (touchLayer (mirrorLayer s.self) s)) :=
    recordWrite_byte b hl hopen (by omega)
  rw [recSet_scalar i b hne, hctx, bvByte_zero] at e
  refine ⟨by rw [e]; rfl, ?_, by rw [e]; exact touchLayer_mem _ s⟩
  rw [e]
  refine (congrArg (fun x => x.bank.getS i) (getCtx_setCtx_self _ c _)).trans ?_
  exact SMap.get_set_self _ _ _ _

theorem recordWrite_scalar_empty {s : State} {c : CtxId} (i : BitVec 6) (b : Byte)
    (hl : layerOn s { core := s.self, vault := false } = true) (h : (getCtx s c).st = .empty) :
    let t := recordWrite c (0x26000 + 8 * i.toNat) [b] s
    t.pkg.status = 0 ∧ recByte t c (0x26000 + 8 * i.toNat) = b ∧ (getCtx t c).st = .empty ∧ t.mem = s.mem := by
  have hi : i.toNat < 64 := i.isLt
  have hctx := getCtx_congr (touchLayer_ctxs (mirrorLayer s.self) s) c
  have hopen : recOpen (getCtx s c) = true := by simp [recOpen, h]
  intro t
  have e : t = mgmtStatus 0 (recSet c (0x26000 + 8 * i.toNat) b (touchLayer (mirrorLayer s.self) s)) :=
    recordWrite_byte b hl hopen (by omega)
  rw [recSet_scalar_empty i b (by rw [hctx]; exact h), hctx] at e
  have hget : getCtx t c = { getCtx s c with raw := SMap.put (getCtx s c).raw (0x26000 + 8 * i.toNat) b } := by
    rw [e]; exact getCtx_setCtx_self _ c _
  refine ⟨by rw [e]; rfl, ?_, by rw [hget]; exact h, by rw [e]; exact touchLayer_mem _ s⟩
  unfold recByte
  rw [hget]
  simp only [SMap.find_put]

/-! CLKCTL (R293, R294) -/

/-- The parts of CLKCTL above FREQ do not reach its six bits. -/
theorem clkctl_low {f : Nat} (a b c : Nat) (hf : f < 2 ^ 6) : (a * 2 ^ 48 + b * 2 ^ 16 + c * 2 ^ 7 + f) % 2 ^ 64 % 2 ^ 6 = f := by omega

/-- FREQ reads as the code that is due, or else as the one in use. -/
theorem clkctl_freq (k : Cluster) : (clkctl k).extractLsb' 0 6 = k.dueFreq.getD k.freq := by
  refine BitVec.eq_of_toNat_eq ?_
  rw [clkctl, BitVec.extractLsb'_toNat, BitVec.toNat_ofNat, Nat.shiftRight_zero]
  exact clkctl_low _ _ _ (BitVec.isLt _)

/-- LOCK reads as 0 while a FREQ write is due. -/
theorem clkctl_lock (k : Cluster) : (clkctl k).getLsbD 7 = (k.lock && k.dueFreq.isNone) := by
  have hf := (k.dueFreq.getD k.freq).isLt
  rw [clkctl, BitVec.getLsbD_ofNat, Nat.testBit_eq_decide_div_mod_eq]
  cases hl : (k.lock && k.dueFreq.isNone)
  · simp only [b2n, Bool.false_eq_true, if_false]
    simp only [Bool.and_eq_false_iff, decide_eq_false_iff_not]
    omega
  · simp only [b2n, if_true]
    simp only [Bool.and_eq_true, decide_eq_true_eq]
    omega

/-- A code above 56 is ignored. -/
theorem freqWrite_ignored {s : State} {v : Dbl} (h : 56 < (v.extractLsb' 0 6).toNat) : freqWrite v s = s := if_pos h
/-- While a timed plan runs the write is held. -/
theorem freqWrite_held {s : State} {v : Dbl} (h : (v.extractLsb' 0 6).toNat ≤ 56) (ht : timedRunning s = true) :
    freqWrite v s = { s with cluster := { s.cluster with heldFreq := some (v.extractLsb' 0 6) } } := by
  unfold freqWrite; dsimp only; rw [if_neg (Nat.not_lt.mpr h), if_pos ht]
/-- Otherwise it is due. -/
theorem freqWrite_due {s : State} {v : Dbl} (h : (v.extractLsb' 0 6).toNat ≤ 56) (ht : timedRunning s = false) :
    freqWrite v s = dueFreq (v.extractLsb' 0 6) s := by
  unfold freqWrite; dsimp only; rw [if_neg (Nat.not_lt.mpr h), if_neg (by rw [ht]; exact Bool.false_ne_true)]

/-! Management writes (R11, R37, R431) -/

theorem mgmtWrite_heldScalar {s : State} {c : CtxId} (i : BitVec 6) (v : Dbl) (h : (getCtx s c).st = .held) :
    let t := mgmtWrite (.heldScalar c i) v s
    (getCtx t c).bank.getS i = v ∧ (∀ j, j ≠ i → (getCtx t c).bank.getS j = (getCtx s c).bank.getS j) ∧ t.mem = s.mem := by
  intro t
  have e : t = setCtx s c (landReg (getCtx s c) (.scalar i v)) := if_pos h
  obtain ⟨hi, hne, _⟩ := landReg_scalar_frame (getCtx s c) i v
  rw [e, getCtx_setCtx_self]
  exact ⟨hi, hne, rfl⟩

theorem mgmtWrite_rgb (s : State) (c : CtxId) (k : BitVec 3) (v : Dbl) :
    let t := mgmtWrite (.rgb c k) v s
    SMap.get 0 (getCtx t c).rgb k.toNat = v ∧ (getCtx t c).rga = (getCtx s c).rga ∧ t.mem = s.mem := by
  intro t
  have hctx : getCtx t c = { getCtx s c with rgb := SMap.set 0 (getCtx s c).rgb k.toNat v } := getCtx_setCtx_self s c _
  exact ⟨by rw [hctx]; exact SMap.get_set_self _ _ _ _, by rw [hctx], rfl⟩

theorem mgmtWrite_homeEntry_awake {s : State} {core : BitVec 11} (idx : BitVec 12) (v : Dbl)
    (h : layerOn s { core := core, vault := false } = true) :
    let t := mgmtWrite (.homeEntry core idx) v s
    t.ctxs = s.ctxs ∧ t.pkg.status = 0 ∧ entryAt t core.toNat idx.toNat = entryWrite (entryAt s core.toNat idx.toNat) v := by
  intro t
  have e : t = mgmtStatus 0 (touchLayer (mirrorLayer core)
      (putEntry core.toNat idx.toNat (entryWrite (entryAt s core.toNat idx.toNat) v) s)) := if_pos h
  refine ⟨by rw [e]; exact touchLayer_ctxs _ _, by rw [e]; rfl, ?_⟩
  have hmem : t.mem = (putEntry core.toNat idx.toNat (entryWrite (entryAt s core.toNat idx.toNat) v) s).mem := by
    rw [e]; exact touchLayer_mem _ _
  rw [entryAt_congr hmem, entryAt_putEntry]

theorem mgmtWrite_homeEntry_asleep {s : State} {core : BitVec 11} (idx : BitVec 12) (v : Dbl)
    (h : layerOn s { core := core, vault := false } = false) :
    mgmtWrite (.homeEntry core idx) v s = mgmtStatus 1 s := if_neg (by rw [mirrorLayer, h]; exact Bool.false_ne_true)

theorem managementAccess : Claim.ManagementAccess := by
  refine ⟨fun s c i v hb => ⟨fun h => ⟨_, onDie_booted hb _, mgmtWrite_heldScalar i v h⟩, fun h => ?_⟩,
    fun s c k v hb => ⟨_, onDie_booted hb _, mgmtWrite_rgb s c k v⟩, fun s v hb => onDie_booted hb _,
    fun s core idx v hb => ⟨fun h => ⟨_, onDie_booted hb _, mgmtWrite_homeEntry_awake idx v h⟩,
      fun h => ⟨_, onDie_booted hb _, by rw [mgmtWrite_homeEntry_asleep idx v h]; exact ⟨rfl, rfl, rfl⟩⟩⟩,
    fun s cl v hb hcl => ?_,
    fun s c i b hb hl => ⟨fun h => ⟨_, onDie_booted hb _, recordWrite_scalar i b hl h⟩,
      fun h => ⟨_, onDie_booted hb _, recordWrite_scalar_empty i b hl h⟩,
      fun off h => ⟨_, onDie_booted hb _, by rw [recordWrite_busy off [b] hl h]; exact ⟨rfl, rfl⟩⟩⟩,
    fun s v => ?_, fun s => rfl⟩
  · have e : mgmtWrite (.heldScalar c i) v s = s := if_neg h
    exact (onDie_booted hb _).trans (congrArg _ e)
  · obtain ⟨hread, hmem, hctx⟩ := busgateWrite_reads (s := s) v hcl
    exact ⟨_, onDie_booted hb _, congrArg (BitVec.zeroExtend 64) hread, hmem, hctx⟩
  · intro f hb
    refine ⟨fun h => (onDie_booted hb _).trans (congrArg _ (freqWrite_ignored h)),
      fun h ht => ⟨_, onDie_booted hb _, by rw [freqWrite_held h ht]; exact ⟨rfl, rfl, rfl⟩⟩,
      fun h ht => ⟨_, onDie_booted hb _, ?_⟩⟩
    rw [freqWrite_due h ht]
    exact ⟨rfl, rfl, clkctl_freq _, (clkctl_lock _).trans (Bool.and_false _), rfl, rfl, rfl, rfl, rfl⟩

/-- Settles O51: the acts of the supervisor on contexts, plans and registers, one lemma each. -/
theorem supervisorAccess : Obligations.SupervisorAccess :=
  ⟨supervisorContexts, recoveringDie, supervisorPlans, managementAccess⟩

end Sys2Proof.Machine
end

section
/-! SUPPORT. The contexts' state: the hard-wired registers, the values at reset, and the choice of a context for a slot. -/
namespace Sys2Proof.Machine

/-! Hard-wired registers (R16) -/

/-- p0 reads 1. -/
@[simp] theorem getP_zero (b : Bank) : b.getP 0 = true := rfl
/-- k0 reads all ones. -/
@[simp] theorem getK_zero (b : Bank) : b.getK 0 = BitVec.allOnes 64 := rfl
/-- A write of the whole predicate file leaves bit 0 set. -/
theorem landReg_preds_zero (x : Ctx) (v : BitVec 32) : (landReg x (.preds v)).bank.p.getLsbD 0 = true := by
  simp [landReg]

/-- Settles O5: reads of p0 and k0, the landings on them, and the lists of destinations of the words that name them. -/
theorem hardwiredPredicateMask : Obligations.HardwiredPredicateMask :=
  ⟨fun b => ⟨getP_zero b, getK_zero b⟩, fun _ _ _ => ⟨rfl, rfl⟩, landReg_preds_zero,
    fun _ _ _ _ _ _ _ _ _ => ⟨rfl, rfl, rfl, rfl, rfl, rfl, rfl, rfl, rfl, rfl, rfl, rfl, rfl⟩⟩

/-! The state after reset (R32, R33, R345) -/

/-- Every context is the blank one. -/
theorem getCtx_reset (c : CtxId) : getCtx State.reset c = {} := rfl
/-- Every bus is the blank one. -/
theorem getBus_reset (b : BitVec 2) : getBus State.reset b = {} := rfl
/-- The lane map of a blank bus sends lane i to channel i (R345). -/
theorem chOf_blank : ∀ i, i < 16 → chOf ({} : Bus).mapL ({} : Bus).mapH i = i := by decide

/-- Settles O53: what the tables of the blank state give. -/
theorem resetValues : Obligations.ResetValues := by
  refine ⟨fun c => ?_, rfl, rfl, rfl, rfl, rfl, rfl, rfl, fun t => rfl, fun n => ⟨rfl, rfl⟩, fun w => ⟨rfl, rfl⟩, rfl, fun cl => rfl,
    rfl, fun b i hi => ?_, fun a => rfl⟩
  · rw [getCtx_reset]
    exact ⟨rfl, rfl, rfl, rfl, rfl, rfl, rfl, rfl, rfl, rfl, fun _ => rfl, fun _ => rfl, fun _ => rfl, fun _ => rfl, fun _ => rfl⟩
  · rw [getBus_reset]
    exact chOf_blank i hi

/-! The choice of a context for a slot (R142) -/

/-- A RESIDENT primary context at reset, recorded as ready from cycle 1 on, which has yet to come. -/
def readyLater : State := setCtx State.reset 0 { st := .resident, primary := true, readyAt := some 1 }

/-- No other context is RESIDENT. -/
theorem getCtx_readyLater_ne {d : CtxId} (h : d ≠ 0) : getCtx readyLater d = {} :=
  getCtx_setCtx_ne State.reset h _

/-- The mark of readiness keeps the recorded cycle. -/
theorem markReady_readyLater (c : CtxId) : markReady readyLater c = readyLater := by
  by_cases h : c = 0
  · subst h; rfl
  · unfold markReady; rw [getCtx_readyLater_ne h]; rfl

/-- No context is ready at cycle 0. -/
theorem readyList_readyLater : readyList readyLater = [] := by
  have hnone : ∀ c, ((getCtx readyLater c).readyAt.any fun t => decide (t ≤ readyLater.cycle)) = false := by
    intro c
    by_cases h : c = 0
    · subst h; rfl
    · rw [getCtx_readyLater_ne h]; rfl
  unfold readyList
  simp only [hnone, Bool.false_and, List.filter_false]
  rfl

/-- The selection passes over a context recorded as ready from a later cycle on. -/
theorem slotSelect_readyLater : exec .slotSelect readyLater = .next readyLater := by
  have hmark : eachCtx markReady readyLater = readyLater := List.foldl_fixed' markReady_readyLater _
  change Host.Outcome.next (selectSlot (eachCtx markReady readyLater)) = _
  rw [hmark, selectSlot, readyList_readyLater]
  rfl

/-- Refutes O41: the record of the cycle from which a RESIDENT context has been ready is not tied to the present cycle, and the
selection takes no context recorded as ready later (R142). -/
theorem not_slotEvents : ¬ Obligations.SlotEvents := by
  rintro ⟨hselect, -⟩
  obtain ⟨hprimary, -⟩ := hselect readyLater 0 rfl rfl (fun d hd => by rw [getCtx_readyLater_ne hd]; decide) rfl rfl rfl
  obtain ⟨t, ht, hst, -⟩ := hprimary rfl (by decide)
  rw [slotSelect_readyLater] at ht
  cases ht
  exact absurd hst (by decide)

end Sys2Proof.Machine
end

section
/-! SUPPORT. Words whose results find room in the snapshot buffer; compares and predicate words, and the order of FP32 codes that
FCMP finds. -/
namespace Sys2Proof.Machine

/-! Words that find room in the snapshot buffer (R129) -/

theorem State.roomFor.mono {s : State} {m n : Nat} (h : s.roomFor n) (hmn : m ≤ n) : s.roomFor m := by
  unfold State.roomFor at *; omega

/-- A word without causes whose results find room. -/
theorem issue_room {s : State} {outs : List Out} (eff : State → State) {n : Nat} (h : s.roomFor n) (hn : needOf outs ≤ n) :
    issue s [] outs eff = eff (s.sent outs) := issue_next s outs eff (.inr (h.mono hn))

/-- A word with results alone that find room. -/
theorem results_room {s : State} {outs : List Out} {n : Nat} (h : s.roomFor n) (hn : needOf outs ≤ n) :
    results s outs = s.sent outs := issue_room id h hn

/-- The word of a hard-wired destination keeps its flags only (R16, R101, R160). -/
theorem needOf_flags (lat : Nat) (fp : Fl) : needOf [{ lat := lat, res := .flags, fp := fp }] ≤ 1 := by
  change 0 + (if fp = 0 && (0 : Mx) = 0 then 0 else 1) ≤ 1
  split
  · exact Nat.zero_le 1
  · exact le_refl 1
theorem predOut_zero (s : State) (v : Bool) (fp : Fl) : predOut s 0 v fp = { lat := 1, res := .flags, fp := fp } := rfl
theorem predOut_ne (s : State) {p : BitVec 5} (hp : p ≠ 0) (v : Bool) (fp : Fl) :
    predOut s p v fp = { lat := 1, res := .pred (physP (cx s).bank p) v, fp := fp } := by
  rw [predOut, if_neg hp]

/-- A predicate result needs at most one entry. -/
theorem needOf_predOut (s : State) (p : BitVec 5) (v : Bool) (fp : Fl) : needOf [predOut s p v fp] ≤ 1 := by
  by_cases hp : p = 0
  · rw [hp, predOut_zero]; exact needOf_flags 1 fp
  · rw [predOut_ne s hp]; exact le_refl 1

/-- A word that sends one predicate. -/
theorem results_predOut {s : State} (h : s.roomFor 1) (p : BitVec 5) (v : Bool) (fp : Fl) :
    results s [predOut s p v fp] = s.sent [predOut s p v fp] := results_room h (needOf_predOut s p v fp)

/-! CMP, TEST and the predicate words (R100) -/

theorem predicateResults : Claim.PredicateResults := by
  intro s p pa pb a b hr x y sends
  have hsend : ∀ v w : Bool, v = w → (Host.Outcome.next (results s [predOut s p v]) : Answer) = .next (sends w) :=
    fun v w e => by rw [e, results_predOut hr p w 0]
  have hge : decide (y.toInt ≤ x.toInt) = !x.slt y := by rw [BitVec.slt, ← decide_not]; exact decide_eq_decide.mpr Int.not_lt.symm
  have hgeu : decide (y.toNat ≤ x.toNat) = !x.ult y := by rw [BitVec.ult, ← decide_not]; exact decide_eq_decide.mpr Nat.not_lt.symm
  refine ⟨hsend _ _ rfl, hsend _ _ ?_, hsend _ _ rfl, hsend _ _ hge, hsend _ _ rfl, hsend _ _ hgeu, hsend _ _ ?_, hsend _ _ rfl,
    hsend _ _ rfl, hsend _ _ rfl, hsend _ _ rfl⟩
  · exact (decide_not ..).symm
  · exact (decide_not ..).symm

/-! FP32 codes in order (R39, R101) -/

/-- The magnitude of a finite FP32 code in units of 2^−149 (R39). -/
def f32Mag (a : Nat) : Nat := if a / 2 ^ 23 = 0 then a else (a % 2 ^ 23 + 2 ^ 23) * 2 ^ (a / 2 ^ 23 - 1)

/-- Greater codes have greater magnitudes: the fraction carries into the exponent. -/
theorem f32Mag_strictMono : StrictMono f32Mag := by
  refine strictMono_nat_of_lt_succ (fun a => ?_)
  have hpos : 0 < 2 ^ (a / 2 ^ 23 - 1) := Nat.two_pow_pos _
  unfold f32Mag
  by_cases hc : a % 2 ^ 23 + 1 < 2 ^ 23
  · have hd : (a + 1) / 2 ^ 23 = a / 2 ^ 23 := by omega
    have hm : (a + 1) % 2 ^ 23 = a % 2 ^ 23 + 1 := by omega
    rw [hd, hm]
    split
    · exact Nat.lt_succ_self a
    · exact Nat.mul_lt_mul_of_pos_right (by omega) hpos
  · have hd : (a + 1) / 2 ^ 23 = a / 2 ^ 23 + 1 := by omega
    have hm : (a + 1) % 2 ^ 23 = 0 := by omega
    rw [hd, hm, if_neg (Nat.succ_ne_zero _), Nat.add_sub_cancel, Nat.zero_add]
    split
    · rename_i h0; rw [h0]; omega
    · rename_i h0
      calc (a % 2 ^ 23 + 2 ^ 23) * 2 ^ (a / 2 ^ 23 - 1) < (2 ^ 23 * 2) * 2 ^ (a / 2 ^ 23 - 1) :=
            Nat.mul_lt_mul_of_pos_right (by omega) hpos
        _ = 2 ^ 23 * 2 ^ (a / 2 ^ 23) := by rw [Nat.mul_assoc, ← pow_succ', Nat.sub_add_cancel (by omega)]

/-- The sign of a code. -/
def f32Neg (u : Nat) : Bool := u.testBit 31
/-- The place of a code among the values that are no NaN: the zeros are one value (R101). -/
def f32Key (u : Nat) : Int := if u < 2 ^ 31 then (u : Int) else 2 ^ 31 - (u : Int)

theorem f32Neg_eq {u : Nat} (h : u < 2 ^ 32) : f32Neg u = decide (2 ^ 31 ≤ u) := by
  rw [f32Neg, Nat.testBit_eq_decide_div_mod_eq]
  exact decide_eq_decide.mpr (by omega)

theorem f32Key_eq {u : Nat} (h : u < 2 ^ 32) : f32Key u = sgn (f32Neg u) (u % 2 ^ 31) := by
  rw [f32Neg_eq h, f32Key, sgn]
  by_cases hs : u < 2 ^ 31
  · rw [if_pos hs, if_neg (by simpa using hs), Nat.mod_eq_of_lt hs]
  · rw [if_neg hs, if_pos (by simpa using hs)]; omega

/-- A strictly monotone measure of magnitudes orders signed values as the magnitudes themselves do. -/
theorem sgn_lt_iff {f : Nat → Nat} (hf : StrictMono f) (h0 : f 0 = 0) (n k : Bool) (a b : Nat) :
    sgn n (f a) < sgn k (f b) ↔ sgn n a < sgn k b := by
  have hab := hf.lt_iff_lt (a := a) (b := b)
  have hba := hf.lt_iff_lt (a := b) (b := a)
  have ha := hf.lt_iff_lt (a := 0) (b := a)
  have hb := hf.lt_iff_lt (a := 0) (b := b)
  rw [h0] at ha hb
  unfold sgn
  cases n <;> cases k <;> simp only [Bool.false_eq_true, if_false, if_true] <;> omega

/-- An FP32 code above the infinity is a NaN, signalling when the top bit of its fraction is 0 (R40). -/
theorem unpack_f32_nan {u : Nat} (h : 0x7F800000 < u % 2 ^ 31) : unpack f32 u = .nan (decide (u / 2 ^ 22 % 2 = 0)) := by
  have hmax : u % 2 ^ (f32.eb + f32.fb) > f32.maxCode := by
    change 0x7F7FFFFF < u % 2 ^ 31; omega
  have hm : ¬ u % 2 ^ f32.fb = 0 := by
    change ¬ u % 2 ^ 23 = 0; omega
  have hs : u % 2 ^ f32.fb < 2 ^ (f32.fb - 1) ↔ u / 2 ^ 22 % 2 = 0 := by
    change u % 2 ^ 23 < 2 ^ 22 ↔ _; omega
  unfold unpack
  rw [if_pos hmax, if_pos (show f32.inf = true from rfl), if_neg hm, decide_eq_decide.mpr hs]

theorem unpack_f32_inf {u : Nat} (h : u % 2 ^ 31 = 0x7F800000) : unpack f32 u = .inf (f32Neg u) := by
  have hmax : u % 2 ^ (f32.eb + f32.fb) > f32.maxCode := by
    change 0x7F7FFFFF < u % 2 ^ 31; omega
  have hm : u % 2 ^ f32.fb = 0 := by
    change u % 2 ^ 23 = 0; omega
  unfold unpack
  rw [if_pos hmax, if_pos (show f32.inf = true from rfl), if_pos hm]
  rfl

/-- A finite FP32 code stands for its signed magnitude (R39). -/
theorem unpack_f32_fin {u : Nat} (h : u % 2 ^ 31 < 0x7F800000) :
    ∃ m e, unpack f32 u = .fin (f32Neg u) m e ∧ -149 ≤ e ∧ m * 2 ^ (e + 149).toNat = f32Mag (u % 2 ^ 31) := by
  have hmax : ¬ u % 2 ^ (f32.eb + f32.fb) > f32.maxCode := by
    change ¬ 0x7F7FFFFF < u % 2 ^ 31; omega
  have he : u % 2 ^ 31 / 2 ^ 23 = u / 2 ^ 23 % 2 ^ 8 := by omega
  have hm : u % 2 ^ 31 % 2 ^ 23 = u % 2 ^ 23 := by omega
  unfold unpack f32Mag
  rw [if_neg hmax, he, hm]
  by_cases h0 : u / 2 ^ 23 % 2 ^ 8 = 0
  · refine ⟨_, _, if_pos h0, le_refl _, ?_⟩
    rw [if_pos h0]
    change u % 2 ^ 23 * 2 ^ 0 = _
    omega
  · refine ⟨_, _, if_neg h0, ?_, ?_⟩
    · change -149 ≤ -149 + ((u / 2 ^ 23 % 2 ^ 8 : Nat) : Int) - 1; omega
    · rw [if_neg h0]
      change (u % 2 ^ 23 + 2 ^ 23) * 2 ^ (-149 + ((u / 2 ^ 23 % 2 ^ 8 : Nat) : Int) - 1 + 149).toNat = _
      rw [show (-149 + ((u / 2 ^ 23 % 2 ^ 8 : Nat) : Int) - 1 + 149).toNat = u / 2 ^ 23 % 2 ^ 8 - 1 by omega]

/-- Two finite values compare as their magnitudes at a common scale. -/
theorem ltV_fin {n k : Bool} {m l : Nat} {e d : Int} (he : -149 ≤ e) (hd : -149 ≤ d) :
    ltV (.fin n m e) (.fin k l d) = decide (sgn n (m * 2 ^ (e + 149).toNat) < sgn k (l * 2 ^ (d + 149).toNat)) := by
  have hscale : ∀ (n : Bool) (m : Nat) (e b : Int), -149 ≤ b → b ≤ e →
      sgn n (m * 2 ^ (e + 149).toNat) = sgn n (m * 2 ^ (e - b).toNat) * 2 ^ (b + 149).toNat := by
    intro n m e b hb hbe
    rw [show (e + 149).toNat = (e - b).toNat + (b + 149).toNat by omega, pow_add, ← Nat.mul_assoc]
    cases n <;> simp [sgn]
  have hmul : ∀ (x y b : Int), x * 2 ^ (b + 149).toNat < y * 2 ^ (b + 149).toNat ↔ x < y :=
    fun x y b => mul_lt_mul_iff_left₀ (by positivity)
  unfold ltV
  refine decide_eq_decide.mpr ?_
  split
  · rename_i hle
    rw [hscale n m e e he (le_refl e), hscale k l d e he hle, hmul]
  · rename_i hle
    rw [hscale n m e d hd (by omega), hscale k l d d hd (le_refl d), hmul]

/-- FP32 values that are no NaN compare as their keys (R101). -/
theorem ltV_f32 {x y : Nat} (hx : x < 2 ^ 32) (hy : y < 2 ^ 32) (nx : x % 2 ^ 31 ≤ 0x7F800000) (ny : y % 2 ^ 31 ≤ 0x7F800000) :
    ltV (unpack f32 x) (unpack f32 y) = decide (f32Key x < f32Key y) := by
  rw [f32Key_eq hx, f32Key_eq hy]
  rcases Nat.lt_or_eq_of_le nx with fx | ix <;> rcases Nat.lt_or_eq_of_le ny with fy | iy
  · obtain ⟨m, e, ex, he, hm⟩ := unpack_f32_fin fx
    obtain ⟨l, d, ey, hd, hl⟩ := unpack_f32_fin fy
    rw [ex, ey, ltV_fin he hd, hm, hl]
    exact decide_eq_decide.mpr (sgn_lt_iff f32Mag_strictMono rfl _ _ _ _)
  · obtain ⟨m, e, ex, he, hm⟩ := unpack_f32_fin fx
    rw [ex, unpack_f32_inf iy, iy]
    cases f32Neg x <;> cases f32Neg y <;> simp [ltV, sgn] <;> omega
  · obtain ⟨l, d, ey, hd, hl⟩ := unpack_f32_fin fy
    rw [ey, unpack_f32_inf ix, ix]
    cases f32Neg x <;> cases f32Neg y <;> simp [ltV, sgn] <;> omega
  · rw [unpack_f32_inf ix, unpack_f32_inf iy, ix, iy]
    cases f32Neg x <;> cases f32Neg y <;> decide

/-- A code is a NaN above the infinity (R39). -/
def f32Nan (u : Nat) : Bool := decide (0x7F800000 < u % 2 ^ 31)
/-- A NaN is signalling when the top bit of its fraction is 0 (R40). -/
def f32Sig (u : Nat) : Bool := f32Nan u && decide (u / 2 ^ 22 % 2 = 0)

theorem isNan_unpack_f32 (u : Nat) : (unpack f32 u).isNan = f32Nan u ∧ (unpack f32 u).snan = if f32Sig u then flNV else 0 := by
  unfold f32Sig f32Nan
  rcases Nat.lt_trichotomy (u % 2 ^ 31) 0x7F800000 with h | h | h
  · obtain ⟨m, e, hu, -⟩ := unpack_f32_fin h
    rw [hu, decide_eq_false (Nat.lt_asymm h)]
    exact ⟨rfl, rfl⟩
  · rw [unpack_f32_inf h, decide_eq_false (by omega)]
    exact ⟨rfl, rfl⟩
  · rw [unpack_f32_nan h, decide_eq_true h, Bool.true_and]
    refine ⟨rfl, ?_⟩
    cases decide (u / 2 ^ 22 % 2 = 0) <;> rfl

theorem ltV_of_isNan {a b : FV} (h : (a.isNan || b.isNan) = true) : ltV a b = false := by
  cases a <;> cases b <;> simp_all [FV.isNan, ltV]

/-- The order of FP32 codes: none with a NaN, that of the keys without one. -/
theorem ltV_unpack_f32 {x y : Nat} (hx : x < 2 ^ 32) (hy : y < 2 ^ 32) :
    ltV (unpack f32 x) (unpack f32 y) = (!(f32Nan x || f32Nan y) && decide (f32Key x < f32Key y)) := by
  cases hn : f32Nan x || f32Nan y
  · obtain ⟨nx, ny⟩ := Bool.or_eq_false_iff.mp hn
    rw [ltV_f32 hx hy (Nat.le_of_not_lt (of_decide_eq_false nx)) (Nat.le_of_not_lt (of_decide_eq_false ny))]
    rfl
  · refine ltV_of_isNan ?_
    rw [(isNan_unpack_f32 x).1, (isNan_unpack_f32 y).1, hn]

/-- NV of several causes. -/
theorem nv_or (a b : Bool) : (if a then flNV else 0) ||| (if b then flNV else 0) = if a || b then flNV else 0 := by
  cases a <;> cases b <;> rfl

/-- What FCMP finds: the order of the keys, or NaN (R101). -/
def f32Cond (k x y : Nat) : Bool :=
  match k with
  | 0 => !(f32Nan x || f32Nan y) && decide (f32Key x = f32Key y)
  | 1 => !(f32Nan x || f32Nan y) && decide (f32Key x < f32Key y)
  | 2 => !(f32Nan x || f32Nan y) && decide (f32Key x ≤ f32Key y)
  | _ => f32Nan x || f32Nan y

theorem fcompare_f32 {k : BitVec 3} (hk : k.toNat < 4) {x y : Nat} (hx : x < 2 ^ 32) (hy : y < 2 ^ 32) :
    fcompare f32 (fcmpCond k) x y =
      (f32Cond k.toNat x y, if f32Sig x || f32Sig y || ((f32Nan x || f32Nan y) && (k == 1 || k == 2)) then flNV else 0) := by
  have heq : decide (f32Key x = f32Key y) = (!decide (f32Key x < f32Key y) && !decide (f32Key y < f32Key x)) := by
    rw [Bool.eq_iff_iff]; simp; omega
  have hle : decide (f32Key x ≤ f32Key y) = (decide (f32Key x < f32Key y) || decide (f32Key x = f32Key y)) := by
    rw [Bool.eq_iff_iff]; simp; omega
  have hcases : k = 0 ∨ k = 1 ∨ k = 2 ∨ k = 3 := by
    simp only [← BitVec.toNat_inj]
    change k.toNat = 0 ∨ k.toNat = 1 ∨ k.toNat = 2 ∨ k.toNat = 3
    omega
  simp only [fcompare, f32Cond, ltV_unpack_f32 hx hy, ltV_unpack_f32 hy hx, isNan_unpack_f32, Bool.or_comm (f32Nan y) (f32Nan x),
    nv_or, heq, hle]
  generalize (f32Nan x || f32Nan y) = un
  generalize decide (f32Key x < f32Key y) = lt
  generalize decide (f32Key y < f32Key x) = gt
  refine Prod.ext ?_ ?_
  · rcases hcases with rfl | rfl | rfl | rfl <;> cases un <;> cases lt <;> cases gt <;> rfl
  · rcases hcases with rfl | rfl | rfl | rfl <;> cases un <;> rfl

/-! FCMP (R101) -/

theorem floatCompare : Claim.FloatCompare := by
  intro s p a b k hr hk x y isNan isSig key un v nv
  have hx : x < 2 ^ 32 := Nat.mod_lt _ (by decide)
  have hy : y < 2 ^ 32 := Nat.mod_lt _ (by decide)
  refine ⟨?_, fun hp => by rw [hp, predOut_zero]⟩
  have hv : f32Cond k.toNat x y = v := by
    obtain h | h | h | h : k.toNat = 0 ∨ k.toNat = 1 ∨ k.toNat = 2 ∨ k.toNat = 3 := by omega
    all_goals simp only [v, h]; rfl
  have e : fcompare f32 (fcmpCond k) x y = (v, if nv then flNV else 0) := by
    rw [fcompare_f32 hk hx hy, hv]; rfl
  change Host.Outcome.next (results s [predOut s p (fcompare f32 (fcmpCond k) x y).1 (fcompare f32 (fcmpCond k) x y).2]) = _
  rw [e, results_predOut hr p v (if nv then flNV else 0)]

/-- Settles O4: the integer compares and predicate words by what they send, FCMP by the order of the codes. -/
theorem predicates : Obligations.Predicates := ⟨predicateResults, floatCompare⟩

end Sys2Proof.Machine
end

section
/-! SUPPORT. LOOP and the rotation registers. -/
namespace Sys2Proof.Machine

/-! LOOP and the rotation registers (R26, R27, R29, R103) -/

theorem takenCause_inRange {s : State} {t : Dbl} (h : codeCause s (cx s).plan t = none) : takenCause s true t = [] := by
  simp [takenCause, targetCause, h]

/-- LOOP, taken or not, whose target passes its checks: the rotation, the decrement if there is one, and the transfer. -/
theorem exec_loop {s : State} {c : BitVec 5} {i : BitVec 18} {taken : Bool} {down : List Out} (hr : s.roomFor 2)
    (ht : decide (1 < (rs s (c.setWidth 6)).toNat) = taken) (hc : takenCause s taken (branchTarget s i) = [])
    (hd : (if rs s (c.setWidth 6) = 0 then [] else [scalarOut 1 (c.setWidth 6) (rs s (c.setWidth 6) - 1)]) = down) :
    exec (.loop c i) s =
      .next (takeIf taken (branchTarget s i) (s.sent ({ lat := 1, res := .rotate (rotated (cx s).bank) } :: down))) := by
  subst ht
  have e : exec (.loop c i) s = .next (issue s (takenCause s (decide (1 < (rs s (c.setWidth 6)).toNat)) (branchTarget s i))
      ({ lat := 1, res := .rotate (rotated (cx s).bank) } ::
        if rs s (c.setWidth 6) = 0 then [] else [scalarOut 1 (c.setWidth 6) (rs s (c.setWidth 6) - 1)]) (takeIf _ _)) := rfl
  rw [e, hc, hd, issue_room _ hr]
  subst hd
  split
  · exact Nat.le_succ 1
  · exact le_refl 2

theorem loopResults : Claim.LoopResults := by
  intro s c i hr n t p v m turn
  refine ⟨fun (h0 : rs s (c.setWidth 6) = 0) => ?_, fun (h1 : rs s (c.setWidth 6) = 1) => ?_,
    fun (hn : 1 < (rs s (c.setWidth 6)).toNat) ht => ?_⟩
  · exact exec_loop hr (taken := false) (by rw [h0]; rfl) rfl (if_pos h0)
  · exact exec_loop hr (taken := false) (by rw [h1]; rfl) rfl (by rw [h1]; rfl)
  · have hne : rs s (c.setWidth 6) ≠ 0 := fun h => by rw [h] at hn; exact absurd hn (by decide)
    exact exec_loop hr (taken := true) (decide_eq_true hn) (takenCause_inRange ht) (if_neg hne)

/-- The low ten bits of ROTB hold the bases (R27). -/
theorem mkRotb_toNat {v p : Nat} (hv : v < 64) (hp : p < 16) : (mkRotb v p).toNat = v * 16 + p := by
  rw [mkRotb, BitVec.toNat_ofNat, Nat.mod_eq_of_lt (by omega)]

theorem pbase_lt (b : Bank) : pbase b < 16 := Nat.mod_lt _ (by decide)

/-- The bases of a ROTB just made (R27). -/
theorem bases_mkRotb {b : Bank} {v p : Nat} (h : b.rotb = mkRotb v p) (hv : v < 64) (hp : p < 16) :
    vbase b = v ∧ pbase b = p ∧ b.rotb.toNat < 1024 := by
  rw [vbase, pbase, h, mkRotb_toNat hv hp]; omega

/-- A rotation that lands in a cycle without a write of ROTB or VROT (R29, R112). -/
theorem landReg_rotate {x : Ctx} {v : Dbl} (h6 : x.wrote.contains 6 = false) (h7 : x.wrote.contains 7 = false) :
    landReg x (.rotate v) = { x with bank := { x.bank with rotb := v } } := by
  rw [landReg, if_neg (Bool.not_eq_true _ ▸ h6), if_neg (Bool.not_eq_true _ ▸ h7)]

theorem rotationRegisters : Claim.RotationRegisters := by
  intro b x v
  refine ⟨?_, ?_, fun h6 h7 => by rw [landReg_rotate h6 h7]⟩
  · obtain ⟨hv, hp, -⟩ := bases_mkRotb (b := cregWrite b 7 v) rfl (by decide) (pbase_lt b)
    refine ⟨rfl, hv, hp, ?_, ?_⟩
    · change 8 * 2 ^ ((v &&& 7).toNat % 4) = _
      rw [BitVec.toNat_and, show (7 : Dbl).toNat = 2 ^ 3 - 1 from rfl, Nat.and_two_pow_sub_one_eq_mod, Nat.mod_mod_of_dvd _ (by decide)]
    · change (v &&& 7).getLsbD 2 = _
      rw [BitVec.getLsbD_and, show (7 : Dbl).getLsbD 2 = true by decide, Bool.and_true]
  · have hlt : v.toNat / 16 % 64 % rotN b < 64 := lt_of_le_of_lt (Nat.mod_le _ _) (Nat.mod_lt _ (by decide))
    obtain ⟨hv, hp, hr⟩ := bases_mkRotb (b := cregWrite b 6 v) rfl hlt (Nat.mod_lt v.toNat (by decide))
    exact ⟨hv, hp, hr, rfl⟩

/-- Settles O9: LOOP by its three cases, and the writes of the rotation registers. -/
theorem loopsAndRotation : Obligations.LoopsAndRotation := ⟨loopResults, rotationRegisters⟩

end Sys2Proof.Machine
end

section
/-! SUPPORT. Bitwise words, VABS, VNEG and VMOV, the bits of a compare mask, and the mask words. -/
namespace Sys2Proof.Machine

/-! Tag checks and row results (R21, R23, R153) -/

theorem needRow_ok {s : State} {i : BitVec 8} {ok : Tag → Bool} (h : ok (rv s i).tag = true) : needRow s i ok = [] := by
  unfold needRow failIf; rw [h]; rfl
theorem needDest_ok {s : State} {d : BitVec 8} {k : BitVec 4} {t : Tag} (h : k = 0 ∨ (rv s d).tag = t) : needDest s d k t = [] := by
  unfold needDest
  split
  · rfl
  · exact needRow_ok (beq_iff_eq.mpr (h.resolve_left ‹_›))

/-- A row of latency 1, whole or in the lanes that a mask governs (R153). -/
def rowOrPart (s : State) (d : BitVec 8) (k : BitVec 4) (t : Tag) (r : BitVec 2048) : Out :=
  if k = 0 then rowOut s 1 d t r else partOut s 1 d t r (maskBits (rk s k))

theorem needOf_rowOrPart (s : State) (d : BitVec 8) (k : BitVec 4) (t : Tag) (r : BitVec 2048) : needOf [rowOrPart s d k t r] ≤ 1 := by
  unfold rowOrPart; split <;> exact le_refl 1
theorem needOf_vecResult (s : State) (d : BitVec 8) (k : BitVec 4) (t : Tag) (lat : Nat) (ls : List LaneR) :
    needOf (vecResult s d k t lat ls) ≤ 1 := by
  unfold vecResult; dsimp only; split <;> exact le_refl 1

/-! Bitwise words, VABS, VNEG and VMOV (R157, R158) -/

/-- A bitwise word whose sources and destination carry accepted tags. -/
theorem bitwise_completes {s : State} {d a b : BitVec 8} {k : BitVec 4} {t u : Tag} (f : BitVec 2048 → BitVec 2048 → BitVec 2048)
    (hr : s.roomFor 1) (ha : (rv s a).tag = t) (hb : (rv s b).tag = u) (ht : tagAny t = true) (hu : tagAny u = true)
    (htu : t = u ∨ t = 0 ∨ u = 0) (hd : k = 0 ∨ (rv s d).tag = bitTag t u) :
    bitwise s f d a b k = .next (s.sent [rowOrPart s d k (bitTag t u) (f (rv s a).data (rv s b).data)]) := by
  have hbits : needBits s a b = [] := by
    unfold needBits
    rw [needRow_ok (by rw [ha]; exact ht), needRow_ok (by rw [ha, hb, hu]; rcases htu with h | h | h <;> simp [h])]
    rfl
  subst ha hb
  change Host.Outcome.next (issue s (needBits s a b ++ needDest s d k (bitTag _ _)) [rowOrPart s d k _ _] id) = _
  rw [hbits, needDest_ok hd]
  exact congrArg _ (issue_room id hr (needOf_rowOrPart ..))

/-- A masked bitwise word's destination is its first source, and carries the result's tag. -/
theorem bitTag_dest {t u : Tag} {k : BitVec 4} (h : t = u ∨ u = 0 ∨ (t = 0 ∧ k = 0)) :
    (t = u ∨ t = 0 ∨ u = 0) ∧ (k = 0 ∨ t = bitTag t u) := by
  unfold bitTag
  rcases h with rfl | rfl | ⟨rfl, rfl⟩
  · exact ⟨.inl rfl, .inr (ite_self t).symm⟩
  · refine ⟨.inr (.inr rfl), .inr ?_⟩
    split <;> [assumption; rfl]
  · exact ⟨.inr (.inl rfl), .inl rfl⟩

theorem exec_vmov {s : State} {d a : BitVec 8} {k : BitVec 4} {t : Tag} (hr : s.roomFor 1) (ha : (rv s a).tag = t)
    (ht : tagAny t = true) (hd : k = 0 ∨ (rv s d).tag = t) : exec (.vmov d a k) s = .next (s.sent [rowOrPart s d k t (rv s a).data]) := by
  subst ha
  change Host.Outcome.next (issue s (needRow s a tagAny ++ needDest s d k _) [rowOrPart s d k _ (rv s a).data] id) = _
  rw [needRow_ok ht, needDest_ok hd]
  exact congrArg _ (issue_room id hr (needOf_rowOrPart ..))

theorem absNeg_completes {s : State} (neg : Bool) {d a : BitVec 8} {k : BitVec 4} {t : Tag} (hr : s.roomFor 1) (ha : (rv s a).tag = t)
    (ht : tagArith t = true) (hd : k = 0 ∨ (rv s d).tag = t) :
    absNeg s neg d a k = .next (s.sent (vecResult s d k t 1
      ((toLanes (rv s a).data (tagWidth t)).map (fun v => (absNegLane neg t v, absNegFl t v))))) := by
  subst ha
  change Host.Outcome.next (issue s (needRow s a tagArith ++ needDest s d k _) (vecResult s d k _ 1 _) id) = _
  rw [needRow_ok ht, needDest_ok hd]
  exact congrArg _ (issue_room id hr (needOf_vecResult ..))

theorem vectorBitwiseCompletes : Claim.VectorBitwiseCompletes := by
  intro s d a b k t u hr out
  refine ⟨fun ha hb ht hu htu => ?_, fun hd hb ht hu htu => ?_, fun ha hk => ⟨fun ht => exec_vmov hr ha ht hk, fun ht => ?_⟩⟩
  · exact ⟨bitwise_completes (· &&& ·) hr ha hb ht hu htu (.inl rfl), bitwise_completes (· ||| ·) hr ha hb ht hu htu (.inl rfl)⟩
  · obtain ⟨hsrc, hdst⟩ := bitTag_dest htu
    have hdst' : k = 0 ∨ (rv s d).tag = bitTag t u := by rw [hd]; exact hdst
    exact ⟨bitwise_completes (· &&& ·) hr hd hb ht hu hsrc hdst', bitwise_completes (· ||| ·) hr hd hb ht hu hsrc hdst',
      bitwise_completes (· ^^^ ·) hr hd hb ht hu hsrc hdst'⟩
  · exact ⟨absNeg_completes false hr ha ht hk, absNeg_completes true hr ha ht hk⟩

/-! Compare masks (R160) -/

/-- Bit j of a number whose lanes of width 1 are truth values. -/
theorem testBit_lanesNat (l : List Bool) (j : Nat) : (lanesNat 1 (l.map b2n)).testBit j = l.getD j false := by
  have hb : ∀ b : Bool, b2n b % 2 ^ 1 = b.toNat := by decide
  induction l generalizing j with
  | nil => exact Nat.zero_testBit j
  | cons b l ih =>
    have e : lanesNat 1 ((b :: l).map b2n) = Nat.bit b (lanesNat 1 (l.map b2n)) := by
      rw [List.map_cons, lanesNat, hb, Nat.bit_val, pow_one, Nat.add_comm]
    rw [e]
    cases j with
    | zero => exact Nat.testBit_bit_zero b _
    | succ j => rw [Nat.testBit_bit_succ]; exact ih j

/-- Bit j of a compare mask covers the n / 64 lanes from j × (n / 64) up. -/
theorem getLsbD_cmpMask (f : Nat → Bool) (n : Nat) {j : Nat} (hj : j < 64) :
    (cmpMask n ((List.range n).map f)).getLsbD j = (List.range (n / 64)).all (fun i => f (n / 64 * j + i)) := by
  have hroom : n / 64 ≤ n - j * (n / 64) := by
    have h1 : (j + 1) * (n / 64) ≤ 64 * (n / 64) := Nat.mul_le_mul_right _ hj
    rw [Nat.add_mul, Nat.one_mul] at h1
    have h2 := Nat.mul_div_le n 64
    omega
  have hcut : (((List.range n).map f).drop (j * (n / 64))).take (n / 64) = (List.range (n / 64)).map (fun i => f (n / 64 * j + i)) := by
    rw [← List.map_drop, ← List.map_take, List.range_eq_range', List.drop_range', List.take_range'_of_length_ge hroom,
      List.range'_eq_map_range, List.map_map]
    refine List.map_congr_left (fun i _ => ?_)
    simp [Nat.mul_comm]
  have hlist : (List.range 64).map (fun j => b2n (((((List.range n).map f).drop (j * (n / 64))).take (n / 64)).all id)) =
      ((List.range 64).map (fun j => ((((List.range n).map f).drop (j * (n / 64))).take (n / 64)).all id)).map b2n := by
    rw [List.map_map]; rfl
  rw [cmpMask, BitVec.getLsbD_ofNat, decide_eq_true hj, Bool.true_and, hlist, testBit_lanesNat, List.getD_eq_getElem?_getD,
    List.getElem?_map, List.getElem?_range hj, Option.map_some, Option.getD_some, hcut, List.all_map]
  rfl

/-! VCMP on INT32 rows (R38, R160) -/

/-- A lane of width 32 read as a signed integer. -/
theorem signedOf_lane32 (r : BitVec 2048) (j : Nat) : signedOf 32 (lane r 32 j) = (r.extractLsb' (32 * j) 32).toInt := by
  have hlane : lane r 32 j = (r.extractLsb' (32 * j) 32).toNat := by
    rw [BitVec.extractLsb'_toNat, Nat.shiftRight_eq_div_pow]; rfl
  have hlt := (r.extractLsb' (32 * j) 32).isLt
  rw [hlane, signedOf, BitVec.toInt_eq_toNat_cond, Nat.mod_eq_of_lt hlt]
  split <;> split <;> omega

/-- The condition of a compare on two words read as signed integers. -/
def int32Holds (c : Nat) (x y : Word) : Bool :=
  match c with
  | 0 => x == y
  | 1 => x != y
  | 2 => x.slt y
  | 3 => x.sle y
  | 4 => y.slt x
  | _ => y.sle x

/-- A compare on a lane of an INT32 row is the compare of the signed integers there, and sets no flag. -/
theorem cmpLane_int32 {c : Nat} (hc : c < 6) (x y : BitVec 2048) (j : Nat) :
    cmpLane c 3 (lane x 32 j) (lane y 32 j) = (int32Holds c (x.extractLsb' (32 * j) 32) (y.extractLsb' (32 * j) 32), 0) := by
  have heq : ∀ u v : Word, (u.toInt == v.toInt) = (u == v) := fun u v => by
    rw [Bool.eq_iff_iff, beq_iff_eq, beq_iff_eq]; exact BitVec.toInt_inj
  change ((match c with
    | 0 => signedOf 32 (lane x 32 j) == signedOf 32 (lane y 32 j)
    | 1 => signedOf 32 (lane x 32 j) != signedOf 32 (lane y 32 j)
    | 2 => decide (signedOf 32 (lane x 32 j) < signedOf 32 (lane y 32 j))
    | 3 => decide (signedOf 32 (lane x 32 j) ≤ signedOf 32 (lane y 32 j))
    | 4 => decide (signedOf 32 (lane y 32 j) < signedOf 32 (lane x 32 j))
    | 5 => decide (signedOf 32 (lane y 32 j) ≤ signedOf 32 (lane x 32 j))
    | 6 => false
    | _ => true), (0 : Fl)) = _
  rw [signedOf_lane32, signedOf_lane32]
  match c, hc with
  | 0, _ => exact congrArg (·, 0) (heq _ _)
  | 1, _ => exact congrArg (fun e => (!e, 0)) (heq _ _)
  | 2, _ | 3, _ | 4, _ | 5, _ => rfl

/-! The mask words and VCMP (R160) -/

theorem needOf_maskOut (lat : Nat) (k : BitVec 4) (m : Dbl) (fl : Fl) : needOf [maskOut lat k m fl] ≤ 1 := by
  by_cases hk : k = 0
  · rw [maskOut, if_pos hk]; exact needOf_flags lat fl
  · rw [maskOut, if_neg hk]; exact le_refl 1

/-- A word that sends a mask runs, to k0 as well. -/
theorem results_maskOut {s : State} (hr : s.roomFor 1) (lat : Nat) (k : BitVec 4) (m : Dbl) (fl : Fl) :
    results s [maskOut lat k m fl] = s.sent [maskOut lat k m fl] := results_room hr (needOf_maskOut lat k m fl)

theorem needSame_pair {s : State} {ok : Tag → Bool} {a b : BitVec 8} (ha : ok (rv s a).tag = true) (hb : (rv s a).tag = (rv s b).tag) :
    needSame s ok [a, b] = [] := by
  rw [needSame, needRow_ok ha, List.flatMap_singleton, needRow_ok (ok := (· == (rv s a).tag)) (beq_iff_eq.mpr hb.symm)]
  rfl

/-- The answer of the condition of VCMP in lane j. -/
def vcmpLane (s : State) (a b : BitVec 8) (c : BitVec 3) (j : Nat) : Bool × Fl :=
  cmpLane c.toNat (rv s a).tag (lane (rv s a).data (tagWidth (rv s a).tag) j) (lane (rv s b).data (tagWidth (rv s a).tag) j)

theorem exec_vcmp {s : State} (hr : s.roomFor 1) (k : BitVec 4) {a b : BitVec 8} (c : BitVec 3) (hab : (rv s a).tag = (rv s b).tag)
    (ha : tagArith (rv s a).tag = true) :
    exec (.vcmp k a b c) s = .next (s.sent [maskOut 2 k
      (cmpMask (tagLanes (rv s a).tag) ((List.range (tagLanes (rv s a).tag)).map (fun j => (vcmpLane s a b c j).1)))
      (orFl ((List.range (tagLanes (rv s a).tag)).map (fun j => (vcmpLane s a b c j).2)))]) := by
  change Host.Outcome.next (issue s (needSame s tagArith [a, b]) [maskOut 2 k
    (cmpMask (tagLanes _) (((List.range (tagLanes _)).map (vcmpLane s a b c)).map (·.1)))
    (orFl (((List.range (tagLanes _)).map (vcmpLane s a b c)).map (·.2)))] id) = _
  rw [needSame_pair ha hab, List.map_map, List.map_map]
  exact congrArg _ (issue_room id hr (needOf_maskOut ..))

theorem maskResults : Claim.MaskResults := by
  intro s k ka kb a b c hr out
  have mask : ∀ m, Host.Outcome.next (results s [maskOut 1 k m]) = (Host.Outcome.next (out 1 m 0) : Answer) := fun m =>
    congrArg _ (results_maskOut hr 1 k m 0)
  refine ⟨mask _, mask _, mask _, mask _, ?_⟩
  intro hab ha t n holds m
  refine ⟨exec_vcmp hr k c hab ha, ?_, ?_⟩
  · intro j hj
    exact getLsbD_cmpMask (fun j => (holds j).1) n hj
  · intro ht j hj hc
    have hlane : ∀ i, holds i = (int32Holds c.toNat ((rv s a).data.extractLsb' (32 * i) 32) ((rv s b).data.extractLsb' (32 * i) 32), 0) := by
      intro i
      change cmpLane _ t (lane _ (tagWidth t) i) (lane _ (tagWidth t) i) = _
      rw [ht]; exact cmpLane_int32 hc ..
    have hbit : m.getLsbD j = (holds j).1 := by
      have h1 : n / 64 = 1 := by change tagLanes t / 64 = 1; rw [ht]; rfl
      have h := getLsbD_cmpMask (fun j => (holds j).1) n hj
      rw [h1, Nat.one_mul] at h
      exact h.trans (Bool.and_true _)
    exact ⟨congrArg (·.2) (hlane j), hbit.trans (congrArg (·.1) (hlane j))⟩

/-- Settles O20: the bitwise words and VABS, VNEG, VMOV by their tag checks, VCMP by the bits of its mask. -/
theorem vectorBitsAndMasks : Obligations.VectorBitsAndMasks := ⟨vectorBitwiseCompletes, maskResults⟩

end Sys2Proof.Machine
end

section
/-! SUPPORT. The power windows, the energy accounts, reset and power loss, and debug access. -/
namespace Sys2Proof.Machine

/-! Power windows and FREQ steps (R422) -/

@[simp] theorem railEvent_pkg (w : Nat) (s : State) : (railEvent w s).pkg = s.pkg := rfl
@[simp] theorem railEvent_mem (w : Nat) (s : State) : (railEvent w s).mem = s.mem := rfl
@[simp] theorem railEvent_ctxs (w : Nat) (s : State) : (railEvent w s).ctxs = s.ctxs := rfl

/-- A tick register that holds no tick, or one at least n ticks old. -/
theorem all_elapsed {o : Option Nat} {n m : Nat} (h : ∀ u, o = some u → u + n ≤ m) : o.all (fun t => decide (t + n ≤ m)) = true := by
  rw [Option.all_eq_true]
  exact fun u hu => decide_eq_true (h u hu)

/-- The package state that a power window leaves, over the limit and within it. -/
def windowPkg (s : State) (w : Nat) : Package :=
  let p := { s.pkg with winAt := some (match s.pkg.winAt with | some t => t + 1000000 | none => tickNow s) }
  if 1800 < w then { p with overLimit := true, overTicks := p.overTicks + 1000000,
                            noTimed := p.noTimed || decide (10000000 ≤ p.overTicks + 1000000) }
  else { p with overLimit := false, overTicks := 0, noTimed := p.noTimed && decide (1700 ≤ w) }

/-- A power window that is due; the rail events it writes are in the black box alone. -/
theorem exec_powerWindow {s : State} {w : Nat} (hw : ∀ u, s.pkg.winAt = some u → u + 1000000 ≤ tickNow s) :
    ∃ t, exec (.powerWindow w) s = .next t ∧ t.pkg = windowPkg s w ∧ t.mem = s.mem ∧ t.ctxs = s.ctxs := by
  refine ⟨_, rfl, ?_⟩
  rw [all_elapsed hw, Bool.not_true, if_neg Bool.false_ne_true]
  unfold windowPkg
  by_cases h : 1800 < w
  · rw [if_pos h, if_pos h]
    dsimp only
    split <;> split <;> exact ⟨rfl, rfl, rfl⟩
  · rw [if_neg h, if_neg h]
    exact ⟨rfl, rfl, rfl⟩

theorem exec_powerFreqStep {s : State} (ho : s.pkg.overLimit = true) (ht : timedRunning s = false) (hf : s.cluster.freq ≠ 0)
    (hd : s.cluster.dueFreq = none) (hs : ∀ u, s.pkg.stepAt = some u → u + 10000 ≤ tickNow s) :
    exec .powerFreqStep s = .next (dueFreq (s.cluster.freq - 1) { s with pkg := { s.pkg with stepAt := some (tickNow s) } }) := by
  change Host.Outcome.next (if _ then _ else _) = _
  rw [hd, all_elapsed hs, ho, ht]
  exact congrArg _ (if_pos (by simpa using hf))

theorem exec_powerFreqStep_within {s : State} (ho : s.pkg.overLimit = false) : exec .powerFreqStep s = .next s := by
  change Host.Outcome.next (if _ then _ else _) = _
  rw [ho]; rfl

/-! Energy (R425, R426) -/

/-- A launch that has been charged. -/
def charged (l : Launch) (n : Nat) : Launch := { l with nj := l.nj + n }
/-- A state with a launch table in place of its own. -/
def withLaunches (s : State) (ls : List (Nat × Launch)) : State := { s with launches := ls }

theorem chargeLaunch_live {s : State} {q k : Nat} {l : Launch} (n : Nat) (h : liveLaunch s q = some (k, l)) (hw : l.st ≠ .waiting) :
    chargeLaunch q n s = withLaunches s (SMap.put s.launches k (charged l n)) := by
  unfold chargeLaunch; rw [h]; exact if_neg hw

/-- A launch that is found by its SEQ has not ended. -/
theorem liveLaunch_open {s : State} {q k : Nat} {l : Launch} (h : liveLaunch s q = some (k, l)) : l.st ≠ .ended := by
  have hp := List.find?_some h
  rw [Bool.and_eq_true] at hp
  exact bne_iff_ne.mp hp.2

/-- The launch at the head of the table, found by its SEQ. -/
theorem liveLaunch_head (s : State) {q k : Nat} {l : Launch} (r : List (Nat × Launch)) (hq : l.seq = q) (ho : l.st ≠ .ended) :
    liveLaunch (withLaunches s ((k, l) :: r)) q = some (k, l) :=
  List.find?_cons_of_pos (by simp [hq, ho])
/-- The launch behind one of another SEQ. -/
theorem liveLaunch_second (s : State) {q k j : Nat} {l m : Launch} (r : List (Nat × Launch)) (hm : m.seq ≠ q) (hq : l.seq = q)
    (ho : l.st ≠ .ended) : liveLaunch (withLaunches s ((j, m) :: (k, l) :: r)) q = some (k, l) :=
  (List.find?_cons_of_neg (by simp [hm])).trans (liveLaunch_head s r hq ho)

/-- Two launches charged, and the first once more. -/
theorem charge_twoLaunches (s : State) {q r k j : Nat} {l m : Launch} (hkj : k ≠ j) (hqr : q ≠ r) (hq : l.seq = q) (hr : m.seq = r)
    (hl : l.st ≠ .ended) (hm : m.st ≠ .ended) (hlw : l.st ≠ .waiting) (hmw : m.st ≠ .waiting) (a b c : Nat) :
    ∃ t, chargeLaunch q c (chargeLaunch r b (chargeLaunch q a (withLaunches s [(k, l), (j, m)]))) = t ∧
      getLaunch t k = some (charged l (a + c)) ∧ getLaunch t j = some (charged m b) ∧ t.pkg = s.pkg := by
  have h1 : chargeLaunch q a (withLaunches s [(k, l), (j, m)]) = withLaunches s [(k, charged l a), (j, m)] := by
    rw [chargeLaunch_live a (liveLaunch_head s _ hq hl) hlw, show (withLaunches s [(k, l), (j, m)]).launches = [(k, l), (j, m)] from rfl,
      SMap.put, if_neg (Nat.lt_irrefl k), if_pos rfl]
    rfl
  have h2 : chargeLaunch r b (withLaunches s [(k, charged l a), (j, m)]) =
      withLaunches s (SMap.put [(k, charged l a), (j, m)] j (charged m b)) :=
    chargeLaunch_live b (liveLaunch_second s [] (m := charged l a) (fun h => hqr (hq.symm.trans h)) hr hm) hmw
  have hlive : liveLaunch (withLaunches s (SMap.put [(k, charged l a), (j, m)] j (charged m b))) q = some (k, charged l a) := by
    rw [SMap.put, if_neg hkj]
    split
    · exact liveLaunch_second s _ (m := charged m b) (fun h => hqr (h.symm.trans hr)) hq hl
    · exact liveLaunch_head s _ (l := charged l a) hq hl
  rw [h1, h2, chargeLaunch_live c hlive hlw]
  refine ⟨_, rfl, ?_, ?_, rfl⟩
  · refine (getLaunch_put _ _ _).trans ?_
    simp only [charged, Nat.add_assoc]
  · refine (congrArg (Option.map _) (SMap.find_put_ne _ hkj _)).trans ?_
    exact congrArg (Option.map _) (SMap.find_put _ j _)

/-- The idle energy of a core with two plans is halved, and the odd unit goes to the lower SEQ (R425). -/
theorem chargeParts_two {q r : Nat} (h : q < r) (n : Nat) (s : State) :
    chargeParts [(q, 1), (r, 1)] n s = chargeLaunch q (n % 2) (chargeLaunch r (n / 2) (chargeLaunch q (n / 2) s)) := by
  have hrest : n - (0 + n * 1 / 2 + n * 1 / 2) = n % 2 := by omega
  have hlow : min (min q q) r = q := by omega
  change chargeLaunch (min (min q q) r) (n - (0 + n * 1 / 2 + n * 1 / 2)) (chargeLaunch r (n * 1 / 2) (chargeLaunch q (n * 1 / 2) s)) = _
  rw [hrest, hlow, Nat.mul_one]

/-! Reset and power loss (R423, R427, R428, R433) -/

@[simp] theorem bbWrite_resets (e : BBEntry) (b : BlackBox) : (bbWrite e b).resets = b.resets := rfl

/-- An entry written changes no RESETS. -/
theorem boxOf_blackBox_resets (s : State) (k : BitVec 8) (r : BitVec 11) (q : Nat) (a b : Dbl) (d : Nat) :
    (boxOf (blackBox s k r q a b) d).resets = (boxOf s d).resets := by
  unfold boxOf
  change (if d = s.myDie then (if _ then _ else _) else SMap.get {} (if _ then _ else _) d : BlackBox).resets = _
  by_cases hd : d = s.myDie
  · rw [if_pos hd, if_pos hd]; split <;> rfl
  · rw [if_neg hd, if_neg hd]
    split
    · rfl
    · rw [SMap.get_put]
      split
      next h => subst h; unfold boxOf; rw [if_neg hd]; rfl
      next => rfl

/-- A table built over a list of keys. -/
theorem SMap.get_map_key {α : Type} (z : α) (f : Nat → α) (l : List Nat) (i : Nat) :
    SMap.get z (l.map (fun k => (k, f k))) i = if i ∈ l then f i else z := by
  induction l with
  | nil => rfl
  | cons k l ih =>
    by_cases hk : k = i
    · subst hk; simp [SMap.get]
    · simp [SMap.get, ih, hk, Ne.symm hk]

/-- Reset adds 1 to the RESETS of every die's record. -/
theorem boxOf_resetPackage_resets (s : State) {d : Nat} (h : d < 8) : (boxOf (resetPackage s) d).resets = (boxOf s d).resets + 1 := by
  have hbox : SMap.get {} (resetPackage s).boxes d = { SMap.get {} s.boxes d with resets := (boxOf s d).resets + 1 } :=
    (SMap.get_map_key _ _ (List.range 8) d).trans (if_pos (List.mem_range.mpr h))
  unfold boxOf
  change (if d = s.myDie then _ else _ : BlackBox).resets = _
  split
  next => rfl
  next hd => rw [hbox]; unfold boxOf; rw [if_neg hd]

/-- A reset whose last act before it was an entry of the black box. -/
theorem resetPackage_blackBox (s : State) (k : BitVec 8) (r : BitVec 11) (q : Nat) (a b : Dbl) : ∃ t, resetPackage (blackBox s k r q a b) = t ∧
    t.ctxs = [] ∧ t.launches = [] ∧ t.plans = [] ∧ t.pkg.inReset = true ∧ t.pkg.boot = 0 ∧ t.mem = s.mem ∧
    t.blackBox.resets = s.blackBox.resets + 1 ∧ (∀ d, d < 8 → (boxOf t d).resets = (boxOf s d).resets + 1) ∧
    t.pkg.retired = s.pkg.retired ∧ t.pkg.accounts = s.pkg.accounts := by
  refine ⟨_, rfl, rfl, rfl, rfl, rfl, rfl, rfl, ?_, fun d hd => ?_, rfl, rfl⟩
  · change (if _ then _ else _ : BlackBox).resets + 1 = _
    split <;> rfl
  · rw [boxOf_resetPackage_resets _ hd, boxOf_blackBox_resets]

/-- A table cut down to some of its keys: a key kept reads as before, another as the default. -/
theorem SMap.get_filter_key {α : Type} (z : α) (p : Nat → Bool) (m : List (Nat × α)) (i : Nat) :
    SMap.get z (m.filter (fun c => p c.1)) i = if p i then SMap.get z m i else z := by
  induction m with
  | nil => exact (ite_self z).symm
  | cons c m ih =>
    obtain ⟨k, v⟩ := c
    by_cases hk : k = i
    · subst hk
      cases hp : p k <;> simp [hp, SMap.get, ih]
    · cases hp : p k <;> simp [hp, SMap.get, ih, hk]

theorem powerAndReset : Claim.PowerAndReset := by
  refine ⟨fun s w hw => ?_, fun s => ⟨?_, exec_powerFreqStep_within⟩, fun s n l p hp => ?_, ?_, ?_, fun s => ?_, ?_, ?_, ?_, ?_, ?_, ?_⟩
  · obtain ⟨t, he, hp, hm, hc⟩ := exec_powerWindow (w := w) hw
    refine ⟨fun h => ⟨t, he, ?_⟩, fun h => ⟨t, he, ?_⟩⟩ <;> rw [hp, windowPkg]
    · rw [if_pos h]
      exact ⟨rfl, rfl, fun h10 => by simp [h10], hm, hc⟩
    · rw [if_neg (Nat.not_lt.mpr h)]
      exact ⟨rfl, rfl, fun h17 => by simp [h17], fun h17 => by simp [h17], hm⟩
  · intro ho ht hf hd hs
    refine ⟨_, s.cluster.freq - 1, exec_powerFreqStep ho ht hf hd hs, rfl, ?_, rfl, rfl⟩
    bv_omega
  · rcases List.mem_pair.mp hp with rfl | rfl <;> rfl
  · intro s k n l hl hw
    refine ⟨chargeLaunch l.seq n s, rfl, ?_⟩
    rw [chargeLaunch_live n hl hw]
    exact ⟨congrArg (Option.map (·.nj)) (getLaunch_put s k (charged l n)), rfl, rfl⟩
  · intro s k j n l m p q r hs hkj hlt hl hm hps hp hq hlw hmw hpr hqr
    have hs' : withLaunches s [(k, l), (j, m)] = s := by rw [← hs]; rfl
    obtain ⟨t, ht, hk, hj, hpkg⟩ := charge_twoLaunches s hkj hlt.ne rfl rfl (liveLaunch_open hl) (liveLaunch_open hm) hlw hmw (n / 2) (n / 2) (n % 2)
    refine ⟨t, ?_, ?_, ?_, hpkg⟩
    · change Host.Outcome.next (chargeParts ((s.plans.filter _).map _) n s) = _
      rw [hps, List.filter_cons_of_pos (p := fun p => (resOf p r.toNat).isSome) hpr,
        List.filter_cons_of_pos (p := fun p => (resOf p r.toNat).isSome) hqr, List.filter_nil, List.map_cons, List.map_singleton, hp, hq,
        chargeParts_two hlt, ← ht, hs']
    · rw [hk, Option.map_some, charged, Nat.add_assoc]
    · rw [hj]; rfl
  · refine ⟨fun h => ?_, fun h => ?_, ⟨_, rfl, rfl, rfl, rfl, rfl⟩, fun h => ?_⟩
    · change Host.Outcome.next { s with pkg := { s.pkg with ebpinAt := if s.pkg.ebpinDown then _ else _, ebpinDown := true } } = _
      rw [h]; rfl
    · change Host.Outcome.next { s with pkg := { s.pkg with ebpinAt := if s.pkg.ebpinDown then _ else _, ebpinDown := true } } = _
      rw [h, if_pos rfl, ← h]
    · refine congrArg _ (if_neg ?_)
      rcases h with h | h
      · simp [h]
      · simp [Nat.not_le.mpr h]
  · rintro s d n e (⟨rfl, h⟩ | ⟨rfl, hd, ha⟩)
    · obtain ⟨t, ht, hr⟩ := resetPackage_blackBox s 7 (BitVec.ofNat 11 (160 * d.toNat)) 0 (d.zeroExtend 64) (BitVec.ofNat 64 n)
      exact ⟨t, congrArg _ ((if_neg (Nat.not_lt.mpr h)).trans ht), hr⟩
    · obtain ⟨t, ht, hr⟩ := resetPackage_blackBox s 11 0 0 0 0
      exact ⟨t, congrArg _ ((if_pos (by simp [hd, ha])).trans ht), hr⟩
  · exact fun s d n h => congrArg _ (if_pos h)
  · intro s m
    refine ⟨_, rfl, rfl, rfl, ?_, fun h => ?_, fun h => ?_⟩
    · change (if _ then _ else _ : State).mem = _
      split <;> rfl
    · rw [h]; exact ⟨rfl, rfl⟩
    · rw [h]; exact ⟨rfl, rfl⟩
  · refine fun s => ⟨_, rfl, rfl, rfl, rfl, fun a => ?_⟩
    exact (SMap.get_filter_key unlisted (fun k => decide (keyHost 0 ≤ k)) s.mem a).trans (by simp only [decide_eq_true_eq]; rfl)
  · refine fun s nonce => ⟨fun h => congrArg _ (if_pos h), fun h => ⟨_, congrArg Host.Outcome.next (if_neg (not_not.mpr h)), rfl, rfl, rfl⟩⟩
  · refine fun s b => ⟨fun h hb => congrArg _ (if_pos (by rw [decide_eq_true h, decide_eq_true hb]; rfl)), fun h => congrArg _ (if_neg ?_)⟩
    rcases h with h | h
    · rw [decide_eq_false h, Bool.false_and]; exact Bool.false_ne_true
    · rw [decide_eq_false (Nat.not_le.mpr h), Bool.and_false]; exact Bool.false_ne_true

/-! Debug access (R37, R431, R432) -/

/-- A layer stamped carries the current tick. -/
theorem layerTick_stampLayer (l : DebugLayer) (s : State) : layerTick (stampLayer l s) l = tickNow s := by
  have hnone : (s.pkg.debugAt.filter (fun p => p.1 != l)).find? (fun p => p.1 == l) = none := by
    rw [List.find?_eq_none]
    intro p hp
    have h := (List.mem_filter.mp hp).2
    simpa using h
  change (((s.pkg.debugAt.filter (fun p => p.1 != l) ++ [(l, tickNow s)]).find? (fun p => p.1 == l)).map (·.2)).getD 0 = _
  rw [List.find?_append, hnone, Option.none_or, List.find?_singleton, if_pos (beq_self_eq_true l)]
  rfl

@[simp] theorem touchLayer_self (l : DebugLayer) (s : State) : (touchLayer l s).self = s.self := by
  unfold touchLayer; split <;> rfl
/-- A debug-awake layer touched carries the current tick. -/
theorem layerTick_touchLayer {l : DebugLayer} {s : State} (h : l ∈ s.pkg.awake) : layerTick (touchLayer l s) l = tickNow s := by
  unfold touchLayer
  rw [if_pos (List.contains_iff_mem.mpr h)]
  exact layerTick_stampLayer l s

/-- The place of a byte in a record depends on the core alone. -/
theorem recordByte_touchLayer (l k : DebugLayer) (off : Nat) (s : State) : recordByte (touchLayer l s) k off = recordByte s k off := by
  unfold recordByte; rw [touchLayer_self]

/-- A byte of a record is one of its context. -/
theorem recByte_congr {s t : State} (h : t.ctxs = s.ctxs) (c : CtxId) (o : Nat) : recByte t c o = recByte s c o := by
  unfold recByte; rw [getCtx_congr h c]

/-- A byte of a record written changes contexts alone. -/
theorem recSet_pkg (c : CtxId) (o : Nat) (b : Byte) (s : State) : (recSet c o b s).pkg = s.pkg := by
  unfold recSet; dsimp only
  (repeat' split) <;> rfl

/-- The debugger's access of one byte of a layer that is on: through the record in a record area, in memory elsewhere. -/
def layerAccess (l : DebugLayer) (off : Nat) (w : Option Byte) (s : State) : State :=
  match recordByte s l off with
  | some (c, o) =>
    if !recOpen (getCtx s c) then mgmtStatus 2 s
    else match w with
      | some b => mgmtStatus 0 (recSet c o b s)
      | none => mgmtStatus 0 { s with pkg := { s.pkg with mgmt := (recByte s c o).zeroExtend 64 } }
  | none => match w with
    | some b => mgmtStatus 0 { s with mem := memSet s.mem (layerKey l off) b }
    | none => mgmtStatus 0 { s with pkg := { s.pkg with mgmt := (memGet s.mem (layerKey l off)).zeroExtend 64 } }

section
variable {l : DebugLayer} {off : Nat} {s : State}

theorem exec_debugAccess_running (w : Option Byte) (h : halted s l = false) : exec (.debugAccess l off w) s = .next s := by
  refine congrArg Host.Outcome.next (if_pos ?_)
  rw [h, Bool.not_false, Bool.or_true]

/-- An access within the layer of a halted core. -/
theorem exec_debugAccess (w : Option Byte) (hc : l.core.toNat < 1280) (ho : off < layerSize l) (hh : halted s l = true) :
    exec (.debugAccess l off w) s = .next (if layerOn s l then layerAccess l off w (touchLayer l s) else mgmtStatus 1 s) := by
  refine congrArg Host.Outcome.next ((if_neg ?_).trans ?_)
  · rw [hh, decide_eq_false (Nat.not_le.mpr hc), decide_eq_false (Nat.not_le.mpr ho)]
    exact Bool.false_ne_true
  · cases layerOn s l <;> rfl

theorem layerAccess_read (h : recordByte s l off = none) :
    layerAccess l off none s = mgmtStatus 0 { s with pkg := { s.pkg with mgmt := (memGet s.mem (layerKey l off)).zeroExtend 64 } } := by
  unfold layerAccess; rw [h]
theorem layerAccess_write (b : Byte) (h : recordByte s l off = none) :
    layerAccess l off (some b) s = mgmtStatus 0 { s with mem := memSet s.mem (layerKey l off) b } := by
  unfold layerAccess; rw [h]
theorem layerAccess_busy {c : CtxId} {o : Nat} (w : Option Byte) (h : recordByte s l off = some (c, o))
    (hr : recOpen (getCtx s c) = false) : layerAccess l off w s = mgmtStatus 2 s := by
  unfold layerAccess; rw [h]; dsimp only; rw [hr]; rfl
theorem layerAccess_record {c : CtxId} {o : Nat} (h : recordByte s l off = some (c, o)) (hr : recOpen (getCtx s c) = true) :
    layerAccess l off none s = mgmtStatus 0 { s with pkg := { s.pkg with mgmt := (recByte s c o).zeroExtend 64 } } := by
  unfold layerAccess; rw [h]; dsimp only; rw [hr]; rfl

/-- An access sets no tick of a layer. -/
theorem layerAccess_debugAt (w : Option Byte) : (layerAccess l off w s).pkg.debugAt = s.pkg.debugAt := by
  unfold layerAccess
  split
  · split
    · rfl
    · split
      · change (recSet _ _ _ s).pkg.debugAt = _
        rw [recSet_pkg]
      · rfl
  · split <;> rfl
end

/-- A layer that is debug-awake is on. -/
theorem layerOn_of_awake {s : State} {l : DebugLayer} (h : l ∈ s.pkg.awake) : layerOn s l = true := by
  unfold layerOn; rw [List.contains_iff_mem.mpr h, Bool.or_true]

theorem exec_debugWakeDone_early {s : State} {l : DebugLayer} (h : l ∉ s.pkg.waking ∨ tickNow s < layerTick s l + 20000) :
    exec (.debugWakeDone l) s = .next s := by
  refine congrArg Host.Outcome.next (if_neg ?_)
  rcases h with h | h
  · rw [Bool.eq_false_iff.mpr (mt List.contains_iff_mem.mp h)]; exact Bool.false_ne_true
  · rw [decide_eq_false (Nat.not_le.mpr h), Bool.and_false]; exact Bool.false_ne_true

/-- A layer that returns to retention is awake no more, and every other layer is as it was. -/
theorem toRetention_awake (s : State) (l : DebugLayer) :
    l ∉ (toRetention l s).pkg.awake ∧ ∀ k, k ≠ l → (k ∈ (toRetention l s).pkg.awake ↔ k ∈ s.pkg.awake) := by
  refine ⟨fun h => bne_iff_ne.mp (List.mem_filter.mp h).2 rfl, fun k hk => ⟨fun h => (List.mem_filter.mp h).1, fun h => ?_⟩⟩
  exact List.mem_filter.mpr ⟨h, bne_iff_ne.mpr hk⟩

theorem debugAccess : Claim.DebugAccess := by
  refine ⟨fun s l off w h => exec_debugAccess_running w h, fun s l off hc ho hh => ?_, fun s l hc hon hwk => ?_, fun s l => ⟨?_, ?_, ?_, ?_⟩⟩
  · have hex := fun w => exec_debugAccess w hc ho hh
    have hexOn : layerOn s l = true → ∀ w, exec (.debugAccess l off w) s = .next (layerAccess l off w (touchLayer l s)) := fun hon w =>
      (hex w).trans (congrArg _ (if_pos hon))
    have hplace := recordByte_touchLayer l l off s
    have hctx : ∀ c, getCtx (touchLayer l s) c = getCtx s c := getCtx_congr (touchLayer_ctxs l s)
    refine ⟨fun hoff w => ⟨mgmtStatus 1 s, ?_, rfl, rfl, rfl⟩, fun hon hrec => ⟨?_, fun b => ?_⟩, fun c o hon hrec => ⟨fun hr w => ?_, fun hr => ?_⟩,
      fun haw w => ⟨_, hexOn (layerOn_of_awake haw) w, ?_⟩⟩
    · rw [hex, hoff]; rfl
    · refine ⟨_, (hexOn hon none).trans (congrArg _ (layerAccess_read (hplace.trans hrec))), rfl, touchLayer_mem l s, ?_⟩
      exact congrArg (fun m => (memGet m (layerKey l off)).zeroExtend 64) (touchLayer_mem l s)
    · refine ⟨_, (hexOn hon (some b)).trans (congrArg _ (layerAccess_write b (hplace.trans hrec))), rfl, touchLayer_ctxs l s, ?_⟩
      exact congrArg (fun m => memSet m (layerKey l off) b) (touchLayer_mem l s)
    · exact ⟨_, (hexOn hon w).trans (congrArg _ (layerAccess_busy w (hplace.trans hrec) (by rw [hctx]; exact hr))), rfl, touchLayer_ctxs l s⟩
    · refine ⟨_, (hexOn hon none).trans (congrArg _ (layerAccess_record (hplace.trans hrec) (by rw [hctx]; exact hr))), rfl, ?_,
        touchLayer_ctxs l s⟩
      exact congrArg (BitVec.zeroExtend 64) (recByte_congr (touchLayer_ctxs l s) c o)
    · rw [layerTick, layerAccess_debugAt]; exact layerTick_touchLayer haw
  · refine ⟨_, congrArg Host.Outcome.next (if_neg ?_), List.mem_append_right _ (List.mem_singleton_self l), rfl, layerTick_stampLayer l _, rfl, rfl⟩
    rw [hon, Bool.eq_false_iff.mpr (mt List.contains_iff_mem.mp hwk), decide_eq_false (Nat.not_le.mpr hc)]
    exact Bool.false_ne_true
  · intro hwk ht
    refine ⟨_, congrArg Host.Outcome.next (if_pos ?_), layerOn_of_awake (List.mem_append_right _ (List.mem_singleton_self l)), fun h => ?_, rfl⟩
    · rw [List.contains_iff_mem.mpr hwk, decide_eq_true ht]; rfl
    · exact bne_iff_ne.mp (List.mem_filter.mp h).2 rfl
  · exact exec_debugWakeDone_early
  · exact fun h => congrArg Host.Outcome.next (if_neg (Nat.not_le.mpr h))
  · obtain ⟨hgone, hkept⟩ := toRetention_awake s l
    rintro e (rfl | ⟨rfl, ht⟩)
    · exact ⟨toRetention l s, rfl, hgone, hkept, rfl, rfl⟩
    · exact ⟨toRetention l s, congrArg Host.Outcome.next (if_pos ht), hgone, hkept, rfl, rfl⟩

/-- Settles O52: each event by what it changes; the debugger's access by the record area or memory. -/
theorem powerResetAndDebug : Obligations.PowerResetAndDebug := ⟨powerAndReset, debugAccess⟩

end Sys2Proof.Machine
end

section
/-! SUPPORT. Scalar integer words: their operands and results as the integers of the form's width; division by its divisor, and
saturation by the range of the form. -/
namespace Sys2Proof.Machine

/-! Operands of the scalar integer words (R93) -/

/-- A code of n bits read as a signed integer (R38). -/
theorem signedOf_eq_toInt (n v : Nat) : signedOf n v = (BitVec.ofNat n v).toInt := by
  rw [BitVec.toInt_eq_toNat_cond, BitVec.toNat_ofNat, signedOf]
  cases n with
  | zero => simp
  | succ n => rw [Nat.add_sub_cancel, pow_succ]; congr 1; exact propext (by omega)

theorem intOperand_signed (v : Dbl) : intOperand false false v = v.toInt := by
  change signedOf 64 v.toNat = _
  rw [signedOf_eq_toInt, BitVec.ofNat_toNat, BitVec.setWidth_eq]
theorem intOperand_unsigned (v : Dbl) : intOperand false true v = v.toNat := congrArg Nat.cast (Nat.mod_eq_of_lt v.isLt)
theorem intOperand_signedW (v : Dbl) : intOperand true false v = (v.setWidth 32).toInt := by
  change signedOf 32 v.toNat = _
  rw [signedOf_eq_toInt, BitVec.ofNat_toNat]
theorem intOperand_unsignedW (v : Dbl) : intOperand true true v = (v.setWidth 32).toNat :=
  congrArg Nat.cast (BitVec.toNat_setWidth ..).symm

theorem toInt_eq_zero_iff {n : Nat} {v : BitVec n} : v.toInt = 0 ↔ v = 0#n := by rw [← BitVec.toInt_inj, BitVec.toInt_zero]
theorem cast_toNat_eq_zero_iff {n : Nat} {v : BitVec n} : (v.toNat : Int) = 0 ↔ v = 0#n := by
  rw [Int.natCast_eq_zero, ← BitVec.toNat_inj, BitVec.toNat_zero]

/-- An operand is 0 when the bits that its form reads are 0. -/
theorem intOperand_eq_zero (v : Dbl) (u : Bool) : intOperand false u v = 0 ↔ v = 0 := by
  cases u
  · rw [intOperand_signed]; exact toInt_eq_zero_iff
  · rw [intOperand_unsigned]; exact cast_toNat_eq_zero_iff
theorem intOperand_eq_zeroW (v : Dbl) (u : Bool) : intOperand true u v = 0 ↔ v.setWidth 32 = 0 := by
  cases u
  · rw [intOperand_signedW]; exact toInt_eq_zero_iff
  · rw [intOperand_unsignedW]; exact cast_toNat_eq_zero_iff

/-- The code of the difference of two integers read from codes is the difference of the codes. -/
theorem ofInt_toInt_sub {n : Nat} (x y : BitVec n) : BitVec.ofInt n (x.toInt - y.toInt) = x - y := by
  rw [Int.sub_eq_add_neg, BitVec.ofInt_add, BitVec.ofInt_neg, BitVec.ofInt_toInt, BitVec.ofInt_toInt, BitVec.sub_eq_add_neg]
theorem ofInt_toNat_sub {n : Nat} (x y : BitVec n) : BitVec.ofInt n ((x.toNat : Int) - y.toNat) = x - y := by
  rw [Int.sub_eq_add_neg, BitVec.ofInt_add, BitVec.ofInt_neg, BitVec.ofInt_natCast, BitVec.ofInt_natCast, BitVec.ofNat_toNat,
    BitVec.ofNat_toNat, BitVec.setWidth_eq, BitVec.setWidth_eq, BitVec.sub_eq_add_neg]
theorem ofInt_toInt_add {n : Nat} (x y : BitVec n) : BitVec.ofInt n (x.toInt + y.toInt) = x + y := by
  rw [BitVec.ofInt_add, BitVec.ofInt_toInt, BitVec.ofInt_toInt]
theorem ofInt_toNat_add {n : Nat} (x y : BitVec n) : BitVec.ofInt n ((x.toNat : Int) + y.toNat) = x + y := by
  rw [BitVec.ofInt_add, BitVec.ofInt_natCast, BitVec.ofInt_natCast, BitVec.ofNat_toNat, BitVec.ofNat_toNat, BitVec.setWidth_eq,
    BitVec.setWidth_eq]

/-- Quotients and remainders of integers read from codes, back as codes (R93). -/
theorem ofInt_tdiv {n : Nat} (x y : BitVec n) : BitVec.ofInt n (x.toInt.tdiv y.toInt) = x.sdiv y :=
  BitVec.eq_of_toInt_eq (by rw [BitVec.toInt_ofInt, BitVec.toInt_sdiv])
theorem ofInt_tmod {n : Nat} (x y : BitVec n) : BitVec.ofInt n (x.toInt.tmod y.toInt) = x.srem y := by
  rw [← BitVec.toInt_srem, BitVec.ofInt_toInt]
theorem ofInt_udiv {n : Nat} (x y : BitVec n) : BitVec.ofInt n ((x.toNat : Int).tdiv y.toNat) = x / y := by
  rw [← Int.ofNat_tdiv, BitVec.ofInt_natCast, BitVec.udiv_def]
theorem ofInt_umod {n : Nat} (x y : BitVec n) : BitVec.ofInt n ((x.toNat : Int).tmod y.toNat) = x % y := by
  rw [← Int.ofNat_tmod, BitVec.ofInt_natCast, BitVec.umod_def]

section
variable {s : State} {d a b : BitVec 6} {w u : Bool}

/-- A scalar integer word sends what its operation gives (R93, R94). -/
theorem intWord_sends (hr : s.roomFor 1) (rd : Bool) (lat : Nat) (f : Int → Int → Int × Fl) :
    intWord d a b w rd u lat f s = .next (s.sent [scalarOut lat d
      (intResult w u (f (intOperand w rd (rs s a)) (intOperand w rd (rs s b))).1)
      (f (intOperand w rd (rs s a)) (intOperand w rd (rs s b))).2]) :=
  congrArg Host.Outcome.next (results_room hr (le_refl 1))

/-! DIV and REM (R93, R94) -/

theorem exec_div_eq : exec (.div d a b w u) s =
    intWord d a b w u u 18 (fun x y => (if y = 0 then -1 else x.tdiv y, divFlag y)) s := rfl
theorem exec_rem_eq : exec (.rem d a b w u) s =
    intWord d a b w u u 18 (fun x y => (if y = 0 then x else x.tmod y, divFlag y)) s := rfl

theorem exec_div (hr : s.roomFor 1) (hb : intOperand w u (rs s b) ≠ 0) : exec (.div d a b w u) s =
    .next (s.sent [scalarOut 18 d (intResult w u ((intOperand w u (rs s a)).tdiv (intOperand w u (rs s b))))]) := by
  rw [exec_div_eq, intWord_sends hr]
  dsimp only
  rw [if_neg hb, divFlag, if_neg hb]
theorem exec_rem (hr : s.roomFor 1) (hb : intOperand w u (rs s b) ≠ 0) : exec (.rem d a b w u) s =
    .next (s.sent [scalarOut 18 d (intResult w u ((intOperand w u (rs s a)).tmod (intOperand w u (rs s b))))]) := by
  rw [exec_rem_eq, intWord_sends hr]
  dsimp only
  rw [if_neg hb, divFlag, if_neg hb]
theorem exec_div_zero (hr : s.roomFor 1) (hb : intOperand w u (rs s b) = 0) :
    exec (.div d a b w u) s = .next (s.sent [scalarOut 18 d (intResult w u (-1)) flDZ]) := by
  rw [exec_div_eq, intWord_sends hr]
  dsimp only
  rw [if_pos hb, divFlag, if_pos hb]
theorem exec_rem_zero (hr : s.roomFor 1) (hb : intOperand w u (rs s b) = 0) :
    exec (.rem d a b w u) s = .next (s.sent [scalarOut 18 d (intResult w u (intOperand w u (rs s a))) flDZ]) := by
  rw [exec_rem_eq, intWord_sends hr]
  dsimp only
  rw [if_pos hb, divFlag, if_pos hb]

end

/-- An operand as a result of its own form. -/
theorem intResult_intOperand (u : Bool) (v : Dbl) : intResult false u (intOperand false u v) = v := by
  cases u
  · rw [intOperand_signed]; exact BitVec.ofInt_toInt
  · rw [intOperand_unsigned]; exact (BitVec.ofInt_natCast ..).trans (BitVec.ofNat_toNat ..|>.trans (BitVec.setWidth_eq v))

theorem scalarDivisionResults : Claim.ScalarDivisionResults := by
  intro s d a b hr x y xl yl
  refine ⟨fun hy => ?_, fun hy => ?_, fun hy u => ?_, fun hy => ?_⟩
  · have h0 : ∀ u, intOperand false u (rs s b) ≠ 0 := fun u => mt (intOperand_eq_zero _ u).mp hy
    rw [exec_div hr (h0 _), exec_div hr (h0 _), exec_rem hr (h0 _), exec_rem hr (h0 _)]
    simp only [intOperand_signed, intOperand_unsigned, intResult, Bool.false_eq_true, if_false, ofInt_tdiv, ofInt_tmod, ofInt_udiv,
      ofInt_umod]
    exact ⟨rfl, rfl, rfl, rfl⟩
  · have h0 : ∀ u, intOperand true u (rs s b) ≠ 0 := fun u => mt (intOperand_eq_zeroW _ u).mp hy
    rw [exec_div hr (h0 _), exec_div hr (h0 _), exec_rem hr (h0 _), exec_rem hr (h0 _)]
    simp only [intOperand_signedW, intOperand_unsignedW, intResult, Bool.false_eq_true, if_false, if_true, ofInt_tdiv, ofInt_tmod,
      ofInt_udiv, ofInt_umod]
    exact ⟨rfl, rfl, rfl, rfl⟩
  · have h0 : intOperand false u (rs s b) = 0 := (intOperand_eq_zero _ u).mpr hy
    rw [exec_div_zero hr h0, exec_rem_zero hr h0, intResult_intOperand]
    exact ⟨rfl, rfl⟩
  · have h0 : ∀ u, intOperand true u (rs s b) = 0 := fun u => (intOperand_eq_zeroW _ u).mpr hy
    rw [exec_div_zero hr (h0 _), exec_div_zero hr (h0 _), exec_rem_zero hr (h0 _), exec_rem_zero hr (h0 _)]
    simp only [intOperand_signedW, intOperand_unsignedW, intResult, Bool.false_eq_true, if_false, if_true, BitVec.ofInt_toInt,
      BitVec.ofInt_natCast, BitVec.ofNat_toNat, BitVec.setWidth_eq]
    exact ⟨rfl, rfl, rfl, rfl⟩

/-! ADDS and SUBS (R38, R94) -/

/-- What a saturating word whose exact result is v sends. -/
def satSends (s : State) (d : BitVec 6) (w u : Bool) (v : Int) : Answer :=
  .next (s.sent [scalarOut 1 d (intResult w u (clampInt (intWidth w) u v).1) (clampInt (intWidth w) u v).2])

theorem exec_adds {s : State} {d a b : BitVec 6} {w u : Bool} (hr : s.roomFor 1) :
    exec (.adds d a b w u) s = satSends s d w u (intOperand w u (rs s a) + intOperand w u (rs s b)) := by
  change execAdds d a b w u s = _
  rw [execAdds, intWord_sends hr]
  rfl
theorem exec_subs {s : State} {d a b : BitVec 6} {w u : Bool} (hr : s.roomFor 1) :
    exec (.subs d a b w u) s = satSends s d w u (intOperand w u (rs s a) - intOperand w u (rs s b)) := by
  change execSubs d a b w u s = _
  rw [execSubs, intWord_sends hr]
  rfl

/-- The result of a saturating word by its position to the least and the greatest integer of the form. -/
theorem satSends_eq (s : State) (d : BitVec 6) (w u : Bool) (v : Int) :
    satSends s d w u v =
      if v < intMin (intWidth w) u then .next (s.sent [scalarOut 1 d (intResult w u (intMin (intWidth w) u)) flSAT])
      else if intMax (intWidth w) u < v then .next (s.sent [scalarOut 1 d (intResult w u (intMax (intWidth w) u)) flSAT])
      else .next (s.sent [scalarOut 1 d (intResult w u v)]) := by
  unfold satSends clampInt
  split
  · rfl
  · split <;> rfl

theorem satSends_signed (s : State) (d : BitVec 6) (v : Int) :
    satSends s d false false v =
      if v < -(2 ^ 63) then .next (s.sent [scalarOut 1 d (1 <<< 63) flSAT])
      else if 2 ^ 63 ≤ v then .next (s.sent [scalarOut 1 d (BitVec.allOnes 63 |>.setWidth 64) flSAT])
      else .next (s.sent [scalarOut 1 d (BitVec.ofInt 64 v)]) := by
  rw [satSends_eq]
  exact if_congr Iff.rfl rfl (if_congr Int.sub_one_lt_iff rfl rfl)
theorem satSends_signedW (s : State) (d : BitVec 6) (v : Int) :
    satSends s d true false v =
      if v < -(2 ^ 31) then .next (s.sent [scalarOut 1 d 0xFFFFFFFF80000000 flSAT])
      else if 2 ^ 31 ≤ v then .next (s.sent [scalarOut 1 d 0x7FFFFFFF flSAT])
      else .next (s.sent [scalarOut 1 d ((BitVec.ofInt 32 v).signExtend 64)]) := by
  rw [satSends_eq]
  exact if_congr Iff.rfl rfl (if_congr Int.sub_one_lt_iff rfl rfl)

/-- An unsigned sum clamps above the range only. -/
theorem satSends_unsigned_nonneg (s : State) (d : BitVec 6) {v : Int} (h : 0 ≤ v) :
    satSends s d false true v =
      if 2 ^ 64 ≤ v then .next (s.sent [scalarOut 1 d (BitVec.allOnes 64) flSAT])
      else .next (s.sent [scalarOut 1 d (BitVec.ofInt 64 v)]) := by
  rw [satSends_eq]
  exact (if_neg (Int.not_lt.mpr h)).trans (if_congr Int.sub_one_lt_iff rfl rfl)
theorem satSends_unsignedW_nonneg (s : State) (d : BitVec 6) {v : Int} (h : 0 ≤ v) :
    satSends s d true true v =
      if 2 ^ 32 ≤ v then .next (s.sent [scalarOut 1 d 0xFFFFFFFF flSAT])
      else .next (s.sent [scalarOut 1 d ((BitVec.ofInt 32 v).setWidth 64)]) := by
  rw [satSends_eq]
  exact (if_neg (Int.not_lt.mpr h)).trans (if_congr Int.sub_one_lt_iff rfl rfl)

/-- An unsigned difference clamps below 0 only. -/
theorem satSends_unsigned_lt (s : State) (d : BitVec 6) {v : Int} (h : v < 2 ^ 64) :
    satSends s d false true v =
      if v < 0 then .next (s.sent [scalarOut 1 d 0 flSAT]) else .next (s.sent [scalarOut 1 d (BitVec.ofInt 64 v)]) := by
  rw [satSends_eq]
  exact if_congr Iff.rfl rfl (if_neg (Int.not_lt.mpr (Int.le_sub_one_of_lt h)))
theorem satSends_unsignedW_lt (s : State) (d : BitVec 6) {v : Int} (h : v < 2 ^ 32) :
    satSends s d true true v =
      if v < 0 then .next (s.sent [scalarOut 1 d 0 flSAT])
      else .next (s.sent [scalarOut 1 d ((BitVec.ofInt 32 v).setWidth 64)]) := by
  rw [satSends_eq]
  exact if_congr Iff.rfl rfl (if_neg (Int.not_lt.mpr (Int.le_sub_one_of_lt h)))

theorem scalarSaturation : Claim.ScalarSaturation := by
  intro s d a b hr
  dsimp only
  refine ⟨?_, ?_, ?_, ?_, ?_, ?_, ?_, ?_⟩
  · rw [exec_adds hr, intOperand_signed, intOperand_signed, satSends_signed, ofInt_toInt_add]
  · rw [exec_subs hr, intOperand_signed, intOperand_signed, satSends_signed, ofInt_toInt_sub]
  · rw [exec_adds hr, intOperand_unsigned, intOperand_unsigned, satSends_unsigned_nonneg s d (by omega), ofInt_toNat_add]
    exact if_congr (by omega) rfl rfl
  · rw [exec_subs hr, intOperand_unsigned, intOperand_unsigned, satSends_unsigned_lt s d (by omega), ofInt_toNat_sub]
    exact if_congr (by omega) rfl rfl
  · rw [exec_adds hr, intOperand_unsignedW, intOperand_unsignedW, satSends_unsignedW_nonneg s d (by omega), ofInt_toNat_add]
    exact if_congr (by omega) rfl rfl
  · rw [exec_subs hr, intOperand_unsignedW, intOperand_unsignedW, satSends_unsignedW_lt s d (by omega), ofInt_toNat_sub]
    exact if_congr (by omega) rfl rfl
  · rw [exec_adds hr, intOperand_signedW, intOperand_signedW, satSends_signedW, ofInt_toInt_add]
  · rw [exec_subs hr, intOperand_signedW, intOperand_signedW, satSends_signedW, ofInt_toInt_sub]

/-- Settles O2: the quotients by the divisor, the saturating words by the position of the exact result to the form's range. -/
theorem scalarDivisionAndSaturation : Obligations.ScalarDivisionAndSaturation := ⟨scalarDivisionResults, scalarSaturation⟩

end Sys2Proof.Machine
end

section
/-! SUPPORT. The moves between the registers of a bank, the predicate word that MFP reads and MTP writes, and the writes of control
registers. -/
namespace Sys2Proof.Machine

/-! Predicate words as sums of powers of two (R28, R111) -/

/-- A bit of a sum of different powers of two. -/
theorem testBit_sum_two_pow (t : Finset Nat) (i : Nat) : (∑ j ∈ t, 2 ^ j).testBit i = decide (i ∈ t) := by
  rw [Bool.eq_iff_iff, ← Nat.mem_bitIndices, ← List.mem_toFinset, Finset.toFinset_bitIndices_sum_two_pow, decide_eq_true_eq]

/-- A bit of the sum of 2^f(j) over the j below n at which c holds, where different j have different f(j). -/
theorem testBit_sum_bits (n : Nat) (c : Nat → Bool) {f : Nat → Nat} (hf : Set.InjOn f (Set.Iio n)) (i : Nat) :
    (((List.range n).map (fun j => if c j then 2 ^ f j else 0)).sum).testBit i = decide (∃ j, j < n ∧ c j = true ∧ f j = i) := by
  have hinj : Set.InjOn f ((Finset.range n).filter (fun j => c j = true)) := fun a ha b hb =>
    hf (Finset.mem_range.mp (Finset.mem_filter.mp ha).1) (Finset.mem_range.mp (Finset.mem_filter.mp hb).1)
  have hsum : ((List.range n).map (fun j => if c j then 2 ^ f j else 0)).sum =
      ∑ i ∈ ((Finset.range n).filter (fun j => c j = true)).image f, 2 ^ i := by
    rw [Finset.sum_image hinj, Finset.sum_filter]; rfl
  rw [hsum, testBit_sum_two_pow]
  simp only [Finset.mem_image, Finset.mem_filter, Finset.mem_range, and_assoc]

theorem physP_toNat (b : Bank) (i : BitVec 5) :
    (physP b i).toNat = if i.toNat < 16 then i.toNat else 16 + (i.toNat - 16 + pbase b) % 16 := by
  unfold physP
  split
  · rfl
  · rw [BitVec.toNat_ofNat]; omega

/-- Different logical predicates are different physical ones (R28). -/
theorem physP_injective (b : Bank) : Function.Injective (physP b) := by
  intro i j h
  have h' := congrArg BitVec.toNat h
  rw [physP_toNat, physP_toNat] at h'
  have hi := i.isLt
  have hj := j.isLt
  refine BitVec.eq_of_toNat_eq ?_
  split at h' <;> split at h' <;> omega

/-- The number of a physical predicate by the number of the logical one. -/
theorem physP_injOn (b : Bank) : Set.InjOn (fun j => (physP b (BitVec.ofNat 5 j)).toNat) (Set.Iio 32) := fun i hi j hj h => by
  have e := congrArg BitVec.toNat (physP_injective b (BitVec.eq_of_toNat_eq h))
  rwa [BitVec.toNat_ofNat, BitVec.toNat_ofNat, Nat.mod_eq_of_lt hi, Nat.mod_eq_of_lt hj] at e

/-- Bit j of the word that MFP reads is logical predicate j. -/
theorem testBit_logicalPreds (b : Bank) (j : Nat) :
    (logicalPreds b).testBit j = (decide (j < 32) && b.getP (physP b (BitVec.ofNat 5 j))) := by
  refine (testBit_sum_bits 32 (fun j => b.getP (physP b (BitVec.ofNat 5 j))) (f := id) (Set.injOn_id _) j).trans ?_
  rw [Bool.eq_iff_iff]
  simp

/-- The word that MTP writes: p0 stays 1, and each other logical predicate has its bit at its physical place. -/
theorem physPreds_eq (b : Bank) (v : Dbl) :
    physPreds b v = BitVec.ofNat 32 ((List.range 32).map (fun j =>
      if j == 0 || v.getLsbD j then 2 ^ (physP b (BitVec.ofNat 5 j)).toNat else 0)).sum := by
  rw [List.range_succ_eq_map, List.map_cons, List.sum_cons, List.map_map]
  rfl

theorem getLsbD_physPreds (b : Bank) (v : Dbl) {j : Nat} (h1 : 1 ≤ j) (h32 : j < 32) :
    (physPreds b v).getLsbD (physP b (BitVec.ofNat 5 j)).toNat = v.getLsbD j := by
  rw [physPreds_eq, BitVec.getLsbD_ofNat, decide_eq_true (BitVec.isLt _), Bool.true_and,
    testBit_sum_bits 32 (fun j => j == 0 || v.getLsbD j) (physP_injOn b), Bool.eq_iff_iff, decide_eq_true_eq]
  constructor
  · rintro ⟨k, hk, hv, hkj⟩
    rw [physP_injOn b hk h32 hkj, beq_eq_false_iff_ne.mpr (Nat.ne_of_gt h1), Bool.false_or] at hv
    exact hv
  · exact fun hv => ⟨j, h32, by rw [hv, Bool.or_true], rfl⟩

/-! The moves (R111, R193) -/

theorem maskOut_ne (lat : Nat) {k : BitVec 4} (hk : k ≠ 0) (m : Dbl) : maskOut lat k m = { lat := lat, res := .mask k m } := by
  rw [maskOut, if_neg hk]

theorem registerMoves : Claim.RegisterMoves := by
  intro s d a r k m l hr
  have one : ∀ o : Out, needOf [o] ≤ 1 → (Host.Outcome.next (results s [o]) : Answer) = .next (s.sent [o]) := fun o ho =>
    congrArg _ (results_room hr ho)
  refine ⟨one _ (le_refl 1), one _ (le_refl 1), one _ (le_refl 1), one _ (le_refl 1), one _ (le_refl 1),
    ⟨_, one _ (le_refl 1), fun j => ?_⟩, fun hk => ?_, one _ (needOf_maskOut 1 0 _ 0), one _ (le_refl 1),
    ⟨_, one _ (le_refl 1), fun j h1 h32 => getLsbD_physPreds _ _ h1 h32⟩, one _ (le_refl 1)⟩
  · rw [BitVec.getLsbD_ofNat, testBit_logicalPreds, ← Bool.and_assoc]
    congr 1
    rw [← Bool.decide_and]
    exact decide_eq_decide.mpr ⟨And.right, fun h => ⟨by omega, h⟩⟩
  · rw [← maskOut_ne 1 hk]; exact one _ (needOf_maskOut 1 k _ 0)

/-! MTC (R44, R112, R185) -/

/-- MTC of a value that the register takes. -/
theorem exec_mtc {s : State} {r a : BitVec 6} (hr : s.roomFor 1) (h : cregExcluded r (rs s a) = false) :
    exec (.mtc r a) s = .next (s.sent [{ lat := 1, res := .creg r (rs s a) }]) := by
  change Host.Outcome.next (issue s (csrCause r (rs s a)) _ id) = _
  rw [csrCause, failIf, h]
  exact congrArg _ (issue_room id hr (le_refl 1))

/-- MTC of a value that the register's definition excludes. -/
theorem traps_mtc {s : State} {r a : BitVec 6} (h : cregExcluded r (rs s a) = true) :
    Traps (.mtc r a) s 4 0x07 (r.zeroExtend 64) := by
  refine ⟨_, rfl, ?_⟩
  rw [csrCause, failIf, h]
  exact issue_trap_head s _ [] _ id (fun _ hd => nomatch hd) (.inl (le_refl 4))

theorem cregExcluded_of_ne {r : BitVec 6} (v : Dbl) (h8 : r ≠ 8) (h10 : r ≠ 10) : cregExcluded r v = false := by
  rw [cregExcluded, beq_eq_false_iff_ne.mpr h8, beq_eq_false_iff_ne.mpr h10]; rfl
/-- FIDEL takes no level of 3. -/
theorem cregExcluded_fidel (v : Dbl) : cregExcluded 8 v = decide (v.extractLsb' 0 2 = 3) := by
  change decide (v.toNat % 4 = 3) = _
  rw [decide_eq_decide, ← BitVec.toNat_inj, BitVec.extractLsb'_toNat]
  rfl
/-- FPCSR takes no rounding mode above 4. -/
theorem cregExcluded_fpcsr (v : Dbl) : cregExcluded 10 v = !(v.extractLsb' 0 3).ult 5 := by
  change (decide (5 ≤ v.toNat % 8) || false) = !decide ((v.extractLsb' 0 3).toNat < 5)
  rw [Bool.or_false, ← decide_not, decide_eq_decide, BitVec.extractLsb'_toNat, Nat.not_lt]
  rfl

theorem controlRegisterWrites : Claim.ControlRegisterWrites := by
  refine ⟨fun s r a hr h8 h10 => exec_mtc hr (cregExcluded_of_ne _ h8 h10), fun s a hr h => exec_mtc hr ?_,
    fun s a hr h => exec_mtc hr ?_, fun s a h => traps_mtc ?_, fun s a h => traps_mtc ?_, fun b v => ⟨rfl, rfl, rfl, rfl⟩⟩
  · rw [cregExcluded_fidel]; exact decide_eq_false h
  · have hlt : ((rs s a).extractLsb' 0 3).ult 5 = true := decide_eq_true (Nat.lt_succ_of_le (of_decide_eq_true h))
    rw [cregExcluded_fpcsr, hlt]; rfl
  · rw [cregExcluded_fidel]; exact decide_eq_true h
  · rw [cregExcluded_fpcsr, h]; rfl

/-- Settles O6: the words of predicates by their bits, MTC by the values that its register excludes. -/
theorem bankMoves : Obligations.BankMoves := ⟨registerMoves, controlRegisterWrites⟩

end Sys2Proof.Machine
end

section
/-! SUPPORT. The arithmetic words of pipe V: what they send, and the lanes of an integer row. -/
namespace Sys2Proof.Machine

/-! Snapshot entries of several results (R129) -/

theorem needOf_eq_sum (l : List Out) : needOf l = (l.map (fun o => o.res.entries o.fp o.mx)).sum := by
  rw [needOf, List.sum_eq_foldl, List.foldl_map]
theorem needOf_append (l m : List Out) : needOf (l ++ m) = needOf l + needOf m := by
  rw [needOf_eq_sum, List.map_append, List.sum_append, ← needOf_eq_sum, ← needOf_eq_sum]
theorem needOf_advanceOut (s : State) (draws : Bool) (n : Nat) : needOf (advanceOut s draws n) ≤ 1 := by
  cases draws
  · exact Nat.zero_le 1
  · exact le_refl 1

/-! Tag checks of several sources (R21, R152) -/

/-- Sources of one accepted tag. -/
theorem needSame_ok {s : State} {ok : Tag → Bool} {t : Tag} (ht : ok t = true) :
    ∀ {l : List (BitVec 8)}, (∀ i ∈ l, (rv s i).tag = t) → needSame s ok l = []
  | [], _ => rfl
  | i :: l, h => by
    have hi : (rv s i).tag = t := h i List.mem_cons_self
    rw [needSame, needRow_ok (by rw [hi]; exact ht), List.nil_append, List.flatMap_eq_nil_iff]
    exact fun j hj => needRow_ok (beq_iff_eq.mpr ((h j (List.mem_cons_of_mem i hj)).trans hi.symm))
theorem needGroup_ok {s : State} {i : BitVec 8} {n : Nat} (h : rotSpan (cx s).bank i n = false) : needGroup s i n = [] := by
  rw [needGroup, h]; rfl

/-! The words of R156 (R152, R155) -/

section
variable {s : State} {op : VOp} {ok : Tag → Bool} {d : BitVec 8} {k : BitVec 4} {rm : Rm} {srcs : List (BitVec 8)} {a b c : BitVec 8}
  {latI latF : Nat} {rounds : Bool} {extra : List Cause} {t : Tag}

/-- A word of R156 whose checks pass sends its lanes and, if it draws, the advance of VRNGC. -/
theorem arith_results (ha : (rv s a).tag = t) (hs : needSame s ok srcs = []) (hd : k = 0 ∨ (rv s d).tag = t) (he : extra = []) :
    arith s op ok d k rm srcs a b c latI latF rounds extra =
      .next (results s (vecResult s d k t (if tagFp t then latF else latI)
        (opLanes op t (laneRnd s rm) (rv s a).data (rv s b).data (rv s c).data) ++
          advanceOut s (rounds && tagFp t && effMode s rm == 4) (tagLanes t))) := by
  subst ha he
  rw [arith, hs, needDest_ok hd]
  rfl

theorem arith_completes (hr : s.roomFor 2) (ha : (rv s a).tag = t) (hok : ok t = true) (hs : ∀ i ∈ srcs, (rv s i).tag = t)
    (hd : k = 0 ∨ (rv s d).tag = t) (he : extra = []) :
    arith s op ok d k rm srcs a b c latI latF rounds extra =
      .next (s.sent (vecResult s d k t (if tagFp t then latF else latI)
        (opLanes op t (laneRnd s rm) (rv s a).data (rv s b).data (rv s c).data) ++
          advanceOut s (rounds && tagFp t && effMode s rm == 4) (tagLanes t))) := by
  rw [arith_results ha (needSame_ok hok hs) hd he, results_room hr]
  rw [needOf_append]
  exact Nat.add_le_add (needOf_vecResult ..) (needOf_advanceOut ..)

end

theorem tags_pair {s : State} {a b : BitVec 8} {t : Tag} (ha : (rv s a).tag = t) (hb : (rv s b).tag = t) :
    ∀ i ∈ [a, b], (rv s i).tag = t := List.forall_mem_cons.mpr ⟨ha, List.forall_mem_singleton.mpr hb⟩

theorem vectorArithmeticCompletes : Claim.VectorArithmeticCompletes := by
  intro s d a b k r t hr da db dd sends
  have whole : ∀ {op ok srcs x y z rm li lf rounds}, (rv s x).tag = t → ok t = true → (∀ i ∈ srcs, (rv s i).tag = t) →
      arith s op ok d 0 rm srcs x y z li lf rounds [] =
        .next (sends 0 li lf rm rounds (opLanes op t (laneRnd s rm) (rv s x).data (rv s y).data (rv s z).data)) :=
    fun hx hok hs => arith_completes hr hx hok hs (.inl rfl) rfl
  have masked : ∀ {op ok srcs x y z rm li lf rounds extra}, (rv s x).tag = t → ok t = true → (∀ i ∈ srcs, (rv s i).tag = t) →
      (rv s d).tag = t → extra = [] → arith s op ok d k rm srcs x y z li lf rounds extra =
        .next (sends k li lf rm rounds (opLanes op t (laneRnd s rm) (rv s x).data (rv s y).data (rv s z).data)) :=
    fun hx hok hs hd he => arith_completes hr hx hok hs (.inr hd) he
  refine ⟨fun ha hb ht => ?_, fun hd hb ht => ?_, fun hd hb ht => ?_⟩
  · have hab := tags_pair ha hb
    exact ⟨whole ha ht hab, whole ha ht hab, whole ha ht hab, whole ha ht hab, whole ha ht hab,
      fun hd => whole ha ht (List.forall_mem_cons.mpr ⟨hd, hab⟩)⟩
  · have hdb := tags_pair hd hb
    exact ⟨masked hd ht hdb hd rfl, masked hd ht hdb hd rfl, masked hd ht hdb hd rfl, masked hd ht hdb hd rfl,
      masked hd ht hdb hd rfl, fun hb' hg => masked hb ht (List.forall_mem_cons.mpr ⟨hd, tags_pair hb hb'⟩) hd (needGroup_ok hg)⟩
  · have hdb := tags_pair hd hb
    exact ⟨masked hd ht hdb hd rfl, masked hd ht hdb hd rfl, masked hd ht hdb hd rfl, masked hd ht hdb hd rfl⟩

/-! Lanes of a row that is given by its lanes (R38) -/

theorem lanesNat_lane (w : Nat) (l : List Nat) (j : Nat) : lanesNat w l / 2 ^ (w * j) % 2 ^ w = l.getD j 0 % 2 ^ w := by
  induction l generalizing j with
  | nil => rw [lanesNat, Nat.zero_div, List.getD_nil]
  | cons v l ih =>
    cases j with
    | zero => rw [Nat.mul_zero, pow_zero, Nat.div_one, lanesNat, Nat.add_mul_mod_self_left, Nat.mod_mod, List.getD_cons_zero]
    | succ j =>
      have hv : v % 2 ^ w < 2 ^ w := Nat.mod_lt _ (Nat.two_pow_pos w)
      rw [lanesNat, Nat.mul_succ, Nat.add_comm (w * j), pow_add, ← Nat.div_div_eq_div_mul,
        Nat.add_mul_div_left _ _ (Nat.two_pow_pos w), Nat.div_eq_of_lt hv, Nat.zero_add, ih, List.getD_cons_succ]

/-- A lane of a row keeps the low bits of what the row was made of. -/
theorem lane_ofLanes {w j : Nat} (l : List Nat) (h : w * j + w ≤ 2048) : lane (ofLanes w l) w j = l.getD j 0 % 2 ^ w := by
  rw [← lanesNat_lane, lane, ofLanes, BitVec.toNat_ofNat]
  refine Nat.eq_of_testBit_eq (fun i => ?_)
  simp only [Nat.testBit_mod_two_pow, Nat.testBit_div_two_pow]
  by_cases hi : i < w
  · rw [decide_eq_true (show i + w * j < 2048 by omega), Bool.true_and]
  · rw [decide_eq_false hi, Bool.false_and, Bool.false_and]

/-- The lanes of a tag lie in the row. -/
theorem lane_in_row {t : Tag} {j : Nat} (hj : j < tagLanes t) : tagWidth t * j + tagWidth t ≤ 2048 :=
  calc tagWidth t * j + tagWidth t = tagWidth t * (j + 1) := (Nat.mul_succ ..).symm
    _ ≤ tagWidth t * tagLanes t := Nat.mul_le_mul_left _ hj
    _ ≤ 2048 := Nat.mul_div_le ..

/-- A row of a tag by its lanes. -/
theorem lane_ofLanes_range {t : Tag} {j : Nat} (f : Nat → Nat) (hj : j < tagLanes t) :
    lane (ofLanes (tagWidth t) ((List.range (tagLanes t)).map f)) (tagWidth t) j = f j % 2 ^ tagWidth t := by
  rw [lane_ofLanes _ (lane_in_row hj), List.getD_eq_getElem?_getD, List.getElem?_map, List.getElem?_range hj]
  rfl

theorem lane_lt (r : BitVec 2048) (w j : Nat) : lane r w j < 2 ^ w := Nat.mod_lt _ (Nat.two_pow_pos w)

/-! Integer lanes (R38, R154, R156) -/

/-- Lanes without flags. -/
theorem withLanes_zero {fs : List Fl} (h : ∀ f ∈ fs, f = 0) (o : Out) : withLanes fs o = { o with fp := 0, lf := [] } := by
  have hfold : fs.foldl (· ||| ·) 0 = 0 := by
    induction fs with
    | nil => rfl
    | cons f fs ih =>
      rw [List.foldl_cons, h f List.mem_cons_self]
      exact ih (fun g hg => h g (List.mem_cons_of_mem f hg))
  rw [withLanes, hfold, if_pos (List.all_eq_true.mpr fun f hf => beq_iff_eq.mpr (h f hf))]

/-- Lane j of an operation on integer rows of a tag. -/
def intLaneAt (op : VOp) (t : Tag) (a b c : BitVec 2048) (j : Nat) : Nat :=
  intLane op (tagWidth t) (lane a (tagWidth t) j) (lane b (tagWidth t) j) (lane c (tagWidth t) j)

theorem tagFp_of_tagInt : ∀ {t : Tag}, tagInt t = true → tagFp t = false := by decide

/-- On integer rows a word of R156 writes its whole row, sets no flag and draws nothing. -/
theorem arith_int {s : State} {op : VOp} {ok : Tag → Bool} {d : BitVec 8} {rm : Rm} {srcs : List (BitVec 8)} {a b c : BitVec 8}
    {latI latF : Nat} {rounds : Bool} {t : Tag} (hr : s.roomFor 1) (hi : tagInt t = true) (ha : (rv s a).tag = t) (hok : ok t = true)
    (hs : ∀ i ∈ srcs, (rv s i).tag = t) :
    arith s op ok d 0 rm srcs a b c latI latF rounds [] =
      .next (s.sent [rowOut s latI d t (ofLanes (tagWidth t)
        ((List.range (tagLanes t)).map (intLaneAt op t (rv s a).data (rv s b).data (rv s c).data)))]) := by
  have hfp := tagFp_of_tagInt hi
  have hlanes : opLanes op t (laneRnd s rm) (rv s a).data (rv s b).data (rv s c).data =
      (List.range (tagLanes t)).map (fun j => (intLaneAt op t (rv s a).data (rv s b).data (rv s c).data j, 0)) := by
    simp only [opLanes, hfp, Bool.false_eq_true, if_false]; rfl
  have hrow : vecResult s d 0 t latI ((List.range (tagLanes t)).map
      (fun j => (intLaneAt op t (rv s a).data (rv s b).data (rv s c).data j, 0))) = [rowOut s latI d t (ofLanes (tagWidth t)
        ((List.range (tagLanes t)).map (intLaneAt op t (rv s a).data (rv s b).data (rv s c).data)))] := by
    rw [vecResult, if_pos rfl, laneRow, List.map_map, List.map_map, withLanes_zero (by simp)]
    rfl
  rw [arith_results ha (needSame_ok hok hs) (.inl rfl) rfl, hlanes, hfp, Bool.and_false, Bool.false_and, if_neg Bool.false_ne_true,
    hrow]
  exact congrArg _ (results_room hr (le_refl 1))

/-- The code of a difference of lanes. -/
theorem codeOf_sub (w a b : Nat) (ha : a < 2 ^ w) (hb : b < 2 ^ w) :
    codeOf w (signedOf w a - signedOf w b) = (a + (2 ^ w - b)) % 2 ^ w := by
  rw [signedOf_eq_toInt, signedOf_eq_toInt, codeOf, ← BitVec.toNat_ofInt, ofInt_toInt_sub, BitVec.toNat_sub, BitVec.toNat_ofNat,
    BitVec.toNat_ofNat, Nat.mod_eq_of_lt ha, Nat.mod_eq_of_lt hb, Nat.add_comm]

theorem vectorIntegerLanes : Claim.VectorIntegerLanes := by
  intro s d a b t hr hi ha hb hd w x y z gives
  have harith : tagArith t = true := by rw [tagArith, hi]; rfl
  have give : ∀ {i op ok rm srcs u v c lat latF rounds} {f : Nat → Nat},
      exec i s = arith s op ok d 0 rm srcs u v c lat latF rounds [] → (rv s u).tag = t → ok t = true →
      (∀ i ∈ srcs, (rv s i).tag = t) → (∀ j, intLaneAt op t (rv s u).data (rv s v).data (rv s c).data j % 2 ^ w = f j) →
        gives i lat f :=
    fun he hu hok hs hf => ⟨_, he.trans (arith_int hr hi hu hok hs), fun j hj => (lane_ofLanes_range _ hj).trans (hf j)⟩
  have hab := tags_pair ha hb
  have hdb := tags_pair hd hb
  refine ⟨give rfl ha harith hab fun j => Nat.mod_mod _ _,
    give rfl ha harith hab fun j => ?_,
    give rfl ha harith hab fun j => Nat.mod_mod _ _,
    give rfl ha harith (List.forall_mem_cons.mpr ⟨hd, hab⟩) fun j => Nat.mod_mod _ _,
    give rfl hd hi hdb fun j => Nat.mod_mod _ _,
    give rfl hd hi hdb fun j => ?_⟩
  · change codeOf w (signedOf w (x j) - signedOf w (y j)) % 2 ^ w = _
    rw [codeOf_sub w _ _ (lane_lt ..) (lane_lt ..), Nat.mod_mod]
  · exact Nat.mod_eq_of_lt (Nat.lt_of_le_of_lt (Nat.div_le_self ..) (lane_lt ..))

/-- Settles O19: the tag checks once for all words, and the lanes of the row that an integer word sends. -/
theorem vectorArithmetic : Obligations.VectorArithmetic := ⟨vectorArithmeticCompletes, vectorIntegerLanes⟩

end Sys2Proof.Machine
end

section
/-! SUPPORT. VPERM on MX rows: it writes the sign extension of an element, and its source may hold other bits beside the element. -/
namespace Sys2Proof.Machine

/-! VPERM (R52, R167) -/

/-- Lane j of the row that VPERM sends: the lane that the index row names, an MX element as the sign extension of its own bits. -/
def permLane (t : Tag) (r x : BitVec 2048) (j : Nat) : Nat :=
  let a := lane r (tagWidth t) (lane x (tagWidth t) j % tagLanes t)
  if tagMx t then mxContainer t (signedOf (mxWidth t) a) else a

theorem exec_vperm {s : State} {v x : BitVec 8} {t : Tag} (hr : s.roomFor 1) (d : BitVec 8) (hv : (rv s v).tag = t)
    (ht : (tagAny t && t != 9) = true) (hx : (rv s x).tag = indexTag t) :
    exec (.vperm d v x) s = .next (s.sent [rowOut s 2 d t
      (ofLanes (tagWidth t) ((List.range (tagLanes t)).map (permLane t (rv s v).data (rv s x).data)))]) := by
  subst hv
  change execVperm d v x s = _
  rw [execVperm, needRow_ok ht, needRow_ok (ok := (· == indexTag _)) (beq_iff_eq.mpr hx)]
  exact congrArg _ (issue_room id hr (le_refl 1))

/-- The row that a word sends can be read off the state that it leaves. -/
theorem sent_rowOut_inj {s : State} {lat : Nat} {d : BitVec 8} {t : Tag} {r q : BitVec 2048}
    (h : s.sent [rowOut s lat d t r] = s.sent [rowOut s lat d t q]) : r = q := by
  have hf := List.append_cancel_left (congrArg State.flight h)
  simpa [Out.toFlight, rowOut] using hf

/-- An MXINT6 container with the element 0 and an ignored bit set is written as 0, where a copy of it would be 0x40. -/
theorem not_laneMovesComplete {s : State} {v x : BitVec 8} (hr : s.roomFor 2) (hv : (rv s v).tag = 10) (hx : (rv s x).tag = 1)
    (hindex : lane (rv s x).data 8 0 = 0) (hsource : lane (rv s v).data 8 0 = 0x40) : ¬ Claim.LaneMovesComplete := by
  intro hmoves
  obtain ⟨hperm, -⟩ := hmoves s 2 v x 0 0 0 0 hr
  rw [hv] at hperm
  obtain ⟨r, hsend, hlane⟩ := hperm (by decide) (by decide) hx
  rw [exec_vperm (hr.mono (by decide)) 2 hv (by decide) hx] at hsend
  have hrow := sent_rowOut_inj (Host.Outcome.next.inj hsend)
  have hcopied : lane r 8 0 = lane (rv s v).data 8 (lane (rv s x).data 8 0 % 256) := hlane 0 (by decide)
  have hwritten : lane r 8 0 = permLane 10 (rv s v).data (rv s x).data 0 % 2 ^ 8 := by
    rw [← hrow]; exact lane_ofLanes_range (t := 10) _ (by decide)
  have helement : permLane 10 (rv s v).data (rv s x).data 0 = 0 := by
    change codeOf 8 (signedOf 6 (lane (rv s v).data 8 (lane (rv s x).data 8 0 % 256))) = 0
    rw [hindex, Nat.zero_mod, hsource]; decide
  rw [hwritten, helement, hindex, Nat.zero_mod, hsource] at hcopied
  exact absurd hcopied (by decide)

/-- A state whose row 0 carries MXINT6 and has 0x40 in lane 0, the element 0 with one of the bits that reads ignore set; row 1 is an
index row of zeros. -/
def ignoredBit : State :=
  { State.reset with ctxs := [(0, { v := [(0, { tag := 10, data := ofLanes 8 [0x40] }), (1, { tag := 1, data := ofLanes 8 [0] })] })] }

theorem roomFor_ignoredBit : ignoredBit.roomFor 2 := by unfold State.roomFor; decide

/-- Refutes O22: VPERM writes each lane of an MXINT6 row as the sign extension of its element (R52, R167), where the statement asks
for the source's container with the bits that reads ignore. -/
theorem not_vectorConversionsAndMoves : ¬ Obligations.VectorConversionsAndMoves := fun ⟨_, _, hmoves⟩ =>
  not_laneMovesComplete (s := ignoredBit) (v := 0) (x := 1) roomFor_ignoredBit rfl rfl (lane_ofLanes [0] (by decide))
    (lane_ofLanes [0x40] (by decide)) hmoves

end Sys2Proof.Machine
end

section
/-! SUPPORT. What a step runs, and what comes of a bundle of one word. -/
namespace Sys2Proof.Machine

/-! What a step runs -/

theorem step_powered {s : State} (h : s.pkg.powered = true) : step s = stepNext (distributorCycle s) := by simp [step, h]

theorem distributorCycle_idle {s : State} (h : s.pkg.pass = false) : distributorCycle s = s := by
  simp [distributorCycle, distribute, h]

theorem step_undecided {s : State} (hp : s.pkg.powered = true) (hd : s.pkg.pass = false) : step s = stepNext s := by
  rw [step_powered hp, distributorCycle_idle hd]

theorem stepNext_event {s : State} {i : Instr} {l : List Instr} (h : s.agenda = i :: l) :
    stepNext s = exec i { s with agenda := l } := by
  simp only [stepNext, h]

theorem stepNext_cycle {s : State} (h : s.agenda = []) (hl : s.cluster.lock = true) : stepNext s = .next (coreCycle s) := by
  simp only [stepNext, h, hl, Bool.not_true, Bool.false_eq_true, if_false]

theorem stepNext_unlocked {s : State} (h : s.agenda = []) (hl : s.cluster.lock = false) : stepNext s = .next (fllLock s) := by
  simp only [stepNext, h, hl, Bool.not_false, if_true]

/-- The primary bundle that is taken leaves the pipes that it does not use to the secondary stream (R139). -/
theorem issueCycle_taken {s s0 s1 : State} {c : CtxId} {used : List Nat}
    (hstop : allCtx.foldl stopCode (allCtx.foldl stopAsync s) = s0) (hslot : slotCtx s0 0 = some c)
    (hprim : (getCtx s0 c).primary = true) (htry : tryBundle s0 c [] false = .taken s1 used) :
    issueCycle s = secondaryIssue used (turnOrder s1) s1 := by
  unfold issueCycle
  rw [hstop]
  dsimp only
  rw [hslot, Option.filter_some, if_pos hprim]
  dsimp only
  rw [htry]

/-! The address of a bundle: nothing that happens as it is entered moves its context's PC -/

/-- What a microword makes of the state when it goes on or ends the routine holds the contexts of s. -/
def MNext.KeepsCtxs (s : State) : MNext → Prop
  | .wait => True
  | .go t _ => t.ctxs = s.ctxs
  | .stop t _ _ _ => t.ctxs = s.ctxs

theorem stepWord_keepsCtxs (s : State) (c : CtxId) (r : MRoutine) (w : Dbl) : (stepWord s c r w).KeepsCtxs s := by
  unfold stepWord; dsimp only
  split_ifs <;> trivial

theorem loadWord_keepsCtxs (s : State) (c : CtxId) (r : MRoutine) (w : Dbl) : (loadWord s c r w).KeepsCtxs s := by
  unfold loadWord; dsimp only
  split_ifs <;> trivial

theorem microWord_keepsCtxs (s : State) (c : CtxId) (r : MRoutine) : (microWord s c r).KeepsCtxs s := by
  unfold microWord; dsimp only
  split
  · rfl
  split
  case h_1 => split <;> rfl
  case h_2 =>
    split
    · rfl
    split
    · trivial
    · exact stepWord_keepsCtxs s c r _
  case h_3 =>
    split
    · rfl
    split
    · trivial
    · exact loadWord_keepsCtxs s c r _
  case h_4 => split <;> rfl
  case h_5 => split <;> [split_ifs <;> rfl; rfl]
  case h_6 => rfl

theorem runWords_ctxs (c : CtxId) (fuel : Nat) (s : State) (r : MRoutine) : (runWords c fuel s r).ctxs = s.ctxs := by
  induction fuel generalizing s r with
  | zero => rfl
  | succ n ih =>
    have h := microWord_keepsCtxs s c r
    rw [runWords]
    split <;> simp only [*, MNext.KeepsCtxs] at h
    · rfl
    · exact (ih _ _).trans h
    · exact h

theorem routineCycle_ctxs (s : State) : (routineCycle s).ctxs = s.ctxs := by
  unfold routineCycle
  split
  · split_ifs
    · exact runWords_ctxs _ _ _ _
    · rfl
  · rfl

theorem resumeEngine_ctxs (c : CtxId) (s : State) : (resumeEngine c s).ctxs = s.ctxs := by
  unfold resumeEngine
  split_ifs
  · exact routineCycle_ctxs _
  · rfl

theorem getCtx_resumeEngine (c d : CtxId) (s : State) : getCtx (resumeEngine c s) d = getCtx s d :=
  getCtx_congr (resumeEngine_ctxs c s) d

/-- Putting back a context with the same bank leaves every bank as it was. -/
theorem bank_setCtx {s : State} {d : CtxId} {y : Ctx} (h : y.bank = (getCtx s d).bank) (c : CtxId) :
    (getCtx (setCtx s d y) c).bank = (getCtx s c).bank := by
  rw [getCtx_setCtx]; split
  · subst_vars; exact h
  · rfl

theorem takeBanks_bank (seq : Nat) (s : State) (c : CtxId) : (getCtx (takeBanks seq s) c).bank = (getCtx s c).bank := by
  refine foldl_keeps (π := fun s => (getCtx s c).bank) (fun s d => ?_) _ _
  dsimp only
  split
  · split_ifs
    · exact bank_setCtx (by rfl) c
    · rfl
  · rfl

theorem atResume_bank (c : CtxId) (s : State) : (getCtx (atResume c s) c).bank = (getCtx s c).bank := by
  rw [atResume, ← takeBanks_bank (getCtx s c).plan s c]
  generalize takeBanks (getCtx s c).plan s = t
  dsimp only
  split
  · rfl
  · exact bank_setCtx (by rfl) c

/-- The record of the word as a bundle begins (R66). -/
theorem enterBundle_cur (s : State) (c : CtxId) (n : Nat) : (enterBundle s c n).cur =
    { ctx := c, primary := (getCtx (atResume c s) c).primary, addr := (getCtx s c).bank.pc, n := n,
      npc := (getCtx s c).bank.pc + BitVec.ofNat 64 (4 * n) } := by
  simp only [enterBundle, getCtx_resumeEngine, atResume_bank]

/-! A bundle of one word -/

theorem takeBundle_single {w : Word} (h : chained w = false) (n : Nat) (rest : List Word) :
    takeBundle (n + 1) (w :: rest) = ([w], 0) := by simp [takeBundle, h]

theorem decodeAll_single {w : Word} {i : Instr} (h : decodeWord w = .ok i) (k : Nat) : decodeAll k [w] = .ok [i] := by
  simp [decodeAll, h]

theorem conflictOf_single (b : Bank) (w : Word) (i : Instr) : conflictOf b [w] [i] 0 = none := rfl

theorem with_cur {s : State} {k : Cur} (h : k = s.cur) : { s with cur := k } = s := by subst h; rfl

/-- The state a bundle enters is the one its first slot runs in. -/
theorem execSlot_enterBundle {s t : State} {c : CtxId} {n : Nat} {i : Instr} (h : exec i (enterBundle s c n) = .next t) :
    execSlot (enterBundle s c n) 0 i = t := by
  have hcur : { (enterBundle s c n).cur with slot := BitVec.ofNat 4 0, trap := none, wait := false, stall := false } =
      (enterBundle s c n).cur := by
    simp only [enterBundle_cur, BitVec.ofNat_eq_ofNat]
  rw [execSlot, with_cur hcur, h]

/-- The fold of a word that raises nothing. -/
theorem foldWord_completes {s t : State} {k : Nat} {i : Instr} (ht : execSlot s k i = t) (hw : t.cur.wait = false)
    (hs : t.cur.stall = false) (hn : t.cur.trap = none) : foldWord { st := s } k i = { st := t } := by
  simp [foldWord, ht, hw, hs, hn]

/-- The fold of a word that raises a cause of classes 0 to 5: its effects are dropped, its count of snapshot entries and its draws
stay. -/
theorem foldWord_raises {s t : State} {k cls : Nat} {why : BitVec 8} {v : Dbl} {i : Instr} (ht : execSlot s k i = t)
    (hw : t.cur.wait = false) (hs : t.cur.stall = false) (hc : t.cur.trap = some (cls, why, v)) (h6 : cls < 6) :
    foldWord { st := s } k i =
      { st := { s with cur := { s.cur with snapNeed := t.cur.snapNeed, draws := t.cur.draws } }, causes := [(cls, k, why, v)] } := by
  have h7 : cls ≠ 7 := by omega
  have h6' : cls ≠ 6 := by omega
  simp [foldWord, ht, hw, hs, hc, h7, h6']

theorem ofBundle_of_ne {cls k : Nat} {why : BitVec 8} {v : Dbl} (h : why ≠ 0x0A) : ofBundle (cls, k, why, v) = true := by
  simp only [ofBundle, beq_eq_false_iff_ne.mpr h, Bool.false_and, Bool.not_false]

/-- With room in the snapshot buffer and one drawing word at most, the causes of a bundle are those its words raised. -/
theorem bundleCauses_words {base : State} {is : List Instr} {f : Fold} (hd : drawClash is f.st.cur.draws = none)
    (hr : f.st.cur.snapNeed = 0 ∨ entriesInFlight base base.cur.ctx + f.st.cur.snapNeed ≤ 64) :
    bundleCauses base is f = f.causes.filter ofBundle := by
  have h : ¬ (0 < f.st.cur.snapNeed ∧ 64 < entriesInFlight base base.cur.ctx + f.st.cur.snapNeed) := by omega
  simp [bundleCauses, hd, h]

/-- What comes of a bundle whose words have run and none of which waits or stalls: the lowest of its causes is delivered, or the
state that replaces it is taken, or it is left behind (R118, R119). -/
def outcomeOf (s : State) (c : CtxId) (g : Seg) (ws : List Word) (base : State) (is : List Instr) (f : Fold) : Try :=
  let x := getCtx s c
  match pickSlot (bundleCauses base is f) with
  | some (_, _, why, v) => .taken (unreplay x c (deliver base c why v x.bank.pc s.cycle)) (demand (ws.map pipeOf))
  | none => match f.final with
    | some t => .taken { t with seq := t.seq + 1 } (demand (ws.map pipeOf))
    | none => .taken (finishBundle c g x.rel.length f.soft f.st) (demand (ws.map pipeOf))

theorem outcomeOf_delivers {s base : State} {c : CtxId} {g : Seg} {ws : List Word} {is : List Instr} {f : Fold} {cls k : Nat}
    {why : BitVec 8} {v : Dbl} (h : bundleCauses base is f = [(cls, k, why, v)]) : outcomeOf s c g ws base is f =
      .taken (unreplay (getCtx s c) c (deliver base c why v (getCtx s c).bank.pc s.cycle)) (demand (ws.map pipeOf)) := by
  rw [outcomeOf, h]; rfl

theorem outcomeOf_finishes {s base : State} {c : CtxId} {g : Seg} {ws : List Word} {is : List Instr} {f : Fold}
    (h : bundleCauses base is f = []) (hf : f.final = none) : outcomeOf s c g ws base is f =
      .taken (finishBundle c g (getCtx s c).rel.length f.soft f.st) (demand (ws.map pipeOf)) := by
  rw [outcomeOf, h, hf]; rfl

section
variable {s : State} {c : CtxId} {k : BitVec 2} {g : Seg} {code rest : List Word} {w : Word} {i : Instr}

theorem tryBundle_single (hst : (getCtx s c).st = .running) (htime : timeOk s (getCtx s c) = true) (hret : s.retired = false)
    (hslot : (getCtx s c).slot = some k)
    (hcode : codeAt s k (getCtx s c).plan (getCtx s c).bank.pc.toNat = some (g, code)) (htag : forbiddenTag (getCtx s c) = none)
    (hfirst : code.drop (((getCtx s c).bank.pc.toNat - g.cbase) / 4) = w :: rest) (hend : chained w = false)
    (hdec : decodeWord w = .ok i) (used : List Nat) {f : Fold} (hf : foldBundle (enterBundle s c 1) [i] = f)
    (hwaits : f.waits = []) (hstall : f.stall = false) :
    tryBundle s c used false =
      outcomeOf s c g [w] (enterBundle s c 1) [i] f := by
  have hguard : ((getCtx s c).st != .running || !timeOk s (getCtx s c) || s.retired) = false := by simp [hst, htime, hret]
  have htake : takeBundle 9 (code.drop (((getCtx s c).bank.pc.toNat - g.cbase) / 4)) = ([w], 0) := by
    rw [hfirst, takeBundle_single hend]
  rw [tryBundle]
  simp only [hguard, hslot, Option.bind_some, hcode, htag]
  rw [htake]
  dsimp only [List.length_singleton]
  rw [decodeAll_single hdec]
  dsimp only
  rw [conflictOf_single]
  dsimp only
  simp only [hf, hwaits, hstall, Bool.false_and, Bool.false_eq_true, if_false, List.isEmpty_nil, Bool.not_true]
  rfl

end

/-- Settles O58: a step by what stands in the agenda and the clock, and a bundle of one word through the fold of its word. -/
theorem stepRunsInstruction : Obligations.StepRunsInstruction := by
  refine ⟨?powered, ?undecided, ?event, ?cycle, ?unlocked, ?issue, ?bundle⟩
  case powered => exact fun s hp => step_powered hp
  case undecided => exact fun s hd => distributorCycle_idle hd
  case event =>
    intro s i l hp hd ha
    rw [step_undecided hp hd, stepNext_event ha]
  case cycle =>
    intro s hp hd ha hl
    rw [step_undecided hp hd, stepNext_cycle ha hl, coreCycle]
  case unlocked =>
    intro s hp hd ha hl
    rw [step_undecided hp hd, stepNext_unlocked ha hl]
  case issue =>
    intro s s1 c used s0 hs hprim htry
    exact issueCycle_taken rfl hs hprim htry
  case bundle =>
    intro s t c k g code rest w i used x hst htime hret hslot hcode htag hfirst hend hdec hexec hwait hstall hdraw hroom
    have hrun := execSlot_enterBundle hexec
    have htry : ∀ {f : Fold}, foldBundle (enterBundle s c 1) [i] = f → f.waits = [] → f.stall = false → _ :=
      fun hf => tryBundle_single hst htime hret hslot hcode htag hfirst hend hdec used hf
    refine ⟨by rw [enterBundle_cur], by rw [enterBundle_cur]; rfl, fun hn => ?_, fun cls why v hc h6 hwhy => ?_⟩
    · rw [htry (foldWord_completes hrun hwait hstall hn) rfl rfl]
      exact outcomeOf_finishes (bundleCauses_words hdraw hroom) rfl
    · have hof : ofBundle (cls, 0, why, v) = true := ofBundle_of_ne hwhy
      rw [htry (foldWord_raises hrun hwait hstall hc h6) rfl rfl]
      exact outcomeOf_delivers ((bundleCauses_words hdraw hroom).trans (by rw [List.filter_singleton, hof, cond_true]))

end Sys2Proof.Machine
end

section
/-! SUPPORT. Decoding of words written out from the encodings. -/
namespace Sys2Proof.Machine

/-- Settles O60: the decoder run on each word. -/
theorem decodingRight : Obligations.DecodingRight := by
  unfold Obligations.DecodingRight
  decide

end Sys2Proof.Machine
end

section
/-! SUPPORT. The fields of an instruction word: where the encoder puts them, what a read of its bits finds, and that decoding gives
every instruction back (R64, R73 to R80). -/
namespace Sys2Proof

/-! Reading bits of a number -/

theorem fld_or (m n lo len : Nat) : fld (m ||| n) lo len = fld m lo len ||| fld n lo len := by
  rw [fld, Nat.or_div_two_pow, Nat.or_mod_two_pow]; rfl

theorem fld_zero (lo len : Nat) : fld 0 lo len = 0 := by simp [fld]

theorem fld_of_lt {n lo : Nat} (h : n < 2 ^ lo) (len : Nat) : fld n lo len = 0 := by simp [fld, Nat.div_eq_of_lt h]

@[simp] theorem bitOf_eq_fld (n i : Nat) : bitOf n i = (fld n i 1 == 1) := by rw [bitOf, fld, Nat.pow_one]

@[simp] theorem bv_eq_fld (w lo n : Nat) : bv w lo n = BitVec.ofNat w (fld n lo w) :=
  BitVec.eq_of_toNat_eq (by simp [bv, fld])

/-- The value v in a field whose lowest bit is p, as the encoder adds it. -/
def putAt (v p : Nat) : Nat := v * 2 ^ p

theorem putAt_lt {v p w top : Nat} (hv : v < 2 ^ w) (hp : p + w ≤ top) : putAt v p < 2 ^ top :=
  calc putAt v p < 2 ^ w * 2 ^ p := Nat.mul_lt_mul_of_pos_right hv (Nat.two_pow_pos p)
    _ = 2 ^ (p + w) := by rw [Nat.pow_add, Nat.mul_comm]
    _ ≤ 2 ^ top := Nat.pow_le_pow_right Nat.two_pos hp

/-- A read of the bits of a field gives its value. -/
theorem fld_putAt_same {v len : Nat} (hv : v < 2 ^ len) (p : Nat) : fld (putAt v p) p len = v := by
  rw [fld, putAt, Nat.mul_div_cancel _ (Nat.two_pow_pos p), Nat.mod_eq_of_lt hv]

/-- A read of bits below a field finds nothing of it. -/
theorem fld_putAt_above {p lo len : Nat} (h : lo + len ≤ p) (v : Nat) : fld (putAt v p) lo len = 0 := by
  obtain ⟨k, rfl⟩ := Nat.exists_eq_add_of_le h
  have hv : v * 2 ^ (lo + len + k) = v * 2 ^ k * 2 ^ len * 2 ^ lo := by ring
  rw [fld, putAt, hv, Nat.mul_div_cancel _ (Nat.two_pow_pos lo), Nat.mul_mod_left]

/-- A value put where a number has only zeros is joined to it by OR. -/
theorem add_putAt_eq_or {a v p w : Nat} (ha : fld a p w = 0) (hv : v < 2 ^ w) : a + putAt v p = a ||| putAt v p := by
  have hlow : a % 2 ^ p < 2 ^ p := Nat.mod_lt _ (Nat.two_pow_pos p)
  have hmid : 2 ^ p * v + a % 2 ^ p < 2 ^ (p + w) := by
    calc 2 ^ p * v + a % 2 ^ p < 2 ^ p * (v + 1) := by rw [Nat.mul_succ]; omega
      _ ≤ 2 ^ p * 2 ^ w := Nat.mul_le_mul_left _ hv
      _ = 2 ^ (p + w) := (Nat.pow_add 2 p w).symm
  have hsplit : a = 2 ^ (p + w) * (a / 2 ^ p / 2 ^ w) + a % 2 ^ p := by
    have h1 := Nat.div_add_mod a (2 ^ p)
    have h2 := Nat.div_add_mod (a / 2 ^ p) (2 ^ w)
    rw [show a / 2 ^ p % 2 ^ w = 0 from ha, Nat.add_zero] at h2
    rw [Nat.pow_add, Nat.mul_assoc, h2, h1]
  have hpow : 2 ^ p ≤ 2 ^ (p + w) := Nat.pow_le_pow_right Nat.two_pos (Nat.le_add_right p w)
  generalize a / 2 ^ p / 2 ^ w = h at hsplit
  generalize a % 2 ^ p = l at *
  subst hsplit
  rw [putAt, Nat.mul_comm v, Nat.add_assoc, Nat.add_comm l, Nat.two_pow_add_eq_or_of_lt hmid, Nat.two_pow_add_eq_or_of_lt hlow,
    Nat.two_pow_add_eq_or_of_lt (Nat.lt_of_lt_of_le hlow hpow), Nat.or_assoc, Nat.or_comm l]

/-! The fields of a word -/

/-- The fields of a word stand below bit top, from high to low, each where the fixed bits are zero (R73, R74). -/
inductive Placed (fixed : Nat) : Nat → List (Nat × Nat) → Prop
  | nil {top : Nat} : Placed fixed top []
  | field {top v w p : Nat} {fs : List (Nat × Nat)} (hv : v < 2 ^ w) (hp : p + w ≤ top) (hz : fld fixed p w = 0)
      (h : Placed fixed p fs) : Placed fixed top ((v, p) :: fs)

/-- The fields of a word joined by OR. -/
def joined (fs : List (Nat × Nat)) : Nat := fs.foldr (fun f n => putAt f.1 f.2 ||| n) 0

@[simp] theorem joined_nil : joined [] = 0 := rfl
@[simp] theorem joined_cons (v p : Nat) (fs : List (Nat × Nat)) : joined ((v, p) :: fs) = putAt v p ||| joined fs := rfl

theorem joined_lt {fixed top : Nat} {fs : List (Nat × Nat)} (h : Placed fixed top fs) : joined fs < 2 ^ top := by
  induction h with
  | nil => exact Nat.two_pow_pos _
  | field hv hp _ _ ih =>
    exact Nat.or_lt_two_pow (putAt_lt hv hp) (ih.trans_le (Nat.pow_le_pow_right Nat.two_pos (by omega)))

theorem sum_fields_cons (v p : Nat) (fs : List (Nat × Nat)) :
    (((v, p) :: fs).map fun f => f.1 * 2 ^ f.2).sum = putAt v p + (fs.map fun f => f.1 * 2 ^ f.2).sum := by
  rw [List.map_cons, List.sum_cons, putAt]

/-- Placed fields are joined by OR to a number that holds the fixed bits below them. -/
theorem add_fields_eq_or {fixed top : Nat} {fs : List (Nat × Nat)} (h : Placed fixed top fs) {a : Nat}
    (ha : ∀ q u, q + u ≤ top → fld a q u = fld fixed q u) : a + (fs.map fun f => f.1 * 2 ^ f.2).sum = a ||| joined fs := by
  induction h generalizing a with
  | nil => simp
  | @field top v w p _ hv hp hz _ ih =>
    have hbelow : ∀ q u, q + u ≤ p → fld (a ||| putAt v p) q u = fld fixed q u := fun q u hq => by
      rw [fld_or, fld_putAt_above hq, Nat.or_zero, ha q u (by omega)]
    rw [sum_fields_cons, ← Nat.add_assoc, add_putAt_eq_or ((ha p w hp).trans hz) hv, ih hbelow, joined_cons, Nat.or_assoc]

/-- A word whose fields are placed is the OR of its chain bit, its fixed bits and its fields. -/
theorem toNat_enc {c : Bool} {fixed : Nat} {fs : List (Nat × Nat)} (hF : fixed < 2 ^ 31) (h : Placed fixed 26 fs) :
    (enc c fixed fs).toNat = putAt c.toNat 31 ||| fixed ||| joined fs := by
  have hc : fixed + putAt c.toNat 31 = fixed ||| putAt c.toNat 31 := add_putAt_eq_or (w := 1) (fld_of_lt hF 1) c.toNat_lt
  have hfs := add_fields_eq_or h (a := fixed ||| putAt c.toNat 31) fun q u hq => by
    rw [fld_or, fld_putAt_above (by omega), Nat.or_zero]
  have hlt : fixed ||| putAt c.toNat 31 ||| joined fs < 2 ^ 32 :=
    Nat.or_lt_two_pow (Nat.or_lt_two_pow (hF.trans (by decide)) (putAt_lt (w := 1) c.toNat_lt (by decide)))
      ((joined_lt h).trans (by decide))
  rw [enc, BitVec.toNat_ofNat, ← putAt, Nat.add_comm (putAt _ _), hc, hfs, Nat.mod_eq_of_lt hlt, Nat.or_comm fixed]

theorem chained_enc {c : Bool} {fixed : Nat} {fs : List (Nat × Nat)} (hF : fixed < 2 ^ 31) (h : Placed fixed 26 fs) :
    chained (enc c fixed fs) = c := by
  have hfs : joined fs < 2 ^ 31 := (joined_lt h).trans (by decide)
  rw [chained, toNat_enc hF h, bitOf_eq_fld, fld_or, fld_or, fld_putAt_same (len := 1) c.toNat_lt, fld_of_lt hF, fld_of_lt hfs]
  cases c <;> rfl

/-! The rules that place the fields of a word of the encoder, by their types -/

@[simp] theorem placed_nil (fixed top : Nat) : Placed fixed top [] := .nil

theorem placed_cons {fixed top v w p : Nat} {fs : List (Nat × Nat)} (hv : v < 2 ^ w) (hp : p + w ≤ top) (hz : fld fixed p w = 0) :
    Placed fixed top ((v, p) :: fs) ↔ Placed fixed p fs := ⟨fun h => by cases h; assumption, .field hv hp hz⟩

@[simp] theorem placed_bits {fixed top w p : Nat} {fs : List (Nat × Nat)} (v : BitVec w) (hp : p + w ≤ top)
    (hz : fld fixed p w = 0) : Placed fixed top ((v.toNat, p) :: fs) ↔ Placed fixed p fs := placed_cons v.isLt hp hz

@[simp] theorem placed_flag {fixed top p : Nat} {fs : List (Nat × Nat)} (b : Bool) (hp : p + 1 ≤ top)
    (hz : fld fixed p 1 = 0) : Placed fixed top ((b.toNat, p) :: fs) ↔ Placed fixed p fs := placed_cons (w := 1) b.toNat_lt hp hz

/-! The rules that read the bits of a word of the encoder. They are proved by rewriting and not by rfl, so that the kernel checks
the steps of a read and does not run the arithmetic of a word whose fields are variables. -/

@[simp] theorem fld_lit (m lo len : Nat) : fld (no_index (OfNat.ofNat m)) lo len = OfNat.ofNat m / 2 ^ lo % 2 ^ len := by
  simp only [fld]

theorem fld_putAt_below {v w p lo : Nat} (hv : v < 2 ^ w) (h : p + w ≤ lo) (len : Nat) : fld (putAt v p) lo len = 0 :=
  fld_of_lt (putAt_lt hv h) len

theorem fld_putAt_apart {v w p lo len : Nat} (hv : v < 2 ^ w) (h : lo + len ≤ p ∨ p + w ≤ lo) : fld (putAt v p) lo len = 0 :=
  h.elim (fun h => fld_putAt_above h v) (fun h => fld_putAt_below hv h len)

@[simp] theorem fld_bits_apart {w p lo len : Nat} (v : BitVec w) (h : lo + len ≤ p ∨ p + w ≤ lo) :
    fld (putAt v.toNat p) lo len = 0 :=
  fld_putAt_apart v.isLt h

@[simp] theorem fld_flag_apart {p lo len : Nat} (b : Bool) (h : lo + len ≤ p ∨ p + 1 ≤ lo) : fld (putAt b.toNat p) lo len = 0 :=
  fld_putAt_apart (w := 1) b.toNat_lt h

@[simp] theorem fld_bits_same {w len : Nat} (v : BitVec w) (p : Nat) (h : w ≤ len) : fld (putAt v.toNat p) p len = v.toNat :=
  fld_putAt_same (v.isLt.trans_le (Nat.pow_le_pow_right Nat.two_pos h)) p

@[simp] theorem fld_flag_same {len : Nat} (b : Bool) (p : Nat) (h : 1 ≤ len) : fld (putAt b.toNat p) p len = b.toNat :=
  fld_putAt_same (b.toNat_lt.trans_le (Nat.pow_le_pow_right (n := 2) Nat.two_pos h)) p

/-- What the fields of a word give to a read of its bits. -/
def readFields (fs : List (Nat × Nat)) (lo len : Nat) : Nat := fs.foldr (fun f n => fld (putAt f.1 f.2) lo len ||| n) 0

@[simp] theorem readFields_nil (lo len : Nat) : readFields [] lo len = 0 := by rw [readFields, List.foldr_nil]
@[simp] theorem readFields_cons (v p : Nat) (fs : List (Nat × Nat)) (lo len : Nat) :
    readFields ((v, p) :: fs) lo len = fld (putAt v p) lo len ||| readFields fs lo len := by
  rw [readFields, List.foldr_cons, readFields]

theorem fld_joined (fs : List (Nat × Nat)) (lo len : Nat) : fld (joined fs) lo len = readFields fs lo len := by
  induction fs with
  | nil => exact fld_zero lo len
  | cons f fs ih => rw [joined_cons, fld_or, ih, readFields_cons]

/-- Every read below the chain bit gives the fixed bits there and the fields there. -/
def Reads (fixed : Nat) (fs : List (Nat × Nat)) (n : Nat) : Prop :=
  ∀ lo len, lo + len ≤ 31 → fld n lo len = fld fixed lo len ||| readFields fs lo len

theorem reads_enc {c : Bool} {fixed : Nat} {fs : List (Nat × Nat)} (hF : fixed < 2 ^ 31) (h : Placed fixed 26 fs) :
    Reads fixed fs (enc c fixed fs).toNat := fun lo len hl => by
  rw [toNat_enc hF h, fld_or, fld_or, fld_putAt_above hl, Nat.zero_or, fld_joined]

/-- From every word that encodes it, with either chain bit, decoding gives a well-formed instruction back and the chain bit. -/
def RoundTrips (i : Instr) : Prop :=
  ∀ c w, i.wellFormed = true → encode c i = some w → decodeWord w = .ok i ∧ chained w = c

theorem roundTrips_word {i : Instr} {fixed : Nat} {fs : List (Nat × Nat)} (he : ∀ c, encode c i = some (enc c fixed fs))
    (hfit : fixed < 2 ^ 31 ∧ Placed fixed 26 fs)
    (hd : i.wellFormed = true → ∀ w : Word, Reads fixed fs w.toNat → decodeWord w = .ok i) : RoundTrips i := by
  intro c w hi hw
  obtain rfl : enc c fixed fs = w := Option.some.inj ((he c).symm.trans hw)
  exact ⟨hd hi _ (reads_enc hfit.1 hfit.2), chained_enc hfit.1 hfit.2⟩

theorem putAt_quarter (v p : Nat) : putAt (v / 4) (p + 2) + putAt (v % 4) p = putAt v p :=
  calc v / 4 * 2 ^ (p + 2) + v % 4 * 2 ^ p = (v / 4 * 4 + v % 4) * 2 ^ p := by ring
    _ = v * 2 ^ p := by rw [Nat.div_add_mod']

/-- MDRN's vd, given to the encoder in two parts, is one field of eight bits (R190). -/
theorem enc_vd (c : Bool) (fixed : Nat) (vd : BitVec 8) (fs : List (Nat × Nat)) :
    enc c fixed ((vd.toNat / 4, 20) :: (vd.toNat % 4, 18) :: fs) = enc c fixed ((vd.toNat, 18) :: fs) := by
  rw [enc, enc, sum_fields_cons, sum_fields_cons, sum_fields_cons, ← Nat.add_assoc (putAt _ _), putAt_quarter]

/-! The checks of the decoder are the negations of what a well-formed instruction meets -/

@[simp] theorem badRm_eq (r : BitVec 3) : badRm r = !rmOk r := by revert r; decide

@[simp] theorem runTooHigh_eq (x : BitVec 8) (n : Nat) : runTooHigh x n = !runFits x n := by
  simp [runTooHigh, runFits, ← decide_not]

@[simp] theorem runsOverlap_eq (x y : BitVec 8) (n : Nat) : runsOverlap x y n = !runsApart x y n := by
  simp [runsOverlap, runsApart, bne, ← decide_not]

@[simp] theorem tagHigh_eq (t : Tag) : tagHigh t = !decide (t.toNat < 14) := by revert t; decide

@[simp] theorem badCreg_eq (r : BitVec 6) : badCreg r = !decide (r.toNat < 15) := by simp [badCreg, ← decide_not]

@[simp] theorem badShift_eq (i : BitVec 11) : badShift i = !decide (i.toNat < 64) := by simp [badShift, ← decide_not]

@[simp] theorem badMma_eq (f : BitVec 2) (m : BitVec 3) :
    badMma f m = !(decide (m.toNat < 5) && !((f == 1 || f == 2) && (m == 0 || m == 3 || m == 4))) := by revert f m; decide

theorem toNat_eq_zero_iff {n : Nat} (v : BitVec n) : v.toNat = 0 ↔ v = 0#n := by
  rw [← BitVec.toNat_inj, BitVec.toNat_ofNat, Nat.zero_mod]

@[simp] theorem chk_eq_ok {mbz range code overlap : Bool} {i j : Instr} :
    chk mbz range code overlap i = .ok j ↔ mbz = false ∧ range = false ∧ code = false ∧ overlap = false ∧ i = j := by
  cases mbz <;> cases range <;> cases code <;> cases overlap <;> simp [chk]

/-! Each word -/

/-- The parts of the instruction table: the words of pipes C, A and B, those of pipes L and V, those of pipes Z, M and D, those of
pipe X, and the events. -/
inductive WordPart where
  | scalar
  | row
  | engine
  | exchange
  | event

/-- The part in which the row of an instruction stands: its words are in the order of their majors (R77). -/
def Instr.part (i : Instr) : WordPart :=
  if !i.isWord then .event
  else if i.ctorIdx < (Instr.ldb 0 0 0).ctorIdx then .scalar
  else if i.ctorIdx < (Instr.vrsum 0 0 0 0).ctorIdx then .row
  else if i.ctorIdx < (Instr.xput 0 0).ctorIdx then .engine
  else .exchange

theorem encode_event {i : Instr} (h : i.part = .event) (c : Bool) : encode c i = none := by
  cases i <;> cases h <;> rfl

theorem roundTrips_scalar {i : Instr} (h : i.part = .scalar) : RoundTrips i := by
  cases i
  case loop | nop | jr | ret | ckpt | sys | trap | brk | eret | add | sub | mul | mulh | div | rem | and | or | xor | andn |
      shl | shr | sra | min | max | adds | subs | clz | ctz | popc | mov | addi | andi | ori | xori | muli | li | lis | adr |
      fmin | fmax | test | pand | por | pxor | pnot | mfk | mtk | mfp | mtp | mfm | mtm | qpopa =>
    refine roundTrips_word (fun _ => rfl) (by simp (disch := decide)) fun hi w hr => ?_
    simp (disch := decide) [decodeWord, decodeJump, decodeControl, decodeScalar, decodeImmediate, decodeConstant, decodeFloat,
        decodePredicate, decodeMove, hr _ _]
  case j | call | fence | shli | shri | srai | fadd | fsub | fmul | fdiv | fsqrt | fma | fcvtfi | fcvtif | cmp | fcmp | mfc |
      mtc =>
    refine roundTrips_word (fun _ => rfl) (by simp (disch := decide)) fun hi w hr => ?_
    simpa (disch := decide) [decodeWord, decodeJump, decodeControl, decodeScalar, decodeImmediate, decodeConstant, decodeFloat,
        decodePredicate, decodeMove, hr _ _, Instr.wellFormed, imp_iff_not_or, toNat_eq_zero_iff] using hi
  case qpopaNr d q p =>
    refine roundTrips_word (fun _ => rfl) (by simp (disch := decide)) fun hi w hr => ?_
    have hp : p ≠ 0#5 := by simpa [Instr.wellFormed] using hi
    simp (disch := decide) [decodeWord, decodeMove, hr _ _, toNat_eq_zero_iff, hp]
  all_goals exact nomatch h

theorem roundTrips_row {i : Instr} (h : i.part = .row) : RoundTrips i := by
  cases i
  case ldb | ldh | ldw | ldd | stb | sth | stw | std | stv | ldmBlock | ldmScalar | stmBlock | stmScalar | ldshp | stshp |
      vadd | vsub | vmul | vfma | vmin | vmax | vand | vor | vminMasked | vmaxMasked | vandMasked | vorMasked | vxor | vshl |
      vshr | vsra | vmulh | vabs | vneg | vmov | vcmp | vkand | vkor | vkxor | vknot | vperm | vext | vins | vrng =>
    refine roundTrips_word (fun _ => rfl) (by simp (disch := decide)) fun hi w hr => ?_
    simp (disch := decide) [decodeWord, decodeLoadStore, decodeRow, decodeMirror, decodeVector3, decodeMasked, decodeMasked2,
        decodeCompare, decodeVectorScalar, hr _ _]
  case ldv | vaddMasked | vsubMasked | vmulMasked | vcvt | vqnt | vdqnt | vretag | vexp2 | vlog2 | vrcp | vrsqrt | vtanh |
      vsqrt | vbcs | viota =>
    refine roundTrips_word (fun _ => rfl) (by simp (disch := decide)) fun hi w hr => ?_
    simpa (disch := decide) [decodeWord, decodeLoadStore, decodeRow, decodeMirror, decodeVector3, decodeMasked, decodeMasked2,
        decodeCompare, decodeConvert, decodeSpecial, decodeVectorScalar, hr _ _, Instr.wellFormed, tagCvt, tagQnt, tagFloat3,
        Nat.one_le_iff_ne_zero, toNat_eq_zero_iff, and_assoc] using hi
  case vfmaMasked =>
    refine roundTrips_word (fun _ => rfl) (by simp (disch := decide)) fun hi w hr => ?_
    simpa (disch := decide) [decodeWord, decodeMasked, hr _ _, Instr.wellFormed, hitsPair, and_comm, and_left_comm,
        and_assoc] using hi
  all_goals exact nomatch h

theorem roundTrips_engine {i : Instr} (h : i.part = .engine) : RoundTrips i := by
  cases i
  case vzdrn | dadd | dsub | dmul | dmax | dmin | daff | dld | dst | dtag | dpt | dqnt | dcdf | mldb | mprog | mcall | bact |
      brd | bwr | bpre | bprea | bref =>
    refine roundTrips_word (fun _ => rfl) (by simp (disch := decide)) fun hi w hr => ?_
    simp (disch := decide) [decodeWord, decodeReduce, decodeDist, decodeExtract, decodeMatrix, decodeVault, hr _ _]
  case mdrn =>
    refine roundTrips_word (fun _ => congrArg some (enc_vd _ _ _ _)) (by simp (disch := decide)) fun hi w hr => ?_
    simp (disch := decide) [decodeWord, decodeMatrix, hr _ _]
  case vrsum | vrmin | vrmax | vzclr | dmom | dfrom | mma | mstat =>
    refine roundTrips_word (fun _ => rfl) (by simp (disch := decide)) fun hi w hr => ?_
    simpa (disch := decide) [decodeWord, decodeReduce, decodeDist, decodeExtract, decodeMma, decodeMatrix, decodeVault, hr _ _,
        Instr.wellFormed, hitsPair, imp_iff_not_or, Nat.lt_succ_iff, and_assoc] using hi
  case bstat =>
    refine roundTrips_word (fun _ => rfl) (by simp (disch := decide)) fun hi w hr => ?_
    simpa (disch := decide) [decodeWord, decodeVault, hr _ _, Instr.wellFormed, imp_iff_not_or, and_comm] using hi
  case mfid =>
    refine roundTrips_word (fun _ => rfl) (by simp (disch := decide)) fun hi w hr => ?_
    simp (disch := decide) [decodeWord, decodeMatrix, hr _ _]
    simp [Instr.wellFormed] at hi
    bv_omega
  all_goals exact nomatch h

theorem roundTrips_exchange {i : Instr} (h : i.part = .exchange) : RoundTrips i := by
  cases i
  case csync | pbar | cld | cst | cpy | twall | twany | tffr | obcst | ored | orecv | acq | acqs | rel | gbar | oget | oset |
      gld | gst | gaadd | gamin | gamax | gaand | gaor | gaxor | gaswp | gacas | gafadd | gafmin | gafmax | gabadd | gxadd |
      gxrd | gfence | gws | hld | hst | qpop =>
    refine roundTrips_word (fun _ => rfl) (by simp (disch := decide)) fun hi w hr => ?_
    simp (disch := decide) [decodeWord, decodeExchange, decodeCopy, decodeOptical, decodeGlobal, decodeHost, hr _ _]
  case qpopNr d q p =>
    refine roundTrips_word (fun _ => rfl) (by simp (disch := decide)) fun hi w hr => ?_
    have hp : p ≠ 0#5 := by simpa [Instr.wellFormed] using hi
    simp (disch := decide) [decodeWord, decodeHost, hr _ _, toNat_eq_zero_iff, hp]
  case xput | xget =>
    refine roundTrips_word (fun _ => rfl) (by simp (disch := decide)) fun hi w hr => ?_
    simp (disch := decide) [decodeWord, decodeExchange, hr _ _]
    simp [Instr.wellFormed] at hi
    bv_omega
  all_goals exact nomatch h

theorem roundTrips (i : Instr) : RoundTrips i := by
  cases h : i.part with
  | scalar => exact roundTrips_scalar h
  | row => exact roundTrips_row h
  | engine => exact roundTrips_engine h
  | exchange => exact roundTrips_exchange h
  | event => exact fun c w _ he => nomatch (encode_event h c).symm.trans he

/-- Settles O59: each word's fields are read back where the encoder puts them, and pass the decoder's checks. -/
theorem encodingRoundTrip : Obligations.EncodingRoundTrip := fun c i w => roundTrips i c w

end Sys2Proof
end

section
/-! SUPPORT. Scalar integer words without flags: their operands read as integers, their results as codes of the form's width. -/
namespace Sys2Proof.Machine

/-! Results as codes (R93) -/

theorem ofInt_toInt_mul {n : Nat} (x y : BitVec n) : BitVec.ofInt n (x.toInt * y.toInt) = x * y := by
  rw [BitVec.ofInt_mul, BitVec.ofInt_toInt, BitVec.ofInt_toInt]

/-- Shifts of a code, as a product with a power of two and a quotient by one. -/
theorem ofInt_shiftLeft {n : Nat} (x : BitVec n) (k : Nat) : BitVec.ofInt n ((x.toNat : Int) * (2 ^ k : Nat)) = x <<< k := by
  rw [← Int.natCast_mul, BitVec.ofInt_natCast]
  exact BitVec.eq_of_toNat_eq (by rw [BitVec.toNat_ofNat, BitVec.toNat_shiftLeft, Nat.shiftLeft_eq])
theorem ofInt_shiftRight {n : Nat} (x : BitVec n) (k : Nat) : BitVec.ofInt n (sraInt x.toNat k) = x >>> k := by
  rw [sraInt, ← Int.natCast_ediv, BitVec.ofInt_natCast, ← Nat.shiftRight_eq_div_pow, ← BitVec.toNat_ushiftRight,
    BitVec.ofNat_toNat, BitVec.setWidth_eq]
theorem ofInt_sshiftRight {n : Nat} (x : BitVec n) (k : Nat) : BitVec.ofInt n (sraInt x.toInt k) = x.sshiftRight k := by
  rw [sraInt, ← Int.shiftRight_eq_div_pow, ← BitVec.toInt_sshiftRight, BitVec.ofInt_toInt]

/-- A choice between two codes read as integers. -/
theorem ofInt_choice {n : Nat} {p : Prop} [Decidable p] {c : Bool} {i j : Int} {x y : BitVec n} (hp : p ↔ c = true)
    (hi : BitVec.ofInt n i = x) (hj : BitVec.ofInt n j = y) : BitVec.ofInt n (if p then i else j) = if c then x else y := by
  rw [apply_ite (BitVec.ofInt n), hi, hj]; exact if_congr hp rfl rfl
theorem ofInt_toNat {n : Nat} (x : BitVec n) : BitVec.ofInt n x.toNat = x := by
  rw [BitVec.ofInt_natCast, BitVec.ofNat_toNat, BitVec.setWidth_eq]
theorem le_iff_sle {n : Nat} (x y : BitVec n) : x.toInt ≤ y.toInt ↔ x.sle y = true := BitVec.sle_iff_toInt_le.symm
theorem le_iff_ule {n : Nat} (x y : BitVec n) : (x.toNat : Int) ≤ y.toNat ↔ x.ule y = true :=
  Int.ofNat_le.trans BitVec.ule_iff_toNat_le.symm

/-- Differences and products in W form or not (R93). -/
theorem intResult_sub (w : Bool) (x y : Dbl) :
    intResult w false (intOperand w false x - intOperand w false y) = wide w (x - y) := by
  cases w
  · rw [intOperand_signed, intOperand_signed]; exact ofInt_toInt_sub x y
  · rw [intOperand_signedW, intOperand_signedW]
    refine (congrArg (BitVec.signExtend 64) (ofInt_toInt_sub _ _)).trans (congrArg (BitVec.signExtend 64) ?_)
    rw [BitVec.sub_eq_add_neg, BitVec.sub_eq_add_neg, BitVec.setWidth_add _ _ (by decide), BitVec.setWidth_neg_of_le (by decide)]
theorem intResult_mul (w : Bool) (x y : Dbl) :
    intResult w false (intOperand w false x * intOperand w false y) = wide w (x * y) := by
  cases w
  · rw [intOperand_signed, intOperand_signed]; exact ofInt_toInt_mul x y
  · rw [intOperand_signedW, intOperand_signedW]
    exact (congrArg (BitVec.signExtend 64) (ofInt_toInt_mul _ _)).trans
      (congrArg (BitVec.signExtend 64) (BitVec.setWidth_mul _ _ (by decide)).symm)
theorem intResult_operand (w : Bool) (x : Dbl) : intResult w false (intOperand w false x) = wide w x := by
  cases w
  · rw [intOperand_signed]; exact BitVec.ofInt_toInt
  · rw [intOperand_signedW]; exact congrArg (BitVec.signExtend 64) BitVec.ofInt_toInt

/-- The low half of a code read as an integer of 64 bits. -/
theorem ofInt_toInt_low (v : Dbl) : BitVec.ofInt 32 v.toInt = v.setWidth 32 := by
  refine BitVec.eq_of_toNat_eq ?_
  rw [BitVec.toNat_ofInt, BitVec.toNat_setWidth, BitVec.toInt_eq_toNat_cond]
  split <;> omega
/-- The bitwise words work on 64 bits, and their W form gives the low half (R93). -/
theorem intResult_toInt (w : Bool) (v : Dbl) : intResult w false v.toInt = wide w v := by
  cases w
  · exact BitVec.ofInt_toInt
  · exact congrArg (BitVec.signExtend 64) (ofInt_toInt_low v)

/-- The shift amount of a W form is that of the whole register, as 32 divides the widths. -/
theorem low_mod (v : Dbl) : (v.setWidth 32).toNat % 32 = v.toNat % 32 := by rw [BitVec.toNat_setWidth]; omega
theorem toInt_emod_width (v : Dbl) : (v.toInt % (64 : Nat)).toNat = v.toNat % 64 := by
  rw [BitVec.toInt_eq_toNat_cond]; split <;> omega
theorem toInt_emod_widthW (v : Dbl) : ((v.setWidth 32).toInt % (32 : Nat)).toNat = v.toNat % 32 := by
  rw [BitVec.toInt_eq_toNat_cond, ← low_mod v]; split <;> omega

/-- A count of a W form fits in its bits, so its sign extension is the count (R93). -/
theorem signExtend_count {n : Nat} (h : n < 2 ^ 31) : (BitVec.ofInt 32 n).signExtend 64 = BitVec.ofNat 64 n := by
  rw [BitVec.ofInt_natCast, BitVec.signExtend_eq_setWidth_of_msb_false]
  · exact BitVec.eq_of_toNat_eq (by simp; omega)
  · rw [BitVec.msb_eq_decide]; simp; omega
theorem clzNat_le (n v : Nat) : clzNat n v ≤ n := by unfold clzNat; split <;> omega
theorem ctzNat_le : ∀ n v, ctzNat n v ≤ n
  | 0, _ => le_refl 0
  | n + 1, v => by
    have h := ctzNat_le n (v / 2)
    unfold ctzNat; split <;> omega
theorem popNat_le : ∀ n v, popNat n v ≤ n
  | 0, _ => le_refl 0
  | n + 1, v => by
    have h := popNat_le n (v / 2)
    unfold popNat; omega

/-! The words (R90, R93, R95, R96) -/

section
variable {s : State} {d a b : BitVec 6}

/-- A scalar integer word that sets no flag sends the code of what its operation gives (R93, R94). -/
theorem intWord_value (hr : s.roomFor 1) {w rd u : Bool} {lat : Nat} {f : Int → Int → Int × Fl} {x y v : Int} {r : Dbl}
    (hx : intOperand w rd (rs s a) = x) (hy : intOperand w rd (rs s b) = y) (hf : f x y = (v, 0)) (hv : intResult w u v = r) :
    intWord d a b w rd u lat f s = .next (s.sent [scalarOut lat d r]) := by
  rw [intWord_sends hr, hx, hy, hf, hv]

/-- A word that sends one scalar without flags. -/
theorem results_scalar (hr : s.roomFor 1) {lat : Nat} {v r : Dbl} (hv : v = r) :
    (Host.Outcome.next (results s [scalarOut lat d v]) : Answer) = .next (s.sent [scalarOut lat d r]) := by
  rw [hv]; exact congrArg Host.Outcome.next (results_room hr (le_refl 1))

end

theorem scalarArithmeticResults : Claim.ScalarArithmeticResults := by
  intro s d a b w hr
  refine ⟨?add, ?sub, ?mul, ?and, ?or, ?xor, ?andn, ?mov⟩
  case add =>
    change execAdd d a b w s = _
    exact intWord_value hr rfl rfl rfl (intResult_add w _ _)
  case sub =>
    change execSub d a b w s = _
    exact intWord_value hr rfl rfl rfl (intResult_sub w _ _)
  case mul =>
    change execMul d a b w s = _
    exact intWord_value hr rfl rfl rfl (intResult_mul w _ _)
  case mov =>
    change execMov d a w s = _
    exact intWord_value hr rfl rfl rfl (intResult_operand w _)
  all_goals exact results_scalar hr (intResult_toInt w _)

theorem scalarShiftCountResults : Claim.ScalarShiftCountResults := by
  intro s d a b hr x y lo
  have hx : intOperand false true (rs s a) = x.toNat := intOperand_unsigned _
  have hy : intOperand false true (rs s b) = y.toNat := intOperand_unsigned _
  have hlo : intOperand true true (rs s a) = lo.toNat := intOperand_unsignedW _
  have hyl : intOperand true true (rs s b) = (y.setWidth 32).toNat := intOperand_unsignedW _
  have amount {β : Type} (f : Nat → β) : f ((y.setWidth 32).toNat % 32) = f (y.toNat % 32) := congrArg f (low_mod y)
  refine ⟨?shl, ?shlW, ?shr, ?shrW, ?sra, ?sraW, ?clz, ?clzW, ?ctz, ?ctzW, ?popc, ?popcW⟩
  case shl =>
    change execShl d a b false s = _
    exact intWord_value hr hx hy rfl (ofInt_shiftLeft x _)
  case shlW =>
    change execShl d a b true s = _
    exact intWord_value hr hlo hyl rfl
      ((congrArg (BitVec.signExtend 64) (ofInt_shiftLeft lo _)).trans (amount fun n => (lo <<< n).signExtend 64))
  case shr =>
    change execShr d a b false s = _
    exact intWord_value hr hx hy rfl (ofInt_shiftRight x _)
  case shrW =>
    change execShr d a b true s = _
    exact intWord_value hr hlo hyl rfl
      ((congrArg (BitVec.signExtend 64) (ofInt_shiftRight lo _)).trans (amount fun n => (lo >>> n).signExtend 64))
  case sra =>
    change execSra d a b false s = _
    exact intWord_value hr (intOperand_signed _) (intOperand_signed _) rfl
      ((ofInt_sshiftRight x _).trans (congrArg x.sshiftRight (toInt_emod_width y)))
  case sraW =>
    change execSra d a b true s = _
    exact intWord_value hr (intOperand_signedW _) (intOperand_signedW _) rfl
      ((congrArg (BitVec.signExtend 64) (ofInt_sshiftRight lo _)).trans
        (congrArg (fun n => (lo.sshiftRight n).signExtend 64) (toInt_emod_widthW y)))
  case clz =>
    change execClz d a false s = _
    exact intWord_value hr hx hx rfl (BitVec.ofInt_natCast ..)
  case ctz =>
    change execCtz d a false s = _
    exact intWord_value hr hx hx rfl (BitVec.ofInt_natCast ..)
  case popc =>
    change execPopc d a false s = _
    exact intWord_value hr hx hx rfl (BitVec.ofInt_natCast ..)
  case clzW =>
    change execClz d a true s = _
    exact intWord_value hr hlo hlo rfl (signExtend_count (lt_of_le_of_lt (clzNat_le 32 _) (by decide)))
  case ctzW =>
    change execCtz d a true s = _
    exact intWord_value hr hlo hlo rfl (signExtend_count (lt_of_le_of_lt (ctzNat_le 32 _) (by decide)))
  case popcW =>
    change execPopc d a true s = _
    exact intWord_value hr hlo hlo rfl (signExtend_count (lt_of_le_of_lt (popNat_le 32 _) (by decide)))

theorem scalarHighMinMaxResults : Claim.ScalarHighMinMaxResults := by
  intro s d a b hr x y xl yl
  have sx : intOperand false false (rs s a) = x.toInt := intOperand_signed _
  have sy : intOperand false false (rs s b) = y.toInt := intOperand_signed _
  have ux : intOperand false true (rs s a) = x.toNat := intOperand_unsigned _
  have uy : intOperand false true (rs s b) = y.toNat := intOperand_unsigned _
  have sxl : intOperand true false (rs s a) = xl.toInt := intOperand_signedW _
  have syl : intOperand true false (rs s b) = yl.toInt := intOperand_signedW _
  have uxl : intOperand true true (rs s a) = xl.toNat := intOperand_unsignedW _
  have uyl : intOperand true true (rs s b) = yl.toNat := intOperand_unsignedW _
  have toS {n : Nat} (v : BitVec n) : BitVec.ofInt n v.toInt = v := BitVec.ofInt_toInt
  refine ⟨?mulh, ?mulhU, ?mulhW, ?mulhWU, ?min, ?minU, ?minW, ?minWU, ?max, ?maxU, ?maxW, ?maxWU⟩
  case mulh =>
    change execMulh d a b false false s = _
    exact intWord_value hr sx sy rfl rfl
  case mulhU =>
    change execMulh d a b false true s = _
    exact intWord_value hr ux uy rfl (BitVec.ofInt_natCast ..)
  case mulhW =>
    change execMulh d a b true false s = _
    exact intWord_value hr sxl syl rfl rfl
  case mulhWU =>
    change execMulh d a b true true s = _
    exact intWord_value hr uxl uyl rfl (congrArg (BitVec.setWidth 64) (BitVec.ofInt_natCast 32 (xl.toNat * yl.toNat / 2 ^ 32)))
  case min =>
    change execMin d a b false false s = _
    exact intWord_value hr sx sy rfl (ofInt_choice (le_iff_sle x y) (toS x) (toS y))
  case minU =>
    change execMin d a b false true s = _
    exact intWord_value hr ux uy rfl (ofInt_choice (le_iff_ule x y) (ofInt_toNat x) (ofInt_toNat y))
  case minW =>
    change execMin d a b true false s = _
    exact intWord_value hr sxl syl rfl (congrArg (BitVec.signExtend 64) (ofInt_choice (le_iff_sle xl yl) (toS xl) (toS yl)))
  case minWU =>
    change execMin d a b true true s = _
    exact intWord_value hr uxl uyl rfl (congrArg (BitVec.setWidth 64) (ofInt_choice (le_iff_ule xl yl) (ofInt_toNat xl) (ofInt_toNat yl)))
  case max =>
    change execMax d a b false false s = _
    exact intWord_value hr sx sy rfl (ofInt_choice (le_iff_sle x y) (toS y) (toS x))
  case maxU =>
    change execMax d a b false true s = _
    exact intWord_value hr ux uy rfl (ofInt_choice (le_iff_ule x y) (ofInt_toNat y) (ofInt_toNat x))
  case maxW =>
    change execMax d a b true false s = _
    exact intWord_value hr sxl syl rfl (congrArg (BitVec.signExtend 64) (ofInt_choice (le_iff_sle xl yl) (toS yl) (toS xl)))
  case maxWU =>
    change execMax d a b true true s = _
    exact intWord_value hr uxl uyl rfl (congrArg (BitVec.setWidth 64) (ofInt_choice (le_iff_ule xl yl) (ofInt_toNat yl) (ofInt_toNat xl)))

theorem scalarImmediateResults : Claim.ScalarImmediateResults := by
  intro s d a i l hr x e
  have send (lat : Nat) (v : Dbl) : (Host.Outcome.next (results s [scalarOut lat d v]) : Answer) = .next (s.sent [scalarOut lat d v]) :=
    results_scalar hr rfl
  exact ⟨send 1 _, send 1 _, send 1 _, send 1 _, send 1 _, send 1 _, send 1 _, send 3 _, send 1 _, send 1 _, send 1 _⟩

/-- Settles O1: each word by its operation on the integers of its form, and the code of what that gives. -/
theorem scalarArithmetic : Obligations.ScalarArithmetic :=
  ⟨scalarArithmeticResults, scalarShiftCountResults, scalarHighMinMaxResults, scalarImmediateResults⟩

end Sys2Proof.Machine
end

section
/-! SUPPORT. Transfers of control: branches, indirect jumps, and the traps of bad targets. -/
namespace Sys2Proof.Machine

/-! Words that send nothing (R12) -/

/-- A word that sends no result changes nothing else. -/
theorem sent_nil (s : State) : s.sent [] = s := by
  simp only [State.sent, List.map_nil, List.append_nil]; rfl
/-- A word without causes and results has its effect. -/
theorem issue_effect (s : State) (eff : State → State) : issue s [] [] eff = eff s := by
  rw [issue_next s [] eff (.inl rfl), sent_nil]

/-! Targets (R106) -/

theorem targetCause_inRange {s : State} {t : Dbl} (h : codeCause s (cx s).plan t = none) : targetCause s t = [] := by
  rw [targetCause, h]
theorem targetCause_bad {s : State} {t : Dbl} {code : BitVec 8} (h : codeCause s (cx s).plan t = some code) :
    targetCause s t = [⟨5, code, t⟩] := by
  rw [targetCause, h]
theorem targetCause_cls {s : State} {t : Dbl} {c : Cause} (h : c ∈ targetCause s t) : c.cls = 5 := by
  unfold targetCause at h
  split at h
  · rw [List.mem_singleton.mp h]
  · exact absurd h List.not_mem_nil
theorem codeCause_align (s : State) (seq : Nat) {t : Dbl} (h : t.toNat % 4 ≠ 0) : codeCause s seq t = some 0x10 := if_pos h
theorem codeCause_range {s : State} {seq : Nat} {t : Dbl} (h : t.toNat % 4 = 0) (hs : segAt s seq t.toNat = none) :
    codeCause s seq t = some 0x11 := by
  rw [codeCause, if_neg (not_not.mpr h), hs]; rfl

/-- A word whose only cause is its target's. -/
theorem traps_target {i : Instr} {s : State} {t : Dbl} {code : BitVec 8} {outs : List Out} {eff : State → State}
    (e : exec i s = .next (issue s (targetCause s t) outs eff)) (hn : needOf outs = 0)
    (h : codeCause s (cx s).plan t = some code) : Traps i s 5 code t :=
  ⟨_, e, by
    rw [targetCause_bad h]
    exact issue_trap_head s ⟨5, code, t⟩ [] outs eff (fun _ hd => absurd hd List.not_mem_nil) (.inr (.inl hn))⟩

/-! JR and RET (R104, R105) -/

theorem exec_jr {s : State} {a : BitVec 6} (h : codeCause s (cx s).plan (rs s a) = none) :
    exec (.jr a) s = .next (transfer (rs s a) 3 s) := by
  change Host.Outcome.next (issue s (targetCause s (rs s a)) [] (transfer (rs s a) 3)) = _
  rw [targetCause_inRange h, issue_effect]
theorem exec_ret {s : State} (h : codeCause s (cx s).plan (rs s 63) = none) :
    exec .ret s = .next (transfer (rs s 63) 3 s) := by
  change Host.Outcome.next (issue s (targetCause s (rs s 63)) [] (transfer (rs s 63) 3)) = _
  rw [targetCause_inRange h, issue_effect]

/-- The word of JR is its function with sa in bits 25 to 20. -/
theorem enc_jr (a : BitVec 6) : enc false 0x08000001 [(a.toNat, 20)] = 0x08000001 ||| (a.setWidth 32 <<< 20) := by
  have ha : a.toNat * 2 ^ 20 < 2 ^ 32 := by omega
  have hor : (0x08000001#32 ||| (a.setWidth 32 <<< 20)).toNat = 0x08000001 ||| putAt a.toNat 20 := by
    rw [BitVec.toNat_or, BitVec.toNat_shiftLeft, BitVec.toNat_setWidth, Nat.shiftLeft_eq,
      Nat.mod_eq_of_lt (by omega : a.toNat < 2 ^ 32), Nat.mod_eq_of_lt ha, putAt, BitVec.toNat_ofNat]
  refine BitVec.eq_of_toNat_eq (.trans ?_ hor.symm)
  rw [toNat_enc (by norm_num) (by simp), Bool.toNat_false, putAt, Nat.zero_mul, Nat.zero_or, joined_cons, joined_nil, Nat.or_zero]
theorem decodeWord_jr (a : BitVec 6) : decodeWord (0x08000001 ||| (a.setWidth 32 <<< 20)) = .ok (.jr a) :=
  (encodingRoundTrip false (.jr a) _ rfl (congrArg some (enc_jr a))).1

/-- Settles O10: the targets that pass their checks, and the words from the encoder. -/
theorem indirectJumps : Obligations.IndirectJumps :=
  ⟨fun _ _ h => exec_jr h, fun _ h => exec_ret h, decodeWord_jr,
    (encodingRoundTrip false .ret 0x08000002 rfl rfl).1⟩

/-! J, CALL and NOP (R102, R105, R107) -/

section
variable {s : State} {n : Bool} {p : BitVec 5} (i : BitVec 18)

theorem exec_nop (s : State) : exec .nop s = .next s := congrArg Host.Outcome.next (issue_effect s id)

/-- A branch whose predicate does not hold changes nothing (R102). -/
theorem exec_j_untaken (h : rp s p = n) : exec (.j n p i) s = .next s := by
  change Host.Outcome.next (issue s (takenCause s (rp s p != n) _) [] (takeIf (rp s p != n) _)) = _
  rw [bne_eq_false_iff_eq.mpr h]
  exact congrArg Host.Outcome.next (issue_effect s _)
theorem exec_call_untaken (h : rp s p = n) : exec (.call n p i) s = .next s := by
  change Host.Outcome.next (issue s (takenCause s (rp s p != n) _) (if rp s p != n then _ else []) (takeIf (rp s p != n) _)) = _
  rw [bne_eq_false_iff_eq.mpr h]
  exact congrArg Host.Outcome.next (issue_effect s _)

/-- J as it issues when its predicate holds. -/
theorem exec_j_taken (h : rp s p ≠ n) :
    exec (.j n p i) s = .next (issue s (targetCause s (branchTarget s i)) [] (transfer (branchTarget s i) 1)) := by
  change Host.Outcome.next (issue s (takenCause s (rp s p != n) _) [] (takeIf (rp s p != n) _)) = _
  rw [bne_iff_ne.mpr h]; rfl
theorem exec_call_taken (h : rp s p ≠ n) :
    exec (.call n p i) s = .next (issue s (targetCause s (branchTarget s i))
      [scalarOut 1 63 (s.cur.addr + BitVec.ofNat 64 (4 * s.cur.n))] (transfer (branchTarget s i) 1)) := by
  change Host.Outcome.next (issue s (takenCause s (rp s p != n) _) (if rp s p != n then _ else []) (takeIf (rp s p != n) _)) = _
  rw [bne_iff_ne.mpr h]; rfl

/-- The target of a branch from a bundle at a multiple of 4 is one. -/
theorem branchTarget_aligned (h : s.cur.addr.toNat % 4 = 0) : (branchTarget s i).toNat % 4 = 0 := by
  rw [branchTarget, BitVec.toNat_add, BitVec.toNat_mul, show (4 : Dbl).toNat = 4 from rfl]
  omega

end

theorem branchResults : Claim.BranchResults := by
  intro s n p i hr t
  refine ⟨exec_nop s, fun h => ⟨exec_j_untaken i h, exec_call_untaken i h⟩, fun h ht => ?_⟩
  have hc : targetCause s (branchTarget s i) = [] := targetCause_inRange ht
  rw [exec_j_taken i h, exec_call_taken i h, hc, issue_effect, issue_room _ hr (le_refl 1)]
  exact ⟨rfl, rfl⟩

theorem transferTargetChecks : Claim.TransferTargetChecks := fun s _ _ _ i =>
  ⟨fun h => traps_target rfl rfl (codeCause_align s _ h), fun h hs => traps_target rfl rfl (codeCause_range h hs),
    fun ha hp hs => traps_target (exec_j_taken i hp) rfl (codeCause_range (branchTarget_aligned i ha) hs), exec_j_untaken i⟩

/-- Settles O8: the branches by their predicate, the traps by what a target's address is. -/
theorem branchesAndTargets : Obligations.BranchesAndTargets := ⟨branchResults, transferTargetChecks⟩

end Sys2Proof.Machine
end

section
/-! SUPPORT. FP32 scalar words: what they send, and when they draw. -/
namespace Sys2Proof.Machine

/-! The results of an FP32 word (R97 to R99) -/

/-- What an FP32 word sends: its result and, if it rounds under SR, the advance of VRNGC. -/
def fpSends (s : State) (d : BitVec 6) (r : Rm) (lat : Nat) (v : Dbl) (fl : Fl) : List Out :=
  scalarOut lat d v fl :: advanceOut s (effMode s r == 4) 1

theorem needOf_fpSends (s : State) (d : BitVec 6) (r : Rm) (lat : Nat) (v : Dbl) (fl : Fl) : needOf (fpSends s d r lat v fl) ≤ 2 := by
  have h := needOf_append [scalarOut lat d v fl] (advanceOut s (effMode s r == 4) 1)
  have hadv := needOf_advanceOut s (effMode s r == 4) 1
  have hone : needOf [scalarOut lat d v fl] = 1 := rfl
  rw [fpSends, ← List.singleton_append]
  omega

theorem fpWord_sends {s : State} (hr : s.roomFor 2) (d : BitVec 6) (r : Rm) (lat : Nat) (f : Rnd → Dbl × Fl) :
    fpWord d r lat f s =
      .next (s.sent (fpSends s d r lat (f (rndOf s (effMode s r) 0)).1 (f (rndOf s (effMode s r) 0)).2)) :=
  congrArg Host.Outcome.next (results_room hr (needOf_fpSends ..))

theorem fpMinMax_sends {s : State} (hr : s.roomFor 2) (d a b : BitVec 6) (max : Bool) :
    ∃ v fl, fpMinMax d a b max s = .next (s.sent [scalarOut 3 d (BitVec.ofNat 64 v) fl]) ∧
      (v, fl) = fminmax f32 max (fpOperand (rs s a)) (fpOperand (rs s b)) :=
  ⟨_, _, congrArg Host.Outcome.next (results_room hr (Nat.le_succ 1)), rfl⟩

theorem scalarFloatResults : Claim.ScalarFloatResults := by
  intro s d a b r hr q adv x y z sends
  refine ⟨?fadd, ?fsub, ?fmul, ?fdiv, ?fsqrt, ?fma, ?fcvtif, ?fcvtfi, fpMinMax_sends hr d a b false, fpMinMax_sends hr d a b true⟩
  case fadd => exact fpWord_sends hr d r 3 (fun q => fpResult (fadd f32 q x y))
  case fsub => exact fpWord_sends hr d r 3 (fun q => fpResult (fsub f32 q x y))
  case fmul => exact fpWord_sends hr d r 3 (fun q => fpResult (fmul f32 q x y))
  case fdiv => exact fpWord_sends hr d r 12 (fun q => fpResult (fdiv f32 q x y))
  case fsqrt => exact fpWord_sends hr d r 12 (fun q => fpResult (fsqrt f32 q x))
  case fma => exact fpWord_sends hr d r 4 (fun q => fpResult (ffma f32 q x y z))
  case fcvtif => exact fpWord_sends hr d r 2 (fun q => fpResult (itof f32 q (rs s a).toInt))
  case fcvtfi => exact fpWord_sends hr d r 2 (fun q => (BitVec.ofInt 64 (ftoi f32 64 q x).1, (ftoi f32 64 q x).2))

/-! Draws (R45, R99) -/

/-- A word rounds under SR by its own mode or, as DYN, by FPCSR.RM (R45). -/
theorem effMode_eq_sr (s : State) (r : Rm) : effMode s r = 4 ↔ r = 4 ∨ r = 7 ∧ (cx s).bank.fpcsr.toNat % 8 = 4 := by
  unfold effMode
  split
  · subst_vars; simp
  · rename_i h
    refine ⟨fun e => .inl (BitVec.eq_of_toNat_eq e), ?_⟩
    rintro (rfl | ⟨h7, -⟩)
    · rfl
    · exact absurd h7 h

/-- A word that rounds under SR draws lane 0's number and advances VRNGC by 1. -/
theorem draws_of_sr {s : State} {r : Rm} (h : effMode s r = 4) (d : BitVec 6) (lat : Nat) (v : Dbl) (fl : Fl) :
    fpSends s d r lat v fl = [scalarOut lat d v fl, { lat := 1, res := .advance ((cx s).bank.vrngc + 1) }] ∧
      (rndOf s (effMode s r) 0).draw = (mix (cx s).bank.vrngk (cx s).bank.vrngc).toNat := by
  rw [fpSends, h]
  exact ⟨rfl, by simp only [rndOf, if_true, drawOf, BitVec.add_zero]⟩
theorem fpSends_undrawn {s : State} {r : Rm} (h : effMode s r ≠ 4) (d : BitVec 6) (lat : Nat) (v : Dbl) (fl : Fl) :
    fpSends s d r lat v fl = [scalarOut lat d v fl] := by
  rw [fpSends, beq_eq_false_iff_ne.mpr h]; rfl

theorem scalarFloatDraws : Claim.ScalarFloatDraws := by
  intro s d a b r i hr hi sr
  obtain ⟨lat, v, fl, e⟩ : ∃ lat v fl, exec i s = .next (s.sent (fpSends s d r lat v fl)) := by
    rcases hi with rfl | rfl | rfl
    · exact ⟨3, _, _, fpWord_sends hr d r 3 (fun q => fpResult (fadd f32 q (fpOperand (rs s a)) (fpOperand (rs s b))))⟩
    · exact ⟨4, _, _, fpWord_sends hr d r 4
        (fun q => fpResult (ffma f32 q (fpOperand (rs s a)) (fpOperand (rs s b)) (fpOperand (rs s d))))⟩
    · exact ⟨2, _, _, fpWord_sends hr d r 2
        (fun q => (BitVec.ofInt 64 (ftoi f32 64 q (fpOperand (rs s a))).1, (ftoi f32 64 q (fpOperand (rs s a))).2))⟩
  refine ⟨_, scalarOut lat d v fl, e, fun hsr => ?_, fun hsr => ?_⟩
  · obtain ⟨hout, hdraw⟩ := draws_of_sr ((effMode_eq_sr s r).mpr hsr) d lat v fl
    exact ⟨congrArg s.sent hout, hdraw⟩
  · exact congrArg s.sent (fpSends_undrawn (mt (effMode_eq_sr s r).mp hsr) d lat v fl)

/-- Settles O3: what the words send, and their draw by the effective mode. -/
theorem scalarFloat : Obligations.ScalarFloat := ⟨scalarFloatResults, scalarFloatDraws⟩

end Sys2Proof.Machine
end

section
/-! SUPPORT. Pops of the result queues, and the delivery of owed entries. -/
namespace Sys2Proof.Machine

/-! Pops (R113, R114) -/

section
variable {s : State} {d : BitVec 6} {q : BitVec 2} {n : Nat} {v : Dbl} {l : List (Nat × Dbl)}

theorem popStall_head (hr : s.roomFor 2) (h : queueOf (cx s) q = (n, v) :: l) :
    popStall d q s = .next (popHead q (s.sent [scalarOut 1 d v])) := by
  rw [popStall, h]
  exact congrArg Host.Outcome.next (issue_room (popHead q) hr (Nat.le_succ 1))
theorem popStall_empty (h : queueOf (cx s) q = []) : popStall d q s = .next (waitFor s (.queue q)) := by
  rw [popStall, h]

theorem popReady_head (hr : s.roomFor 2) (h : queueOf (cx s) q = (n, v) :: l) (p : BitVec 5) :
    popReady d q p s = .next (popHead q (s.sent [scalarOut 1 d v, predOut s p true])) := by
  have hn : needOf [scalarOut 1 d v, predOut s p true] ≤ 2 := by
    have happ := needOf_append [scalarOut 1 d v] [predOut s p true]
    have hone : needOf [scalarOut 1 d v] = 1 := rfl
    have hp := needOf_predOut s p true 0
    rw [← List.singleton_append]
    omega
  rw [popReady, h]
  exact congrArg Host.Outcome.next (issue_room (popHead q) hr hn)
theorem popReady_empty (hr : s.roomFor 2) (h : queueOf (cx s) q = []) (p : BitVec 5) :
    popReady d q p s = .next (s.sent [predOut s p false]) := by
  rw [popReady, h]
  exact congrArg Host.Outcome.next (results_predOut (hr.mono (Nat.le_succ 1)) p false 0)

/-- After a pop the queue holds the entries behind the head. -/
theorem queueOf_popHead (h : queueOf (cx s) q = (n, v) :: l) : queueOf (cx (popHead q s)) q = l := by
  have hq : popHead q s = setCx s { setQueue (cx s) q l with popped := (cx s).popped ++ [(q, n, v)] } := by
    rw [popHead, h]
  rw [hq, cx_setCx]
  exact SMap.get_set_self _ _ _ _

end

theorem queuePops : Claim.QueuePops := by
  intro s d q p hr
  refine ⟨fun n v l h => ?_, fun h => ?_⟩
  · exact ⟨popStall_head hr h, popStall_head hr h, popReady_head hr h p, popReady_head hr h p, queueOf_popHead h⟩
  · exact ⟨popStall_empty h, popStall_empty h, by rw [cx_waitFor], popReady_empty hr h p, popReady_empty hr h p⟩

/-! The delivery of owed entries (R146) -/

section
variable {x : Ctx} {o : Owed} {l : List Owed} {q : BitVec 2} {k : Nat} (h : x.owed = o :: l) (hq : o.q = q)
include h hq

theorem find_oldest_owed : x.owed.find? (fun w => w.q == q) = some o := by
  rw [h]; exact List.find?_cons_of_pos (beq_iff_eq.mpr hq)

/-- The oldest entry, once posted, goes to a queue with room. -/
theorem deliverOne_posted {v : Dbl} (hv : o.val = some v) (hc : o.cyc ≤ k)
    (hd : (queueOf x q).length + arrivingIn x q < Config.queueDepth q.toNat) :
    deliverOne k q x = { x with owed := l, arriving := x.arriving ++ [(q, o.id, v)] } := by
  have herase : eraseFirst (fun w => w.q == q) x.owed = l := by rw [h, eraseFirst, if_pos (beq_iff_eq.mpr hq)]
  simp only [deliverOne, find_oldest_owed h hq, hv, hc, hd, decide_true, Bool.and_self, if_true, herase]

/-- An entry that is not posted stays, and those behind it. -/
theorem deliverOne_unposted (hv : o.val = none) : deliverOne k q x = x := by
  simp only [deliverOne, find_oldest_owed h hq, hv]

/-- A full queue takes no entry. -/
theorem deliverOne_full (hd : Config.queueDepth q.toNat ≤ (queueOf x q).length + arrivingIn x q) : deliverOne k q x = x := by
  simp only [deliverOne, find_oldest_owed h hq, Nat.not_lt.mpr hd, decide_false, Bool.and_false, Bool.false_eq_true, if_false]
  split <;> rfl

end

theorem deliverOne_bank (k : Nat) (q : BitVec 2) (x : Ctx) : (deliverOne k q x).bank = x.bank := by
  unfold deliverOne
  split
  · split
    · split <;> rfl
    · rfl
  · rfl

theorem queueDelivery : Claim.QueueDelivery := by
  intro s c q o l x h hq
  have hself : getCtx (setCtx s c (deliverOne (s.cycle - 1) q x)) c = deliverOne (s.cycle - 1) q x := getCtx_setCtx_self s c _
  refine ⟨_, rfl, rfl, ?_, fun v hv hc hd => ?_, fun hv => ?_, fun hd => ?_⟩
  · rw [hself, deliverOne_bank]
  · rw [hself, deliverOne_posted h hq hv (by omega) hd]; exact ⟨rfl, rfl⟩
  · rw [hself, deliverOne_unposted h hq hv]
  · rw [hself, deliverOne_full h hq hd]

/-- Settles O7: the pops by the head of the queue, the delivery by the oldest entry owed to it. -/
theorem queueWords : Obligations.QueueWords := ⟨queuePops, queueDelivery⟩

end Sys2Proof.Machine
end

section
/-! SUPPORT. FENCE, and the words that put an access in place. -/
namespace Sys2Proof.Machine

/-- A word without causes has its effect: FENCE records its mask and its place in the order (R108). -/
theorem exec_fence (s : State) (m sc : BitVec 6) : exec (.fence m sc) s =
    .next (setCx { s with nextId := s.nextId + 1 } { cx s with fences := (cx s).fences ++ [(m, s.nextId)] }) :=
  congrArg Host.Outcome.next (issue_effect s _)

theorem fenceOrders : Claim.FenceOrders := by
  intro s m sc
  have hcx : cx (setCx { s with nextId := s.nextId + 1 } { cx s with fences := (cx s).fences ++ [(m, s.nextId)] }) =
      { cx s with fences := (cx s).fences ++ [(m, s.nextId)] } := cx_setCx _ _
  refine ⟨_, exec_fence s m sc, ?_, rfl, rfl, ?_, ?_, rfl, rfl⟩
  all_goals rw [hcx]

/-- The words whose access leaves or enters the release buffer when their checks pass (R369, R373, R447). -/
theorem exec_gfence (s : State) : exec .gfence s = .next (leaveNow .gfence (some 3) s) :=
  congrArg Host.Outcome.next (issue_effect s _)
theorem exec_hld {s : State} {a : BitVec 6} (h : hostChecks s (rs s a).toNat = []) :
    exec (.hld a) s = .next (leaveNow (.host (rs s a).toNat none) (some 0) s) := by
  change Host.Outcome.next (issue s (hostChecks s (rs s a).toNat) [] (leaveNow (.host (rs s a).toNat none) (some 0))) = _
  rw [h, issue_effect]
theorem exec_hst {s : State} {a : BitVec 6} (h : hostChecks s (rs s a).toNat = []) (hl : (cx s).rel.length < 64) (b : BitVec 6) :
    exec (.hst a b) s = .next (enterRel (.host (rs s a).toNat (some (rs s b))) none s) := by
  have hroom : relRoom s = [] := if_neg (by simpa using hl)
  change Host.Outcome.next (issue s (hostChecks s (rs s a).toNat ++ relRoom s) []
    (enterRel (.host (rs s a).toNat (some (rs s b))) none)) = _
  rw [h, hroom, List.nil_append, issue_effect]

/-! GWS (R447, R448) -/

/-- Checks of which the first failure traps are passed when none fails. -/
theorem firstOf_eq_nil {l : List Cause} (h : firstOf l = []) : l = [] := by
  cases l with
  | nil => rfl
  | cons c t => cases h
theorem failIf_eq_nil {b : Bool} {c : Cause} (h : failIf b c = []) : b = false := by
  cases b
  · rfl
  · cases h

/-- A GWS that passes its checks has both of its translations. -/
theorem gws_translations {s : State} {v a d : Dbl} (h : gwsChecks s v a d = []) :
    ∃ ia kp fa kf, translateRun s (cx s) v.toNat (gwsLen d) = some (ia, kp) ∧
      translateRun s (cx s) (gwsFlag v d).toNat 8 = some (fa, kf) := by
  have hl := firstOf_eq_nil h
  simp only [List.append_eq_nil_iff, rangeIf] at hl
  obtain ⟨⟨⟨⟨⟨⟨-, hp⟩, hf⟩, -⟩, -⟩, -⟩, -⟩ := hl
  obtain ⟨⟨ia, kp⟩, ep⟩ := Option.isSome_iff_exists.mp (Option.isNone_eq_false_iff.mp (failIf_eq_nil hp))
  obtain ⟨⟨fa, kf⟩, ef⟩ := Option.isSome_iff_exists.mp
    (Option.isNone_eq_false_iff.mp (Bool.or_eq_false_iff.mp (failIf_eq_nil hf)).1)
  exact ⟨ia, kp, fa, kf, ep, ef⟩

theorem exec_gws {s : State} {k a b : BitVec 6} {ia kp fa kf : Nat} (h : gwsChecks s (rs s a) (rs s b) (rs s k) = [])
    (hp : translateRun s (cx s) (rs s a).toNat (gwsLen (rs s k)) = some (ia, kp))
    (hf : translateRun s (cx s) (gwsFlag (rs s a) (rs s k)).toNat 8 = some (fa, kf)) :
    exec (.gws k a b) s = .next (enterRel (.gws ia kp (rs s b).toNat (gwsLen (rs s k)) fa kf (gwsOp (rs s k) == 1)
      (((rs s k).extractLsb' 32 32).signExtend 64)) (some 3) s) := by
  change execGws k a b s = _
  simp only [execGws, h, issue_effect, hp, hf]

theorem fenceHostAndWriteSignal : Claim.FenceHostAndWriteSignal := by
  intro s k a b
  refine ⟨?gfence, fun h => ⟨?hld, fun hl => ?hst⟩, fun h => ?gws⟩
  case gfence => exact ⟨_, _, exec_gfence s, by rw [cx_leaveNow]; rfl, rfl, by rw [cx_leaveNow]; rfl, leaveNow_mem _ _ s⟩
  case hld => exact ⟨_, _, exec_hld h, by rw [cx_leaveNow]; rfl, rfl, by rw [cx_leaveNow]; rfl, leaveNow_mem _ _ s⟩
  case hst => exact ⟨_, _, exec_hst h hl b, by rw [cx_enterRel], rfl, by rw [cx_enterRel], enterRel_mem _ _ s⟩
  case gws =>
    obtain ⟨ia, kp, fa, kf, hp, hf⟩ := gws_translations h
    exact ⟨_, _, ia, kp, fa, kf, exec_gws h hp hf, by rw [cx_enterRel]; rfl, rfl, hp, hf, by rw [cx_enterRel]; rfl, enterRel_mem _ _ s⟩

/-- Settles O11: each word by its effect, once its checks pass. -/
theorem fencesAndHostWords : Obligations.FencesAndHostWords := ⟨fenceOrders, fenceHostAndWriteSignal⟩

end Sys2Proof.Machine
end

section
/-! SUPPORT. Taking an exception: what its delivery does to the context, in each of its ways, and ERET. -/
namespace Sys2Proof.Machine

/-! The parts of a delivery (R119 to R126) -/

theorem freeze_segs (s : State) (c : CtxId) (k : BitVec 8) (v : Dbl) : (freeze s c k v).segs = s.segs := by
  unfold freeze; split <;> rfl
theorem capture_segs (s : State) (c : CtxId) (t : Nat) (r : SMap Row) : (capture s c t r).segs = s.segs := rfl
theorem getCtx_freeze (s : State) (c d : CtxId) (k : BitVec 8) (v : Dbl) : getCtx (freeze s c k v) d = getCtx s d :=
  getCtx_congr (freeze_ctxs s c k v) d
theorem codeCause_congr {s t : State} (h : t.segs = s.segs) (seq : Nat) (a : Dbl) : codeCause t seq a = codeCause s seq a := by
  unfold codeCause segAt segsOf; rw [h]

/-- A capture fills the snapshot buffer of its context and leaves the rest of it (R123). -/
theorem getCtx_capture_self (s : State) (c : CtxId) (t : Nat) (r : SMap Row) :
    ∃ l, getCtx (capture s c t r) c = { getCtx s c with snap := l, replayAt := none } :=
  ⟨_, (getCtx_congr (t := capture s c t r) rfl c).trans (getCtx_setCtx_self s c _)⟩

/-- The banks and tiers that a held context records (R136). -/
abbrev HeldBanks := Option (List (Nat × VBank) × List (Nat × VTier))

/-- A context held at an address (R33, R125, R126). -/
def heldCtx (x : Ctx) (a : Dbl) (h : HeldBanks) : Ctx :=
  { x with st := .held, waits := [], fell := false, preHeld := false, held := h, bank := { x.bank with pc := a } }
/-- A context whose cause has escalated, before it is held (R125). -/
def nestedCtx (x : Ctx) (why : BitVec 8) : Ctx := { x with bank := { x.bank with nest := true, ncause := why } }
/-- A context whose results in flight have been captured and whose trap registers have been written (R120, R123). -/
def trappedCtx (x : Ctx) (code : BitVec 8) (tval a : Dbl) (l : List SnapEntry) : Ctx :=
  { x with snap := l, replayAt := none, bank := { x.bank with tpc := a, tcause := code.setWidth 64, tval := tval } }
/-- A context that enters its handler at cycle n (R124). -/
def handlerCtx (x : Ctx) (h : Dbl) (n : Nat) : Ctx :=
  { x with st := .running, waits := [], fell := false, hold := n + 3, restart := false, bank := { x.bank with inh := true, pc := h } }

theorem getCtx_holdAt_self (s : State) (c : CtxId) (a : Dbl) :
    getCtx (holdAt s c a) c = heldCtx (getCtx s c) a (some (s.vault.banks, s.vault.tiers)) := getCtx_setCtx_self s c _
theorem getCtx_escalate_self (s : State) (c : CtxId) (k : BitVec 8) (a : Dbl) :
    getCtx (escalate s c k a) c = heldCtx (nestedCtx (getCtx s c) k) a (some (s.vault.banks, s.vault.tiers)) := by
  unfold escalate
  rw [getCtx_blackBox, getCtx_holdAt_self, getCtx_setCtx_self]; rfl

/-! A delivery (R119, R120) -/

/-- The state of a delivery that has written the trap registers and captured the results. -/
def atTrap (s : State) (c : CtxId) (code : BitVec 8) (tval a : Dbl) (n : Nat) (z : Ctx) : State :=
  capture (setCtx (freeze s c code tval) c (trapRegs z.wrote (getCtx s c) code tval a)) c n z.v

section
variable {s : State} {c : CtxId} {code : BitVec 8} {tval a : Dbl} {n : Nat} {z : Ctx}

theorem getCtx_atTrap (hz : z.wrote = []) :
    ∃ l, getCtx (atTrap s c code tval a n z) c = trappedCtx (getCtx s c) code tval a l := by
  obtain ⟨l, hl⟩ := getCtx_capture_self (setCtx (freeze s c code tval) c (trapRegs [] (getCtx s c) code tval a)) c n z.v
  rw [getCtx_setCtx_self] at hl
  rw [atTrap, hz, hl]
  exact ⟨l, rfl⟩
theorem atTrap_segs : (atTrap s c code tval a n z).segs = s.segs := by rw [atTrap, capture_segs, setCtx_segs, freeze_segs]

/-- The target of a handler's address is checked with the segments of the plan. -/
theorem codeCause_atTrap (h : Dbl) (hz : z.wrote = []) :
    codeCause (atTrap s c code tval a n z) (getCtx (atTrap s c code tval a n z) c).plan h = codeCause s (getCtx s c).plan h := by
  obtain ⟨l, hl⟩ := getCtx_atTrap (s := s) (c := c) (code := code) (tval := tval) (a := a) (n := n) hz
  rw [hl]
  exact codeCause_congr atTrap_segs _ h

/-- A cause in a handler escalates, unless its word is SYS or BRK (R125). -/
theorem deliver_inHandler (hi : (getCtx s c).bank.inh = true) (h20 : code ≠ 0x20) (h22 : code ≠ 0x22) :
    deliver s c code tval a n z = escalate (freeze s c code tval) c code a := by
  have hc : ((getCtx s c).bank.inh && !(code == 0x20 || code == 0x22)) = true := by
    rw [hi, beq_eq_false_iff_ne.mpr h20, beq_eq_false_iff_ne.mpr h22]; rfl
  unfold deliver; dsimp only
  rw [if_pos hc]

/-- Any other cause writes the trap registers and captures the results first. -/
theorem not_escalated (h : (getCtx s c).bank.inh = false ∨ code = 0x20 ∨ code = 0x22) :
    ¬ ((getCtx s c).bank.inh && !(code == 0x20 || code == 0x22)) = true := by
  rcases h with h | h | h
  · rw [h, Bool.false_and]; exact Bool.false_ne_true
  · subst h; cases (getCtx s c).bank.inh <;> decide
  · subst h; cases (getCtx s c).bank.inh <;> decide

theorem deliver_supervisor (hi : (getCtx s c).bank.inh = false ∨ code = 0x20 ∨ code = 0x22) (hs : toSupervisor code = true) :
    deliver s c code tval a n z = holdAt (atTrap s c code tval a n z) c a := by
  unfold deliver; dsimp only
  rw [if_neg (not_escalated hi), if_pos hs, atTrap]
theorem deliver_noHandler (hi : (getCtx s c).bank.inh = false) (hs : toSupervisor code = false) (ht : z.bank.thand = 0) :
    deliver s c code tval a n z = escalate (atTrap s c code tval a n z) c code a := by
  unfold deliver; dsimp only
  rw [if_neg (not_escalated (.inl hi)), if_neg (Bool.eq_false_iff.mp hs), if_pos ht, atTrap]
theorem deliver_badHandler {why : BitVec 8} (hi : (getCtx s c).bank.inh = false) (hs : toSupervisor code = false)
    (hz : z.wrote = []) (ht : z.bank.thand ≠ 0) (hc : codeCause s (getCtx s c).plan z.bank.thand = some why) :
    deliver s c code tval a n z = escalate (atTrap s c code tval a n z) c why a := by
  unfold deliver; dsimp only
  rw [if_neg (not_escalated (.inl hi)), if_neg (Bool.eq_false_iff.mp hs), if_neg ht, ← atTrap, codeCause_atTrap _ hz, hc]
theorem deliver_handler (hi : (getCtx s c).bank.inh = false) (hs : toSupervisor code = false) (hz : z.wrote = [])
    (ht : z.bank.thand ≠ 0) (hc : codeCause s (getCtx s c).plan z.bank.thand = none) :
    deliver s c code tval a n z =
      setCtx (atTrap s c code tval a n z) c (handlerCtx (getCtx (atTrap s c code tval a n z) c) z.bank.thand n) := by
  unfold deliver; dsimp only
  rw [if_neg (not_escalated (.inl hi)), if_neg (Bool.eq_false_iff.mp hs), if_neg ht, ← atTrap, codeCause_atTrap _ hz, hc]
  rfl

/-! The context after a delivery -/

/-- In a handler: NEST, NCAUSE and HELD, the trap registers as they were (R125). -/
theorem getCtx_deliver_inHandler (hi : (getCtx s c).bank.inh = true) (h20 : code ≠ 0x20) (h22 : code ≠ 0x22) :
    ∃ h, getCtx (deliver s c code tval a n z) c = heldCtx (nestedCtx (getCtx s c) code) a h := by
  rw [deliver_inHandler hi h20 h22, getCtx_escalate_self, getCtx_freeze]
  exact ⟨_, rfl⟩

/-- A cause that goes to the supervisor: the trap registers, and HELD (R117, R126). -/
theorem getCtx_deliver_supervisor (hs : toSupervisor code = true) (hz : z.wrote = [])
    (hi : (getCtx s c).bank.inh = false ∨ code = 0x20 ∨ code = 0x22) :
    ∃ l h, getCtx (deliver s c code tval a n z) c = heldCtx (trappedCtx (getCtx s c) code tval a l) a h := by
  obtain ⟨l, hl⟩ := getCtx_atTrap (s := s) (c := c) (code := code) (tval := tval) (a := a) (n := n) hz
  rw [deliver_supervisor hi hs, getCtx_holdAt_self, hl]
  exact ⟨l, _, rfl⟩

/-- Outside a handler, with one to go to: the trap registers, INH and the handler's address (R120, R124). -/
theorem getCtx_deliver_handler (hs : toSupervisor code = false) (hz : z.wrote = []) (hi : (getCtx s c).bank.inh = false)
    (ht : z.bank.thand ≠ 0) (hc : codeCause s (getCtx s c).plan z.bank.thand = none) :
    ∃ l, getCtx (deliver s c code tval a n z) c = handlerCtx (trappedCtx (getCtx s c) code tval a l) z.bank.thand n := by
  obtain ⟨l, hl⟩ := getCtx_atTrap (s := s) (c := c) (code := code) (tval := tval) (a := a) (n := n) hz
  rw [deliver_handler hi hs hz ht hc, getCtx_setCtx_self, hl]
  exact ⟨l, rfl⟩

/-- Outside a handler, with none to go to: the trap registers, and then NEST and HELD; NCAUSE is the cause, or what is wrong
with the handler's address (R125). -/
theorem getCtx_deliver_noHandler (hs : toSupervisor code = false) (hz : z.wrote = []) (hi : (getCtx s c).bank.inh = false)
    {why : BitVec 8} (hw : z.bank.thand = 0 ∧ why = code ∨
      z.bank.thand ≠ 0 ∧ codeCause s (getCtx s c).plan z.bank.thand = some why) :
    ∃ l h, getCtx (deliver s c code tval a n z) c = heldCtx (nestedCtx (trappedCtx (getCtx s c) code tval a l) why) a h := by
  obtain ⟨l, hl⟩ := getCtx_atTrap (s := s) (c := c) (code := code) (tval := tval) (a := a) (n := n) hz
  have he : deliver s c code tval a n z = escalate (atTrap s c code tval a n z) c why a := by
    rcases hw with ⟨h0, rfl⟩ | ⟨h0, hc⟩
    · exact deliver_noHandler hi hs h0
    · exact deliver_badHandler hi hs hz h0 hc
  rw [he, getCtx_escalate_self, hl]
  exact ⟨l, _, rfl⟩

end

/-- A cause that the program may handle is not that of SYS or BRK (R117). -/
theorem ne_of_not_toSupervisor {code : BitVec 8} (h : toSupervisor code = false) : code ≠ 0x20 ∧ code ≠ 0x22 := by
  constructor <;> rintro rfl <;> exact absurd h (by decide)

/-- A context without a handler to go to has none, or one at a bad address. -/
theorem noHandler_why {s : State} {seq : Nat} {h : Dbl} (code : BitVec 8) (hn : ¬ (h ≠ 0 ∧ codeCause s seq h = none)) :
    ∃ why, h = 0 ∧ why = code ∨ h ≠ 0 ∧ codeCause s seq h = some why := by
  by_cases h0 : h = 0
  · exact ⟨code, .inl ⟨h0, rfl⟩⟩
  · obtain ⟨why, e⟩ := Option.ne_none_iff_exists'.mp fun e => hn ⟨h0, e⟩
    exact ⟨why, .inr ⟨h0, e⟩⟩

/-- A delivery leaves the scalars, the masks and the rows of its context (R119). -/
theorem getCtx_deliver_files (s : State) (c : CtxId) {code : BitVec 8} (tval a : Dbl) (n : Nat) {z : Ctx}
    (hs : toSupervisor code = false) (hz : z.wrote = []) :
    let y := getCtx (deliver s c code tval a n z) c
    y.bank.s = (getCtx s c).bank.s ∧ y.bank.k = (getCtx s c).bank.k ∧ y.v = (getCtx s c).v := by
  intro y
  obtain ⟨h20, h22⟩ := ne_of_not_toSupervisor hs
  by_cases hi : (getCtx s c).bank.inh = true
  · obtain ⟨k, hy⟩ := getCtx_deliver_inHandler (tval := tval) (a := a) (n := n) (z := z) hi h20 h22
    rw [show y = _ from hy]
    exact ⟨rfl, rfl, rfl⟩
  · have hout : (getCtx s c).bank.inh = false := Bool.eq_false_iff.mpr hi
    by_cases ht : z.bank.thand ≠ 0 ∧ codeCause s (getCtx s c).plan z.bank.thand = none
    · obtain ⟨l, hy⟩ := getCtx_deliver_handler (tval := tval) (a := a) (n := n) hs hz hout ht.1 ht.2
      rw [show y = _ from hy]
      exact ⟨rfl, rfl, rfl⟩
    · obtain ⟨why, hw⟩ := noHandler_why code ht
      obtain ⟨l, k, hy⟩ := getCtx_deliver_noHandler (tval := tval) (a := a) (n := n) hs hz hout hw
      rw [show y = _ from hy]
      exact ⟨rfl, rfl, rfl⟩

theorem exceptionEntry : Claim.ExceptionEntry := by
  intro s c code tval a n z x y hs hz
  obtain ⟨h20, h22⟩ := ne_of_not_toSupervisor hs
  refine ⟨fun hi ht hc => ?handler, fun hi => ?inHandler, fun hi ht => ?noHandler, ?_⟩
  case handler =>
    obtain ⟨l, hy⟩ := getCtx_deliver_handler (tval := tval) (a := a) (n := n) hs hz hi ht hc
    rw [show y = _ from hy]
    exact ⟨rfl, rfl, rfl, rfl, rfl, rfl, rfl, rfl⟩
  case inHandler =>
    obtain ⟨k, hy⟩ := getCtx_deliver_inHandler (tval := tval) (a := a) (n := n) (z := z) hi h20 h22
    rw [show y = _ from hy]
    exact ⟨rfl, rfl, rfl, rfl, rfl, rfl, rfl, hi, rfl⟩
  case noHandler =>
    obtain ⟨l, k, hy⟩ := getCtx_deliver_noHandler (tval := tval) (a := a) (n := n) hs hz hi (.inl ⟨ht, rfl⟩)
    rw [show y = _ from hy]
    exact ⟨rfl, rfl, rfl, rfl, rfl, rfl, rfl, hi⟩
  obtain ⟨hs, hk, hv⟩ := getCtx_deliver_files s c tval a n hs hz
  exact ⟨hs, hk, hv, deliver_mem s c code tval a n z⟩

/-! ERET (R110, R128) -/

theorem cx_transfer (t : Dbl) (gap : Nat) (s : State) : cx (transfer t gap s) = cx s := rfl
theorem cx_endHandler (s : State) : cx (endHandler s) = { cx s with bank := { (cx s).bank with inh := false }, restart := true } :=
  cx_setCx s _

/-- ERET as it issues in a handler, and outside one. -/
theorem exec_eret_inHandler {s : State} (h : (cx s).bank.inh = true) :
    exec .eret s = .next (issue s (targetCause s (cx s).bank.tpc) [] (fun u => transfer (cx s).bank.tpc 3 (endHandler u))) := by
  change Host.Outcome.next (issue s (failIf (!(cx s).bank.inh) _ ++ _) [] _) = _
  rw [h]; rfl
theorem traps_eret_outside {s : State} (h : (cx s).bank.inh = false) : Traps .eret s 4 0x09 0 := by
  have e : exec .eret s = .next (issue s (⟨4, 0x09, 0⟩ :: targetCause s (cx s).bank.tpc) []
      (fun u => transfer (cx s).bank.tpc 3 (endHandler u))) := by
    change Host.Outcome.next (issue s (failIf (!(cx s).bank.inh) _ ++ _) [] _) = _
    rw [h]; rfl
  refine ⟨_, e, issue_trap_head s _ _ [] _ (fun d hd => ?_) (.inl (le_refl 4))⟩
  rw [targetCause_cls hd]
  exact Nat.le_succ 4

theorem handlerReturn : Claim.HandlerReturn := by
  intro s
  refine ⟨fun hi hc => ?_, traps_eret_outside, fun hi ha => traps_target (exec_eret_inHandler hi) rfl (codeCause_align s _ ha)⟩
  have e : exec .eret s = .next (transfer (cx s).bank.tpc 3 (endHandler s)) := by
    rw [exec_eret_inHandler hi, targetCause_inRange hc, issue_effect]
  refine ⟨_, e, ?_, ?_, rfl, ?_, rfl⟩
  all_goals rw [cx_transfer, cx_endHandler]

/-- Settles O13: a delivery by its four ways, ERET by INH and the address in TPC. -/
theorem exceptionEntryAndReturn : Obligations.ExceptionEntryAndReturn := ⟨exceptionEntry, handlerReturn⟩

end Sys2Proof.Machine
end

section
/-! SUPPORT. TRAP, BRK and SYS: the delivery of their causes after their bundle, and the end of a rerun at a SYS. -/
namespace Sys2Proof.Machine

/-! Causes of class 6 (R109) -/

/-- The address of the bundle that follows the one being issued. -/
def followAddr (s : State) : Dbl := s.cur.addr + BitVec.ofNat 64 (4 * s.cur.n)

/-- The record of the word takes the cause, and the contexts stay. -/
theorem cx_withTrap {d s : State} (h : d.cur = s.cur) (w : Option (Nat × BitVec 8 × Dbl)) :
    cx { d with cur := { d.cur with trap := w } } = getCtx d s.cur.ctx := by
  rw [← h]; rfl
theorem cx_softTrap (s : State) (code : BitVec 8) (k : BitVec 12) (n : Nat) (z : Ctx) :
    cx (softTrap s code k n z) = getCtx (deliver s s.cur.ctx code (k.setWidth 64) (followAddr s) n z) s.cur.ctx :=
  cx_withTrap (deliver_cur ..) _
theorem softTrap_curCtx (s : State) (code : BitVec 8) (k : BitVec 12) (n : Nat) (z : Ctx) :
    (softTrap s code k n z).cur.ctx = s.cur.ctx := by
  unfold softTrap; dsimp only; rw [deliver_cur]

/-- A context that a cause of class 6 holds has its banks recorded at the next cycle, and is otherwise as it was (R136). -/
theorem cx_heldNext (u : State) : ∃ h, cx (heldNext u.cur.ctx u) = { cx u with held := h } := by
  unfold heldNext; dsimp only
  split
  · exact ⟨none, cx_setCx u _⟩
  · exact ⟨(cx u).held, rfl⟩
theorem heldNext_cur (c : CtxId) (u : State) : (heldNext c u).cur = u.cur := by
  unfold heldNext; dsimp only; split <;> rfl

/-- The state after a TRAP or BRK. -/
def afterSoft (s : State) (code : BitVec 8) (k : BitVec 12) : State :=
  heldNext s.cur.ctx (softTrap s code k (s.cycle + 1) (nextCx s))

theorem cx_afterSoft (s : State) (code : BitVec 8) (k : BitVec 12) :
    ∃ h, cx (afterSoft s code k) =
      { getCtx (deliver s s.cur.ctx code (k.setWidth 64) (followAddr s) (s.cycle + 1) (nextCx s)) s.cur.ctx with held := h } := by
  obtain ⟨h, e⟩ := cx_heldNext (softTrap s code k (s.cycle + 1) (nextCx s))
  rw [softTrap_curCtx, cx_softTrap] at e
  exact ⟨h, e⟩
theorem afterSoft_mem (s : State) (code : BitVec 8) (k : BitVec 12) : (afterSoft s code k).mem = s.mem := by
  rw [afterSoft, heldNext_mem, softTrap_mem]
theorem afterSoft_trap (s : State) (code : BitVec 8) (k : BitVec 12) :
    (afterSoft s code k).cur.trap = some (6, code, k.setWidth 64) := congrArg Cur.trap (heldNext_cur ..)

/-! TRAP and BRK (R109, R120, R124) -/

theorem exec_trap (s : State) (k : BitVec 12) : exec (.trap k) s = .next (afterSoft s 0x21 k) := rfl
theorem exec_brk (s : State) (k : BitVec 12) : exec (.brk k) s = .next (afterSoft s 0x22 k) := rfl

theorem userTrapEntry : Claim.UserTrapEntry := by
  intro s k hw ht
  refine ⟨fun hi => ?inHandler, fun hi hbad => ?noHandler, fun hi hne hok => ?handler⟩
  case inHandler =>
    obtain ⟨h, e⟩ := cx_afterSoft s 0x21 k
    obtain ⟨h', hd⟩ := getCtx_deliver_inHandler (c := s.cur.ctx) (code := 0x21) (tval := k.setWidth 64) (a := followAddr s)
      (n := s.cycle + 1) (z := nextCx s) hi (by decide) (by decide)
    refine ⟨_, exec_trap s k, ?_⟩
    rw [e, hd]
    exact ⟨rfl, rfl, rfl, rfl, rfl, rfl, afterSoft_mem s 0x21 k⟩
  case noHandler =>
    obtain ⟨h, e⟩ := cx_afterSoft s 0x21 k
    obtain ⟨why, hwhy⟩ : ∃ why, (nextCx s).bank.thand = 0 ∧ why = 0x21 ∨
        (nextCx s).bank.thand ≠ 0 ∧ codeCause s (cx s).plan (nextCx s).bank.thand = some why := by
      rw [ht]
      refine noHandler_why 0x21 fun hn => ?_
      rcases hbad with h0 | ⟨w, hc⟩
      · exact hn.1 h0
      · rw [hn.2] at hc; cases hc
    obtain ⟨l, h', hd⟩ := getCtx_deliver_noHandler (c := s.cur.ctx) (code := 0x21) (tval := k.setWidth 64) (a := followAddr s)
      (n := s.cycle + 1) rfl hw hi hwhy
    refine ⟨_, exec_trap s k, ?_⟩
    rw [e, hd]
    exact ⟨rfl, rfl, rfl, rfl, rfl, afterSoft_mem s 0x21 k⟩
  case handler =>
    obtain ⟨h, e⟩ := cx_afterSoft s 0x21 k
    obtain ⟨l, hd⟩ := getCtx_deliver_handler (c := s.cur.ctx) (code := 0x21) (tval := k.setWidth 64) (a := followAddr s)
      (n := s.cycle + 1) rfl hw hi (by rw [ht]; exact hne) (by rw [ht]; exact hok)
    rw [ht] at hd
    refine ⟨_, exec_trap s k, ?_⟩
    rw [e, hd]
    exact ⟨rfl, rfl, rfl, rfl, rfl, rfl, rfl, rfl, rfl, rfl, rfl, afterSoft_mem s 0x21 k, afterSoft_trap s 0x21 k⟩

theorem breakpointHolds : Claim.BreakpointHolds := by
  intro s k hw
  obtain ⟨h, e⟩ := cx_afterSoft s 0x22 k
  obtain ⟨l, h', hd⟩ := getCtx_deliver_supervisor (s := s) (c := s.cur.ctx) (code := 0x22) (tval := k.setWidth 64) (a := followAddr s)
    (n := s.cycle + 1) rfl hw (.inr (.inr rfl))
  refine ⟨_, exec_brk s k, ?_⟩
  rw [e, hd]
  exact ⟨rfl, rfl, rfl, rfl, rfl, rfl, rfl, afterSoft_mem s 0x22 k⟩

/-! The ends of reruns (R259, R262, R264) -/

theorem tagDown_cur (t : BitVec 6) (s : State) : (tagDown t s).cur = s.cur := by unfold tagDown; dsimp only; split <;> rfl
theorem discardTags_cur (l : List Access) (s : State) : (discardTags l s).cur = s.cur :=
  foldl_keeps (fun s a => by
    split
    · exact tagDown_cur _ s
    · exact tagDown_cur _ s
    · rfl) l s

/-- A context rolled back runs from its checkpoint in the phase given, 16 cycles after its own (R259). -/
theorem rollCtx_rerun (t phase : Nat) (c : CtxId) (s : State) :
    let y := getCtx (rollCtx t phase c s) c
    y.st = .running ∧ y.rerun.phase = phase ∧ y.rerun.len1 = (getCtx s c).rerun.len1 ∧ y.rerun.sig1 = (getCtx s c).rerun.sig1 ∧
      y.hold = t + 17 := by
  unfold rollCtx
  extract_lets x k gone keep y owns live bank rerun z s1 vault r
  have hr : r = z := getCtx_setCtx_self (discardTags gone s) c z
  rw [hr]
  exact ⟨rfl, rfl, rfl, rfl, rfl⟩
theorem rollCtx_cur (t phase : Nat) (c : CtxId) (s : State) : (rollCtx t phase c s).cur = s.cur := by
  unfold rollCtx; dsimp only; rw [setCtx_cur, discardTags_cur]

theorem cx_replaced (s : State) : cx (replaced s) = cx s := rfl

theorem report_self (q : Nat) (k : BitVec 16) (a b : Dbl) (s : State) : (report q k a b s).self = s.self := by
  unfold report; split <;> rfl

/-- The column that retires is disabled (R264, R320). -/
theorem retire_retired (q : Nat) (s : State) : (retire q s).retired = true ∧ s.me ∈ (retire q s).pkg.retired := by
  have hself : ∀ l : List Plan, (l.foldl (fun s p => report p.seq 0x11 (s.self.zeroExtend 64) (s.error &&& 0x0000FFFFF0000000) s)
      (blackBox s 3 s.self q s.error 0)).me = s.me := fun l =>
    congrArg BitVec.toNat ((foldl_keeps (fun s p => report_self _ _ _ _ s) l _).trans (blackBox_self ..))
  exact ⟨rfl, List.mem_append_right _ (List.mem_singleton.mpr (hself _).symm)⟩

section
variable {s : State} {c : CtxId} {done : State → State}

/-- The end of a first rerun starts the second, which is compared with it (R262). -/
theorem endRerun_first (hp : (getCtx s c).rerun.phase = 1) (hx : (getCtx s c).xch = false) :
    endRerun c done s = rollCtx s.cycle 2 c (setCtx s c { getCtx s c with
      rerun := { (getCtx s c).rerun with len1 := s.cycle - (getCtx s c).rerun.start, sig1 := (getCtx s c).rerun.sig } }) := by
  unfold endRerun; dsimp only
  rw [if_pos hp, hx, if_neg Bool.false_ne_true]

theorem endRerun_first_cur (hp : (getCtx s c).rerun.phase = 1) (hx : (getCtx s c).xch = false) :
    (endRerun c done s).cur = s.cur := by rw [endRerun_first hp hx, rollCtx_cur, setCtx_cur]
theorem getCtx_endRerun_first (hp : (getCtx s c).rerun.phase = 1) (hx : (getCtx s c).xch = false) :
    let y := getCtx (endRerun c done s) c
    y.st = .running ∧ y.rerun.phase = 2 ∧ y.rerun.len1 = s.cycle - (getCtx s c).rerun.start ∧
      y.rerun.sig1 = (getCtx s c).rerun.sig ∧ y.hold = s.cycle + 17 := by
  rw [endRerun_first hp hx]
  obtain ⟨hst, hphase, hlen, hsig, hhold⟩ := rollCtx_rerun s.cycle 2 c (setCtx s c { getCtx s c with
    rerun := { (getCtx s c).rerun with len1 := s.cycle - (getCtx s c).rerun.start, sig1 := (getCtx s c).rerun.sig } })
  rw [getCtx_setCtx_self] at hlen hsig
  exact ⟨hst, hphase, hlen, hsig, hhold⟩

/-- A second rerun agrees with the first in its signature and, of a primary context, its length (R262, R263). -/
def Agrees (s : State) (x : Ctx) : Prop :=
  (x.primary = false ∨ s.cycle - x.rerun.start = x.rerun.len1) ∧ x.rerun.sig = x.rerun.sig1

theorem agrees_iff (s : State) (x : Ctx) :
    ((!x.primary || s.cycle - x.rerun.start == x.rerun.len1) && x.rerun.sig == x.rerun.sig1) = true ↔ Agrees s x := by
  simp [Agrees]

theorem endRerun_agrees (hp : (getCtx s c).rerun.phase = 2) (h : Agrees s (getCtx s c)) : endRerun c done s = done s := by
  unfold endRerun; dsimp only
  rw [if_neg (by omega), if_pos ((agrees_iff s _).mpr h)]
theorem endRerun_disagrees (hp : (getCtx s c).rerun.phase = 2) (h : ¬ Agrees s (getCtx s c)) :
    endRerun c done s = retire (getCtx s c).plan s := by
  unfold endRerun; dsimp only
  rw [if_neg (by omega), if_neg (mt (agrees_iff s _).mp h)]

end

/-! SYS (R109, R117, R120) -/

/-- SYSCALL holds its context at the bundle that follows. -/
theorem sysTrap_holds (k : BitVec 12) {s : State} (hw : (cx s).wrote = []) :
    let y := cx (sysTrap k s)
    y.rerun = (cx s).rerun ∧ y.st = .held ∧ y.bank.pc = followAddr s ∧ y.bank.tpc = followAddr s ∧ y.bank.tcause = 0x20 ∧
      y.bank.tval = k.setWidth 64 ∧ y.bank.s = (cx s).bank.s ∧ y.v = (cx s).v := by
  obtain ⟨l, h, hd⟩ := getCtx_deliver_supervisor (s := s) (c := s.cur.ctx) (code := 0x20) (tval := k.setWidth 64) (a := followAddr s)
    (n := s.cycle) (z := cx s) rfl hw (.inr (.inl rfl))
  rw [← cx_softTrap] at hd
  obtain ⟨b, e⟩ : ∃ b, cx (sysTrap k s) = { cx (softTrap s 0x20 k s.cycle (cx s)) with sysEnded := b } := by
    unfold sysTrap; dsimp only
    split
    · exact ⟨true, cx_setCx _ _⟩
    · exact ⟨_, rfl⟩
  intro y
  rw [show y = _ from e, hd]
  exact ⟨rfl, rfl, rfl, rfl, rfl, rfl, rfl, rfl⟩

/-- SYS outside a rerun, at the end of a first one and at the end of a second (R262). -/
theorem exec_sys_plain {s : State} (k : BitVec 12) (hp : (cx s).rerun.phase = 0) : exec (.sys k) s = .next (sysTrap k s) := by
  change execSys k s = _
  unfold execSys; dsimp only
  rw [if_pos hp]
theorem exec_sys_first {s : State} (k : BitVec 12) (hp : (cx s).rerun.phase = 1) :
    exec (.sys k) s = .next (replaced (endRerun s.cur.ctx id s)) := by
  change execSys k s = _
  unfold execSys; dsimp only
  rw [if_neg (by omega), if_pos hp]
theorem exec_sys_second {s : State} (k : BitVec 12) (hp : (cx s).rerun.phase = 2) :
    exec (.sys k) s = .next (endRerun s.cur.ctx (fun s => sysTrap k (setCx s { cx s with rerun := {} })) s) := by
  change execSys k s = _
  unfold execSys; dsimp only
  rw [if_neg (by omega), if_neg (by omega)]

theorem systemCall : Claim.SystemCall := by
  intro s k r agrees
  refine ⟨fun hp hx => ?first, fun hp ha => ?disagrees, fun hp hw => ?delivered⟩
  case first =>
    obtain ⟨hst, hphase, hlen, hsig, hhold⟩ := getCtx_endRerun_first (done := id) hp hx
    have hcx : cx (replaced (endRerun s.cur.ctx id s)) = getCtx (endRerun s.cur.ctx id s) s.cur.ctx := by
      rw [cx_replaced, cx, endRerun_first_cur hp hx]
    refine ⟨_, exec_sys_first k hp, ?_⟩
    rw [hcx]
    exact ⟨hst, hphase, hlen, hsig, hhold, endRerun_mem (fun _ => rfl) _ s⟩
  case disagrees =>
    exact ⟨_, (exec_sys_second k hp).trans (congrArg _ (endRerun_disagrees hp ha)), (retire_retired _ s).1, (retire_retired _ s).2,
      retire_mem _ s⟩
  case delivered =>
    obtain ⟨u, e, hrerun, hwrote, hfollow, hs, hv, hmem⟩ : ∃ u, exec (.sys k) s = .next (sysTrap k u) ∧ (cx u).rerun.phase = 0 ∧
        (cx u).wrote = [] ∧ followAddr u = followAddr s ∧ (cx u).bank.s = (cx s).bank.s ∧ (cx u).v = (cx s).v ∧ u.mem = s.mem := by
      rcases hp with hp | ⟨hp, ha⟩
      · exact ⟨s, exec_sys_plain k hp, hp, hw, rfl, rfl, rfl, rfl⟩
      · refine ⟨_, (exec_sys_second k hp).trans (congrArg _ (endRerun_agrees hp ha)), ?_⟩
        rw [cx_setCx]
        exact ⟨rfl, hw, rfl, rfl, rfl, rfl⟩
    obtain ⟨hr, hst, hpc, htpc, hcause, htval, hks, hkv⟩ := sysTrap_holds k hwrote
    exact ⟨_, e, by rw [hr]; exact hrerun, hst, hpc.trans hfollow, htpc.trans hfollow, hcause, htval, hks.trans hs, hkv.trans hv,
      (sysTrap_mem k u).trans hmem⟩

/-- Settles O12: TRAP and BRK by the ways of a delivery, SYS by the rerun that it may end. -/
theorem programTraps : Obligations.ProgramTraps := ⟨userTrapEntry, breakpointHolds, systemCall⟩

end Sys2Proof.Machine
end

section
/-! SUPPORT. The bank restore: a restore leaves the class that cycles still see of a tier. -/
namespace Sys2Proof.Machine

/-! The tiers at S (R136, R251, R261) -/

/-- A restore that has done its commands, with no bank or tier recorded. -/
def doneRestore : Restore := { banks := [], tiers := [], bref := true, ready := true }

/-- A context whose bank restore is done runs again in a cycle that has yet to see the tick of a change of tier 0's class: cycles
still see class 0 (R252, R296). -/
def unseenClass : State :=
  { setCtx State.reset 0 { st := .running, first := true, restore := some doneRestore } with
    vault := { tiers := [(0, { cls := 1, shown := some 0 })] } }

/-- The class that cycles see of the tier outlasts the restore. -/
theorem shown_atResume_unseenClass : (getTier (atResume 0 unseenClass).vault 0).shown = some 0 := by decide

/-- Refutes O37: BankRestoreEnds gives a tier at S the recorded counts and the live class, and so no class shown, but the class
that cycles still see stays while its change is unseen. -/
theorem not_checkpointsAndErrors : ¬ Obligations.CheckpointsAndErrors := by
  rintro ⟨-, -, hrestore, -⟩
  obtain ⟨-, htiers, -⟩ := (hrestore unseenClass 0 doneRestore rfl).2 rfl rfl
  have hshown := congrArg VTier.shown (htiers 0 (by decide))
  rw [shown_atResume_unseenClass] at hshown
  cases hshown

end Sys2Proof.Machine
end

section
/-! SUPPORT. The replays of the snapshot buffer: one that a result of its cycle overwrites is lost. -/
namespace Sys2Proof.Machine

/-! Replays lost to a result (R91, R131) -/

/-- A snapshot entry of s0 with the value 7. -/
def scalarEntry : SnapEntry := { SnapEntry.blank with cls := 0, data := 7 }

/-- The entry is to be replayed in the cycle in which a result of s0, the value 5, lands. -/
def lostReplay : State :=
  { setCtx State.reset 0 { replayAt := some 0, snap := [scalarEntry] } with
    flight := [{ ctx := 0, land := 0, seq := 0, slot := 0, res := .scalar 0 5, fp := 0, mx := 0 }] }

theorem getCtx_lostReplay_ne {d : CtxId} (h : d ≠ 0) : getCtx lostReplay d = {} :=
  (getCtx_congr (s := setCtx State.reset 0 { replayAt := some 0, snap := [scalarEntry] }) rfl d).trans (getCtx_setCtx_ne State.reset h _)

/-- The replay event drops the entry, as the result of its cycle wins (R91), and leaves s0 as it was. -/
theorem exec_snapshotReplay_lostReplay : ∃ t, exec .snapshotReplay lostReplay = .next t ∧ (getCtx t 0).bank.getS 0 = 0 :=
  ⟨_, rfl, by decide⟩

/-- Refutes O40: ReplayEvent has a due entry written whatever is in flight, but one that a result of its cycle overwrites is lost
(R91). -/
theorem not_landingEvents : ¬ Obligations.LandingEvents := by
  rintro ⟨-, hreplay⟩
  obtain ⟨hdue, -⟩ := hreplay lostReplay 0 scalarEntry 0 (fun d hd => by rw [getCtx_lostReplay_ne hd]) rfl rfl rfl rfl rfl rfl rfl
  obtain ⟨t, ht, -, -, hwritten, -⟩ := hdue (by decide)
  obtain ⟨u, hu, hkept⟩ := exec_snapshotReplay_lostReplay
  cases ht.symm.trans hu
  rw [show BitVec.ofNat 6 scalarEntry.index.toNat = 0 from rfl, hkept] at hwritten
  have hbit := congrArg (BitVec.getLsbD · 0) hwritten
  simp [scalarEntry] at hbit

end Sys2Proof.Machine
end

section
/-! SUPPORT. A machine with power answers a next state: each word and each event, in every branch of its meaning. -/
namespace Sys2Proof.Machine

/-- An answer is a next state. -/
def Answers (a : Answer) : Prop := ∃ t, a = .next t

theorem answers_next (t : State) : Answers (.next t) := ⟨t, rfl⟩
theorem answers_ite {p : Prop} [Decidable p] {a b : Answer} (ha : Answers a) (hb : Answers b) : Answers (if p then a else b) := by
  split
  · exact ha
  · exact hb

/-! Words and events whose form decides what they answer -/

theorem execCkpt_answers (s : State) : Answers (execCkpt s) :=
  answers_ite (answers_next _) (answers_ite (answers_next _) (answers_ite (answers_next _) (answers_ite (answers_next _) (answers_next _))))
theorem execSys_answers (k : BitVec 12) (s : State) : Answers (execSys k s) :=
  answers_ite (answers_next _) (answers_ite (answers_next _) (answers_next _))
theorem popStall_answers (d : BitVec 6) (q : BitVec 2) (s : State) : Answers (popStall d q s) := by
  unfold popStall; split <;> exact answers_next _
theorem popReady_answers (d : BitVec 6) (q : BitVec 2) (p : BitVec 5) (s : State) : Answers (popReady d q p s) := by
  unfold popReady; split <;> exact answers_next _
theorem execVqnt_answers (d v : BitVec 8) (t : Tag) (r : Rm) (s : State) : Answers (execVqnt d v t r s) :=
  answers_ite (answers_next _) (answers_next _)
theorem execMma_answers (d a : BitVec 8) (w : BitVec 2) (g n : Bool) (f : BitVec 2) (m : BitVec 3) (s : State) :
    Answers (execMma d a w g n f m s) := by
  unfold execMma; dsimp only; split
  · exact answers_next _
  · exact answers_ite (answers_next _) (answers_next _)
theorem execMldb_answers (w : BitVec 2) (h : BitVec 4) (s : State) : Answers (execMldb w h s) := by
  unfold execMldb; dsimp only; split <;> exact answers_next _
theorem execMdrn_answers (v : BitVec 8) (b : Bool) (w : BitVec 2) (s : State) : Answers (execMdrn v b w s) := by
  unfold execMdrn; split <;> exact answers_next _
theorem execMprog_answers (a b : BitVec 6) (s : State) : Answers (execMprog a b s) := by
  unfold execMprog; split
  · exact answers_next _
  · split <;> exact answers_next _
theorem execMcall_answers (i : BitVec 6) (s : State) : Answers (execMcall i s) :=
  answers_ite (answers_next _) (answers_ite (answers_next _) (answers_ite (answers_next _) (answers_next _)))
theorem execXput_answers (f : BitVec 3) (a : BitVec 6) (s : State) : Answers (execXput f a s) := by
  unfold execXput; dsimp only; split
  · exact answers_next _
  · exact answers_ite (answers_next _) (answers_next _)
  · exact answers_next _
theorem execXget_answers (d : BitVec 6) (f : BitVec 3) (s : State) : Answers (execXget d f s) := by
  unfold execXget; dsimp only; split
  · exact answers_next _
  · exact answers_ite (answers_next _) (answers_next _)
  · exact answers_next _
theorem execPbar_answers (r : Bool) (k : BitVec 12) (s : State) : Answers (execPbar r k s) := by
  refine answers_ite (answers_next _) ?_
  split <;> exact answers_next _
theorem execTwall_answers (a : BitVec 6) (s : State) : Answers (execTwall a s) := answers_ite (answers_next _) (answers_next _)
theorem execTwany_answers (d a : BitVec 6) (s : State) : Answers (execTwany d a s) := answers_ite (answers_next _) (answers_next _)
theorem execOrecv_answers (a b : BitVec 6) (s : State) : Answers (execOrecv a b s) := answers_ite (answers_next _) (answers_next _)
theorem execGbar_answers (a : BitVec 6) (s : State) : Answers (execGbar a s) := by
  refine answers_ite ?_ (answers_next _)
  split
  · exact answers_ite (answers_next _) (answers_next _)
  · exact answers_next _
theorem execTierClassChange_answers (tier cls : BitVec 2) (s : State) (core : BitVec 11) :
    Answers (execTierClassChange tier cls s core) := answers_ite (answers_next _) (answers_next _)
theorem execPageMoveDone_answers (core : BitVec 11) (idx : BitVec 12) (s : State) (g : Option (BitVec 48 × Dbl)) :
    Answers (execPageMoveDone core idx s g) := by
  unfold execPageMoveDone; split <;> exact answers_next _

/-! All words and events -/

/-- Each word and event answers a next state: those named here in each of their branches, the others at once. -/
theorem exec_answers (i : Instr) (s : State) : Answers (exec i s) := by
  cases i
  case ckpt => exact execCkpt_answers s
  case sys k => exact execSys_answers k s
  case qpopa d q => exact popStall_answers d q s
  case qpop d q => exact popStall_answers d q s
  case qpopaNr d q p => exact popReady_answers d q p s
  case qpopNr d q p => exact popReady_answers d q p s
  case vqnt d v t r => exact execVqnt_answers d v t r s
  case mma d a w g n f m => exact execMma_answers d a w g n f m s
  case mldb w h => exact execMldb_answers w h s
  case mdrn v b w => exact execMdrn_answers v b w s
  case mprog a b => exact execMprog_answers a b s
  case mcall k => exact execMcall_answers k s
  case xput f a => exact execXput_answers f a s
  case xget d f => exact execXget_answers d f s
  case pbar r k => exact execPbar_answers r k s
  case twall a => exact execTwall_answers a s
  case twany d a => exact execTwany_answers d a s
  case orecv a b => exact execOrecv_answers a b s
  case gbar a => exact execGbar_answers a s
  case tierClassChange tier cls core => exact execTierClassChange_answers tier cls s core
  case pageMoveDone core idx g => exact execPageMoveDone_answers core idx s g
  all_goals exact answers_next _

/-- What comes next is an event of the agenda, LOCK or a core cycle, each of which answers. -/
theorem stepNext_answers (s : State) : Answers (stepNext s) := by
  unfold stepNext
  split
  · exact exec_answers _ _
  · exact answers_next _

theorem step_unpowered {s : State} (h : s.pkg.powered = false) : step s = .fault .unpowered := by simp [step, h]

/-- Settles O56: with power, a step is what comes next after the distributor's decision. -/
theorem stepAnswers : Obligations.StepAnswers := fun s =>
  ⟨fun h => step_powered h ▸ stepNext_answers (distributorCycle s), step_unpowered⟩

end Sys2Proof.Machine
end

section
/-! SUPPORT. Class A causes: which of the pending ones stops a bundle, and what its delivery does to the context. -/
namespace Sys2Proof.Machine

/-! The cause that stops a bundle (R117, R118, R125) -/

/-- In a handler only PREEMPT stops a bundle, and outside one it does when no other cause is pending. -/
theorem asyncCause_pre {x : Ctx}
    (h : ¬ (x.bank.inh = false ∧ (x.pend.refo ≠ none ∨ x.pend.late ≠ none ∨ x.pend.miss ≠ none ∨ x.pend.atom ≠ none))) :
    asyncCause x = if x.pend.pre then some (0x34, 0) else none := by
  by_cases hi : x.bank.inh = true
  · simp [asyncCause, hi]
  · have hout := Bool.eq_false_iff.mpr hi
    have hnone : x.pend.refo = none ∧ x.pend.late = none ∧ x.pend.miss = none ∧ x.pend.atom = none := by
      simpa [hout, not_or] using h
    obtain ⟨hr, hl, hm, ha⟩ := hnone
    simp [asyncCause, hout, hr, hl, hm, ha]

/-- The highest cause pending before PREEMPT, with the pending causes that its delivery leaves (R117, R118). -/
def FirstPending (p : Pend) (code : BitVec 8) (v : Dbl) (q : Pend) : Prop :=
  p.refo = some v ∧ code = 0x30 ∧ q = { p with refo := none } ∨
  p.refo = none ∧ p.late = some v ∧ code = 0x31 ∧ q = { p with late := none } ∨
  p.refo = none ∧ p.late = none ∧ p.miss = some v ∧ code = 0x32 ∧ q = { p with miss := none } ∨
  p.refo = none ∧ p.late = none ∧ p.miss = none ∧ p.atom = some v ∧ code = 0x33 ∧ q = { p with atom := none }

/-- Outside a handler that cause stops the bundle. -/
theorem asyncCause_first {x : Ctx} {code : BitVec 8} {v : Dbl} {q : Pend} (hi : x.bank.inh = false)
    (h : FirstPending x.pend code v q) : asyncCause x = some (code, v) := by
  rcases h with ⟨hr, rfl, -⟩ | ⟨hr, hl, rfl, -⟩ | ⟨hr, hl, hm, rfl, -⟩ | ⟨hr, hl, hm, ha, rfl, -⟩
  all_goals simp [asyncCause, *]

/-- Its pending bit alone clears, and its destination is the supervisor, but that of ATOMIC_UNSUP is the handler. -/
theorem FirstPending.cleared {p q : Pend} {code : BitVec 8} {v : Dbl} (h : FirstPending p code v q) :
    clearPend code p = q ∧ code ≠ 0x34 ∧ toSupervisor code = (code != 0x33) := by
  rcases h with ⟨-, rfl, rfl⟩ | ⟨-, -, rfl, rfl⟩ | ⟨-, -, -, rfl, rfl⟩ | ⟨-, -, -, -, rfl, rfl⟩
  all_goals exact ⟨rfl, by decide, by decide⟩

/-! Its delivery -/

/-- The state in which a class A cause is delivered: its pending bit is clear. -/
def unpended (s : State) (c : CtxId) (code : BitVec 8) : State :=
  setCtx s c { getCtx s c with pend := clearPend code (getCtx s c).pend }

/-- A bundle boundary of a context in a slot that nothing holds back (R118, R141). -/
def AtBoundary (s : State) (c : CtxId) : Prop :=
  ((getCtx s c).st = .running ∨ (getCtx s c).st = .blocked) ∧ (getCtx s c).slot ≠ none ∧ timeOk s (getCtx s c) = true ∧
    s.retired = false

theorem stopAsync_boundary {s : State} {c : CtxId} (h : AtBoundary s c) {code : BitVec 8} {v : Dbl}
    (hc : asyncCause (getCtx s c) = some (code, v)) :
    stopAsync s c = if code = 0x34 then deliverPreempt (unpended s c code) c (getCtx s c).bank.pc s.cycle
      else deliver (unpended s c code) c code v (getCtx s c).bank.pc s.cycle := by
  obtain ⟨hst, hslot, htime, hret⟩ := h
  have hslot' : (getCtx s c).slot.isNone = false := Option.isNone_eq_false_iff.mpr (Option.isSome_iff_ne_none.mpr hslot)
  have hst' : ((getCtx s c).st == .running || (getCtx s c).st == .blocked) = true := by simpa using hst
  simp only [stopAsync, hst', hslot', htime, hret, hc]
  rfl

theorem stopAsync_none {s : State} {c : CtxId} (hc : asyncCause (getCtx s c) = none) : stopAsync s c = s := by
  unfold stopAsync; dsimp only
  rw [hc]
  exact ite_self s

/-! A delivery in whose cycle an MTC may write a trap register (R112, R120) -/

/-- A context whose results in flight have been captured, with what the trap registers then hold. -/
def caughtCtx (x : Ctx) (tpc tcause tval : Dbl) (l : List SnapEntry) : Ctx :=
  { x with snap := l, replayAt := none, bank := { x.bank with tpc := tpc, tcause := tcause, tval := tval } }

theorem trapRegs_caught (w : List (BitVec 6)) (x : Ctx) (code : BitVec 8) (tval a : Dbl) :
    ∃ p q u, (∀ l, { trapRegs w x code tval a with snap := l, replayAt := none } = caughtCtx x p q u l) ∧
      (w = [] → p = a ∧ q = code.setWidth 64 ∧ u = tval) := by
  refine ⟨if w.contains 0x02 then x.bank.tpc else a, if w.contains 0x03 then x.bank.tcause else code.setWidth 64,
    if w.contains 0x04 then x.bank.tval else tval, fun l => ?_, fun h => by subst h; exact ⟨rfl, rfl, rfl⟩⟩
  unfold trapRegs
  split_ifs <;> rfl

section
variable {s : State} {c : CtxId} {code : BitVec 8} {tval a : Dbl} {n : Nat} {z : Ctx}

theorem getCtx_atTrap_caught : ∃ p q u l, getCtx (atTrap s c code tval a n z) c = caughtCtx (getCtx s c) p q u l ∧
    (z.wrote = [] → p = a ∧ q = code.setWidth 64 ∧ u = tval) := by
  obtain ⟨p, q, u, he, hw⟩ := trapRegs_caught z.wrote (getCtx s c) code tval a
  obtain ⟨l, hl⟩ := getCtx_capture_self (setCtx (freeze s c code tval) c (trapRegs z.wrote (getCtx s c) code tval a)) c n z.v
  rw [getCtx_setCtx_self] at hl
  exact ⟨p, q, u, l, hl.trans (he l), hw⟩

theorem codeCause_caught (h : Dbl) :
    codeCause (atTrap s c code tval a n z) (getCtx (atTrap s c code tval a n z) c).plan h = codeCause s (getCtx s c).plan h := by
  obtain ⟨p, q, u, l, hl, -⟩ := getCtx_atTrap_caught (s := s) (c := c) (code := code) (tval := tval) (a := a) (n := n) (z := z)
  rw [hl]
  exact codeCause_congr atTrap_segs _ h

/-- To the supervisor: HELD. -/
theorem getCtx_deliver_held (hi : (getCtx s c).bank.inh = false) (hs : toSupervisor code = true) :
    ∃ h, getCtx (deliver s c code tval a n z) c = heldCtx (getCtx (atTrap s c code tval a n z) c) a h := by
  rw [deliver_supervisor (.inl hi) hs, getCtx_holdAt_self]
  exact ⟨_, rfl⟩

/-- Without a handler to go to: NEST, NCAUSE and HELD (R125). -/
theorem getCtx_deliver_nested (hi : (getCtx s c).bank.inh = false) (hs : toSupervisor code = false) {why : BitVec 8}
    (hw : z.bank.thand = 0 ∧ why = code ∨ z.bank.thand ≠ 0 ∧ codeCause s (getCtx s c).plan z.bank.thand = some why) :
    ∃ h, getCtx (deliver s c code tval a n z) c = heldCtx (nestedCtx (getCtx (atTrap s c code tval a n z) c) why) a h := by
  have he : deliver s c code tval a n z = escalate (atTrap s c code tval a n z) c why a := by
    rcases hw with ⟨h0, rfl⟩ | ⟨h0, hc⟩
    · exact deliver_noHandler hi hs h0
    · unfold deliver; dsimp only
      rw [if_neg (not_escalated (.inl hi)), if_neg (Bool.eq_false_iff.mp hs), if_neg h0, ← atTrap, codeCause_caught, hc]
  rw [he, getCtx_escalate_self]
  exact ⟨_, rfl⟩

/-- To the handler: INH and its address (R124). -/
theorem getCtx_deliver_entered (hi : (getCtx s c).bank.inh = false) (hs : toSupervisor code = false) (h0 : z.bank.thand ≠ 0)
    (hc : codeCause s (getCtx s c).plan z.bank.thand = none) :
    getCtx (deliver s c code tval a n z) c = handlerCtx (getCtx (atTrap s c code tval a n z) c) z.bank.thand n := by
  unfold deliver; dsimp only
  rw [if_neg (not_escalated (.inl hi)), if_neg (Bool.eq_false_iff.mp hs), if_neg h0, ← atTrap, codeCause_caught, hc]
  exact getCtx_setCtx_self _ c _

/-- What a delivery outside a handler leaves of the context, wherever it goes: the causes still pending, the trap registers as
written, and the register files. -/
theorem getCtx_deliver_frame (hi : (getCtx s c).bank.inh = false) :
    let y := getCtx (deliver s c code tval a n z) c
    let x := getCtx s c
    y.pend = x.pend ∧ (z.wrote = [] → y.bank.tpc = a ∧ y.bank.tcause = code.setWidth 64 ∧ y.bank.tval = tval) ∧
      y.bank.s = x.bank.s ∧ y.bank.k = x.bank.k ∧ y.v = x.v := by
  intro y x
  obtain ⟨p, q, u, l, hl, hw⟩ := getCtx_atTrap_caught (s := s) (c := c) (code := code) (tval := tval) (a := a) (n := n) (z := z)
  by_cases hs : toSupervisor code = true
  · obtain ⟨h, hy⟩ := getCtx_deliver_held (tval := tval) (a := a) (n := n) (z := z) hi hs
    rw [show y = _ from hy, hl]
    exact ⟨rfl, hw, rfl, rfl, rfl⟩
  · have hs := Bool.eq_false_iff.mpr hs
    by_cases ht : z.bank.thand ≠ 0 ∧ codeCause s (getCtx s c).plan z.bank.thand = none
    · rw [show y = _ from getCtx_deliver_entered hi hs ht.1 ht.2, hl]
      exact ⟨rfl, hw, rfl, rfl, rfl⟩
    · obtain ⟨why, hwhy⟩ := noHandler_why code ht
      obtain ⟨h, hy⟩ := getCtx_deliver_nested (tval := tval) (a := a) (n := n) hi hs hwhy
      rw [show y = _ from hy, hl]
      exact ⟨rfl, hw, rfl, rfl, rfl⟩

end

/-- The fields that say where a context goes on. -/
theorem heldCtx_place (x : Ctx) (a : Dbl) (h : HeldBanks) : (heldCtx x a h).st = .held ∧ (heldCtx x a h).bank.pc = a := ⟨rfl, rfl⟩
theorem heldCtx_nestedCtx_place (x : Ctx) (k : BitVec 8) (a : Dbl) (h : HeldBanks) :
    (heldCtx (nestedCtx x k) a h).st = .held ∧ (heldCtx (nestedCtx x k) a h).bank.nest = true ∧
      (heldCtx (nestedCtx x k) a h).bank.ncause = k := ⟨rfl, rfl, rfl⟩
theorem handlerCtx_place (x : Ctx) (a : Dbl) (n : Nat) :
    (handlerCtx x a n).st = .running ∧ (handlerCtx x a n).bank.pc = a ∧ (handlerCtx x a n).bank.inh = true ∧
      (handlerCtx x a n).hold = n + 3 := ⟨rfl, rfl, rfl, rfl⟩

/-! PREEMPT (R120, R126, R133) -/

/-- A context that PREEMPT holds. -/
def preemptedCtx (x : Ctx) (d : Nat) (l : List SnapEntry) (a : Dbl) (h : HeldBanks) : Ctx :=
  { heldCtx { x with delay := d, snap := l, replayAt := none } a h with preHeld := true }

theorem holdPre_mem (s : State) (c : CtxId) (a : Dbl) : (holdPre s c a).mem = s.mem := rfl
theorem getCtx_holdPre (s : State) (c : CtxId) (a : Dbl) :
    getCtx (holdPre s c a) c = { heldCtx (getCtx s c) a (some (s.vault.banks, s.vault.tiers)) with preHeld := true } := by
  rw [holdPre, getCtx_setCtx_self, getCtx_holdAt_self]

theorem deliverPreempt_mem (s : State) (c : CtxId) (a : Dbl) (t : Nat) : (deliverPreempt s c a t).mem = s.mem := by
  rw [deliverPreempt, holdPre_mem, capture_mem, setCtx_mem]

/-- PREEMPT holds the context and writes no trap register. -/
theorem getCtx_deliverPreempt (s : State) (c : CtxId) (a : Dbl) (t : Nat) :
    ∃ d l h, getCtx (deliverPreempt s c a t) c = preemptedCtx (getCtx s c) d l a h := by
  obtain ⟨l, hl⟩ := getCtx_capture_self (setCtx s c { getCtx s c with delay := t - (getCtx s c).delay }) c t (getCtx s c).v
  rw [getCtx_setCtx_self] at hl
  rw [deliverPreempt, getCtx_holdPre, hl]
  exact ⟨t - (getCtx s c).delay, l, _, rfl⟩

/-! ASYNC_CAUSE_DELIVER -/

theorem exec_asyncCauseDeliver (s : State) (c : CtxId) : exec (.asyncCauseDeliver c) s = .next (stopAsync s c) := rfl

/-- PREEMPT at a boundary: HELD with its pending bit clear, the bank as it was. -/
theorem stopAsync_preempt {s : State} {c : CtxId} (h : AtBoundary s c) (hc : asyncCause (getCtx s c) = some (0x34, 0)) :
    (getCtx (stopAsync s c) c).st = .held ∧ (getCtx (stopAsync s c) c).pend = { (getCtx s c).pend with pre := false } ∧
      (getCtx (stopAsync s c) c).bank = (getCtx s c).bank ∧ (stopAsync s c).mem = s.mem := by
  rw [stopAsync_boundary h hc, if_pos rfl]
  obtain ⟨d, l, k, hy⟩ := getCtx_deliverPreempt (unpended s c 0x34) c (getCtx s c).bank.pc s.cycle
  have hx : getCtx (unpended s c 0x34) c = { getCtx s c with pend := { (getCtx s c).pend with pre := false } } :=
    getCtx_setCtx_self s c _
  rw [hy, hx, deliverPreempt_mem]
  exact ⟨rfl, rfl, rfl, rfl⟩

/-- The state of a delivery outside a handler: what it leaves of the context, and where it goes on. -/
theorem stopAsync_first {s : State} {c : CtxId} (hb : AtBoundary s c) {code : BitVec 8} {v : Dbl} {q : Pend}
    (hi : (getCtx s c).bank.inh = false) (hfirst : FirstPending (getCtx s c).pend code v q) :
    getCtx (unpended s c code) c = { getCtx s c with pend := q } ∧
      stopAsync s c = deliver (unpended s c code) c code v (getCtx s c).bank.pc s.cycle := by
  obtain ⟨hq, h34, -⟩ := hfirst.cleared
  refine ⟨hq ▸ getCtx_setCtx_self s c _, ?_⟩
  rw [stopAsync_boundary hb (asyncCause_first hi hfirst), if_neg h34]

theorem asyncCauseDelivered : Claim.AsyncCauseDelivered := by
  intro s c x p others hst hslot htime hret
  have hb : AtBoundary s c := ⟨hst, hslot, htime, hret⟩
  refine ⟨fun code v q hi hfirst => ?first, fun hno hpre => ?preempt, fun hno hpre => ?none⟩
  case first =>
    obtain ⟨hx, ht⟩ := stopAsync_first hb hi hfirst
    obtain ⟨-, -, hs⟩ := FirstPending.cleared hfirst
    have hi' : (getCtx (unpended s c code) c).bank.inh = false := hx ▸ hi
    have hthand : (getCtx (unpended s c code) c).bank.thand = x.bank.thand := by rw [hx]
    have hcode : codeCause (unpended s c code) (getCtx (unpended s c code) c).plan (getCtx (unpended s c code) c).bank.thand =
        codeCause s x.plan x.bank.thand := by rw [hx]; exact codeCause_congr rfl _ _
    obtain ⟨hpend, htrap, hS, hK, hV⟩ := getCtx_deliver_frame (code := code) (tval := v) (a := x.bank.pc) (n := s.cycle)
      (z := getCtx (unpended s c code) c) hi'
    refine ⟨_, exec_asyncCauseDeliver s c, ?_⟩
    rw [ht]
    refine ⟨hpend.trans (by rw [hx]), deliver_mem _ _ _ _ _ _ _, fun h33 => ?supervisor, fun h33 h0 hc => ?handler,
      fun h33 h0 => ?noHandler, fun bad h33 h0 hc => ?badHandler, fun hw => htrap (by rw [hx]; exact hw), hS.trans (by rw [hx]),
      hK.trans (by rw [hx]), hV.trans (by rw [hx])⟩
    case supervisor =>
      obtain ⟨h, hy⟩ := getCtx_deliver_held (tval := v) (a := x.bank.pc) (n := s.cycle) (z := getCtx (unpended s c code) c) hi'
        (hs.trans (bne_iff_ne.mpr h33))
      rw [hy]
      exact heldCtx_place _ _ _
    all_goals subst h33
    case handler =>
      rw [getCtx_deliver_entered hi' hs (hthand ▸ h0) (hcode.trans hc), hthand]
      exact handlerCtx_place _ _ _
    case noHandler =>
      obtain ⟨h, hy⟩ := getCtx_deliver_nested (tval := v) (a := x.bank.pc) (n := s.cycle) hi' hs (.inl ⟨hthand.trans h0, rfl⟩)
      rw [hy]
      exact heldCtx_nestedCtx_place _ _ _ _
    case badHandler =>
      obtain ⟨h, hy⟩ := getCtx_deliver_nested (tval := v) (a := x.bank.pc) (n := s.cycle) hi' hs
        (.inr ⟨hthand ▸ h0, hcode.trans hc⟩)
      rw [hy]
      exact heldCtx_nestedCtx_place _ _ _ _
  case preempt =>
    obtain ⟨hheld, hpend, hbank, hmem⟩ := stopAsync_preempt hb ((asyncCause_pre hno).trans (if_pos hpre))
    exact ⟨_, exec_asyncCauseDeliver s c, hheld, hpend, hbank, hmem⟩
  case none =>
    rw [exec_asyncCauseDeliver, stopAsync_none ((asyncCause_pre hno).trans (if_neg (Bool.eq_false_iff.mp hpre)))]

/-- The claim of a running context is that of a delivery, for TIMING_MISS and for what INH leaves pending. -/
theorem asyncCauseStops : Claim.AsyncCauseStops := by
  intro s c x hst hslot htime hret hw
  obtain ⟨hfirst, hpreempt, hnone⟩ := asyncCauseDelivered s c (.inl hst) hslot htime hret
  have hinh : ∀ {P : Prop}, x.bank.inh = true → ¬ (x.bank.inh = false ∧ P) := fun hi h => by simp [hi] at h
  refine ⟨fun v hi hr hl hm => ?miss, fun hpre hi => ?preempt, fun hpre hi => hnone (hinh hi) hpre⟩
  case miss =>
    obtain ⟨t, ht, hq, hmem, -, -, -, -, htrap, -⟩ := hfirst 0x32 v _ hi (.inr (.inr (.inl ⟨hr, hl, hm, rfl, rfl⟩)))
    obtain ⟨htpc, htcause, htval⟩ := htrap hw
    exact ⟨t, ht, by rw [hq], htcause, htval, htpc, hmem⟩
  case preempt =>
    obtain ⟨t, ht, hheld, hq, hbank, hmem⟩ := hpreempt (hinh hi) hpre
    exact ⟨t, ht, hheld, by rw [hq], by rw [hq], hbank, hmem⟩

/-- Settles O14: the cause that stops the bundle, and its delivery to the handler, to the supervisor or with neither to go to. -/
theorem asynchronousCauses : Obligations.AsynchronousCauses := ⟨asyncCauseDelivered, asyncCauseStops⟩

end Sys2Proof.Machine
end

section
/-! SUPPORT. The launch agent: what a change of STATE leaves alone, records, dependences, the distributor's choice, the start and
the end of a launch. -/
namespace Sys2Proof.Machine

/-! Changes of STATE (R394, R395) -/

/-- A change of STATE writes the table of launches, and the completion part to memory or to what waits for the link. -/
theorem moveLaunch_eq (k : Nat) (l : Launch) (s : State) :
    ∃ o m, moveLaunch k l s =
      { s with launches := SMap.put s.launches k l, pkg := { s.pkg with hostOut := o }, mem := m } := by
  unfold moveLaunch; dsimp only
  split
  · split
    · exact ⟨_, _, rfl⟩
    · exact ⟨s.pkg.hostOut, _, rfl⟩
  · exact ⟨s.pkg.hostOut, s.mem, rfl⟩

theorem moveLaunch_lastSeq (k : Nat) (l : Launch) (s : State) : (moveLaunch k l s).lastSeq = s.lastSeq := by
  obtain ⟨o, m, h⟩ := moveLaunch_eq k l s; rw [h]
theorem moveLaunch_ctxs (k : Nat) (l : Launch) (s : State) : (moveLaunch k l s).ctxs = s.ctxs := by
  obtain ⟨o, m, h⟩ := moveLaunch_eq k l s; rw [h]
theorem moveLaunch_images (k : Nat) (l : Launch) (s : State) : (moveLaunch k l s).images = s.images := by
  obtain ⟨o, m, h⟩ := moveLaunch_eq k l s; rw [h]
theorem moveLaunch_plans (k : Nat) (l : Launch) (s : State) : (moveLaunch k l s).plans = s.plans := by
  obtain ⟨o, m, h⟩ := moveLaunch_eq k l s; rw [h]
theorem moveLaunch_codeSize (k : Nat) (l : Launch) (s : State) : (moveLaunch k l s).codeSize = s.codeSize := by
  obtain ⟨o, m, h⟩ := moveLaunch_eq k l s; rw [h]
theorem moveLaunch_pass (k : Nat) (l : Launch) (s : State) : (moveLaunch k l s).pkg.pass = s.pkg.pass := by
  obtain ⟨o, m, h⟩ := moveLaunch_eq k l s; rw [h]
/-- Without a window no completion part is written (R392). -/
theorem moveLaunch_mem_unregistered {s : State} (h : s.pkg.window = none) (k : Nat) (l : Launch) :
    (moveLaunch k l s).mem = s.mem := by
  simp [moveLaunch, slotKey, h]

theorem getLaunch_congr {s t : State} (h : t.launches = s.launches) (k : Nat) : getLaunch t k = getLaunch s k := by
  unfold getLaunch; rw [h]

/-- A CANCEL that was not seen while a launch was PLACING changes nothing when it leaves PLACING (R395). -/
theorem applyCancel_uncancelled {s : State} {k : Nat} {l : Launch} (h : getLaunch s k = some l) (hc : l.cancel = false) :
    applyCancel k s = s := by
  simp [applyCancel, h, hc]

/-! The record of a slot (R392, R393, R397) -/

/-- The agent looks at SEQ of a slot and finds it changed (R392, R393, R427). -/
def SeqChanged (s : State) (k : BitVec 8) : Prop :=
  s.pkg.boot = 0xFF ∧ s.pkg.inReset = false ∧ s.pkg.ebpinDown = false ∧
    SMap.get 0 s.pkg.seen k.toNat ≠ recField (slotBytes s k.toNat) 0 8
/-- The SEQ of a slot is the one at which the agent last looked. -/
def noteSeq (s : State) (k : BitVec 8) : State :=
  { s with pkg := { s.pkg with seen := SMap.set 0 s.pkg.seen k.toNat (recField (slotBytes s k.toNat) 0 8) } }

theorem exec_launchRecordTake_unchanged {s : State} {k : BitVec 8} (h : ¬ SeqChanged s k) : exec (.launchRecordTake k) s = .next s := by
  refine congrArg Host.Outcome.next (if_pos ?_)
  by_contra hc
  exact h (by simpa [SeqChanged, not_or, and_assoc] using hc)
theorem exec_launchRecordTake_changed {s : State} {k : BitVec 8} (h : SeqChanged s k) : exec (.launchRecordTake k) s =
    .next (if recField (slotBytes s k.toNat) 0 8 = 0 || slotCseq s k.toNat = recField (slotBytes s k.toNat) 0 8 then noteSeq s k
      else if slotLive s k.toNat then overrun k.toNat (recField (slotBytes s k.toNat) 0 8) (noteSeq s k)
      else takeRecord k.toNat (slotBytes s k.toNat) (noteSeq s k)) := by
  obtain ⟨hboot, hreset, hlink, hseq⟩ := h
  exact congrArg Host.Outcome.next (if_neg (by simp [hboot, hreset, hlink, hseq]))

/-- A SEQ that is new to its slot is an overrun of a launch that has not ended, and is taken otherwise. -/
theorem exec_launchRecordTake_new {s : State} {k : BitVec 8} (h : SeqChanged s k) (h0 : recField (slotBytes s k.toNat) 0 8 ≠ 0)
    (hc : slotCseq s k.toNat ≠ recField (slotBytes s k.toNat) 0 8) : exec (.launchRecordTake k) s =
    .next (if slotLive s k.toNat then overrun k.toNat (recField (slotBytes s k.toNat) 0 8) (noteSeq s k)
      else takeRecord k.toNat (slotBytes s k.toNat) (noteSeq s k)) := by
  rw [exec_launchRecordTake_changed h, if_neg (by simp [h0, hc])]

theorem takeRecord_valid {s : State} {bs : List Byte} (h : recordFault s bs = none) (k : Nat) :
    (takeRecord k bs s).lastSeq = max s.lastSeq (recField bs 0 8) ∧ (takeRecord k bs s).ctxs = s.ctxs ∧
      ∃ l, getLaunch (takeRecord k bs s) k = some l ∧ l.seq = recField bs 0 8 ∧ l.st = .waiting := by
  unfold takeRecord; dsimp only
  rw [h]
  exact ⟨moveLaunch_lastSeq _ _ _, moveLaunch_ctxs _ _ _, _, getLaunch_moveLaunch _ _ _, rfl, rfl⟩
theorem takeRecord_faulty {s : State} {bs : List Byte} {st : LaunchStatus} (h : recordFault s bs = some st) (k : Nat) :
    ∃ l u, takeRecord k bs s = endLaunch k l st u ∧ l.seq = recField bs 0 8 := by
  unfold takeRecord; dsimp only
  rw [h]
  exact ⟨_, _, rfl, rfl⟩

/-- The record of a die's black box that is changed. -/
theorem boxOf_mapBox_self (d : Nat) (f : BlackBox → BlackBox) (s : State) : boxOf (mapBox d f s) d = f (boxOf s d) := by
  by_cases h : d = s.myDie
  · have hbox : (mapBox d f s).blackBox = f s.blackBox := if_pos h
    rw [boxOf, if_pos (show d = (mapBox d f s).myDie from h), hbox, boxOf, if_pos h]
  · have hboxes : (mapBox d f s).boxes = SMap.put s.boxes d (f (boxOf s d)) := if_neg h
    rw [boxOf, if_neg (show ¬ d = (mapBox d f s).myDie from h), hboxes, SMap.get_put, if_pos rfl]

theorem overrun_launches (k q : Nat) (s : State) : (overrun k q s).launches = s.launches := rfl
theorem overrun_mem (k q : Nat) (s : State) : (overrun k q s).mem = s.mem := rfl

/-- An overrun sets the bit of its slot in the record of die 0 (R393; log 17). -/
theorem overrun_bit (k : BitVec 8) (q : Nat) (s : State) : (boxOf (overrun k.toNat q s) 0).overrun.getLsbD k.toNat = true := by
  have hsame : (boxOf (overrun k.toNat q s) 0).overrun = (boxOf s 0).overrun ||| (1#256 <<< k.toNat) := by
    unfold overrun blackBox
    rw [show ((0 : BitVec 11).toNat / 160) = 0 from rfl, boxOf_mapBox_self, boxOf_mapBox_self]
    rfl
  rw [hsame, BitVec.getLsbD_or]
  simp [k.isLt]

/-! CANCEL (R393, R395) -/

theorem exec_launchCancel_unseen {s : State} {k : BitVec 8} {l : Launch} (hl : getLaunch s k.toNat = some l)
    (hc : cancelSeen s k.toNat l = false) : exec (.launchCancel k) s = .next s := by
  change execLaunchCancel k s = _
  simp [execLaunchCancel, hl, hc]
theorem exec_launchCancel_placing {s : State} {k : BitVec 8} {l : Launch} (hl : getLaunch s k.toNat = some l)
    (hc : cancelSeen s k.toNat l = true) (hst : l.st = .placing) :
    exec (.launchCancel k) s = .next { s with launches := SMap.put s.launches k.toNat { l with cancel := true } } := by
  change execLaunchCancel k s = _
  simp [execLaunchCancel, hl, hc, hst]
theorem exec_launchCancel_ends {s : State} {k : BitVec 8} {l : Launch} (hl : getLaunch s k.toNat = some l)
    (hc : cancelSeen s k.toNat l = true) (hne : l.st ≠ .ended) (hnp : l.st ≠ .placing) :
    exec (.launchCancel k) s = .next (endLaunch k.toNat l statusCancelled s) := by
  change execLaunchCancel k s = _
  simp [execLaunchCancel, hl, hc, hne, hnp]

theorem launchRecords : Claim.LaunchRecords := by
  intro s k bs q looks
  refine ⟨fun h h0 hc hlive hok => ?valid, fun st h h0 hc hlive hbad => ?faulty, fun h h0 hc hlive => ?overrun, fun h hq => ?known,
    exec_launchRecordTake_unchanged, fun l hl hc hne hnp => ?cancelled, fun l hl hc hst => ?remembered,
    fun l hl hc => exec_launchCancel_unseen hl hc⟩
  case valid =>
    refine ⟨_, exec_launchRecordTake_new h h0 hc, ?_⟩
    rw [hlive, if_neg Bool.false_ne_true]
    exact takeRecord_valid (s := noteSeq s k) hok k.toNat
  case faulty =>
    obtain ⟨l, u, ht, hseq⟩ := takeRecord_faulty (s := noteSeq s k) hbad k.toNat
    obtain ⟨m, hm, hmseq, hst, hstatus⟩ := getLaunch_endLaunch k.toNat l st u
    refine ⟨_, exec_launchRecordTake_new h h0 hc, ?_⟩
    rw [hlive, if_neg Bool.false_ne_true, ht]
    exact ⟨m, hm, hmseq.trans hseq, hst, hstatus⟩
  case overrun =>
    refine ⟨_, exec_launchRecordTake_new h h0 hc, ?_⟩
    rw [hlive, if_pos rfl]
    exact ⟨overrun_bit k _ _, overrun_launches _ _ (noteSeq s k), overrun_mem _ _ (noteSeq s k)⟩
  case known =>
    rw [exec_launchRecordTake_changed h, if_pos (by simpa using hq)]
    rfl
  case cancelled =>
    exact ⟨_, exec_launchCancel_ends hl hc hne hnp, getLaunch_endLaunch k.toNat l statusCancelled s⟩
  case remembered =>
    exact ⟨_, exec_launchCancel_placing hl hc hst, getLaunch_put s k.toNat _, rfl, rfl⟩

/-! Dependences and images (R395, R396, R399) -/

/-- A stored image whose address and length are those of the record is the launch's (R399). -/
theorem storeImage_stored {s : State} {l : Launch} {im : Image} (hf : s.images.find? (fun p => p.1 == l.version) = some (l.version, im))
    (ha : im.addr = l.imgAddr) (hn : im.len = l.imgLen) : storeImage l s = (s, none) := by
  simp [storeImage, hf, ha, hn, failWhen]

section
variable {s : State} {k : BitVec 8} {l : Launch}

theorem exec_launchDepsMet_cancelled (hl : getLaunch s k.toNat = some l) (hst : l.st = .waiting)
    (hc : cancelSeen s k.toNat l = true) : exec (.launchDepsMet k) s = .next (endLaunch k.toNat l statusCancelled s) := by
  change execLaunchDepsMet k s = _
  simp [execLaunchDepsMet, hl, hst, hc]
theorem exec_launchDepsMet_failed (hl : getLaunch s k.toNat = some l) (hst : l.st = .waiting)
    (hc : cancelSeen s k.toNat l = false) {st : LaunchStatus} (hd : depFailed l = some st) :
    exec (.launchDepsMet k) s = .next (endLaunch k.toNat l st s) := by
  change execLaunchDepsMet k s = _
  simp [execLaunchDepsMet, hl, hst, hc, hd]
theorem exec_launchDepsMet_waits (hl : getLaunch s k.toNat = some l) (hst : l.st = .waiting)
    (hc : cancelSeen s k.toNat l = false) (hd : depFailed l = none) (he : depsEnded l = false) :
    exec (.launchDepsMet k) s = .next s := by
  change execLaunchDepsMet k s = _
  simp [execLaunchDepsMet, hl, hst, hc, hd, he]

/-- A WAITING launch once it is QUEUED (R395). -/
def queuedLaunch (s : State) (l : Launch) : Launch := { l with st := .queued, since := tickNow s }

theorem exec_launchDepsMet_queued (hl : getLaunch s k.toNat = some l) (hst : l.st = .waiting)
    (hc : cancelSeen s k.toNat l = false) (hd : depFailed l = none) (he : depsEnded l = true) {im : Image}
    (hf : s.images.find? (fun p => p.1 == l.version) = some (l.version, im)) (ha : im.addr = l.imgAddr) (hn : im.len = l.imgLen) :
    let u := moveLaunch k.toNat (queuedLaunch s l) s
    exec (.launchDepsMet k) s = .next { u with pkg := { u.pkg with pass := true } } := by
  intro u
  have hstore : storeImage { l with st := .queued, since := tickNow s }
      (moveLaunch k.toNat { l with st := .queued, since := tickNow s } s) = (u, none) :=
    storeImage_stored ((congrArg (List.find? _) (moveLaunch_images _ _ s)).trans hf) ha hn
  have hany : s.images.any (fun p => p.1 == l.version) = true :=
    List.any_eq_true.mpr ⟨_, List.mem_of_find?_eq_some hf, beq_self_eq_true _⟩
  change execLaunchDepsMet k s = _
  simp only [execLaunchDepsMet, hl, hst, hc, hd, he, hany, ne_eq, not_true_eq_false, if_false, Bool.false_eq_true, Bool.not_true,
    Bool.and_false, Bool.or_false, hstore]

end

theorem launchDependences : Claim.LaunchDependences := by
  intro s k l hl hst
  refine ⟨fun hc => ⟨_, exec_launchDepsMet_cancelled hl hst hc, getLaunch_endLaunch _ _ _ _⟩, exec_launchDepsMet_waits hl hst,
    fun im hc hd he hf ha hn => ?queued, fun st hc hd => ⟨_, exec_launchDepsMet_failed hl hst hc hd, getLaunch_endLaunch _ _ _ _⟩⟩
  case queued =>
    exact ⟨_, exec_launchDepsMet_queued hl hst hc hd he hf ha hn, moveLaunch_images _ _ s, rfl, queuedLaunch s l,
      getLaunch_moveLaunch _ _ s, rfl⟩

/-! The distributor (R402, R403) -/

theorem distribute_decided {s : State} (h : s.pkg.pass = false) (n : Nat) : distribute n s = s := by
  cases n <;> simp [distribute, h]
theorem distributorCycle_due {s : State} (h : s.pkg.pass = true) :
    distributorCycle s = distribute s.launches.length (distributorPass s) := by
  simp [distributorCycle, distribute, h]

/-- The distributor's pass begins: what calls for it is done. -/
def passBegun (s : State) : State := { s with pkg := { s.pkg with pass := false } }

theorem bestOf_passBegun (s : State) (l : Launch) (cs : List (List Nat)) : bestOf (passBegun s) l cs = bestOf s l cs := by
  induction cs with
  | nil => rfl
  | cons c t ih => unfold bestOf; rw [ih]; rfl
theorem findPlace_passBegun (s : State) (l : Launch) (im : Image) (shut : List Nat) :
    findPlace (passBegun s) (holding (passBegun s)) l im shut = findPlace s (holding s) l im shut := by
  unfold findPlace; dsimp only
  rw [bestOf_passBegun]
  rfl

theorem wakeCluster_launches (s : State) (c : Nat) : (wakeCluster c s).launches = s.launches := by unfold wakeCluster; split <;> rfl
theorem wakeCluster_pass (s : State) (c : Nat) : (wakeCluster c s).pkg.pass = s.pkg.pass := by unfold wakeCluster; split <;> rfl
theorem wakeDie_launches (s : State) (d : Nat) : (wakeDie d s).launches = s.launches := by unfold wakeDie; split <;> rfl
theorem wakeDie_pass (s : State) (d : Nat) : (wakeDie d s).pkg.pass = s.pkg.pass := by unfold wakeDie; split <;> rfl
theorem wakeFor_launches (cls : List Nat) (s : State) : (wakeFor cls s).launches = s.launches :=
  foldl_keeps (π := State.launches) (fun s c => by rw [wakeCluster_launches, wakeDie_launches]) _ s
theorem wakeFor_pass (cls : List Nat) (s : State) : (wakeFor cls s).pkg.pass = s.pkg.pass :=
  foldl_keeps (π := fun s => s.pkg.pass) (fun s c => by rw [wakeCluster_pass, wakeDie_pass]) _ s

/-- A launch that is placed is PLACING on its clusters, and calls for no new decision (R395, R402). -/
theorem getLaunch_placeLaunch (k : Nat) (l : Launch) (im : Image) (cls : List Nat) (s : State) :
    ∃ m, getLaunch (placeLaunch k l im cls s) k = some m ∧ m.st = .placing ∧ m.clusters = cls := by
  unfold placeLaunch; dsimp only
  rw [getLaunch_congr (wakeFor_launches _ _), getLaunch_moveLaunch]
  exact ⟨_, rfl, rfl, rfl⟩
theorem placeLaunch_pass (k : Nat) (l : Launch) (im : Image) (cls : List Nat) (s : State) :
    (placeLaunch k l im cls s).pkg.pass = s.pkg.pass := by
  unfold placeLaunch; dsimp only
  rw [wakeFor_pass, moveLaunch_pass]

/-- A pass with one launch in line places it where it fits (R402, R403). -/
theorem distributorPass_places {s : State} {k : Nat} {l : Launch} {im : Image} {cls : List Nat} (hc : cancelSeen s k l = false)
    (hline : inLine s = [(k, l)]) (him : imageOf s l = some im) (hfit : findPlace s (holding s) l im [] = some cls) :
    distributorPass s = placeLaunch k l im cls (passBegun s) := by
  have hc' : cancelSeen (passBegun s) k l = false := hc
  have him' : imageOf (passBegun s) l = some im := him
  have hfit' := (findPlace_passBegun s l im []).trans hfit
  unfold distributorPass
  rw [hline]
  change (tryLaunch { s := passBegun s } (k, l)).s = _
  simp only [tryLaunch, hc', him', hfit', List.any_nil, List.flatMap_nil, Bool.false_eq_true, if_false]

theorem exec_distributorDecide_places {s : State} {k : Nat} {l : Launch} {im : Image} {cls : List Nat} (hp : s.pkg.pass = true)
    (hc : cancelSeen s k l = false) (hline : inLine s = [(k, l)]) (him : imageOf s l = some im)
    (hfit : findPlace s (holding s) l im [] = some cls) :
    exec .distributorDecide s = .next (placeLaunch k l im cls (passBegun s)) := by
  change Host.Outcome.next (distributorCycle s) = _
  rw [distributorCycle_due hp, distributorPass_places hc hline him hfit, distribute_decided (placeLaunch_pass _ _ _ _ _)]
theorem exec_distributorDecide_empty {s : State} (hp : s.pkg.pass = true) (hline : inLine s = []) :
    exec .distributorDecide s = .next (passBegun s) := by
  have hpass : distributorPass s = passBegun s := by rw [distributorPass, hline]; rfl
  change Host.Outcome.next (distributorCycle s) = _
  rw [distributorCycle_due hp, hpass, distribute_decided (s := passBegun s) rfl]

/-! Loading (R401, R404) -/

theorem le_ceil8 (n : Nat) : n ≤ ceil8 n := by unfold ceil8; omega
theorem ceil8_lt (n : Nat) : ceil8 n < n + 8 := by unfold ceil8; omega
theorem ceil8_mod (n : Nat) : ceil8 n % 8 = 0 := by unfold ceil8; omega

/-- What the load of a core leaves alone beside the memory that it has filled. -/
def loadFrame (s : State) : List Host.Cell × List Plan × Package × Nat := (s.mem, s.plans, s.pkg, s.codeSize)

theorem seatCtx_loadFrame (c : CtxId) (k : BitVec 2) (s : State) : loadFrame (seatCtx c k s) = loadFrame s := by
  unfold seatCtx; dsimp only; split <;> rfl
theorem loadCtx_loadFrame (p : Plan) (im : Image) (r : CoreRes) (n : Nat) (s : State) (q : CtxId × Nat) :
    loadFrame (loadCtx p im r n s q) = loadFrame s := by
  have hput : ∀ u (c : CtxId) (x : Ctx), loadFrame (setCtx u c x) = loadFrame u := fun _ _ _ => rfl
  have hmatrix : ∀ u (m : Matrix), loadFrame { u with matrix := m } = loadFrame u := fun _ _ => rfl
  unfold loadCtx; dsimp only
  rw [hput]
  split <;> split <;> simp only [hput, hmatrix, seatCtx_loadFrame]
theorem switchGate_loadFrame (q : Nat) (s : State) : loadFrame (switchGate q s) = loadFrame s := by
  unfold switchGate; split
  · rfl
  · dsimp only; split <;> rfl

theorem withPlan_loadFrame {f : State → State} (h : ∀ u, loadFrame (f u) = loadFrame u) (q : Nat) (s : State) :
    loadFrame (withPlan q f s) = loadFrame s := by
  unfold withPlan; split
  · exact h s
  · exact h _
theorem dueFreq_loadFrame (f : BitVec 6) (s : State) : loadFrame (dueFreq f s) = loadFrame s := rfl

/-- The load of this core sets the size of its code area (R404). -/
theorem loadHere_loadFrame (p : Plan) (im : Image) (r : CoreRes) (n : Nat) (s : State) :
    loadFrame (loadHere p im r n s) = (s.mem, s.plans, s.pkg, r.csize) := by
  unfold loadHere; dsimp only
  refine (withPlan_loadFrame (by intro u; rfl) _ _).trans ((foldl_keeps (loadCtx_loadFrame p im r n) _ _).trans ?_)
  split
  · exact switchGate_loadFrame _ _
  · rfl

/-- The state in which every core of a launch has been loaded (R404). -/
def loadedState (l : Launch) (p : Plan) (im : Image) (s : State) : State :=
  let s1 := loadTables p im { s with plans := s.plans ++ [p], mem := fillAll l p im s.mem }
  let s2 := match resOf p s.me with
    | some r => loadHere p im r (ceil8 (tickNow s + 8)) s1
    | none => s1
  if p.timed && onCluster p s.myCluster then dueFreq im.freq s2 else s2
/-- A launch that is RUNNING from the tick of its start. -/
def runningLaunch (l : Launch) (s : State) : Launch :=
  { l with st := .running, start := ceil8 (tickNow s + 8), plan := none }

theorem loadedState_here {l : Launch} {p : Plan} {im : Image} {s : State} {r : CoreRes} (h : resOf p s.me = some r) :
    loadFrame (loadedState l p im s) = (fillAll l p im s.mem, s.plans ++ [p], s.pkg, r.csize) := by
  unfold loadedState; dsimp only
  rw [h]
  split
  · rw [dueFreq_loadFrame, loadHere_loadFrame]; rfl
  · rw [loadHere_loadFrame]; rfl
theorem loadedState_elsewhere {l : Launch} {p : Plan} {im : Image} {s : State} (h : resOf p s.me = none) :
    (loadedState l p im s).plans = s.plans ++ [p] ∧ (loadedState l p im s).ctxs = s.ctxs := by
  unfold loadedState; dsimp only
  rw [h]
  split <;> exact ⟨rfl, rfl⟩

section
variable {s : State} {k : BitVec 8} {l : Launch}

theorem exec_launchStart_runs {p : Plan} {im : Image} (hl : getLaunch s k.toNat = some l) (hc : l.cancel = false)
    (hp : l.plan = some p) (him : imageOf s l = some im) (hst : l.st = .placing) (hawake : allAwake s l.clusters = true)
    (hreloc : relocFail l p im = none) :
    exec (.launchStart k) s = .next (moveLaunch k.toNat (runningLaunch l s) (loadedState l p im s)) := by
  have hstart : startLaunch k.toNat l p im s = moveLaunch k.toNat (runningLaunch l s) (loadedState l p im s) := by
    unfold startLaunch; rw [hreloc]
    exact applyCancel_uncancelled (getLaunch_moveLaunch _ _ _) hc
  change execLaunchStart k s = _
  simp only [execLaunchStart, hl, hp, him, hst, hawake, decide_true, Bool.and_true, if_true, hstart]
theorem exec_launchStart_notPlacing (hl : getLaunch s k.toNat = some l) (hst : l.st ≠ .placing) :
    exec (.launchStart k) s = .next s := by
  change execLaunchStart k s = _
  simp only [execLaunchStart, hl, hst, decide_false, Bool.false_and, Bool.false_eq_true, if_false]
  split <;> rfl

/-! The end of a RUNNING launch (R398, R405) -/

theorem exec_launchEnd_cancelled {st : LaunchStatus} (hl : getLaunch s k.toNat = some l) (hr : l.st = .running)
    (hcode : runningCode st.code = true) (hc : cancelSeen s k.toNat l = true) :
    exec (.launchEnd k st) s = .next (endLaunch k.toNat l statusCancelled s) := by
  change execLaunchEnd k st s = _
  simp [execLaunchEnd, hl, hr, hcode, hc]
theorem exec_launchEnd_reported {st : LaunchStatus} (hl : getLaunch s k.toNat = some l) (hr : l.st = .running)
    (hcode : runningCode st.code = true) (h0 : st.code ≠ 0#16) (hc : cancelSeen s k.toNat l = false)
    (hrep : reported s l.seq st = true) : exec (.launchEnd k st) s = .next (endLaunch k.toNat l st s) := by
  change execLaunchEnd k st s = _
  simp [execLaunchEnd, hl, hr, hcode, hc, h0, hrep]
theorem exec_launchEnd_done {st : LaunchStatus} (hl : getLaunch s k.toNat = some l) (hr : l.st = .running) (h0 : st.code = 0)
    (hc : cancelSeen s k.toNat l = false) (hw : workEnded s l.seq = true) :
    exec (.launchEnd k st) s = .next (endLaunch k.toNat l statusDone s) := by
  change execLaunchEnd k st s = _
  simp [execLaunchEnd, hl, hr, hc, h0, hw, runningCode]
theorem exec_launchEnd_unreported {st : LaunchStatus} (hl : getLaunch s k.toNat = some l) (h0 : st.code ≠ 0#16)
    (hrep : reported s l.seq st = false) (hc : cancelSeen s k.toNat l = false) : exec (.launchEnd k st) s = .next s := by
  change execLaunchEnd k st s = _
  simp [execLaunchEnd, hl, hc, h0, hrep]
theorem exec_launchEnd_works {st : LaunchStatus} (hl : getLaunch s k.toNat = some l) (h0 : st.code = 0)
    (hw : workEnded s l.seq = false) (hc : cancelSeen s k.toNat l = false) : exec (.launchEnd k st) s = .next s := by
  change execLaunchEnd k st s = _
  simp [execLaunchEnd, hl, hc, h0, hw]

end

theorem launchProgress : Claim.LaunchProgress := by
  intro s k l hl
  refine ⟨fun im cls hp hc hline him hfit => ?places, fun hp => congrArg Host.Outcome.next (distributorCycle_idle hp),
    exec_distributorDecide_empty, fun p im hc hp him hst hawake hreloc => ⟨fun hres => ?elsewhere, fun r hres hwin => ?here⟩,
    exec_launchStart_notPlacing hl,
    fun st hr hcode h0 hc hrep => ⟨_, exec_launchEnd_reported hl hr hcode h0 hc hrep, getLaunch_endLaunch _ _ _ _⟩,
    fun st hr hcode hc => ⟨_, exec_launchEnd_cancelled hl hr hcode hc, getLaunch_endLaunch _ _ _ _⟩,
    fun st h0 hr hc hw => ?done, fun st h0 hrep hc => exec_launchEnd_unreported hl h0 hrep hc,
    fun st hr h0 hw hc => exec_launchEnd_works hl h0 hw hc⟩
  case places => exact ⟨_, exec_distributorDecide_places hp hc hline him hfit, getLaunch_placeLaunch _ _ _ _ _⟩
  case elsewhere =>
    obtain ⟨hplans, hctxs⟩ := loadedState_elsewhere (l := l) (im := im) hres
    have hlow := le_ceil8 (tickNow s + 8)
    have hhigh := ceil8_lt (tickNow s + 8)
    exact ⟨_, exec_launchStart_runs hl hc hp him hst hawake hreloc, (moveLaunch_plans _ _ _).trans hplans,
      (moveLaunch_ctxs _ _ _).trans hctxs, _, getLaunch_moveLaunch _ _ _, rfl, ceil8_mod _, hlow, hhigh⟩
  case here =>
    have hframe := loadedState_here (l := l) (im := im) hres
    simp only [loadFrame, Prod.mk.injEq] at hframe
    obtain ⟨hmem, hplans, hpkg, hsize⟩ := hframe
    refine ⟨_, exec_launchStart_runs hl hc hp him hst hawake hreloc, (moveLaunch_plans _ _ _).trans hplans,
      (moveLaunch_codeSize _ _ _).trans hsize, (moveLaunch_mem_unregistered (by rw [hpkg]; exact hwin) _ _).trans hmem, ?_⟩
    rw [getLaunch_moveLaunch]; rfl
  case done =>
    obtain ⟨m, hm, -, hst, hstatus⟩ := getLaunch_endLaunch k.toNat l statusDone s
    exact ⟨_, exec_launchEnd_done hl hr h0 hc hw, m, hm, hst, hstatus⟩

/-! Pre-emption and restart (R133, R285, R315, R395) -/

section
variable {s : State} {k : Nat} {l : Launch}

theorem exec_preemptRequest_noted (hlive : liveLaunch s l.seq = some (k, l)) (hl : getLaunch s k = some l) (hr : l.st = .running)
    (hp : l.preempting = none) (u : Bool) : exec (.preemptRequest l.seq u) s = .next
      { s with launches := SMap.put s.launches k { l with preempting := some u, preTick := if u then some (tickNow s) else none } } := by
  change execPreemptRequest l.seq u s = _
  simp [execPreemptRequest, hlive, startPreempt, hl, hr, hp]
theorem exec_preemptRequest_notRunning (hlive : liveLaunch s l.seq = some (k, l)) (hl : getLaunch s k = some l)
    (hr : l.st ≠ .running) (u : Bool) : exec (.preemptRequest l.seq u) s = .next s := by
  change execPreemptRequest l.seq u s = _
  simp [execPreemptRequest, hlive, startPreempt, hl, hr]

/-- The restart tick of a launch agrees with the tick of its stop modulo 8, when that is a round start (R315). -/
def Aligned (s : State) (q n : Nat) : Prop := ∀ t, (recOf s q).stop = some t → t.tick % 8 = 0 → n % 8 = 0

theorem exec_placementResume_notPlacing (hlive : liveLaunch s l.seq = some (k, l)) (hst : l.st ≠ .placing) (n : Nat) :
    exec (.placementResume l.seq n) s = .next s := by
  change execPlacementResume l.seq n s = _
  simp [execPlacementResume, hlive, hst]
theorem exec_placementResume_unaligned (hlive : liveLaunch s l.seq = some (k, l)) {n : Nat} (h : ¬ Aligned s l.seq n) :
    exec (.placementResume l.seq n) s = .next s := by
  obtain ⟨t, ht, h0, hn⟩ : ∃ t, (recOf s l.seq).stop = some t ∧ t.tick % 8 = 0 ∧ n % 8 ≠ 0 := by simpa [Aligned] using h
  change execPlacementResume l.seq n s = _
  simp [execPlacementResume, hlive, ht, h0, hn]

/-- The gateway of a timed plan of this core is the core's again at a restart (R310, R315). -/
def gateRestored (s : State) (q : Nat) : State :=
  if (findPlan s q).any (fun p => p.timed && (resOf p s.me).isSome) then switchGate q s else s
/-- The restart tick of a plan is noted with its stop (R315). -/
def noteResume (q n : Nat) (s : State) : State :=
  withPlan q (fun u => { u with stop := u.stop.map (fun t => { t with resume := some n }) }) s

theorem exec_placementResume_runs (hlive : liveLaunch s l.seq = some (k, l)) (hc : l.cancel = false) (hst : l.st = .placing)
    (hp : l.plan = none) (hawake : allAwake s l.clusters = true) {n : Nat} (hn : tickNow s < n) (ha : Aligned s l.seq n) :
    exec (.placementResume l.seq n) s = .next (moveLaunch k { l with st := .running }
      (noteResume l.seq n ((planHere (gateRestored s l.seq) l.seq).foldl (restartAt n) (gateRestored s l.seq)))) := by
  change execPlacementResume l.seq n s = _
  unfold execPlacementResume; dsimp only
  rw [hlive]; dsimp only
  refine congrArg Host.Outcome.next ((if_pos ?_).trans (applyCancel_uncancelled (getLaunch_moveLaunch _ _ _) hc))
  cases hstop : (recOf s l.seq).stop with
  | none => simp [hst, hp, hawake, hn]
  | some t =>
    by_cases h0 : t.tick % 8 = 0
    · simp [hst, hp, hawake, hn, ha t hstop h0]
    · simp [hst, hp, hawake, hn, h0]

end

theorem switchGate_ctxs (q : Nat) (s : State) : (switchGate q s).ctxs = s.ctxs := by
  unfold switchGate; split
  · rfl
  · dsimp only; split <;> rfl
theorem gateRestored_ctxs (s : State) (q : Nat) : (gateRestored s q).ctxs = s.ctxs := by
  unfold gateRestored; split
  · exact switchGate_ctxs q s
  · rfl
theorem noteResume_ctxs (q n : Nat) (s : State) : (noteResume q n s).ctxs = s.ctxs := withPlan_ctxs (by intro u; rfl) q s
theorem planHere_congr {s t : State} (h : t.ctxs = s.ctxs) (q : Nat) : planHere t q = planHere s q := by
  have hget : getCtx t = getCtx s := funext (getCtx_congr h)
  unfold planHere; rw [hget]

/-- A context that has not FINISHED waits for the restart tick, without PREEMPT pending (R315). -/
theorem getCtx_restartAt {s : State} {c : CtxId} (n : Nat) (h : (getCtx s c).st ≠ .finished) :
    (getCtx (restartAt n s c) c).start = some n ∧ (getCtx (restartAt n s c) c).pend.pre = false ∧
      (getCtx (restartAt n s c) c).bank = (getCtx s c).bank := by
  unfold restartAt; dsimp only
  rw [if_neg (by simpa using h), getCtx_setCtx_self]
  exact ⟨rfl, rfl, rfl⟩

theorem preemptEvents : Claim.PreemptEvents := by
  intro s k l hlive hl
  refine ⟨fun u hr hp => ⟨_, exec_preemptRequest_noted hlive hl hr hp u, rfl, rfl, rfl, getLaunch_put s k _⟩,
    fun hr u => exec_preemptRequest_notRunning hlive hl hr u, fun c n hc hst hp hawake hn _ ha hplan hf => ?resumes,
    fun n t ht h0 hn => exec_placementResume_unaligned hlive (fun ha => hn (ha t ht h0)),
    fun hst n => exec_placementResume_notPlacing hlive hst n⟩
  case resumes =>
    refine ⟨_, exec_placementResume_runs hlive hc hst hp hawake hn ha, ?_⟩
    have hctxs := gateRestored_ctxs s l.seq
    rw [planHere_congr hctxs, hplan, List.foldl_cons, List.foldl_nil, getLaunch_moveLaunch, getCtx_congr (moveLaunch_ctxs _ _ _),
      getCtx_congr (noteResume_ctxs _ _ _), ← getCtx_congr hctxs]
    obtain ⟨hstart, hpre, hbank⟩ := getCtx_restartAt n (s := gateRestored s l.seq) (c := c) (by rwa [getCtx_congr hctxs])
    exact ⟨hstart, hpre, hbank, rfl⟩

/-- Settles O49: records, dependences, progress and pre-emption, each event by what it does to its launch. -/
theorem launches : Obligations.Launches := ⟨launchRecords, launchDependences, launchProgress, preemptEvents⟩

end Sys2Proof.Machine
end

section
/-! SUPPORT. Words written as the OR of their fixed bits and their fields: the encodings of VRETAG and VZCLR, refused values
included (R73, R79, R165, R172). -/
namespace Sys2Proof

/-- A field joined to a word of 32 bits. -/
theorem toNat_or_field (x : Word) {n p : Nat} (v : BitVec n) (h : n + p ≤ 32) :
    (x ||| (v.setWidth 32 <<< p)).toNat = x.toNat ||| putAt v.toNat p := by
  have hv : putAt v.toNat p < 2 ^ 32 := putAt_lt v.isLt (by omega)
  have hn : v.toNat < 2 ^ 32 := v.isLt.trans_le (Nat.pow_le_pow_right Nat.two_pos (by omega))
  rw [BitVec.toNat_or, BitVec.toNat_shiftLeft, BitVec.toNat_setWidth, Nat.mod_eq_of_lt hn, Nat.shiftLeft_eq, ← putAt,
    Nat.mod_eq_of_lt hv]

/-- A word that is its fixed bits joined with its fields is read as the fixed bits and the fields. -/
theorem reads_joined {fixed n : Nat} {fs : List (Nat × Nat)} (h : n = fixed ||| joined fs) : Reads fixed fs n :=
  fun lo len _ => by rw [h, fld_or, fld_joined]

/-- Every value of the fields of VRETAG's word, allowed or not (R165). -/
theorem decodeWord_vretagFields {w : Word} {d v : BitVec 8} {t : Tag} {r : Rm}
    (hr : Reads 0x44000003 [(d.toNat, 18), (v.toNat, 10), (t.toNat, 6), (r.toNat, 3)] w.toNat) :
    decodeWord w = chk (r != 0) false (tagHigh t) false (.vretag d v t) := by
  simp (disch := decide) [decodeWord, decodeConvert, hr _ _]

/-- Every value of the fields of VZCLR's word, allowed or not (R172). -/
theorem decodeWord_vzclrFields {w : Word} {t : Tag} {z : BitVec 2} {a : BitVec 6}
    (hr : Reads 0x54000004 [(t.toNat, 18), (z.toNat, 12), (a.toNat, 6)] w.toNat) :
    decodeWord w = chk false false (!(t == 3 || t == 4)) false (.vzclr t z a) := by
  simp (disch := decide) [decodeWord, decodeReduce, hr _ _]

theorem reads_vretag (d v : BitVec 8) (t : Tag) (r : Rm) :
    Reads 0x44000003 [(d.toNat, 18), (v.toNat, 10), (t.toNat, 6), (r.toNat, 3)]
      (0x44000003#32 ||| (d.setWidth 32 <<< 18) ||| (v.setWidth 32 <<< 10) ||| (t.setWidth 32 <<< 6) |||
        (r.setWidth 32 <<< 3)).toNat :=
  reads_joined (by simp (disch := decide) only [toNat_or_field, joined_cons, joined_nil, Nat.or_zero, Nat.or_assoc,
    BitVec.toNat_ofNat, Nat.reduceMod, Nat.reducePow])

theorem reads_vzclr (t : Tag) (z : BitVec 2) (a : BitVec 6) :
    Reads 0x54000004 [(t.toNat, 18), (z.toNat, 12), (a.toNat, 6)]
      (0x54000004#32 ||| (t.setWidth 32 <<< 18) ||| (z.setWidth 32 <<< 12) ||| (a.setWidth 32 <<< 6)).toNat :=
  reads_joined (by simp (disch := decide) only [toNat_or_field, joined_cons, joined_nil, Nat.or_zero, Nat.or_assoc,
    BitVec.toNat_ofNat, Nat.reduceMod, Nat.reducePow])

end Sys2Proof
end

section
/-! SUPPORT. VRETAG, and the words that move a latch or fill it: VZDRN and VZCLR. -/
namespace Sys2Proof.Machine

/-! VRETAG (R165) -/

theorem exec_vretag {s : State} {v : BitVec 8} (hr : s.roomFor 1) (d : BitVec 8) (t : Tag) (hv : tagAny (rv s v).tag = true) :
    exec (.vretag d v t) s = .next (s.sent [rowOut s 1 d t (rv s v).data]) := by
  change Host.Outcome.next (issue s (needRow s v tagAny) [rowOut s 1 d t (rv s v).data] id) = _
  rw [needRow_ok hv]
  exact congrArg _ (issue_room id hr (le_refl 1))

/-- Settles O21: the row that VRETAG sends, and its word by the decoder's checks. -/
theorem retagKeepsBits : Obligations.RetagKeepsBits := by
  refine ⟨fun s d v t hr hv => exec_vretag hr d t hv, ?_⟩
  intro d v t r w hw
  rw [decodeWord_vretagFields (hw ▸ reads_vretag d v t r), tagHigh_eq]
  refine ⟨fun hr ht => ?_, fun hr ht => ?_, fun hr => ?_⟩
  · rw [hr, decide_eq_true ht]; rfl
  · rw [hr, decide_eq_false (Nat.not_lt.mpr ht)]; rfl
  · rw [bne_iff_ne.mpr hr]; rfl

/-! Latches at issue (R24, R170, R172) -/

theorem needLatch_ok {s : State} {z : BitVec 2} {ok : Tag → Bool} (h : ok ((cx s).getZ z).tag = true) : needLatch s z ok = [] := by
  unfold needLatch failIf; rw [h]; rfl

theorem exec_vzdrn {s : State} {z : BitVec 2} (hr : s.roomFor 1) (d : BitVec 8) (hz : ((cx s).getZ z).tag ≠ 15) :
    exec (.vzdrn d z) s = .next (s.sent [rowOut s 2 d ((cx s).getZ z).tag ((cx s).getZ z).data]) := by
  change Host.Outcome.next (issue s (needLatch s z (· != 15)) [rowOut s 2 d _ ((cx s).getZ z).data] id) = _
  rw [needLatch_ok (ok := (· != 15)) (bne_iff_ne.mpr hz)]
  exact congrArg _ (issue_room id hr (le_refl 1))

theorem exec_vzclr {s : State} (hr : s.roomFor 1) (t : Tag) (z : BitVec 2) (a : BitVec 6) :
    exec (.vzclr t z a) s =
      .next (s.sent [{ lat := 1, res := .latch z t (ofLanes 32 (List.replicate 64 (rs s a).toNat)) }]) :=
  congrArg Host.Outcome.next (results_room hr (le_refl 1))

theorem lane_eq_toNat (r : BitVec 2048) (w j : Nat) : lane r w j = (r.extractLsb' (w * j) w).toNat := by
  rw [BitVec.extractLsb'_toNat, Nat.shiftRight_eq_div_pow]; rfl

/-- A lane of a row of equal lanes. -/
theorem extractLsb'_ofLanes_replicate {w n j : Nat} (v : Nat) (hj : j < n) (h : w * j + w ≤ 2048) :
    (ofLanes w (List.replicate n v)).extractLsb' (w * j) w = BitVec.ofNat w v := by
  refine BitVec.eq_of_toNat_eq ?_
  rw [← lane_eq_toNat, lane_ofLanes _ h, BitVec.toNat_ofNat, List.getD_eq_getElem?_getD, List.getElem?_replicate, if_pos hj,
    Option.getD_some]

/-- Settles O24: the row and the latch that are sent, and VZCLR's word by the decoder's checks. -/
theorem latchMoves : Obligations.LatchMoves := by
  refine ⟨fun s d z hr hz => exec_vzdrn hr d hz, fun s t z a hr => ⟨_, exec_vzclr hr t z a, fun j hj => ?_⟩, ?_⟩
  · rw [extractLsb'_ofLanes_replicate _ hj (by omega), BitVec.ofNat_toNat]
  · intro t z a w hw
    rw [decodeWord_vzclrFields (hw ▸ reads_vzclr t z a)]
    refine ⟨fun ht => ?_, fun h3 h4 => ?_⟩
    · rcases ht with rfl | rfl <;> rfl
    · rw [beq_eq_false_iff_ne.mpr h3, beq_eq_false_iff_ne.mpr h4]; rfl

end Sys2Proof.Machine
end

section
/-! SUPPORT. The reductions of pipe Z: what they send, their tag checks, and the landing of an update in its lane of the latch. -/
namespace Sys2Proof.Machine

/-! Failing tag checks (R21, R24, R170) -/

theorem needRow_bad {s : State} {i : BitVec 8} {ok : Tag → Bool} (h : ok (rv s i).tag = false) :
    needRow s i ok = [fmtTag s 0 (physV (cx s).bank i).toNat i.toNat (rv s i).tag] := by
  unfold needRow failIf; rw [h]; rfl
theorem needLatch_bad {s : State} {z : BitVec 2} {ok : Tag → Bool} (h : ok ((cx s).getZ z).tag = false) :
    needLatch s z ok = [fmtTag s 3 z.toNat z.toNat ((cx s).getZ z).tag] := by
  unfold needLatch failIf; rw [h]; rfl

/-- Every cause of a latch's check is of class 4. -/
theorem needLatch_cls {s : State} {z : BitVec 2} {ok : Tag → Bool} {c : Cause} (h : c ∈ needLatch s z ok) : c.cls = 4 := by
  unfold needLatch failIf at h
  split at h
  · rw [List.mem_singleton.mp h]; rfl
  · exact absurd h List.not_mem_nil

/-- A word whose first cause is a FORMAT_TAG, before causes of class 4 only. -/
theorem traps_fmtTag {i : Instr} {s : State} {cls phys logic : Nat} {found : Tag} {cs : List Cause} {outs : List Out}
    {eff : State → State} (e : exec i s = .next (issue s (fmtTag s cls phys logic found :: cs) outs eff))
    (h : ∀ c ∈ cs, c.cls = 4) : ∃ x, Traps i s 4 0x03 x :=
  ⟨_, _, e, issue_trap_head s _ cs outs eff (fun c hc => (h c hc).ge) (.inl (le_refl 4))⟩

/-! The reductions (R169 to R171) -/

/-- The update that a reduction sends to lane V8A mod 64 of its latch. -/
def reduceOut (op : Red) (s : State) (v : BitVec 8) (z : BitVec 2) (k : BitVec 4) (r : Rm) : Out :=
  let t := (rv s v).tag
  let p := reduceRow op t (rk s k) (rndOf s (effMode s r)) (rv s v).data
  { lat := 10, fp := p.2,
    res := .reduce z (BitVec.ofNat 6 (v.toNat % 64)) (redCode op) (accTag t) (BitVec.ofNat 32 p.1)
      (BitVec.ofNat 3 (effMode s r)) (BitVec.ofNat 32 (if effMode s r = 4 then drawOf s (tagLanes t - 1) else 0)) }

section
variable {s : State} {op : Red} {v : BitVec 8} {z : BitVec 2} {k : BitVec 4} {r : Rm}

theorem reduction_issues (s : State) (op : Red) (v : BitVec 8) (z : BitVec 2) (k : BitVec 4) (r : Rm) :
    reduction op v z k r s = .next (issue s (needRow s v tagArith ++ needLatch s z (· == accTag (rv s v).tag))
      (reduceOut op s v z k r :: advanceIf (needRow s v tagArith) s
        (op == .sum && tagFp (rv s v).tag && effMode s r == 4) (tagLanes (rv s v).tag)) id) := by
  have hl : BitVec.ofNat 6 (v.toNat % 64) = BitVec.ofNat 6 v.toNat := BitVec.eq_of_toNat_eq (by simp)
  rw [reduceOut, hl]; rfl

theorem reduction_completes (hr : s.roomFor 2) (hv : tagArith (rv s v).tag = true)
    (hz : ((cx s).getZ z).tag = accTag (rv s v).tag) :
    reduction op v z k r s = .next (s.sent (reduceOut op s v z k r :: advanceOut s
      (op == .sum && tagFp (rv s v).tag && effMode s r == 4) (tagLanes (rv s v).tag))) := by
  rw [reduction_issues, needRow_ok hv, needLatch_ok (ok := (· == accTag _)) (beq_iff_eq.mpr hz)]
  refine congrArg _ (issue_room id hr ?_)
  rw [← List.singleton_append, needOf_append]
  exact Nat.add_le_add (le_refl 1) (needOf_advanceOut ..)

theorem traps_reduction_row {i : Instr} (e : exec i s = reduction op v z k r s) (hv : tagArith (rv s v).tag = false) :
    ∃ x, Traps i s 4 0x03 x := by
  rw [reduction_issues, needRow_bad hv] at e
  exact traps_fmtTag e fun _ => needLatch_cls

theorem traps_reduction_latch {i : Instr} (e : exec i s = reduction op v z k r s) (hv : tagArith (rv s v).tag = true)
    (hz : ((cx s).getZ z).tag ≠ accTag (rv s v).tag) : ∃ x, Traps i s 4 0x03 x := by
  rw [reduction_issues, needRow_ok hv, needLatch_bad (ok := (· == accTag _)) (beq_eq_false_iff_ne.mpr hz)] at e
  exact traps_fmtTag e fun _ hc => absurd hc List.not_mem_nil

end

/-- The words of R169 that reduce a row. -/
theorem exec_reduction {s : State} {v : BitVec 8} {z : BitVec 2} {k : BitVec 4} {r : Rm} {op : Red} {i : Instr}
    (h : (op, i) ∈ [(Red.sum, Instr.vrsum v z k r), (.min, .vrmin v z k r), (.max, .vrmax v z k r)]) :
    exec i s = reduction op v z k r s := by
  simp only [List.mem_cons, Prod.mk.injEq, List.not_mem_nil, or_false] at h
  rcases h with ⟨rfl, rfl⟩ | ⟨rfl, rfl⟩ | ⟨rfl, rfl⟩ <;> rfl

theorem reductionsComplete : Claim.ReductionsComplete := by
  intro s v z k r op i hi t hr
  have e := exec_reduction (s := s) hi
  exact ⟨fun hv hz => e.trans (reduction_completes hr hv hz), fun hv => traps_reduction_row e hv,
    fun hv hz => traps_reduction_latch e hv hz⟩

/-! Lanes of a row in which one is replaced (R171) -/

theorem getLsbD_setLane (r : BitVec 2048) {w j : Nat} (v : Nat) {i : Nat} (hi : i < 2048) :
    (setLane r w j v).getLsbD i = if w * j ≤ i ∧ i < w * j + w then v.testBit (i - w * j) else r.getLsbD i := by
  rw [setLane, getLsbD_mergeRow]
  simp only [BitVec.getLsbD_shiftLeft, BitVec.getLsbD_ofNat, Nat.testBit_two_pow_sub_one, Nat.testBit_mod_two_pow,
    decide_eq_true hi, show i - w * j < 2048 by omega, decide_true, Bool.true_and, Bool.and_eq_true, Bool.not_eq_true',
    decide_eq_false_iff_not, decide_eq_true_eq, Nat.not_lt]
  split <;> split
  · next h _ => simp [h.1, h.2]
  · omega
  · omega
  · rfl

theorem extractLsb'_setLane_self (r : BitVec 2048) {w j : Nat} (v : Nat) (h : w * j + w ≤ 2048) :
    (setLane r w j v).extractLsb' (w * j) w = BitVec.ofNat w v := by
  refine BitVec.eq_of_getLsbD_eq fun i hi => ?_
  rw [BitVec.getLsbD_extractLsb', getLsbD_setLane r v (by omega), if_pos (by omega), Nat.add_sub_cancel_left, BitVec.getLsbD_ofNat]

/-- Bits of other lanes are kept. -/
theorem extractLsb'_setLane_ne (r : BitVec 2048) {w j m : Nat} (v : Nat) (hm : w * m + w ≤ 2048) (hne : m ≠ j) :
    (setLane r w j v).extractLsb' (w * m) w = r.extractLsb' (w * m) w := by
  have apart : w * m + w ≤ w * j ∨ w * j + w ≤ w * m := by
    rw [← Nat.mul_succ, ← Nat.mul_succ]
    rcases Nat.lt_or_gt_of_ne hne with h | h
    · exact .inl (Nat.mul_le_mul_left w h)
    · exact .inr (Nat.mul_le_mul_left w h)
  refine BitVec.eq_of_getLsbD_eq fun i hi => ?_
  rw [BitVec.getLsbD_extractLsb', BitVec.getLsbD_extractLsb', getLsbD_setLane r v (by omega), if_neg (by omega)]

/-! The landing of an update (R171, R173) -/

/-- An INT32 update of a lane: the wrapped sum, or the smaller or the larger of the signed values. -/
def int32Reduce (fn : Nat) (x t : Word) : Word :=
  match fn with
  | 0 => x + t
  | 1 => if t.slt x then t else x
  | _ => if x.slt t then t else x

theorem reduceLane_int32 (fn : Nat) (rm : Rm) (dr x t : Word) :
    BitVec.ofNat 32 (reduceLane fn 3 rm dr x.toNat t.toNat).1 = int32Reduce fn x t := by
  have hs : ∀ y : Word, signedOf 32 y.toNat = y.toInt := fun y => by rw [signedOf_eq_toInt, BitVec.ofNat_toNat, BitVec.setWidth_eq]
  have pick : ∀ (p : Prop) [Decidable p] (y u : Word), BitVec.ofNat 32 (if p then y.toNat else u.toNat) = if p then y else u :=
    fun p _ y u => by split <;> rw [BitVec.ofNat_toNat, BitVec.setWidth_eq]
  match fn with
  | 0 => exact BitVec.eq_of_toNat_eq (by simp [reduceLane, int32Reduce])
  | 1 | _ + 2 =>
    simp only [reduceLane, int32Reduce, hs, BitVec.slt_eq_decide, decide_eq_true_eq]
    exact pick ..

section
variable {acc : LandAcc} {f : Flight} {z : BitVec 2} {l : BitVec 6} {fn : BitVec 3} {g : Tag} {t dr : Word} {rm : Rm}

/-- An update whose latch carries its tag replaces one lane of the latch. -/
theorem landOne_reduce (base : State) (hf : f.res = .reduce z l fn g t rm dr) (hg : ((getCtx acc.s f.ctx).getZ z).tag = g) :
    (landOne base acc f).s = setCtx acc.s f.ctx (landReg (getCtx acc.s f.ctx) (.latch z g
      (setLane ((getCtx acc.s f.ctx).getZ z).data 32 l.toNat
        (reduceLane fn.toNat g rm dr (lane ((getCtx acc.s f.ctx).getZ z).data 32 l.toNat) t.toNat).1))) := by
  simp [landOne, hf, hg]

/-- The latch after an update that lands. -/
theorem getZ_landOne_reduce (base : State) (hf : f.res = .reduce z l fn g t rm dr)
    (hg : ((getCtx acc.s f.ctx).getZ z).tag = g) :
    (getCtx (landOne base acc f).s f.ctx).getZ z = .mk g (setLane ((getCtx acc.s f.ctx).getZ z).data 32 l.toNat
      (reduceLane fn.toNat g rm dr (lane ((getCtx acc.s f.ctx).getZ z).data 32 l.toNat) t.toNat).1) := by
  rw [landOne_reduce base hf hg, getCtx_setCtx_self]
  exact (landReg_latch_frame ..).1

/-- An update whose latch carries another tag leaves no trace, its flags included. -/
theorem landOne_reduce_otherTag (base : State) (hf : f.res = .reduce z l fn g t rm dr)
    (hg : ((getCtx acc.s f.ctx).getZ z).tag ≠ g) : landOne base acc f = acc := by
  simp [landOne, hf, hg]

/-- An update is lost to a latch write that lands after it in its cycle, and leaves no trace. -/
theorem dropLost_reduce {rest : List Flight} {h : Flight} {tg : Tag} {d : BitVec 2048} (hf : f.res = .reduce z l fn g t rm dr)
    (hmem : h ∈ rest) (hctx : h.ctx = f.ctx) (hlatch : h.res = .latch z tg d) : dropLost rest [f] = [] := by
  have hlost : lostTo rest f = true := by
    rw [lostTo, hf]
    exact List.any_eq_true.mpr ⟨h, hmem, by simp [hctx, hlatch]⟩
  rw [dropLost, List.nil_append, if_pos hlost, traceOf, hf]
  rfl

end

theorem latchUpdate : Claim.LatchUpdate := by
  intro base acc f z l fn t dr rm hf _ old t' new x
  refine ⟨fun hold => ?_, fun hold => ?_, fun rest g tg d => dropLost_reduce hf⟩
  · have hland := landOne_reduce base hf hold
    have hnew := getZ_landOne_reduce base hf hold
    change new = _ at hnew
    have hl : l.toNat < 64 := l.isLt
    refine ⟨by rw [hnew], ?_, fun j hj hne => ?_, ?_, fun c hc => ?_⟩
    · rw [hnew, extractLsb'_setLane_self _ _ (by omega), lane_eq_toNat, reduceLane_int32]
      rfl
    · rw [hnew, extractLsb'_setLane_ne _ _ (by omega) hne]
    · exact (congrArg State.mem hland :)
    · exact (congrArg (getCtx · c) hland).trans (getCtx_setCtx_ne _ hc _)
  · have hland := landOne_reduce_otherTag base hf hold
    exact ⟨congrArg (fun a : LandAcc => (getCtx a.s f.ctx).getZ z) hland, congrArg LandAcc.flags hland⟩

/-- Settles O23: the tag checks and the update that the words of R169 send, and the update's landing lane by lane. -/
theorem reductions : Obligations.Reductions := ⟨reductionsComplete, latchUpdate⟩

end Sys2Proof.Machine
end

section
/-! SUPPORT. The words of pipe M at issue: when one is refused, and what each sends when it is refused and when it is not. -/
namespace Sys2Proof.Machine

/-! Refusal (R178, R187) -/

theorem refusal_unowned (s : State) (coll : Bool) : refusal s false coll = some mxOWN := rfl
theorem refusal_collides {s : State} {coll : Bool} (h : coll = true ∨ routineOn s = true) :
    refusal s true coll = some mxCOLL := by
  have hc : (coll || routineOn s) = true := by simpa using h
  rw [refusal, hc]; rfl
theorem refusal_none {s : State} {coll : Bool} (hc : coll = false) (hr : routineOn s = false) : refusal s true coll = none := by
  rw [refusal, hc, hr]; rfl

/-- A word of the engine that leaves its flags only. -/
def flagsOut (lat : Nat) (fl : Mx) : Out := { lat := lat, res := .flags, mx := fl }

theorem needOf_flagsOut (lat : Nat) (fl : Mx) : needOf [flagsOut lat fl] ≤ 1 := by
  change 0 + (if (0 : Fl) = 0 && fl = 0 then 0 else 1) ≤ 1
  split
  · exact Nat.zero_le 1
  · exact le_refl 1

/-! MMA (R178, R187 to R189) -/

/-- The state after an MMA that does not compute: the NaN row that it sends sets its flag (R178, R187, R188). -/
def mmaNan (s : State) (d : BitVec 8) (mf : Nat) (fl : Mx) : State :=
  { s.sent [{ rowOut s (mfLatency mf) d 4 nanRow 0 fl with key := s.nextId + 1 }] with nextId := s.nextId + 1 }

/-- The update of an MMA that computes. -/
def mmaOut (s : State) (d a : BitVec 8) (w : BitVec 2) (g n : Bool) (fd mf : Nat) : Out :=
  let r := mmaRes s (cx s) d a w g n fd mf false
  { lat := mfLatency mf, res := r.1, mx := r.2, key := s.nextId + 1 }

theorem needOf_mmaOut (s : State) (d a : BitVec 8) (w : BitVec 2) (g n : Bool) (fd mf : Nat) :
    needOf [mmaOut s d a w g n fd mf] ≤ 1 := le_refl 1

section
variable {s : State} {d a : BitVec 8} {w : BitVec 2} {n : Bool} {m : BitVec 3} {fl : Mx}

theorem mmaChecks_ok {mf : Nat} (ha : mfTag mf = some (rv s a).tag) (hs : (rv s (groupRow a 1)).tag = 0)
    (hd : n = true ∨ (rv s d).tag = 4) (hg : rotSpan (cx s).bank a 2 = false) : mmaChecks s d a n mf = [] := by
  rw [mmaChecks, needRow_ok (ok := fun t => some t == mfTag mf) (by simp [ha]), needRow_ok (ok := (· == 0)) (by simp [hs]),
    needGroup_ok hg, List.append_nil, List.nil_append, List.nil_append]
  rcases hd with rfl | hd
  · rfl
  · rw [needRow_ok (ok := (· == 4)) (by simp [hd]), ite_self]

theorem exec_mma_refused (g : Bool) (f : BitVec 2) (hr : s.roomFor 1) (hc : mmaChecks s d a n m.toNat = [])
    (h : refusal s (cx s).bank.mown (mmaBlocked s w m.toNat) = some fl) :
    exec (.mma d a w g n f m) s = .next (mmaNan s d m.toNat fl) := by
  change execMma d a w g n f m s = _
  simp only [execMma, h, hc]
  exact congrArg _ (issue_room _ hr (le_refl 1))

theorem exec_mma_otherFormat (g : Bool) (f : BitVec 2) (hr : s.roomFor 1) (hc : mmaChecks s d a n m.toNat = [])
    (h : refusal s (cx s).bank.mown (mmaBlocked s w m.toNat) = none) (hm : (getArr s.matrix w).active.fmt ≠ m) :
    exec (.mma d a w g n f m) s = .next (mmaNan s d m.toNat mxFMIS) := by
  change execMma d a w g n f m s = _
  simp only [execMma, h, hc, if_pos hm]
  exact congrArg _ (issue_room _ hr (le_refl 1))

theorem exec_mma_computes (g : Bool) (f : BitVec 2) (hr : s.roomFor 1) (hc : mmaChecks s d a n m.toNat = [])
    (h : refusal s (cx s).bank.mown (mmaBlocked s w m.toNat) = none) (hm : (getArr s.matrix w).active.fmt = m) :
    exec (.mma d a w g n f m) s = .next (occupy w m.toNat (s.sent [mmaOut s d a w g n f.toNat m.toNat])) := by
  change execMma d a w g n f m s = _
  simp only [execMma, h, hc, if_neg (not_not_intro hm)]
  exact congrArg _ (issue_room _ hr (needOf_mmaOut ..))

end

theorem getArr_occupy_busy (w : BitVec 2) (mf : Nat) (s : State) :
    (getArr (occupy w mf s).matrix w).busy = s.cycle + mfWidth mf :=
  congrArg MArray.busy (getArr_setArr_self ..)

theorem matrixMultiply : Claim.MatrixMultiply := by
  intro s d a w g n f m mf ha hs hd hg hr nan
  have hc : mmaChecks s d a n m.toNat = [] := mmaChecks_ok ha hs hd hg
  refine ⟨fun ho => exec_mma_refused g f hr hc (by rw [ho, refusal_unowned]),
    fun ho hb => exec_mma_refused g f hr hc (by rw [ho]; exact refusal_collides hb), fun ho hb hi => ?_⟩
  have hfree : refusal s (cx s).bank.mown (mmaBlocked s w m.toNat) = none := by rw [ho]; exact refusal_none hb hi
  exact ⟨exec_mma_otherFormat g f hr hc hfree,
    fun hm => ⟨_, exec_mma_computes g f hr hc hfree hm, rfl, rfl, getArr_occupy_busy ..⟩⟩

/-! MLDB, MDRN, MPROG and MSTAT (R178, R187, R191, R192, R194, R195) -/

section
variable {s : State} {fl : Mx}

theorem exec_mldb_refused {w : BitVec 2} {h : BitVec 4} (hr : s.roomFor 1)
    (hc : mldbChecks s (cx s).plan (rh s h) (rh s (shScaleH (rh s h))) = [])
    (href : refusal s (cx s).bank.mown (mldbBlocked s w) = some fl) :
    exec (.mldb w h) s = .next (s.sent [flagsOut 20 fl]) := by
  change execMldb w h s = _
  simp only [execMldb, href, hc]
  exact congrArg _ (issue_room id hr (needOf_flagsOut 20 fl))

theorem exec_mldb {w : BitVec 2} {h : BitVec 4} (hc : mldbChecks s (cx s).plan (rh s h) (rh s (shScaleH (rh s h))) = [])
    (href : refusal s (cx s).bank.mown (mldbBlocked s w) = none) :
    exec (.mldb w h) s =
      .next (startSwap w (s.sent [{ lat := 20, res := mldbRes s w (rh s h) (rh s (shScaleH (rh s h))) }])) := by
  change execMldb w h s = _
  simp only [execMldb, href, hc]
  exact congrArg _ (issue_next s _ _ (.inl rfl))

theorem getArr_startSwap_swap (w : BitVec 2) (s : State) : (getArr (startSwap w s).matrix w).swap = some (s.cycle + 20) :=
  congrArg MArray.swap (getArr_setArr_self ..)

theorem exec_mdrn_refused (hr : s.roomFor 1) (vd : BitVec 8) (sel : Bool) (w : BitVec 2)
    (h : refusal s (cx s).bank.mown false = some fl) :
    exec (.mdrn vd sel w) s = .next (s.sent [rowOut s 6 vd 4 nanRow 0 fl]) := by
  change execMdrn vd sel w s = _
  simp only [execMdrn, h]
  exact congrArg _ (results_room hr (le_refl 1))

theorem exec_mdrn (hr : s.roomFor 1) (vd : BitVec 8) (sel : Bool) (w : BitVec 2) (h : refusal s (cx s).bank.mown false = none) :
    exec (.mdrn vd sel w) s = .next (s.sent [{ lat := 6, res := .mdrn (physV (cx s).bank vd) w sel none }]) := by
  change execMdrn vd sel w s = _
  simp only [execMdrn, h]
  exact congrArg _ (results_room hr (le_refl 1))

theorem exec_mprog_refused (hr : s.roomFor 1) (a b : BitVec 6) (h : refusal s (cx s).bank.mown false = some fl) :
    exec (.mprog a b) s = .next (s.sent [flagsOut 2 fl]) := by
  change execMprog a b s = _
  simp only [execMprog, h]
  exact congrArg _ (results_room hr (needOf_flagsOut 2 fl))

theorem exec_mprog_outside {a b : BitVec 6} (hr : s.roomFor 1) (h : refusal s (cx s).bank.mown false = none)
    (hm : mprogRes s (rs s a) (rs s b) = none) : exec (.mprog a b) s = .next (s.sent [flagsOut 2 mxMPR]) := by
  change execMprog a b s = _
  simp only [execMprog, h, hm]
  exact congrArg _ (results_room hr (needOf_flagsOut 2 mxMPR))

theorem mprogRes_entry {a v : Dbl} (h63 : a.getLsbD 63 = true) (h : a.extractLsb' 16 47 = 0) :
    mprogRes s a v = some (.mprogEntry (a.extractLsb' 0 6) (v.extractLsb' 0 16)) := by
  rw [mprogRes, if_neg (not_not_intro h), if_pos h63]
theorem mprogRes_word {a v : Dbl} (h63 : a.getLsbD 63 = false) (h : a.extractLsb' 16 47 = 0)
    (hsz : (a.extractLsb' 0 16).toNat < s.matrix.size) :
    mprogRes s a v = some (.mprogWord (a.extractLsb' 0 16).toNat v) := by
  rw [mprogRes, if_neg (not_not_intro h), h63, if_neg Bool.false_ne_true, if_pos hsz]

/-- A write of the store or of the routine table takes no snapshot entry (R129). -/
theorem needOf_mprogRes {a v : Dbl} {r : Res} (h : mprogRes s a v = some r) : needOf [{ lat := 2, res := r }] = 0 := by
  unfold mprogRes at h
  split at h
  · cases h
  · split at h
    · cases h; rfl
    · split at h
      · cases h; rfl
      · cases h

theorem exec_mprog {a b : BitVec 6} {r : Res} (h : refusal s (cx s).bank.mown false = none)
    (hm : mprogRes s (rs s a) (rs s b) = some r) : exec (.mprog a b) s = .next (s.sent [{ lat := 2, res := r }]) := by
  change execMprog a b s = _
  simp only [execMprog, h, hm]
  exact congrArg _ (issue_next s _ id (.inl (needOf_mprogRes hm)))

theorem exec_mstat (hr : s.roomFor 1) (d sel : BitVec 6) :
    exec (.mstat d sel) s = .next (s.sent [scalarOut 2 d (if sel = 0 then mstat0 s.matrix else mstat1 s)]) :=
  congrArg _ (results_room hr (le_refl 1))

end

/-! MCALL (R178, R196, R197) -/

section
variable {s : State}

/-- The state after an MCALL that fails: its entry is posted at the next cycle. -/
def mcallFailed (s : State) (status : BitVec 8) (i : BitVec 6) (fl : Mx) : State :=
  let u := s.sent [flagsOut 1 fl]
  setCx { u with nextId := s.nextId + 1 } (post s.nextId (qmxEntry status i 0 0) (s.cycle + 1) (owe 2 s.nextId (cx s)))

theorem mcallFail_next (hr : s.roomFor 1) (status : BitVec 8) (i : BitVec 6) (fl : Mx) :
    mcallFail s status i fl = .next (mcallFailed s status i fl) :=
  congrArg _ (issue_room _ hr (needOf_flagsOut 1 fl))

/-- When an MCALL fails, with which STATUS and which flag (R178, R196). -/
def McallFails (s : State) (i : BitVec 6) (status : BitVec 8) (fl : Mx) : Prop :=
  (cx s).bank.mown = false ∧ status = 2 ∧ fl = mxOWN ∨
  (cx s).bank.mown = true ∧ s.matrix.run.isSome = true ∧ s.matrix.pend.isSome = true ∧ status = 1 ∧ fl = mxCOLL ∨
  (cx s).bank.mown = true ∧ (s.matrix.run.isSome && s.matrix.pend.isSome) = false ∧
    SMap.get 0xFFFF s.matrix.table i.toNat = 0xFFFF ∧ status = 3 ∧ fl = 0

theorem exec_mcall_fails {i : BitVec 6} {status : BitVec 8} {fl : Mx} (hr : s.roomFor 1) (h : McallFails s i status fl) :
    exec (.mcall i) s = .next (mcallFailed s status i fl) := by
  rw [← mcallFail_next hr]
  change execMcall i s = _
  rcases h with ⟨ho, rfl, rfl⟩ | ⟨ho, hrun, hpend, rfl, rfl⟩ | ⟨ho, hq, ht, rfl, rfl⟩
  · simp [execMcall, ho]
  · simp [execMcall, ho, hrun, hpend]
  · simp only [execMcall, ho, hq, ht, Bool.not_true, Bool.false_eq_true, if_false, if_true]

theorem cx_mcallFailed (s : State) (status : BitVec 8) (i : BitVec 6) (fl : Mx) :
    cx (mcallFailed s status i fl) = post s.nextId (qmxEntry status i 0 0) (s.cycle + 1) (owe 2 s.nextId (cx s)) :=
  cx_setCx _ _

/-- The entry of a word that fails is the only one owed where none was. -/
theorem owed_post_owe {x : Ctx} (h : x.owed = []) (q : BitVec 2) (id : Nat) (v : Dbl) (cyc : Nat) :
    (post id v cyc (owe q id x)).owed = [{ q := q, id := id, val := some v, cyc := cyc }] := by
  simp [post, owe, h]

/-- The routine that an MCALL calls: it begins at its entry of the table, with a copy of m0 to m7 (R196, R199). -/
def calledRoutine (s : State) (i : BitVec 6) : MRoutine :=
  let e := (SMap.get 0xFFFF s.matrix.table i.toNat).toNat
  { idx := i, id := s.nextId, m := (cx s).bank.m, next := e, base := e, start := s.cycle + 2 }

/-- The engine with a called routine: it runs, or stands behind the one that runs. -/
def addRoutine (m : Matrix) (r : MRoutine) : Matrix :=
  if m.run.isSome then { m with pend := some r } else { m with run := some r, prog := 0 }

/-- The state after an MCALL that starts or queues its routine. -/
def mcallStarted (s : State) (i : BitVec 6) : State :=
  setCx { s with nextId := s.nextId + 1, matrix := addRoutine s.matrix (calledRoutine s i) } (owe 2 s.nextId (cx s))

theorem exec_mcall {i : BitVec 6} (ho : (cx s).bank.mown = true) (hp : s.matrix.pend = none)
    (ht : SMap.get 0xFFFF s.matrix.table i.toNat ≠ 0xFFFF) : exec (.mcall i) s = .next (mcallStarted s i) := by
  change execMcall i s = _
  simp only [execMcall, ho, hp, if_neg ht, Option.isSome_none, Bool.and_false, Bool.not_true, Bool.false_eq_true, if_false]
  exact congrArg _ (issue_effect s _)

theorem cx_mcallStarted (s : State) (i : BitVec 6) : cx (mcallStarted s i) = owe 2 s.nextId (cx s) := cx_setCx _ _

end

/-- Ownership decides first, then what the engine is doing, and what the word names last. -/
theorem matrixWordsComplete : Claim.MatrixWordsComplete := by
  intro s w h vd sel a b d i hr
  refine ⟨⟨fun ho => ?_, fun ho hrun => ?_, fun ho hb hc => ?_, fun ho hrun hm => ?_, fun st fl hf => ?_⟩,
    exec_mstat hr d a, fun ho => ⟨fun hrun hb hc => ?_, fun hrun => ?_, fun ht hp => ?_⟩⟩
  · have href : ∀ coll, refusal s (cx s).bank.mown coll = some mxOWN := fun coll => by rw [ho, refusal_unowned]
    exact ⟨⟨exec_mdrn_refused hr vd sel w (href _), exec_mprog_refused hr a b (href _)⟩,
      fun hc => exec_mldb_refused hr hc (href _)⟩
  · have href : refusal s (cx s).bank.mown false = some mxCOLL := by rw [ho]; exact refusal_collides (.inr hrun)
    exact ⟨exec_mdrn_refused hr vd sel w href, exec_mprog_refused hr a b href⟩
  · exact exec_mldb_refused hr hc (by rw [ho]; exact refusal_collides hb.symm)
  · exact exec_mprog_outside hr (by rw [ho]; exact refusal_none rfl hrun) hm
  · have hcx := cx_mcallFailed s st i fl
    exact ⟨_, exec_mcall_fails hr hf, rfl, rfl, (congrArg Ctx.bank hcx :), rfl,
      fun hq => (congrArg Ctx.owed hcx).trans (owed_post_owe hq ..)⟩
  · exact ⟨exec_mldb hc (by rw [ho]; exact refusal_none hb hrun), getArr_startSwap_swap w s⟩
  · have href : refusal s (cx s).bank.mown false = none := by rw [ho]; exact refusal_none rfl hrun
    exact ⟨exec_mdrn hr vd sel w href, fun h63 hz => exec_mprog href (mprogRes_entry h63 hz),
      fun h63 hz hsz => exec_mprog href (mprogRes_word h63 hz hsz)⟩
  · have hcx := cx_mcallStarted s i
    have hmat : (mcallStarted s i).matrix = addRoutine s.matrix (calledRoutine s i) := rfl
    refine ⟨_, calledRoutine s i, exec_mcall ho hp ht, rfl, rfl, rfl, rfl, fun hn => ?_, fun hn => ?_,
      congrArg Ctx.owed hcx, (congrArg Ctx.bank hcx :), rfl⟩
    · rw [hmat, addRoutine, hn]; exact ⟨rfl, hp⟩
    · rw [hmat, addRoutine, if_pos (Option.isSome_iff_ne_none.mpr hn)]; exact ⟨rfl, rfl⟩

end Sys2Proof.Machine
end

section
/-! SUPPORT. The landings of the engine's words: the swap of an array's copies, a drain, and an MMA alone in flight. -/
namespace Sys2Proof.Machine

/-! The swap of an MLDB (R177, R191) -/

theorem landOne_mldb (base : State) (acc : LandAcc) {f : Flight} {w : BitVec 2} {m : BitVec 3} {x : BitVec 32768}
    {sc : BitVec 2048} (hf : f.res = .mldb w m x sc) :
    (landOne base acc f).s = { acc.s with matrix := setArr acc.s.matrix w { getArr acc.s.matrix w with
      active := { fmt := m, data := x, scales := sc }, shadow := (getArr acc.s.matrix w).active, swap := none } } := by
  simp [landOne, hf]

theorem matrixSwapLanding : Claim.MatrixSwapLanding := by
  intro base acc f w m x sc hf t old
  have ht : t = _ := landOne_mldb base acc hf
  rw [ht]
  simp only [getArr_setArr_self]
  exact ⟨trivial, rfl, trivial, rfl, rfl, fun u hu => getArr_setArr_ne _ hu _, trivial, trivial⟩

/-- Settles O29: each word by its lemma at issue, and the landing of a swap. -/
theorem matrixOwnerWords : Obligations.MatrixOwnerWords := ⟨matrixWordsComplete, matrixSwapLanding⟩

/-! A drain (R192) -/

/-- An array with one side accumulator, the one that SEL names, set to +0. -/
def emptied (sel : Bool) (m : MArray) : MArray := if sel then { m with frn := 0 } else { m with hin := 0 }

section
variable {f : Flight} {vd : BitVec 8} {w : BitVec 2} {sel : Bool}

theorem drainRes_mdrn (s : State) (hf : f.res = .mdrn vd w sel none) :
    (drainRes s f).res = .row vd 4 (drainValue s w sel) (BitVec.allOnes 2048) := by
  rw [drainRes, hf]

theorem drainClear_mdrn (s : State) (hf : f.res = .mdrn vd w sel none) :
    drainClear s f = { s with matrix := setArr s.matrix w (emptied sel (getArr s.matrix w)) } := by
  rw [drainClear, hf]; rfl

end

/-- Settles O30: the row is the accumulator's, and the accumulator drained is the only part of the state that changes. -/
theorem matrixDrainLanding : Obligations.MatrixDrainLanding := by
  intro s f vd w sel hf acc
  refine ⟨drainRes_mdrn s hf, ?_⟩
  rw [drainClear_mdrn s hf]
  have hw := getArr_setArr_self s.matrix w (emptied sel (getArr s.matrix w))
  refine ⟨(congrArg MArray.hin hw).trans ?_, (congrArg MArray.frn hw).trans ?_, (congrArg MArray.active hw).trans ?_,
    fun u hu => getArr_setArr_ne _ hu _, rfl, rfl⟩ <;> cases sel <;> rfl

/-! What the steps of a landing leave as it is (R44, R91, R263) -/

/-- What the flags and signatures of a landing leave alone: what is in flight, memory, the engine, the rows of each context. -/
structure RowView where
  flight : List Flight
  fetches : List Fetch
  mem : List Host.Cell
  matrix : Matrix
  rows : CtxId → List (Nat × Row)

def rowView (s : State) : RowView :=
  { flight := s.flight, fetches := s.fetches, mem := s.mem, matrix := s.matrix, rows := fun c => (getCtx s c).v }

/-- A context that is put in its place with its rows as they were. -/
theorem rowView_setCtx {s : State} {c : CtxId} {x : Ctx} (h : x.v = (getCtx s c).v) : rowView (setCtx s c x) = rowView s := by
  have hv : (fun d => (getCtx (setCtx s c x) d).v) = fun d => (getCtx s d).v := funext fun d => by
    rw [getCtx_setCtx]; split
    · next hd => rw [hd, h]
    · rfl
  unfold rowView; rw [hv]; rfl

/-- Contexts of the same rows put in the same place. -/
theorem rowView_setCtx_congr {s t : State} {c : CtxId} {x y : Ctx} (h : rowView s = rowView t) (hv : x.v = y.v) :
    rowView (setCtx s c x) = rowView (setCtx t c y) := by
  have hrows : (rowView (setCtx s c x)).rows = (rowView (setCtx t c y)).rows := funext fun d => by
    change (getCtx _ d).v = (getCtx _ d).v
    rw [getCtx_setCtx, getCtx_setCtx]; split
    · exact hv
    · exact congrFun (congrArg RowView.rows h) d
  exact (RowView.mk.injEq ..).mpr ⟨(congrArg RowView.flight h :), (congrArg RowView.fetches h :), (congrArg RowView.mem h :),
    (congrArg RowView.matrix h :), hrows⟩

theorem signCtx_v (bs : List Byte) (x : Ctx) : (signCtx bs x).v = x.v := by unfold signCtx; split <;> rfl

theorem rowView_signWrites (l : List SignedWrite) (s : State) : rowView (signWrites l s) = rowView s := by
  refine foldl_keeps (fun u g => ?_) _ s
  dsimp only; split
  · rfl
  · exact rowView_setCtx (signCtx_v _ _)

/-- The flags of a landing into the status registers of their contexts (R44). -/
def putFlags (l : List (CtxId × Fl × Mx)) (s : State) : State :=
  l.foldl (fun s g =>
    if g.2.1 = 0 && g.2.2 = 0 then s
    else let x := getCtx s g.1; setCtx s g.1 { x with bank := orFlags x.bank g.2.1 g.2.2 }) s

theorem rowView_putFlags (l : List (CtxId × Fl × Mx)) (s : State) : rowView (putFlags l s) = rowView s := by
  refine foldl_keeps (fun u g => ?_) l s
  dsimp only; split
  · rfl
  · exact rowView_setCtx rfl

/-! A result that lands alone (R91) -/

/-- A landing before its first result: no result is in flight any more. -/
def landStart (s : State) : LandAcc := { s := { s with flight := [] }, flags := [], rows := [] }

/-- The landing of the only result in flight: the engine's part of it, what it drains, and its write. -/
def loneLanding (s : State) (f : Flight) : LandAcc :=
  let a := sideOf (landStart s) f
  landOne s { a with s := drainClear a.s f } (drainRes a.s f)

/-- An event that lands the only result in flight: after the result's own landing come flags, ports and signatures only. -/
theorem rowView_landingsOf {s : State} {f : Flight} {p : Flight → Bool} (hf : s.flight = [f]) (hl : f.land ≤ s.cycle)
    (hp : p f = true) (hd : dropLost [] [f] = [f]) (hfe : (loneLanding s f).s.fetches = []) :
    rowView (landingsOf false p s) = rowView (loneLanding s f).s := by
  let u := putFlags (loneLanding s f).flags (loneLanding s f).s
  have hu : rowView u = rowView (loneLanding s f).s := rowView_putFlags ..
  have hnone : u.fetches = [] := (congrArg RowView.fetches hu : u.fetches = (loneLanding s f).s.fetches).trans hfe
  have hland : (landLog false p s).1 = { u with ports := u.ports.filter (fun r => decide (u.cycle ≤ r.cycle)) } := by
    simp only [landLog, hf, List.filter_cons, List.filter_nil, hl, hp, hd, decide_true, Bool.and_self, Bool.not_true,
      Bool.false_eq_true, if_false, if_true, Machine.dropLost, List.nil_append, List.foldl_cons, List.foldl_nil, List.map_cons,
      List.map_nil]
    exact runFetches_nil hnone
  rw [landingsOf, rowView_signWrites, hland]
  exact hu

/-! An MMA alone in flight (R180, R183) -/

/-- The count of a STEP changes its routine only (R201). -/
theorem countStep_eq (f : Flight) (s : State) :
    ∃ m : Matrix, countStep f s = { s with matrix := m } ∧ m.arrays = s.matrix.arrays := by
  unfold countStep; dsimp only
  split
  · exact ⟨_, rfl, rfl⟩
  · exact ⟨_, rfl, rfl⟩

section
variable {f : Flight} {vd : BitVec 8} {w : BitVec 2} {na sl st : Bool} {n rc rg : Nat} {lanes : List (List MBlock)}

theorem dropLost_mma (hf : f.res = .mma vd w na n sl st true lanes rc rg) : dropLost [] [f] = [f] := by
  simp [dropLost, lostTo, rowLost, laterBits, trimFlags, hf]

/-- The side accumulators of an array after the blocks of an update; the fraction part takes slices only (R180, R183). -/
def sideAdded (sl : Bool) (n : Nat) (lanes : List (List MBlock)) (m : MArray) : MArray :=
  { m with hin := (mxRow n MBlock.h m.hin lanes).1, frn := if sl then (mxRow n MBlock.f m.frn lanes).1 else m.frn }

/-- The engine's part of an update: the side accumulators of its array, beside counts and flags. -/
theorem sideOf_mma (acc : LandAcc) (hf : f.res = .mma vd w na n sl st true lanes rc rg) :
    ∃ m : Matrix, getArr m w = sideAdded sl n lanes (getArr acc.s.matrix w) ∧ (sideOf acc f).rows = acc.rows ∧
      rowView (sideOf acc f).s = rowView { acc.s with matrix := m } := by
  let u : State := { acc.s with matrix := setArr acc.s.matrix w (sideAdded sl n lanes (getArr acc.s.matrix w)) }
  obtain ⟨x, hs, hx, hrows⟩ : ∃ x : Ctx, (sideOf acc f).s = countStep f (setCtx u f.ctx x) ∧ x.v = (getCtx u f.ctx).v ∧
      (sideOf acc f).rows = acc.rows := by
    unfold sideOf; rw [hf]
    cases sl <;> exact ⟨_, rfl, rfl, rfl⟩
  obtain ⟨m, hcount, hm⟩ := countStep_eq f (setCtx u f.ctx x)
  refine ⟨m, ?_, hrows, ?_⟩
  · rw [getArr, hm]; exact getArr_setArr_self ..
  · rw [hs, hcount]
    exact rowView_setCtx (s := { acc.s with matrix := m }) hx

/-- An update that lands first on its row adds to the row as it was before the cycle. -/
theorem landOne_mma (base : State) {acc : LandAcc} (hf : f.res = .mma vd w na n sl st true lanes rc rg) (hrows : acc.rows = []) :
    (landOne base acc f).s = setCtx acc.s f.ctx (landReg (getCtx acc.s f.ctx)
      (.row vd 4 (mmaRow na n ((getCtx base f.ctx).getV vd).data lanes).1 (BitVec.allOnes 2048))) := by
  have hacc : accRow base { acc with flags := acc.flags ++ [(f.ctx, f.fp, f.mx)] } f.ctx vd =
      ((getCtx base f.ctx).getV vd).data := by rw [accRow, hrows]; rfl
  unfold landOne; rw [hf]
  simp only [Bool.not_true, Bool.false_eq_true, if_false, hacc, landAs]

theorem drain_mma (s : State) (hf : f.res = .mma vd w na n sl st true lanes rc rg) : drainRes s f = f ∧ drainClear s f = s := by
  rw [drainRes, drainClear, hf]; exact ⟨rfl, rfl⟩

/-- An update that lands alone adds to its array's side accumulators, and writes its row from the row as it was. -/
theorem rowView_loneLanding_mma (s : State) (hf : f.res = .mma vd w na n sl st true lanes rc rg) :
    ∃ m : Matrix, getArr m w = sideAdded sl n lanes (getArr s.matrix w) ∧
      rowView (loneLanding s f).s = rowView (setCtx { s with flight := [], matrix := m } f.ctx (landReg (getCtx s f.ctx)
        (.row vd 4 (mmaRow na n ((getCtx s f.ctx).getV vd).data lanes).1 (BitVec.allOnes 2048)))) := by
  obtain ⟨m, hm, hrows, hview⟩ := sideOf_mma (landStart s) hf
  obtain ⟨hres, hclear⟩ := drain_mma (sideOf (landStart s) f).s hf
  have hv : (getCtx (sideOf (landStart s) f).s f.ctx).v = (getCtx s f.ctx).v :=
    congrFun (congrArg RowView.rows hview) f.ctx
  refine ⟨m, hm, ?_⟩
  rw [loneLanding, hres, hclear, landOne_mma s hf hrows]
  refine rowView_setCtx_congr hview ?_
  simp only [landReg, Ctx.getV, hv]

end

/-- The results that MMA_LAND lands. -/
def mmaOrStep : Res → Bool
  | .mma .. => true
  | .stepNan _ => true
  | _ => false

theorem exec_mmaLand (s : State) : exec .mmaLand s = .next (landingsOf false (resKind mmaOrStep) s) := rfl

theorem matrixProductLanding : Claim.MatrixProductLanding := by
  intro s f vd w na sl st n rc rg lanes hfl hl hfe _ hf
  obtain ⟨m, hm, hlone⟩ := rowView_loneLanding_mma s hf
  have hview := (rowView_landingsOf (p := resKind mmaOrStep) hfl hl (congrArg mmaOrStep hf) (dropLost_mma hf)
    ((congrArg RowView.fetches hlone).trans hfe)).trans hlone
  obtain ⟨htag, hdata, hne, -⟩ := landReg_row_frame (getCtx s f.ctx) vd 4
    (mmaRow na n ((getCtx s f.ctx).getV vd).data lanes).1 (BitVec.allOnes 2048)
  let y := landReg (getCtx s f.ctx) (.row vd 4 (mmaRow na n ((getCtx s f.ctx).getV vd).data lanes).1 (BitVec.allOnes 2048))
  let t := landingsOf false (resKind mmaOrStep) s
  have hmat : t.matrix = m := (congrArg RowView.matrix hview :)
  have hrow : ∀ j, (getCtx t f.ctx).getV j = y.getV j := fun j => by
    have hv : (getCtx t f.ctx).v = y.v :=
      (congrFun (congrArg RowView.rows hview) f.ctx).trans (congrArg Ctx.v (getCtx_setCtx_self ..))
    rw [Ctx.getV, hv]; rfl
  refine ⟨t, exec_mmaLand s, (congrArg RowView.flight hview :), (congrArg RowView.mem hview :), ?_, ?_, ?_,
    fun hsl => ?_, fun j hj => ?_⟩
  · rw [hrow]; exact htag.symm
  · rw [hrow]; exact BitVec.eq_of_getLsbD_eq fun i hi => by rw [hdata, BitVec.getLsbD_allOnes, decide_eq_true hi, if_pos rfl]
  · rw [hmat, hm]; rfl
  · rw [hmat, hm, hsl]; rfl
  · rw [hrow]; exact hne j hj

/-- Settles O28: MMA at issue by its refusals, and the landing of an update alone in flight. -/
theorem matrixProducts : Obligations.MatrixProducts := ⟨matrixMultiply, matrixProductLanding⟩

end Sys2Proof.Machine
end

section
/-! SUPPORT. The routines of the matrix engine: what one microword can do, and what the events of a routine do with it. -/
namespace Sys2Proof.Machine

/-! One microword (R198, R199) -/

/-- A word that stops its routine with a status other than 0: nothing else has changed. -/
def WordStops (s : State) (r : MRoutine) (n : MNext) : Prop := ∃ st : BitVec 8, st ≠ 0 ∧ n = .stop s r st r.next

/-- A word that issues: one result of the owner is put in flight, and the routine goes on to the next word. -/
def WordIssues (s : State) (c : CtxId) (r : MRoutine) (lat : Nat) (n : MNext) : Prop :=
  ∃ t r' f, n = .go t r' ∧ t.flight = s.flight ++ [f] ∧ f.ctx = c ∧ f.land = s.cycle + lat ∧ r'.next = r.next + 1

/-- All that a word can do that may put one result in flight. -/
inductive WordOutcome (s : State) (c : CtxId) (r : MRoutine) (lat : Nat) (n : MNext) : Prop
  | waits (h : n = .wait)
  | stops (h : WordStops s r n)
  | issues (h : WordIssues s c r lat n)

section
variable {s t : State} {c : CtxId} {r r' : MRoutine} {w : Dbl} {lat : Nat}

theorem WordOutcome.of_stop {st : BitVec 8} {wd : Nat} (h : WordOutcome s c r lat (.stop t r' st wd)) :
    t = s ∧ r' = r ∧ st ≠ 0 := by
  rcases h with h | ⟨st', hne, h⟩ | ⟨_, _, _, h, _⟩ <;> cases h
  exact ⟨rfl, rfl, hne⟩

theorem WordOutcome.of_go (h : WordOutcome s c r lat (.go t r')) :
    ∃ f, t.flight = s.flight ++ [f] ∧ f.ctx = c ∧ f.land = s.cycle + lat ∧ r'.next = r.next + 1 := by
  rcases h with h | ⟨_, _, h⟩ | ⟨_, _, f, h, hf⟩ <;> cases h
  exact ⟨f, hf⟩

theorem wordIssues_flight {res : Res} {mx : Mx} {key : Nat}
    (h : t.flight = (engineFlight s c lat res mx key).flight) : WordIssues s c r lat (.go t (passWord s lat r)) :=
  ⟨t, _, _, rfl, h, rfl, rfl, rfl⟩

/-- A later STEP waits while its array is taken (R187, R199). -/
theorem stepWord_waits (hi : r.issued = true)
    (hb : mmaBlocked s (BitVec.ofNat 2 (w.toNat / 2 ^ 58)) (w.toNat / 2 ^ 55 % 8) = true) : stepWord s c r w = .wait := by
  have harr : BitVec.ofNat 2 (w.toNat / 2 ^ 58 % 2 ^ 2) = BitVec.ofNat 2 (w.toNat / 2 ^ 58) := BitVec.eq_of_toNat_eq (by simp)
  unfold stepWord; dsimp only
  exact if_pos (by rw [hi, harr, Bool.true_and]; exact hb)

theorem stepWord_outcome (s : State) (c : CtxId) (r : MRoutine) (w : Dbl) :
    WordOutcome s c r (mfLatency (w.toNat / 2 ^ 55 % 2 ^ 3)) (stepWord s c r w) := by
  unfold stepWord; dsimp only
  split
  · exact .waits rfl
  · split
    · exact .stops ⟨6, by decide, rfl⟩
    · split
      · exact .issues (wordIssues_flight rfl)
      · split
        · exact .issues (wordIssues_flight rfl)
        · exact .issues (wordIssues_flight rfl)

theorem loadWord_outcome (s : State) (c : CtxId) (r : MRoutine) (w : Dbl) : WordOutcome s c r 20 (loadWord s c r w) := by
  unfold loadWord; dsimp only
  split
  · exact .waits rfl
  · split
    · exact .stops ⟨5, by decide, rfl⟩
    · split
      · exact .issues (wordIssues_flight rfl)
      · exact .issues (wordIssues_flight rfl)

variable (hsz : r.next < s.matrix.size) (hw : SMap.get 0 s.matrix.store r.next = w)
include hsz hw

theorem microWord_end (h0 : w = 0) : microWord s c r = .stop s r 0 0 := by
  subst h0
  unfold microWord; rw [hw]; dsimp only
  rw [if_neg (Nat.not_le.mpr hsz)]; rfl

variable (hstart : r.start ≤ s.cycle)
include hstart

theorem microWord_step (c : CtxId) (hop : w.toNat / 2 ^ 60 = 1) :
    microWord s c r = if w.extractLsb' 0 48 ≠ 0 then .stop s r 4 r.next else stepWord s c r w := by
  unfold microWord; rw [hw]; dsimp only
  rw [if_neg (Nat.not_le.mpr hsz), hop]
  simp only [if_neg (Nat.not_lt.mpr hstart)]

theorem microWord_load (c : CtxId) (hop : w.toNat / 2 ^ 60 = 2) :
    microWord s c r = if w.extractLsb' 0 51 ≠ 0 then .stop s r 4 r.next else loadWord s c r w := by
  unfold microWord; rw [hw]; dsimp only
  rw [if_neg (Nat.not_le.mpr hsz), hop]
  simp only [if_neg (Nat.not_lt.mpr hstart)]

theorem microWord_step_outcome (c : CtxId) (hop : w.toNat / 2 ^ 60 = 1) :
    WordOutcome s c r (mfLatency (w.toNat / 2 ^ 55 % 2 ^ 3)) (microWord s c r) := by
  rw [microWord_step hsz hw hstart c hop]
  split
  · exact .stops ⟨4, by decide, rfl⟩
  · exact stepWord_outcome s c r w

theorem microWord_load_outcome (c : CtxId) (hop : w.toNat / 2 ^ 60 = 2) : WordOutcome s c r 20 (microWord s c r) := by
  rw [microWord_load hsz hw hstart c hop]
  split
  · exact .stops ⟨4, by decide, rfl⟩
  · exact loadWord_outcome s c r w

end

/-! The events of a routine (R199) -/

/-- The state after a microword of an event: it waits, goes on with the routine, or ends it. -/
def afterWord (s : State) : MNext → State
  | .wait => s
  | .go t r => { t with matrix := { t.matrix with run := some r } }
  | .stop t r status word => endRoutine t r status word

theorem microEvent_hold {s : State} (ops : List Nat) (h : s.matrix.hold = true) : microEvent ops s = s := by
  unfold microEvent
  split
  · rw [if_pos (by simp [h])]
  · rfl

section
variable {s : State} {c : CtxId} {r : MRoutine} (ho : mxOwner s = some c) (hrun : s.matrix.run = some r)
include ho hrun

theorem microEvent_otherOp {ops : List Nat} {op : Nat} (hop : (SMap.get 0 s.matrix.store r.next).toNat / 2 ^ 60 = op)
    (hmem : op ∉ ops) : microEvent ops s = s := by
  unfold microEvent; rw [ho, hrun]; dsimp only
  rw [hop, if_pos (by simp [hmem])]

theorem microEvent_next {ops : List Nat} (hh : s.matrix.hold = false) (hstart : r.start ≤ s.cycle)
    {op : Nat} (hop : (SMap.get 0 s.matrix.store r.next).toNat / 2 ^ 60 = op) (hmem : op ∈ ops) :
    microEvent ops s = afterWord s (microWord s c r) := by
  unfold microEvent; rw [ho, hrun]; dsimp only
  rw [hop, if_neg (by simp [hh, begun, hstart, hmem])]
  cases microWord s c r <;> rfl

end

/-- What a routine's end leaves behind: the routine that waited runs from the next cycle on, and the next one called waits
(R199). -/
theorem endRoutine_matrix (s : State) (r : MRoutine) (status : BitVec 8) (word : Nat) :
    (endRoutine s r status word).matrix.run = s.matrix.pend.map (fun p => { p with start := max p.start (s.cycle + 1) }) ∧
    (endRoutine s r status word).matrix.pend = s.matrix.more.head? := ⟨rfl, rfl⟩

theorem endRoutine_ending {status : BitVec 8} (h : status ≠ 0) (s : State) (r : MRoutine) (word : Nat) :
    (endRoutine s r status word).matrix.ending =
      s.matrix.ending ++ [{ r with status := status, word := BitVec.ofNat 16 word }] := by
  unfold endRoutine; rw [if_neg h]

/-- The posting of entries changes contexts, and the engine in its list of ended routines only (R199). -/
theorem postEnded_frame (s : State) : (postEnded s).mem = s.mem ∧
    (postEnded s).matrix = { s.matrix with ending := s.matrix.ending.filter (fun r => !decide (r.last ≤ s.cycle)) } :=
  ⟨foldl_mem (fun u c => by dsimp only; split <;> rfl) _ _,
    foldl_keeps (π := State.matrix) (fun u c => by dsimp only; split <;> rfl) _ _⟩

/-- Settles O31: each event does what its microword does. -/
theorem routineEvents : Obligations.RoutineEvents := by
  intro s c r w ho hrun hstart hsz hw
  refine ⟨fun hh => ⟨congrArg _ (microEvent_hold _ hh), congrArg _ (microEvent_hold _ hh)⟩, fun hh => ?_⟩
  have hev : ∀ {op : Nat}, w.toNat / 2 ^ 60 = op → microEvent [op] s = afterWord s (microWord s c r) := fun hop =>
    microEvent_next ho hrun hh hstart (by rw [hw, hop]) (List.mem_singleton_self _)
  refine ⟨fun h0 => ?_, fun hop => ?_, fun hop hz hi hb => ?_, fun s' r' st wd e hstop he => ?_,
    fun s' r' hgo => ⟨fun hop => ?_, fun hop => ?_⟩⟩
  · have hend : microEvent [0] s = endRoutine s r 0 0 := by
      rw [hev (by rw [h0]; rfl), microWord_end hsz hw h0]; rfl
    obtain ⟨hmem, hmat⟩ := postEnded_frame (endRoutine s r 0 0)
    obtain ⟨hnew, hpend⟩ := endRoutine_matrix s r 0 0
    have hexec : exec .routineEnd s = .next (postEnded (endRoutine s r 0 0)) := hend ▸ rfl
    exact ⟨_, hexec, (congrArg Matrix.run hmat).trans hnew, (congrArg Matrix.pend hmat).trans hpend, hmem⟩
  · exact congrArg _ (microEvent_otherOp ho hrun (by rw [hw, hop]) (by decide))
  · have hwait : microWord s c r = .wait := by
      rw [microWord_step hsz hw hstart c hop, if_neg (not_not_intro hz), stepWord_waits hi hb]
    exact congrArg Host.Outcome.next ((hev hop).trans (congrArg _ hwait))
  · obtain ⟨lat, hout, hexec⟩ : ∃ lat, WordOutcome s c r lat (microWord s c r) ∧
        exec e s = .next (afterWord s (microWord s c r)) := by
      rcases he with ⟨hop, rfl⟩ | ⟨hop, rfl⟩
      · exact ⟨_, microWord_step_outcome hsz hw hstart c hop, congrArg _ (hev hop)⟩
      · exact ⟨_, microWord_load_outcome hsz hw hstart c hop, congrArg _ (hev hop)⟩
    rw [hstop] at hout hexec
    obtain ⟨rfl, rfl, hne⟩ : s' = s ∧ r' = r ∧ st ≠ 0 := hout.of_stop
    obtain ⟨hnew, hpend⟩ := endRoutine_matrix s' r' st wd
    exact ⟨_, hexec, hnew, hpend, endRoutine_ending hne .., rfl, rfl⟩
  · obtain ⟨f, hfl, hctx, -, hnext⟩ := (hgo ▸ microWord_step_outcome hsz hw hstart c hop).of_go
    exact ⟨_, f, congrArg Host.Outcome.next ((hev hop).trans (congrArg _ hgo)), hfl, hctx, congrArg some hnext⟩
  · obtain ⟨f, hfl, -, hland, hnext⟩ := (hgo ▸ microWord_load_outcome hsz hw hstart c hop).of_go
    exact ⟨_, f, congrArg Host.Outcome.next ((hev hop).trans (congrArg _ hgo)), hfl, hland, congrArg some hnext⟩

end Sys2Proof.Machine
end

section
/-! SUPPORT. The distribution words: their checks, the dependence check of the pairing words, and what the words send. -/
namespace Sys2Proof.Machine

/-! Causes of a list of checks (R118) -/

theorem mem_failIf {b : Bool} {c d : Cause} (h : d ∈ failIf b c) : d = c := by
  cases b
  · exact absurd h List.not_mem_nil
  · exact List.mem_singleton.mp h
theorem failIf_nil_iff {b : Bool} {c : Cause} : failIf b c = [] ↔ b = false := ⟨failIf_eq_nil, fun h => by rw [h]; rfl⟩

/-- A word traps with its first cause of class 4 or below, if no other cause precedes it in class. -/
theorem traps_head {i : Instr} {s : State} {c : Cause} {cs : List Cause} {outs : List Out} {eff : State → State}
    (e : exec i s = .next (issue s (c :: cs) outs eff)) (hc : c.cls ≤ 4) (h : ∀ d ∈ cs, c.cls ≤ d.cls) :
    Traps i s c.cls c.code c.tval := ⟨_, e, issue_trap_head s c cs outs eff h (.inl hc)⟩

theorem needGroup_cls {s : State} {i : BitVec 8} {n : Nat} {c : Cause} (h : c ∈ needGroup s i n) : c.cls = 4 := by
  rw [mem_failIf h]
theorem scratchChecks_cls {s : State} {p n k : Nat} {c : Cause} (h : c ∈ scratchChecks s p n k) : c.cls = 5 := by
  rcases List.mem_append.mp h with h | h <;> rw [mem_failIf h]
theorem needPort_cls {s : State} {q : BitVec 2} {w : Bool} {n : Nat} {c : Cause} (h : c ∈ needPort s q w n) : c.cls = 5 := by
  unfold needPort at h
  split at h
  · rw [List.mem_singleton.mp h]
  · exact absurd h List.not_mem_nil
theorem needPort_ok {s : State} {q : BitVec 2} {w : Bool} {n : Nat} (h : portHolder s q w (s.cycle + n) = none) :
    needPort s q w n = [] := by
  rw [needPort, h]

/-! The checks of a distribution access (R217, R232) -/

theorem pieceChecks_cls {s : State} {a : Dbl} {c : Cause} (h : c ∈ pieceChecks s a) : c.cls = 5 := by
  obtain ⟨k, -, hk⟩ := List.mem_flatMap.mp h
  exact scratchChecks_cls hk
theorem allPorts_cls {s : State} {w : Bool} {n : Nat} {c : Cause} (h : c ∈ allPorts s w n) : c.cls = 5 := by
  obtain ⟨q, -, hq⟩ := List.mem_flatMap.mp h
  exact needPort_cls hq
theorem allPorts_ok {s : State} {w : Bool} {n : Nat} (h : ∀ q, portHolder s q w (s.cycle + n) = none) : allPorts s w n = [] :=
  List.flatMap_eq_nil_iff.mpr fun _ _ => needPort_ok (h _)

/-! Distribution sources (R24, R215) -/

theorem needDist_ok {s : State} {x : BitVec 4} (h : (rd s x).tag = 14) : needDist s x = [] :=
  failIf_nil_iff.mpr (bne_eq_false_iff_eq.mpr h)
theorem needDist_bad {s : State} {x : BitVec 4} (h : (rd s x).tag ≠ 14) :
    needDist s x = [fmtTag s 2 x.toNat x.toNat (rd s x).tag] := by
  rw [needDist, show ((cx s).getD x).tag != 14 from bne_iff_ne.mpr h]; rfl

/-- A word that first checks a source which does not carry DIST, and then causes of class 4 and above. -/
theorem traps_notDist {i : Instr} {s : State} {x : BitVec 4} {l cs : List Cause} {outs : List Out} {eff : State → State}
    (h : (rd s x).tag ≠ 14) (e : exec i s = .next (issue s l outs eff)) (hl : l = needDist s x ++ cs)
    (hcs : ∀ c ∈ cs, 4 ≤ c.cls) : ∃ y, Traps i s 4 0x03 y := by
  rw [hl, needDist_bad h] at e
  exact ⟨_, traps_head e (le_refl 4) hcs⟩

/-! The pairing words (R208, R211 to R215) -/

/-- The dependence of a .same pairing that passes: equal source sets, equal nonzero lineages, equal weights (R212). -/
def SameFits (x y : Dist) : Prop := x.sset = y.sset ∧ x.lin = y.lin ∧ x.lin ≠ 0 ∧ weightsDiffer x y = false

/-- The register that a pairing word sends, with its source set and lineage (R208, R211, R212). -/
def pairOut (s : State) (op : DOp) (d a b : BitVec 4) (m : Bool) : Out :=
  let x := rd s a
  let y := rd s b
  let r := distOf (List.zipWith (if m then sameElem op else pairElem op) (elems x.data) (elems y.data))
  { lat := 24, fp := r.2, res := .dist d r.1 (if m then x.sset else x.sset ||| y.sset) (if m then x.lin else 0) }

section
variable {s : State} {op : DOp} {d a b : BitVec 4} {m : Bool} {i : Instr}

theorem depCheck_all : depCheck s a b false = [] ↔ (rd s a).sset &&& (rd s b).sset = 0 :=
  failIf_nil_iff.trans bne_eq_false_iff_eq
theorem depCheck_same : depCheck s a b true = [] ↔ SameFits (rd s a) (rd s b) := by
  simp [depCheck, SameFits, failIf_nil_iff, and_assoc]

/-- Every failure of the dependence check is DEP_CONFLICT (R213). -/
theorem depCheck_cause {c : Cause} (h : c ∈ depCheck s a b m) : c.cls = 4 ∧ c.code = 0x06 := by
  cases m
  · rw [mem_failIf h]; exact ⟨rfl, rfl⟩
  · rcases List.mem_append.mp h with h | h
    · rcases List.mem_append.mp h with h | h <;> rw [mem_failIf h] <;> exact ⟨rfl, rfl⟩
    · rw [mem_failIf h]; exact ⟨rfl, rfl⟩

theorem exec_pairing (h : i ∈ [Instr.dadd d a b m, .dsub d a b m, .dmul d a b m, .dmax d a b m, .dmin d a b m]) :
    ∃ op, exec i s = pairing op d a b m s := by
  simp only [List.mem_cons, List.not_mem_nil, or_false] at h
  rcases h with rfl | rfl | rfl | rfl | rfl
  · exact ⟨.add, rfl⟩
  · exact ⟨.sub, rfl⟩
  · exact ⟨.mul, rfl⟩
  · exact ⟨.max, rfl⟩
  · exact ⟨.min, rfl⟩

/-- On two DIST sources a pairing word has the dependence check alone. -/
theorem pairing_issues (ha : (rd s a).tag = 14) (hb : (rd s b).tag = 14) :
    pairing op d a b m s = .next (issue s (depCheck s a b m) [pairOut s op d a b m] id) := by
  rw [pairing, needDist_ok ha, needDist_ok hb]
  rfl

theorem pairing_completes (hr : s.roomFor 7) (ha : (rd s a).tag = 14) (hb : (rd s b).tag = 14) (h : depCheck s a b m = []) :
    pairing op d a b m s = .next (s.sent [pairOut s op d a b m]) := by
  rw [pairing_issues ha hb, h]
  exact congrArg _ (issue_room id hr (le_refl 7))

theorem traps_pairing (e : exec i s = pairing op d a b m s) (ha : (rd s a).tag = 14) (hb : (rd s b).tag = 14)
    (h : depCheck s a b m ≠ []) : ∃ x, Traps i s 4 0x06 x := by
  obtain ⟨c, cs, hl⟩ := List.exists_cons_of_ne_nil h
  have hall : ∀ k ∈ c :: cs, k.cls = 4 ∧ k.code = 0x06 := fun k hk => depCheck_cause (hl ▸ hk)
  obtain ⟨hcls, hcode⟩ := hall c List.mem_cons_self
  rw [pairing_issues ha hb, hl] at e
  have ht := traps_head e hcls.le fun k hk => by rw [hcls, (hall k (List.mem_cons_of_mem c hk)).1]
  rw [hcls, hcode] at ht
  exact ⟨_, ht⟩

end

/-- Settles O25: the dependence check of the all-pairing form is the disjointness of the source sets. -/
theorem allPairing : Obligations.AllPairing := by
  intro s d a b i hi ha hb
  obtain ⟨op, e⟩ := exec_pairing (s := s) hi
  exact ⟨fun h hr => ⟨_, _, e.trans (pairing_completes hr ha hb (depCheck_all.mpr h))⟩,
    fun h => traps_pairing e ha hb (mt depCheck_all.mp h), fun h => by rw [h]; exact BitVec.zero_and⟩

/-- Settles O26: the dependence check of the .same form is that tags, lineages and weights fit. -/
theorem samePairing : Obligations.SamePairing := by
  intro s d a b i hi ha hb fits
  obtain ⟨op, e⟩ := exec_pairing (s := s) hi
  exact ⟨fun h hr => ⟨_, _, e.trans (pairing_completes hr ha hb (depCheck_same.mpr h))⟩,
    fun h => traps_pairing e ha hb (mt depCheck_same.mp h)⟩

/-! Words on one source (R216, R218, R219, R222 to R225) -/

section
variable {s : State} {x : BitVec 4}

theorem exec_daff (hr : s.roomFor 7) (hx : (rd s x).tag = 14) (d : BitVec 4) (b : BitVec 6) :
    let q := distOf ((elems (rd s x).data).map (affElem (argLo (rs s b)) (argHi (rs s b))))
    exec (.daff d x b) s = .next (s.sent [{ lat := 4, fp := q.2, res := .dist d q.1 (rd s x).sset (rd s x).lin }]) := by
  intro q
  change execDaff d x b s = _
  rw [execDaff, needDist_ok hx]
  exact congrArg _ (issue_room id hr (le_refl 7))

theorem exec_dtag (hr : s.roomFor 1) (hx : (rd s x).tag = 14) (a : BitVec 6) : exec (.dtag x a) s =
    .next (s.sent [{ lat := 1, res := .dtag x ((rs s a).extractLsb' 0 32) ((rs s a).extractLsb' 32 32) }]) := by
  change execDtag x a s = _
  rw [execDtag, needDist_ok hx]
  exact congrArg _ (issue_room id hr (le_refl 1))

theorem exec_dpt (hr : s.roomFor 1) (hx : (rd s x).tag = 14) (e b : BitVec 6) :
    exec (.dpt e x b) s = .next (s.sent [scalarOut 2 e (dptValue (rd s x) (rs s b))]) := by
  change execDpt e x b s = _
  rw [execDpt, needDist_ok hx]
  exact congrArg _ (issue_room id hr (le_refl 1))

theorem dptValue_meta {r : Dist} {sel : Dbl} (h : sel.getLsbD 8 = true) : dptValue r sel = r.lin ++ r.sset := by
  rw [dptValue, if_pos h]

/-- Points are FP32 codes, and weights have 16 bits (R35, R204). -/
theorem elemAt_lt {r : BitVec 12288} {e : Nat} {p : Nat × Nat} (h : p ∈ elemAt r e) : p.1 < 2 ^ 32 ∧ p.2 < 2 ^ 16 := by
  obtain ⟨i, -, rfl⟩ := List.mem_map.mp h
  exact ⟨Nat.mod_lt _ (by decide), Nat.mod_lt _ (by decide)⟩

/-- A point that DPT reads has its code in bits 31:0, its weight above, and zeros over both (R219). -/
theorem dptValue_point_high {r : Dist} {sel : Dbl} (h : sel.getLsbD 8 = false) : (dptValue r sel).extractLsb' 48 16 = 0 := by
  have hlen : sel.toNat % 8 < (elemAt r.data (sel.toNat / 8 % 32)).length := by
    rw [elemAt, List.length_map, List.length_range]; omega
  obtain ⟨hcode, hweight⟩ := elemAt_lt (List.getElem_mem hlen)
  rw [dptValue, if_neg (by rw [h]; decide), List.getD_eq_getElem _ _ hlen]
  refine BitVec.eq_of_toNat_eq ?_
  rw [BitVec.extractLsb'_toNat, BitVec.toNat_ofNat, Nat.shiftRight_eq_div_pow]
  change _ = 0
  omega

/-- A row of FP32 results with the flags of its lanes. -/
def rowOfLanes (s : State) (lat : Nat) (v : BitVec 8) (l : List LaneV) : Out :=
  withLanes (l.map (·.2)) (rowOut s lat v 4 (ofLanes 32 (l.map (·.1))))

/-- What a word gives for every element: its results for the low argument, then those for the high one (R224, R225). -/
def bothArgs (f : Elem → Nat → LaneV) (r : Dist) (y : Dbl) : List LaneV :=
  (elems r.data).map (fun e => f e (argLo y)) ++ (elems r.data).map (fun e => f e (argHi y))

theorem twoArgs_completes (hr : s.roomFor 1) (hx : (rd s x).tag = 14) (f : Elem → Nat → LaneV) (v : BitVec 8)
    (b : BitVec 6) :
    twoArgs f v x b s = .next (s.sent [rowOfLanes s 10 v (bothArgs f (rd s x) (rs s b))]) := by
  rw [twoArgs, needDist_ok hx]
  exact congrArg _ (issue_room id hr (le_refl 1))

theorem exec_dmom {v : BitVec 8} (hr : s.roomFor 2) (hx : (rd s x).tag = 14) (hg : rotSpan (cx s).bank v 2 = false) :
    let ms := (elems (rd s x).data).map moments
    exec (.dmom v x) s = .next (s.sent [rowOfLanes s 12 v (ms.map (fun m => m.1) ++ ms.map (fun m => m.2.1)),
      rowOfLanes s 12 (groupRow v 1) (ms.map (fun m => m.2.2) ++ List.replicate 32 (0, 0))]) := by
  intro ms
  change execDmom v x s = _
  rw [execDmom, needDist_ok hx, needGroup_ok hg]
  exact congrArg _ (issue_room id hr (le_refl 2))

theorem traps_dmom_group {v : BitVec 8} (hx : (rd s x).tag = 14) (hg : rotSpan (cx s).bank v 2 = true) :
    Traps (.dmom v x) s 4 0x04 0 := by
  have e : exec (.dmom v x) s = execDmom v x s := rfl
  rw [execDmom, needDist_ok hx, needGroup, hg] at e
  exact traps_head e (le_refl 4) fun _ h => absurd h List.not_mem_nil

/-- The words of one source trap FORMAT_TAG where it does not carry DIST (R215). -/
theorem traps_distSource (hx : (rd s x).tag ≠ 14) {d : BitVec 4} {v : BitVec 8} {a b e : BitVec 6} {i : Instr}
    (h : i ∈ [Instr.daff d x b, .dtag x a, .dpt e x b, .dcdf v x b, .dqnt v x b, .dmom v x, .dst x a]) :
    ∃ y, Traps i s 4 0x03 y := by
  have alone : ∀ {i : Instr} {outs : List Out}, exec i s = .next (issue s (needDist s x) outs id) →
      ∃ y, Traps i s 4 0x03 y := fun e =>
    traps_notDist hx e (List.append_nil _).symm fun _ h => absurd h List.not_mem_nil
  simp only [List.mem_cons, List.not_mem_nil, or_false] at h
  rcases h with rfl | rfl | rfl | rfl | rfl | rfl | rfl
  · exact alone rfl
  · exact alone rfl
  · exact alone rfl
  · exact alone rfl
  · exact alone rfl
  · exact traps_notDist hx rfl rfl fun c hc => (needGroup_cls hc).ge
  · refine traps_notDist hx rfl (List.append_assoc ..) fun c hc => ?_
    have h5 : c.cls = 5 := (List.mem_append.mp hc).elim pieceChecks_cls allPorts_cls
    omega

end

/-! DFROM, DLD and DST (R206, R217, R221) -/

section
variable {s : State}

theorem exec_dfrom {v : BitVec 8} (hr : s.roomFor 7) (d : BitVec 4) (a : BitVec 6)
    (hp : ∀ k, k < 4 → (rv s (groupRow v k)).tag = 4) (h4 : (rv s (groupRow v 4)).tag = 2)
    (h5 : (rv s (groupRow v 5)).tag = 2) (hg : rotSpan (cx s).bank v 6 = false) :
    let q := distOf ((List.range 32).map (fun e => checkElem (fromElem s v e)))
    exec (.dfrom v d a) s = .next (s.sent
      [{ lat := 6, fp := q.2, res := .dist d q.1 ((rs s a).extractLsb' 0 32) ((rs s a).extractLsb' 32 32) }]) := by
  intro q
  have htags : (List.range 6).flatMap (fun k =>
      needRow s (groupRow v k) (fun t => if k < 4 then t == 4 else t == 2)) = [] := by
    refine List.flatMap_eq_nil_iff.mpr fun k hk => needRow_ok ?_
    have hk6 : k < 6 := List.mem_range.mp hk
    split
    · rw [hp k ‹_›]; rfl
    · obtain rfl | rfl : k = 4 ∨ k = 5 := by omega
      · rw [h4]; rfl
      · rw [h5]; rfl
  change execDfrom v d a s = _
  rw [execDfrom, htags, needGroup_ok hg]
  exact congrArg _ (issue_room id hr (le_refl 7))

theorem exec_dld {a : BitVec 6} (hr : s.roomFor 7) (d : BitVec 4) (b : BitVec 6) (ha : pieceChecks s (rs s a) = [])
    (hp : ∀ q, portHolder s q false s.cycle = none) :
    let q := distOf ((elems (bytesBv 12288 (scratchRead s (rs s a).toNat 1536))).map checkElem)
    exec (.dld d a b) s = .next (takeAll false 0 (s.sent
      [{ lat := 6, fp := q.2, res := .dist d q.1 ((rs s b).extractLsb' 0 32) ((rs s b).extractLsb' 32 32) }])) := by
  intro q
  change execDld d a b s = _
  rw [execDld, ha, allPorts_ok hp]
  exact congrArg _ (issue_room _ hr (le_refl 7))

/-- Byte j of the bytes of a bit vector (R35). -/
theorem getElem?_leBytes_bv {w : Nat} (n : Nat) (v : BitVec w) {j : Nat} (h : j < n) :
    (leBytes n v.toNat)[j]? = some (v.extractLsb' (8 * j) 8) := by
  rw [getElem?_leBytes n _ j h, show (256 : Nat) = 2 ^ 8 from rfl, ← Nat.pow_mul, ← Nat.shiftRight_eq_div_pow]
  rfl

/-- A store takes one entry of the snapshot buffer for each 256 bytes, the last of them filled or not (R129). -/
theorem needOf_scratch (lat p : Nat) (bs : List Byte) :
    needOf [{ lat := lat, res := .scratch p bs }] = (bs.length + 255) / 256 := Nat.zero_add _

theorem exec_dst {x : BitVec 4} {a : BitVec 6} (hr : s.roomFor 6) (hx : (rd s x).tag = 14) (ha : pieceChecks s (rs s a) = [])
    (hp : ∀ q, portHolder s q true (s.cycle + 2) = none) : exec (.dst x a) s = .next (takeAll true 2 (s.sent
      [{ lat := 2, res := .scratch (rs s a).toNat (leBytes 1536 (rd s x).data.toNat) }])) := by
  change execDst x a s = _
  rw [execDst, needDist_ok hx, ha, allPorts_ok hp]
  exact congrArg _ (issue_room _ hr (by rw [needOf_scratch, length_leBytes]))

end

/-- Settles O27: one equation for each word, and FORMAT_TAG for all that read a register. -/
theorem distributionWordsComplete : Obligations.DistributionWordsComplete := by
  intro s d x v a b e hr
  have hr1 : s.roomFor 1 := hr.mono (by decide)
  refine ⟨fun hx => ⟨exec_daff hr hx d b, exec_dtag hr1 hx a, fun hsel => ?_, fun hsel => ?_, ?_,
    exec_dmom (hr.mono (by decide)) hx, traps_dmom_group hx⟩, fun hx i => traps_distSource hx, exec_dfrom hr d a,
    fun ha => ⟨exec_dld hr d b ha, fun hp hx => ?_⟩⟩
  · rw [exec_dpt hr1 hx, dptValue_meta hsel]
  · exact ⟨_, exec_dpt hr1 hx e b, rfl, dptValue_point_high hsel⟩
  · exact ⟨twoArgs_completes hr1 hx cdfElem v b, twoArgs_completes hr1 hx quantElem v b⟩
  · exact ⟨_, length_leBytes .., exec_dst (hr.mono (by decide)) hx ha hp, fun j hj => getElem?_leBytes_bv 1536 _ hj⟩

end Sys2Proof.Machine
end

section
/-! SUPPORT. The words of pipe L: the bytes that a load reads and a store sends, the order of the checks, and what each word
sends. -/
namespace Sys2Proof.Machine

/-! Values that are read from bytes (R7, R35) -/

/-- Byte j of a value that is read from bytes. -/
theorem extractLsb'_bytesBv {w j : Nat} (bs : List Byte) (h : 8 * j + 8 ≤ w) :
    (bytesBv w bs).extractLsb' (8 * j) 8 = bs.getD j 0 := by
  have hb : (bs.map BitVec.toNat).getD j 0 = (bs.getD j 0).toNat := by
    rw [List.getD_eq_getElem?_getD, List.getD_eq_getElem?_getD, List.getElem?_map]
    cases bs[j]? <;> rfl
  have hl := lanesNat_lane 8 (bs.map BitVec.toNat) j
  rw [hb, Nat.mod_eq_of_lt (bs.getD j 0).isLt] at hl
  refine BitVec.eq_of_toNat_eq ?_
  rw [← hl, BitVec.extractLsb'_toNat, bytesBv, BitVec.toNat_ofNat, Nat.shiftRight_eq_div_pow]
  refine Nat.eq_of_testBit_eq (fun i => ?_)
  simp only [Nat.testBit_mod_two_pow, Nat.testBit_div_two_pow]
  by_cases hi : i < 8
  · rw [decide_eq_true (show i + 8 * j < w by omega), Bool.true_and]
  · rw [decide_eq_false hi, Bool.false_and, Bool.false_and]

/-- A value that is read from bytes holds nothing above them. -/
theorem getLsbD_bytesBv_high {w j : Nat} (bs : List Byte) (h : 8 * bs.length ≤ j) : (bytesBv w bs).getLsbD j = false := by
  have hlane := lanesNat_lane 8 (bs.map BitVec.toNat) (j / 8)
  rw [List.getD_eq_default _ _ (by rw [List.length_map]; omega)] at hlane
  have hbit := congrArg (fun v => v.testBit (j % 8)) hlane
  simp only [Nat.testBit_mod_two_pow, Nat.testBit_div_two_pow, Nat.zero_mod, Nat.zero_testBit, Nat.mod_add_div] at hbit
  rw [decide_eq_true (Nat.mod_lt j (by decide : 0 < 8)), Bool.true_and] at hbit
  rw [bytesBv, BitVec.getLsbD_ofNat, hbit, Bool.and_false]

/-- Byte j of n scratchpad bytes. -/
theorem getElem?_scratchRead (s : State) (p : Nat) {n j : Nat} (h : j < n) :
    (scratchRead s p n)[j]? = some (s.scratchByte (p + j)) := by
  rw [scratchRead, getElem?_memRead _ _ _ _ h, State.scratchByte, keyScratch_add]
theorem length_scratchRead (s : State) (p n : Nat) : (scratchRead s p n).length = n := length_memRead ..

/-- Byte j of a value that is read from the scratchpad is the byte j above its address. -/
theorem extractLsb'_scratchRead (s : State) (p : Nat) {w n j : Nat} (hj : j < n) (hn : 8 * n ≤ w) :
    (bytesBv w (scratchRead s p n)).extractLsb' (8 * j) 8 = s.scratchByte (p + j) := by
  rw [extractLsb'_bytesBv _ (by omega), List.getD_eq_getElem?_getD, getElem?_scratchRead s p hj, Option.getD_some]

theorem length_rowBytes (r : BitVec 2048) : (rowBytes r).length = 256 := by rw [rowBytes, List.length_map, List.length_range]
theorem getElem?_rowBytes (r : BitVec 2048) {j : Nat} (h : j < 256) : (rowBytes r)[j]? = some (r.extractLsb' (8 * j) 8) := by
  rw [rowBytes, List.getElem?_map, List.getElem?_range h]; rfl

/-! The checks of an access (R232, R235, R237, R242) -/

theorem alignIf_ok {p k : Nat} (h : p % k = 0) : alignIf (decide (p % k ≠ 0)) p = [] :=
  failIf_nil_iff.mpr (decide_eq_false (not_not_intro h))

theorem scratchChecks_ok {s : State} {p n k : Nat} (ha : p % k = 0) (hw : inScratch s (cx s).plan p n = true) :
    scratchChecks s p n k = [] := by
  rw [scratchChecks, alignIf_ok ha, rangeIf, hw]; rfl

/-- A misaligned address is the first cause, before its window is looked at. -/
theorem scratchChecks_misaligned {s : State} {p n k : Nat} (h : p % k ≠ 0) :
    ∃ cs, scratchChecks s p n k = ⟨5, 0x12, BitVec.ofNat 64 p⟩ :: cs := by
  rw [scratchChecks, alignIf, decide_eq_true h]; exact ⟨_, rfl⟩
theorem scratchChecks_outside {s : State} {p n k : Nat} (ha : p % k = 0) (hw : inScratch s (cx s).plan p n = false) :
    scratchChecks s p n k = [⟨5, 0x13, BitVec.ofNat 64 p⟩] := by
  rw [scratchChecks, alignIf_ok ha, rangeIf, hw]; rfl

theorem mirrorChecks_ok {s : State} {o n : Nat} (ha : o % n = 0) (hr : mirrorReserved s o n = false)
    (hw : inMirror s (cx s).plan o n = true) : mirrorChecks s o n = [] := by
  rw [mirrorChecks, alignIf_ok ha, rangeIf, hr, hw]; rfl

/-- A held port is SCRATCH_COLLIDE. -/
theorem needPort_held {s : State} {q : BitVec 2} {w : Bool} {n k : Nat} (h : portHolder s q w (s.cycle + n) = some k) :
    ∃ v, needPort s q w n = [⟨5, 0x15, v⟩] := by
  rw [needPort, h]; exact ⟨_, rfl⟩

/-- A word whose causes are all of class 5 traps with the first, if its results, if it has any, find room. -/
theorem traps_class5 {i : Instr} {s : State} {code : BitVec 8} {v : Dbl} {l cs : List Cause} {outs : List Out} {eff : State → State}
    (e : exec i s = .next (issue s l outs eff)) (hl : l = ⟨5, code, v⟩ :: cs) (hcs : ∀ c ∈ cs, c.cls = 5)
    (hr : needOf outs = 0 ∨ s.roomFor (needOf outs)) : Traps i s 5 code v := by
  rw [hl] at e
  exact ⟨_, e, issue_trap_head s _ cs outs eff (fun c hc => (hcs c hc).ge) (.inr hr)⟩

/-! Scalar loads and stores (R237) -/

section
variable {s : State} {d b a : BitVec 6} {i : BitVec 11} {n : Nat} {w : Instr}

/-- The loads of 1, 2, 4 and 8 bytes. -/
theorem exec_load (h : (n, w) ∈ [(1, Instr.ldb d a i), (2, .ldh d a i), (4, .ldw d a i), (8, .ldd d a i)]) (s : State) :
    exec w s = loadScalar d a i n s ∧ n ≤ 8 := by
  simp only [List.mem_cons, Prod.mk.injEq, List.not_mem_nil, or_false] at h
  rcases h with ⟨rfl, rfl⟩ | ⟨rfl, rfl⟩ | ⟨rfl, rfl⟩ | ⟨rfl, rfl⟩ <;> exact ⟨rfl, by decide⟩
/-- The stores of 1, 2, 4 and 8 bytes. -/
theorem exec_store (h : (n, w) ∈ [(1, Instr.stb b a i), (2, .sth b a i), (4, .stw b a i), (8, .std b a i)]) (s : State) :
    exec w s = storeScalar b a i n s ∧ n ≤ 8 := by
  simp only [List.mem_cons, Prod.mk.injEq, List.not_mem_nil, or_false] at h
  rcases h with ⟨rfl, rfl⟩ | ⟨rfl, rfl⟩ | ⟨rfl, rfl⟩ | ⟨rfl, rfl⟩ <;> exact ⟨rfl, by decide⟩

/-- A write of at most 256 bytes takes one entry of the snapshot buffer at most (R129). -/
theorem needOf_scratch_le {lat p key : Nat} {bs : List Byte} (h : bs.length ≤ 256) :
    needOf [{ lat := lat, res := .scratch p bs, key := key }] ≤ 1 :=
  (Nat.zero_add _).trans_le (show (bs.length + 255) / 256 ≤ 1 by omega)
theorem needOf_mirror_le {lat p : Nat} {bs : List Byte} (h : bs.length ≤ 256) :
    needOf [{ lat := lat, res := .mirror p bs }] ≤ 1 :=
  (Nat.zero_add _).trans_le (show (bs.length + 255) / 256 ≤ 1 by omega)

theorem needOf_store (s : State) (lat p : Nat) (b : BitVec 6) (h : n ≤ 8) :
    needOf [{ lat := lat, res := .scratch p (leBytes n (rs s b).toNat) }] ≤ 1 :=
  needOf_scratch_le (by rw [length_leBytes]; omega)

theorem scratchLoads : Claim.ScratchLoads := by
  intro s d a i n w hw p ha hin hp hr
  obtain ⟨e, hn⟩ := exec_load hw s
  refine ⟨bytesBv 64 (scratchRead s p n), ?_, fun j hj => extractLsb'_scratchRead s p hj (by omega),
    fun j hj => getLsbD_bytesBv_high _ (by rwa [length_scratchRead])⟩
  rw [e, loadScalar, scalarAddr, scratchChecks_ok ha hin, needPort_ok hp]
  exact congrArg _ (issue_room _ hr (le_refl 1))

theorem scratchStores : Claim.ScratchStores := by
  intro s b a i n w hw p ha hin hp hr
  obtain ⟨e, hn⟩ := exec_store hw s
  refine ⟨leBytes n (rs s b).toNat, ?_, length_leBytes .., fun j hj => getElem?_leBytes_toNat n _ j hj⟩
  rw [e, storeScalar, scalarAddr, scratchChecks_ok ha hin, needPort_ok hp]
  exact congrArg _ (issue_room _ hr (needOf_store s 2 p b hn))

/-- A load and a store trap with the first cause of their address. -/
theorem traps_address {l : Instr} {code : BitVec 8} {v : Dbl} {cs : List Cause} (hl : exec l s = loadScalar d a i n s)
    (hw : exec w s = storeScalar d a i n s) (hn : n ≤ 8) (hr : s.roomFor 1)
    (hc : scratchChecks s (scalarAddr s a i) n n = ⟨5, code, v⟩ :: cs) : Traps l s 5 code v ∧ Traps w s 5 code v := by
  have hcs : ∀ q r k, ∀ c ∈ cs ++ needPort s q r k, c.cls = 5 := fun q r k c h => (List.mem_append.mp h).elim
    (fun h => scratchChecks_cls (hc ▸ List.mem_cons_of_mem _ h)) needPort_cls
  exact ⟨traps_class5 hl (by rw [hc]; rfl) (hcs _ _ _) (.inr hr),
    traps_class5 hw (by rw [hc]; rfl) (hcs _ _ _) (.inr (hr.mono (needOf_store s 2 _ d hn)))⟩

theorem scratchAccessTraps : Claim.ScratchAccessTraps := by
  intro s d a i n l w hw p hr
  obtain ⟨hl, hn⟩ := exec_load (List.mem_map_of_mem (f := fun x => (x.1, x.2.1)) hw) s
  obtain ⟨hw, -⟩ := exec_store (List.mem_map_of_mem (f := fun x => (x.1, x.2.2)) hw) s
  have hp : BitVec.ofNat 64 (scalarAddr s a i) = p := BitVec.ofNat_toNat .. |>.trans (BitVec.setWidth_eq p)
  refine ⟨fun ha => ?_, fun ha hin => ?_, fun ha hin h hh => ?_⟩
  · obtain ⟨cs, hc⟩ := scratchChecks_misaligned (s := s) (n := n) ha
    exact traps_address hl hw hn hr (hp ▸ hc)
  · exact traps_address hl hw hn hr (hp ▸ scratchChecks_outside ha hin)
  · obtain ⟨v, hv⟩ := needPort_held (n := 0) hh
    refine ⟨v, traps_class5 (cs := []) hl ?_ (by simp) (.inr hr)⟩
    rw [scalarAddr, scratchChecks_ok ha hin]; exact hv

end

/-- Settles O15: the address is checked before the port is taken, and alignment before the window. -/
theorem scratchAccess : Obligations.ScratchAccess := ⟨scratchLoads, scratchStores, scratchAccessTraps⟩

/-! Rows and shape records (R238, R239) -/

section
variable {s : State}

theorem exec_ldv {v : BitVec 8} {a : BitVec 6} {i : BitVec 7} (t : Tag) (hr : s.roomFor 1) :
    let p := rowAddr s a i
    p % 256 = 0 → inScratch s (cx s).plan p 256 = true → portHolder s (quadOf p) false s.cycle = none →
    exec (.ldv v a t i) s =
      .next (takePort (quadOf p) false 0 (s.sent [rowOut s 4 v t (bytesBv 2048 (scratchRead s p 256))])) := by
  intro p ha hin hp
  change execLdv v a t i s = _
  rw [execLdv, scratchChecks_ok ha hin, needPort_ok hp]
  exact congrArg _ (issue_room _ hr (le_refl 1))

theorem exec_stv {v : BitVec 8} {a : BitVec 6} {i : BitVec 7} (hr : s.roomFor 1) (hv : (rv s v).tag ≠ 15) :
    let p := rowAddr s a i
    p % 256 = 0 → inScratch s (cx s).plan p 256 = true → portHolder s (quadOf p) true (s.cycle + 2) = none →
    exec (.stv v a i) s =
      .next (takePort (quadOf p) true 2 (s.sent [{ lat := 2, res := .scratch p (rowBytes (rv s v).data) }])) := by
  intro p ha hin hp
  change execStv v a i s = _
  rw [execStv, needRow_ok (ok := fun t => t != 15) (bne_iff_ne.mpr hv), scratchChecks_ok ha hin, needPort_ok hp]
  exact congrArg _ (issue_room _ hr (needOf_scratch_le (length_rowBytes _).le))

theorem traps_stv_unset {v : BitVec 8} (hv : (rv s v).tag = 15) (a : BitVec 6) (i : BitVec 7) :
    ∃ x, Traps (.stv v a i) s 4 0x03 x := by
  have e : exec (.stv v a i) s = execStv v a i s := rfl
  rw [execStv, needRow_bad (ok := fun t => t != 15) (bne_eq_false_iff_eq.mpr hv)] at e
  refine ⟨_, traps_head e (le_refl 4) (fun c hc => ?_)⟩
  rw [(List.mem_append.mp hc).elim scratchChecks_cls needPort_cls]; exact Nat.le_succ 4

theorem exec_ldshp {h : BitVec 4} {a : BitVec 6} (hr : s.roomFor 1) :
    let q := (rs s a).toNat
    q % 32 = 0 → inScratch s (cx s).plan q 32 = true → portHolder s (quadOf q) false s.cycle = none →
    exec (.ldshp h a) s =
      .next (takePort (quadOf q) false 0 (s.sent [{ lat := 4, res := .shape h (bytesBv 256 (scratchRead s q 32)) }])) := by
  intro q ha hin hp
  change execLdshp h a s = _
  rw [execLdshp, scratchChecks_ok ha hin, needPort_ok hp]
  exact congrArg _ (issue_room _ hr (le_refl 1))

theorem exec_stshp {h : BitVec 4} {a : BitVec 6} (hr : s.roomFor 1) :
    let q := (rs s a).toNat
    q % 32 = 0 → inScratch s (cx s).plan q 32 = true → portHolder s (quadOf q) true (s.cycle + 2) = none →
    exec (.stshp h a) s =
      .next (takePort (quadOf q) true 2 (s.sent [{ lat := 2, res := .scratch q (leBytes 32 (rh s h).toNat) }])) := by
  intro q ha hin hp
  change execStshp h a s = _
  rw [execStshp, scratchChecks_ok ha hin, needPort_ok hp]
  exact congrArg _ (issue_room _ hr (needOf_scratch_le (by rw [length_leBytes]; decide)))

theorem rowAndRecordAccess : Claim.RowAndRecordAccess := by
  intro s v a t i h hr p q
  exact ⟨fun ha hin hp => ⟨_, exec_ldv t hr ha hin hp, fun j hj => extractLsb'_scratchRead s p hj (by decide)⟩,
    fun ha hin hp hv => ⟨_, exec_stv hr hv ha hin hp, length_rowBytes _, fun j hj => getElem?_rowBytes _ hj⟩,
    fun hv => traps_stv_unset hv a i,
    fun ha hin hp => ⟨_, exec_ldshp hr ha hin hp, fun j hj => extractLsb'_scratchRead s q hj (by decide)⟩,
    fun ha hin hp => ⟨_, exec_stshp hr ha hin hp, length_leBytes .., fun j hj => getElem?_leBytes_bv 32 _ hj⟩⟩

/-! The mirror segment (R242) -/

theorem exec_ldmScalar {d m : BitVec 6} (hr : s.roomFor 1) (hm : mirrorChecks s (rs s m).toNat 8 = []) :
    exec (.ldmScalar d m) s =
      .next (addFetch (rs s m).toNat 8 (s.sent [{ lat := 24, res := .scalar d 0, key := s.nextId + 1 }])) := by
  change execLdmScalar d m s = _
  rw [execLdmScalar, hm]
  exact congrArg _ (issue_room _ hr (le_refl 1))

theorem exec_stmScalar {a m : BitVec 6} (hr : s.roomFor 1) (hm : mirrorChecks s (rs s m).toNat 8 = []) :
    exec (.stmScalar a m) s = .next (s.sent [{ lat := 16, res := .mirror (rs s m).toNat (leBytes 8 (rs s a).toNat) }]) := by
  change execStmScalar a m s = _
  rw [execStmScalar, hm]
  exact congrArg _ (issue_room id hr (needOf_mirror_le (by rw [length_leBytes]; decide)))

theorem exec_ldmBlock {a m : BitVec 6} (hr : s.roomFor 1) (hs : scratchChecks s (rs s a).toNat 256 256 = [])
    (hm : mirrorChecks s (rs s m).toNat 256 = []) (hp : portHolder s (quadOf (rs s a).toNat) true (s.cycle + 24) = none) :
    exec (.ldmBlock a m) s = .next (addFetch (rs s m).toNat 256 (takePort (quadOf (rs s a).toNat) true 24
      (s.sent [{ lat := 24, res := .scratch (rs s a).toNat (List.replicate 256 0), key := s.nextId + 1 }]))) := by
  change execLdmBlock a m s = _
  rw [execLdmBlock, hs, hm, needPort_ok hp]
  exact congrArg _ (issue_room _ hr (needOf_scratch_le List.length_replicate.le))

theorem exec_stmBlock {a m : BitVec 6} (hr : s.roomFor 1) (hs : scratchChecks s (rs s a).toNat 256 256 = [])
    (hm : mirrorChecks s (rs s m).toNat 256 = []) (hp : portHolder s (quadOf (rs s a).toNat) false s.cycle = none) :
    exec (.stmBlock a m) s = .next (takePort (quadOf (rs s a).toNat) false 0
      (s.sent [{ lat := 16, res := .mirror (rs s m).toNat (scratchRead s (rs s a).toNat 256) }])) := by
  change execStmBlock a m s = _
  rw [execStmBlock, hs, hm, needPort_ok hp]
  exact congrArg _ (issue_room _ hr (needOf_mirror_le (length_scratchRead ..).le))

theorem mirrorAccess : Claim.MirrorAccess := by
  intro s a m hr p o
  refine ⟨fun ha hres hin => ?_, fun hpa hpin hoa hres hoin => ?_⟩
  · have hm := mirrorChecks_ok ha hres hin
    exact ⟨exec_ldmScalar hr hm, rfl, _, exec_stmScalar hr hm, length_leBytes .., fun j hj => getElem?_leBytes_toNat 8 _ j hj⟩
  · have hs := scratchChecks_ok hpa hpin
    have hm := mirrorChecks_ok hoa hres hoin
    exact ⟨fun hp => ⟨_, List.length_replicate, exec_ldmBlock hr hs hm hp⟩,
      fun hp => ⟨_, exec_stmBlock hr hs hm hp, length_scratchRead .., fun j hj => getElem?_scratchRead s p hj⟩⟩

end

/-- Settles O16: one equation for each word, and the bytes that it moves. -/
theorem rowAndMirrorAccess : Obligations.RowAndMirrorAccess := ⟨rowAndRecordAccess, mirrorAccess⟩

end Sys2Proof.Machine
end

section
/-! SUPPORT. The words of pipe D: the timing checks of a command, its effect on the bank and the tier, and what each word
sends. -/
namespace Sys2Proof.Machine

/-! The timing checks (R248) -/

/-- What the timing checker asks of a command, in the order of the checks (R248). -/
structure Timely (s : State) (cmd n : Nat) : Prop where
  calm : (cx s).plan ∉ s.vault.emergency
  state : (getBank s.vault n).state ∈ cmdStates cmd
  act : cmd = 0 ∨ cmd = 5 → (getBank s.vault n).act = 0
  rrd : cmd = 0 ∨ cmd = 5 → (getTier s.vault (n / 16)).rrd = 0
  faw : cmd = 0 ∨ cmd = 5 → (getTier s.vault (n / 16)).faw3 = 0
  ccd : cmd = 1 ∨ cmd = 2 → (getTier s.vault (n / 16)).ccd = 0
  wtr : cmd = 1 → (getTier s.vault (n / 16)).wtr = 0
  pre : cmd = 3 → (getBank s.vault n).state = stOPEN → (getBank s.vault n).pre = 0
  ahead : cmd = 5 → (getBank s.vault n).seenDl + Config.refreshInterval (getTier s.vault (n / 16)).seenCls.toNat ≤
    9 * Config.refreshInterval (getTier s.vault (n / 16)).seenCls.toNat

/-- The nine fields of Timely are the nine checks. -/
theorem timingChecks_nil_iff {s : State} {cmd n : Nat} : timingChecks s cmd n = [] ↔ Timely s cmd n := by
  refine Iff.trans (b := _ ∧ _ ∧ _ ∧ _ ∧ _ ∧ _ ∧ _ ∧ _ ∧ _) ?_ ⟨fun ⟨h1, h2, h3, h4, h5, h6, h7, h8, h9⟩ =>
    ⟨h1, h2, h3, h4, h5, h6, h7, h8, h9⟩, fun h => ⟨h.calm, h.state, h.act, h.rrd, h.faw, h.ccd, h.wtr, h.pre, h.ahead⟩⟩
  simp [timingChecks, failIf_nil_iff]

/-- A failing timing check is VAULT_TIMING. -/
theorem mem_timingChecks {s : State} {cmd n : Nat} {c : Cause} (h : c ∈ timingChecks s cmd n) : c.cls = 5 ∧ c.code = 0x16 := by
  simp only [timingChecks, List.mem_append] at h
  rcases h with (((((((h | h) | h) | h) | h) | h) | h) | h) | h <;> exact mem_failIf h ▸ ⟨rfl, rfl⟩

theorem ownCheck_owned {s : State} {n : Nat} (h : bankOwn s (cx s).plan n = 0) : ownCheck s n = [] := by
  rw [ownCheck, h]; rfl
theorem ownCheck_other {s : State} {n : Nat} (h : bankOwn s (cx s).plan n ≠ 0) :
    ownCheck s n = [⟨5, 0x13, BitVec.ofNat 64 (2 ^ 63 + n * 2 ^ 24)⟩] := by
  rw [ownCheck, bne_iff_ne.mpr h]; rfl

/-- The checks of a column command before those of the timing checker, all met. -/
theorem columnChecks_ok {s : State} {n p k : Nat} {w : Bool} (ho : bankOwn s (cx s).plan n = 0) (ha : p % 128 = 0)
    (hin : inScratch s (cx s).plan p 128 = true) (hp : portHolder s (quadOf p) w (s.cycle + k) = none) (l : List Cause) :
    ownCheck s n ++ scratchChecks s p 128 128 ++ needPort s (quadOf p) w k ++ l = l := by
  rw [ownCheck_owned ho, scratchChecks_ok ha hin, needPort_ok hp]; rfl

/-! Traps of the commands (R244, R248, R318) -/

section
variable {i : Instr} {s : State} {n cmd : Nat} {l cs : List Cause} {outs : List Out} {eff : State → State}

/-- A command to a bank of another plan. -/
theorem traps_notOwned (e : exec i s = .next (issue s (ownCheck s n ++ cs) outs eff)) (h : bankOwn s (cx s).plan n ≠ 0)
    (hcs : ∀ c ∈ cs, c.cls = 5) (hr : needOf outs = 0 ∨ s.roomFor (needOf outs)) : ∃ v, Traps i s 5 0x13 v := by
  rw [ownCheck_other h] at e
  exact ⟨_, traps_class5 e rfl hcs hr⟩

/-- A command whose other checks are met and that comes at the wrong time. -/
theorem traps_untimely (e : exec i s = .next (issue s l outs eff)) (hl : l = timingChecks s cmd n) (h : ¬ Timely s cmd n)
    (hr : needOf outs = 0 ∨ s.roomFor (needOf outs)) : ∃ v, Traps i s 5 0x16 v := by
  obtain ⟨⟨cls, code, v⟩, cs, hcs⟩ := List.exists_cons_of_ne_nil (mt timingChecks_nil_iff.mp h)
  obtain ⟨hcls, hcode⟩ := mem_timingChecks (hcs ▸ List.mem_cons_self)
  cases hcls; cases hcode
  exact ⟨v, traps_class5 e (hl.trans hcs) (fun c hc => (mem_timingChecks (hcs ▸ List.mem_cons_of_mem _ hc)).1) hr⟩

end

/-! The effects of the commands on a bank (R249) -/

@[simp] theorem getBank_activate_self (n : Nat) (row : BitVec 13) (s : State) : getBank (activate n row s).vault n =
    { getBank s.vault n with state := stACT, rem := tim s 24, row := row, pre := tim s 56, act := tim s 80 } := by
  rw [activate, getBank_setTier, getBank_setBank_self]
theorem getBank_activate_ne {n m : Nat} (h : m ≠ n) (row : BitVec 13) (s : State) :
    getBank (activate n row s).vault m = getBank s.vault m := by
  rw [activate, getBank_setTier, getBank_setBank_ne _ h]
theorem getTier_activate (n : Nat) (row : BitVec 13) (s : State) :
    getTier (activate n row s).vault (n / 16) = bumpTier s (getTier s.vault (n / 16)) := by
  rw [activate, getTier_setTier_self]

theorem getBank_refresh_self (n : Nat) (s : State) : getBank (refresh n s).vault n =
    { getBank s.vault n with
      state := stREF, rem := tim s 300
      dl := (getBank s.vault n).dl + Config.refreshInterval (getTier s.vault (n / 16)).cls.toNat
      shown := (getBank s.vault n).shown.map
        (fun d => d + Config.refreshInterval (getTier s.vault (n / 16)).seenCls.toNat) } := by
  rw [refresh, getBank_setTier, getBank_setBank_self]
theorem getBank_refresh_ne {n m : Nat} (h : m ≠ n) (s : State) : getBank (refresh n s).vault m = getBank s.vault m := by
  rw [refresh, getBank_setTier, getBank_setBank_ne _ h]

theorem precharge_closed {n : Nat} {s : State} (h : (getBank s.vault n).state ≠ stOPEN) : precharge n s = s := if_neg h
/-- A precharge changes the banks alone. -/
theorem precharge_frame (n : Nat) (s : State) :
    ∃ b, precharge n s = { s with vault := { s.vault with banks := b } } := by
  by_cases h : (getBank s.vault n).state = stOPEN
  · exact ⟨_, if_pos h⟩
  · exact ⟨_, precharge_closed h⟩
theorem getBank_precharge (n m : Nat) (s : State) : getBank (precharge n s).vault m =
    if m = n ∧ (getBank s.vault m).state = stOPEN then { getBank s.vault m with state := stPRE, rem := tim s 24, row := 0 }
    else getBank s.vault m := by
  by_cases h : (getBank s.vault n).state = stOPEN
  · rw [precharge, if_pos h]
    by_cases hm : m = n
    · rw [hm, getBank_setBank_self, if_pos ⟨rfl, h⟩]
    · rw [getBank_setBank_ne _ hm, if_neg (fun e => hm e.1)]
  · rw [precharge_closed h, if_neg (fun ⟨hm, ho⟩ => h (hm ▸ ho))]

/-- A precharge of those of a list's banks that meet a condition. -/
def prechargeAll (g : VBank → Bool) (l : List Nat) (s : State) : State :=
  l.foldl (fun s n => if g (getBank s.vault n) then precharge n s else s) s

theorem prechargeAll_frame (g : VBank → Bool) (l : List Nat) (s : State) :
    ∃ b, prechargeAll g l s = { s with vault := { s.vault with banks := b } } := by
  induction l generalizing s with
  | nil => exact ⟨_, rfl⟩
  | cons n l ih =>
    obtain ⟨b, hb⟩ : ∃ b, (if g (getBank s.vault n) then precharge n s else s) = { s with vault := { s.vault with banks := b } } := by
      split
      · exact precharge_frame n s
      · exact ⟨_, rfl⟩
    obtain ⟨k, hk⟩ := ih (if g (getBank s.vault n) then precharge n s else s)
    exact ⟨k, hk.trans (by rw [hb])⟩

/-- A bank of the list goes PRECHARGING if it is OPEN and meets the condition; every other bank stays. -/
theorem getBank_prechargeAll (g : VBank → Bool) (l : List Nat) (m : Nat) (s : State) :
    getBank (prechargeAll g l s).vault m =
      if m ∈ l ∧ g (getBank s.vault m) = true ∧ (getBank s.vault m).state = stOPEN
      then { getBank s.vault m with state := stPRE, rem := tim s 24, row := 0 } else getBank s.vault m := by
  induction l generalizing s with
  | nil => rfl
  | cons n l ih =>
    change getBank (prechargeAll g l (if g (getBank s.vault n) then precharge n s else s)).vault m = _
    by_cases hg : g (getBank s.vault n) = true
    · have htim : tim (precharge n s) 24 = tim s 24 := by obtain ⟨b, hb⟩ := precharge_frame n s; rw [hb]; rfl
      rw [if_pos hg, ih, htim, getBank_precharge]
      by_cases h : m = n ∧ (getBank s.vault m).state = stOPEN
      · obtain ⟨rfl, ho⟩ := h
        simp [hg, ho, stPRE, stOPEN]
      · rw [if_neg h]
        have : m ∈ n :: l ∧ g (getBank s.vault m) = true ∧ (getBank s.vault m).state = stOPEN ↔
            m ∈ l ∧ g (getBank s.vault m) = true ∧ (getBank s.vault m).state = stOPEN := by
          rw [List.mem_cons]; tauto
        simp only [this]
    · rw [if_neg hg, ih]
      have : m ∈ n :: l ∧ g (getBank s.vault m) = true ∧ (getBank s.vault m).state = stOPEN ↔
          m ∈ l ∧ g (getBank s.vault m) = true ∧ (getBank s.vault m).state = stOPEN := by
        rw [List.mem_cons]; constructor
        · rintro ⟨rfl | h, h2⟩
          · exact absurd h2.1 hg
          · exact ⟨h, h2⟩
        · exact fun h => ⟨.inr h.1, h.2⟩
      simp only [this]

/-! The commands (R244, R248, R249) -/

section
variable {s : State} {b a : BitVec 6}

theorem exec_bact {i : BitVec 11} (ho : bankOwn s (cx s).plan b.toNat = 0) (ht : Timely s 0 b.toNat) (h0 : 0 ≤ bactRow s a i)
    (h1 : bactRow s a i ≤ 8191) : exec (.bact b a i) s = .next (activate b.toNat (BitVec.ofInt 13 (bactRow s a i)) s) := by
  change execBact b a i s = _
  rw [execBact, ownCheck_owned ho, timingChecks_nil_iff.mpr ht, decide_eq_false (Int.not_lt.mpr h0), decide_eq_false (Int.not_lt.mpr h1)]
  exact congrArg _ (issue_effect s _)
theorem traps_bact_row {i : BitVec 11} (ho : bankOwn s (cx s).plan b.toNat = 0) (h : bactRow s a i < 0 ∨ 8191 < bactRow s a i) :
    ∃ x, Traps (.bact b a i) s 5 0x13 x := by
  have e : exec (.bact b a i) s = execBact b a i s := rfl
  rw [execBact, ownCheck_owned ho, ← Bool.decide_or, decide_eq_true h] at e
  exact ⟨_, traps_class5 e rfl (fun c hc => (mem_timingChecks hc).1) (.inl rfl)⟩

theorem exec_bpre (ho : bankOwn s (cx s).plan b.toNat = 0) (ht : Timely s 3 b.toNat) :
    exec (.bpre b) s = .next (precharge b.toNat s) := by
  change execBpre b s = _
  rw [execBpre, ownCheck_owned ho, timingChecks_nil_iff.mpr ht]
  exact congrArg _ (issue_effect s _)

theorem exec_bref (ho : bankOwn s (cx s).plan b.toNat = 0) (ht : Timely s 5 b.toNat) :
    exec (.bref b) s = .next (refresh b.toNat s) := by
  change execBref b s = _
  rw [execBref, ownCheck_owned ho, timingChecks_nil_iff.mpr ht]
  exact congrArg _ (issue_effect s _)

theorem vaultBankCommands : Claim.VaultBankCommands := by
  intro s b a i n k t cyc sh ho hem
  have hcalm : (cx s).plan ∉ s.vault.emergency := by simpa using hem
  refine ⟨?_, fun hst hpre => ?_, fun hst => ?_⟩
  · intro hst hact hrrd hfaw row
    refine ⟨fun h0 h1 => ?_, fun h => traps_bact_row ho h, fun hdl => ?_⟩
    · have ht : Timely s 0 n := ⟨hcalm, by rw [hst]; decide, fun _ => hact, fun _ => hrrd, fun _ => hfaw, by simp, by simp, by simp,
        by simp⟩
      exact ⟨_, exec_bact ho ht h0 h1, getBank_activate_self .., getTier_activate .., fun m hm => getBank_activate_ne hm .., rfl, rfl⟩
    · have ht : Timely s 5 n := ⟨hcalm, by rw [hst]; decide, fun _ => hact, fun _ => hrrd, fun _ => hfaw, by simp, by simp, by simp,
        fun _ => (Nat.add_le_add_right hdl _).trans_eq (Nat.succ_mul 8 _).symm⟩
      exact ⟨_, exec_bref ho ht, getBank_refresh_self .., fun m hm => getBank_refresh_ne hm .., rfl, rfl⟩
  · have ht : Timely s 3 n := ⟨hcalm, by rw [hst]; decide, by simp, by simp, by simp, by simp, by simp, fun _ _ => hpre, by simp⟩
    obtain ⟨bs, hf⟩ := precharge_frame n s
    refine ⟨_, exec_bpre ho ht, ?_, fun m hm => ?_, by rw [hf], by rw [hf]⟩
    · rw [getBank_precharge, if_pos ⟨rfl, hst⟩]; rfl
    · rw [getBank_precharge, if_neg (fun e => hm e.1)]
  · have hc : k.state ≠ stOPEN := by rw [hst]; decide
    have ht : Timely s 3 n := ⟨hcalm, by rw [hst]; decide, by simp, by simp, by simp, by simp, by simp, fun _ ho => absurd ho hc,
      by simp⟩
    rw [exec_bpre ho ht, precharge_closed hc]

/-- The five commands to one bank, each with its checks: that of the bank's owner first, those of the timing checker last. -/
theorem exec_bankCommand {i : BitVec 11} {k : BitVec 4} {o : BitVec 7} {w : Instr}
    (h : w ∈ [Instr.bact b a i, .brd b a k o, .bwr b a k o, .bpre b, .bref b]) :
    ∃ cs outs eff, exec w s = .next (issue s (ownCheck s b.toNat ++ cs) outs eff) ∧ (∀ c ∈ cs, c.cls = 5) ∧ needOf outs ≤ 1 := by
  have htime : ∀ cmd, ∀ c ∈ timingChecks s cmd b.toNat, c.cls = 5 := fun _ _ h => (mem_timingChecks h).1
  have hcolumn : ∀ p q w r cmd, ∀ c ∈ scratchChecks s p 128 128 ++ (needPort s q w r ++ timingChecks s cmd b.toNat), c.cls = 5 :=
    fun p q w r cmd c h => (List.mem_append.mp h).elim scratchChecks_cls
      (fun h => (List.mem_append.mp h).elim needPort_cls (htime cmd c))
  simp only [List.mem_cons, List.not_mem_nil, or_false] at h
  rcases h with rfl | rfl | rfl | rfl | rfl
  · refine ⟨_, _, _, congrArg (fun l => Host.Outcome.next (issue s l _ _)) (List.append_assoc ..), fun c hc => ?_, Nat.zero_le 1⟩
    rcases List.mem_append.mp hc with hc | hc
    · rw [mem_failIf hc]
    · exact htime 0 c hc
  · exact ⟨_, _, _, congrArg (fun l => Host.Outcome.next (issue s l _ _)) (by simp only [List.append_assoc]; rfl), hcolumn _ _ _ _ _,
      needOf_scratch_le (by rw [length_memRead]; decide)⟩
  · exact ⟨_, _, _, congrArg (fun l => Host.Outcome.next (issue s l _ _)) (by simp only [List.append_assoc]; rfl), hcolumn _ _ _ _ _,
      Nat.zero_le 1⟩
  · exact ⟨_, _, _, rfl, htime 3, Nat.zero_le 1⟩
  · exact ⟨_, _, _, rfl, htime 5, Nat.zero_le 1⟩

theorem traps_bpre_untimely (ho : bankOwn s (cx s).plan b.toNat = 0) (h : ¬ Timely s 3 b.toNat) :
    ∃ v, Traps (.bpre b) s 5 0x16 v := by
  have e : exec (.bpre b) s = execBpre b s := rfl
  exact traps_untimely e (by rw [ownCheck_owned ho]; rfl) h (.inl rfl)
theorem traps_bref_untimely (ho : bankOwn s (cx s).plan b.toNat = 0) (h : ¬ Timely s 5 b.toNat) :
    ∃ v, Traps (.bref b) s 5 0x16 v := by
  have e : exec (.bref b) s = execBref b s := rfl
  exact traps_untimely e (by rw [ownCheck_owned ho]; rfl) h (.inl rfl)
theorem traps_bact_untimely {i : BitVec 11} (ho : bankOwn s (cx s).plan b.toNat = 0) (h0 : 0 ≤ bactRow s a i)
    (h1 : bactRow s a i ≤ 8191) (h : ¬ Timely s 0 b.toNat) : ∃ v, Traps (.bact b a i) s 5 0x16 v := by
  have e : exec (.bact b a i) s = execBact b a i s := rfl
  rw [execBact, ownCheck_owned ho, decide_eq_false (Int.not_lt.mpr h0), decide_eq_false (Int.not_lt.mpr h1)] at e
  exact traps_untimely e rfl h (.inl rfl)

theorem vaultCommandTraps : Claim.VaultCommandTraps := by
  intro s b a i k o hr n x row p untimely
  refine ⟨fun ho w hw => ?_, fun ho hem => ?_, fun ho => ⟨fun hst => ?_, fun hst => ?_, fun hst => ?_, fun h0 h1 hst => ?_,
    fun ha hin hp hst => ?_, fun ha hin hp hst => ?_⟩⟩
  · obtain ⟨cs, outs, eff, e, hcs, hn⟩ := exec_bankCommand (s := s) hw
    exact traps_notOwned e ho hcs (.inr (hr.mono hn))
  · have h : ∀ cmd, ¬ Timely s cmd n := fun cmd ht => ht.calm (List.contains_iff_mem.mp hem)
    exact ⟨traps_bpre_untimely ho (h 3), traps_bref_untimely ho (h 5)⟩
  · have h : ∀ cmd, cmd = 3 ∨ cmd = 5 → ¬ Timely s cmd n := fun cmd hc ht => by
      have hm : x.state ∈ cmdStates cmd := ht.state
      rcases hc with rfl | rfl <;> rcases hst with e | e | e <;> rw [e] at hm <;> exact absurd hm (by decide)
    exact ⟨traps_bpre_untimely ho (h 3 (.inl rfl)), traps_bref_untimely ho (h 5 (.inr rfl))⟩
  · exact traps_bpre_untimely ho (fun ht => hst.2 (ht.pre rfl hst.1))
  · refine traps_bref_untimely ho (fun ht => ?_)
    rcases hst with e | e
    · have hm : x.state ∈ cmdStates 5 := ht.state
      rw [e] at hm; exact absurd hm (by decide)
    · exact e (ht.act (.inr rfl))
  · refine traps_bact_untimely ho h0 h1 (fun ht => ?_)
    rcases hst with e | e
    · exact e (List.mem_singleton.mp ht.state)
    · exact e (ht.act (.inl rfl))
  · have e : exec (.bwr b a k o) s = execBwr b a k o s := rfl
    exact traps_untimely e (columnChecks_ok ho ha hin hp _) (fun ht => hst (List.mem_singleton.mp ht.state)) (.inl rfl)
  · have e : exec (.brd b a k o) s = execBrd b a k o s := rfl
    exact traps_untimely e (columnChecks_ok ho ha hin hp _) (fun ht => hst (List.mem_singleton.mp ht.state))
      (.inr (hr.mono (needOf_scratch_le (by rw [length_memRead]; decide))))

/-! BRD and BWR (R244, R249) -/

theorem exec_brd {k : BitVec 4} {o : BitVec 7} (hr : s.roomFor 1) :
    let n := b.toNat
    let p := columnAddr s a o
    let x := getBank s.vault n
    bankOwn s (cx s).plan n = 0 → Timely s 1 n → p % 128 = 0 → inScratch s (cx s).plan p 128 = true →
    portHolder s (quadOf p) true (s.cycle + tim s 28) = none →
    ∃ u, exec (.brd b a k o) s = .next u ∧ u.mem = s.mem ∧
      (let bs := memRead s.mem (keyVault s.me n x.row.toNat (128 * k.toNat)) 128;
       u.flight = s.flight ++ [Out.toFlight s { lat := tim s 28, res := .scratch p bs }]) ∧
      (getTier u.vault (n / 16)).ccd = tim s 8 ∧ (getBank u.vault n).pre = max x.pre (tim s 10) := by
  intro n p x ho ht ha hin hp
  have e : exec (.brd b a k o) s = execBrd b a k o s := rfl
  rw [execBrd, columnChecks_ok ho ha hin hp, timingChecks_nil_iff.mpr ht,
    issue_room _ hr (needOf_scratch_le (by rw [length_memRead]; decide))] at e
  refine ⟨_, e, rfl, rfl, ?_, ?_⟩
  · rw [takePort_vault, getTier_setTier_self]; rfl
  · rw [takePort_vault, getBank_setTier, getBank_setBank_self]; rfl

theorem exec_bwr {k : BitVec 4} {o : BitVec 7} :
    let n := b.toNat
    let p := columnAddr s a o
    let x := getBank s.vault n
    bankOwn s (cx s).plan n = 0 → Timely s 2 n → p % 128 = 0 → inScratch s (cx s).plan p 128 = true →
    portHolder s (quadOf p) false s.cycle = none →
    ∃ u, exec (.bwr b a k o) s = .next u ∧ u.mem = s.mem ∧ u.flight = s.flight ∧
      u.vault.writes = s.vault.writes ++ [
        { ctx := s.cur.ctx, land := s.cycle + tim s 16, bank := b, row := x.row, col := k, bytes := scratchRead s p 128,
          seq := s.seq, slot := slotN s }] ∧
      (getTier u.vault (n / 16)).wtr = tim s 16 + tim s 12 := by
  intro n p x ho ht ha hin hp
  have e : exec (.bwr b a k o) s = execBwr b a k o s := rfl
  rw [execBwr, columnChecks_ok ho ha hin hp, timingChecks_nil_iff.mpr ht, issue_effect] at e
  refine ⟨_, e, rfl, rfl, rfl, ?_⟩
  exact (congrArg VTier.wtr (getTier_setTier_self (setBank s.vault n _) (n / 16) _) :)

/-! BPREA and BSTAT (R244, R252) -/

theorem mem_ownedOfTier {t m : Nat} : m ∈ ownedOfTier s t ↔ m / 16 = t ∧ bankOwn s (cx s).plan m = 0 := by
  simp only [ownedOfTier, List.mem_filter, List.mem_map, List.mem_range, beq_iff_eq]
  constructor
  · rintro ⟨⟨i, hi, rfl⟩, ho⟩; exact ⟨by omega, ho⟩
  · rintro ⟨hm, ho⟩; exact ⟨⟨m % 16, Nat.mod_lt _ (by decide), by omega⟩, ho⟩

/-- The plan's banks of a tier are IDLE, or OPEN with their counts run down: BPREA issues (R248). -/
theorem exec_bprea {t : BitVec 2} (hem : s.vault.emergency.contains (cx s).plan = false)
    (h : ∀ m, m / 16 = t.toNat → bankOwn s (cx s).plan m = 0 →
      (getBank s.vault m).state = stIDLE ∨ (getBank s.vault m).state = stOPEN ∧ (getBank s.vault m).pre = 0) :
    exec (.bprea t) s = .next (prechargeAll (fun _ => true) (ownedOfTier s t.toNat) s) := by
  have hst := fun m (hm : m ∈ ownedOfTier s t.toNat) => h m (mem_ownedOfTier.mp hm).1 (mem_ownedOfTier.mp hm).2
  have hc : bpreaChecks s t.toNat = [] := by
    rw [bpreaChecks, hem, List.append_eq_nil_iff, List.append_eq_nil_iff]
    refine ⟨⟨rfl, List.flatMap_eq_nil_iff.mpr fun m hm => failIf_nil_iff.mpr ?_⟩,
      List.flatMap_eq_nil_iff.mpr fun m hm => failIf_nil_iff.mpr ?_⟩
    · rcases hst m hm with e | ⟨e, -⟩ <;> rw [e] <;> rfl
    · rcases hst m hm with e | ⟨-, hp⟩
      · rw [e]; rfl
      · rw [hp, bne_self_eq_false, Bool.and_false]
  change execBprea t s = _
  rw [execBprea, hc]
  exact congrArg _ (issue_effect s _)

theorem vaultDataCommands : Claim.VaultDataCommands := by
  intro s b a d k o tr sel hr n x t cyc p
  refine ⟨fun ho hem hst hccd ha hin => ⟨fun hwtr hp => ?_, fun hp => ?_⟩, fun hem hall => ?_, fun hsel => ?_⟩
  · have ht : Timely s 1 n := ⟨by simpa using hem, by rw [hst]; decide, by simp, by simp, by simp, fun _ => hccd, fun _ => hwtr,
      by simp, by simp⟩
    obtain ⟨u, e, hm, hf, hc, hpre⟩ := exec_brd (k := k) hr ho ht ha hin hp
    exact ⟨u, _, e, hf, rfl, hc, hpre, hm⟩
  · have ht : Timely s 2 n := ⟨by simpa using hem, by rw [hst]; decide, by simp, by simp, by simp, fun _ => hccd, by simp,
      by simp, by simp⟩
    obtain ⟨u, e, hm, hf, hw, hwtr⟩ := exec_bwr (k := k) ho ht ha hin hp
    exact ⟨u, _, e, hw, rfl, rfl, rfl, rfl, rfl, hwtr, hf, hm⟩
  · obtain ⟨bs, hf⟩ := prechargeAll_frame (fun _ => true) (ownedOfTier s tr.toNat) s
    refine ⟨_, exec_bprea hem hall, by rw [hf], by rw [hf], fun m ho hm hst => ?_, fun m hm => ?_⟩
    · rw [getBank_prechargeAll, if_pos ⟨mem_ownedOfTier.mpr ⟨hm, ho⟩, rfl, hst⟩]; rfl
    · have hother : m ∉ ownedOfTier s tr.toNat := fun h =>
        hm.elim (fun g => g (mem_ownedOfTier.mp h).2) (fun g => g (mem_ownedOfTier.mp h).1)
      rw [getBank_prechargeAll, if_neg (fun h => hother h.1)]
  · exact congrArg Host.Outcome.next (results_room hr (le_refl 1))

end

/-- Settles O32: a command is refused exactly when one of its checks fails, and has its effect on its bank otherwise. -/
theorem vaultWords : Obligations.VaultWords := ⟨vaultBankCommands, vaultCommandTraps, vaultDataCommands⟩

end Sys2Proof.Machine
end

section
/-! SUPPORT. The events of the vault: row writes, the ends of phases, emergencies and their refreshes, temperature classes, and the
count of corrected errors. -/
namespace Sys2Proof.Machine

/-! Row writes (R249, R263) -/

/-- Signatures change contexts alone. -/
theorem signWrites_frame (l : List SignedWrite) (s : State) :
    (signWrites l s).vault = s.vault ∧ (signWrites l s).mem = s.mem := by
  have h := foldl_keeps (π := fun u : State => (u.vault, u.mem)) (f := fun s (w : SignedWrite) =>
    if (getCtx s w.1).rerun.phase = 0 then s else setCtx s w.1 (signCtx w.2.2.2 (getCtx s w.1)))
    (fun s w => by split <;> rfl)
  exact Prod.ext_iff.mp (h _ s)

/-- The only row write under way, when its cycle has come. -/
theorem exec_bwrRowWrite {s : State} {w : RowWrite} (h : s.vault.writes = [w]) (hw : w.land ≤ s.cycle) :
    ∃ t, exec .bwrRowWrite s = .next t ∧ t.vault.writes = [] ∧
      t.mem = memWrite s.mem (keyVault s.me w.bank.toNat w.row.toNat (128 * w.col.toNat)) w.bytes := by
  have hdue : rowsDue s = [w] := by rw [rowsDue, h, List.filter_singleton, decide_eq_true hw]; rfl
  have hleft : s.vault.writes.filter (fun w => !decide (w.land ≤ s.cycle)) = [] := by
    rw [h, List.filter_singleton, decide_eq_true hw]; rfl
  obtain ⟨hv, hm⟩ := signWrites_frame (rowsSigned s) (putRows s)
  refine ⟨_, rfl, ?_, ?_⟩
  · rw [rowWrites, hv, putRows, hdue, hleft]; rfl
  · rw [rowWrites, hm, putRows, hdue]; rfl

/-! The ends of phases (R246) -/

/-- Every value of a canonical table changed by a function that keeps the default. -/
theorem SMap.get_foldl_set {α : Type} [DecidableEq α] (d : α) (f : α → α) (hf : f d = d) (j : Nat) :
    ∀ {b : Nat} {m : List (Nat × α)} (acc : List (Nat × α)), SMap.wfFrom d b m = true → (∀ i, b ≤ i → SMap.get d acc i = d) →
      SMap.get d (m.foldl (fun acc p => SMap.set d acc p.1 (f p.2)) acc) j =
        if j < b then SMap.get d acc j else f (SMap.get d m j)
  | b, [], acc, _, hacc => by
    split
    · rfl
    · next h => rw [SMap.get, hf]; exact hacc j (Nat.not_lt.mp h)
  | b, (k, v) :: t, acc, hwf, hacc => by
    simp only [SMap.wfFrom, Bool.and_eq_true, decide_eq_true_eq] at hwf
    obtain ⟨⟨hbk, -⟩, ht⟩ := hwf
    rw [List.foldl_cons, SMap.get_foldl_set d f hf j _ ht (fun i hi => by
      rw [SMap.get_set_ne d _ (show k ≠ i by omega)]; exact hacc i (by omega))]
    rcases Nat.lt_trichotomy j k with h | h | h
    · rw [if_pos (by omega), SMap.get_set_ne d _ (Nat.ne_of_gt h), SMap.get, if_neg (Nat.ne_of_gt h), SMap.get_below d ht (by omega), hf]
      split
      · rfl
      · exact hacc j (by omega)
    · subst h
      rw [if_pos (Nat.lt_succ_self j), SMap.get_set_self, if_neg (by omega), SMap.get, if_pos rfl]
    · rw [if_neg (by omega), if_neg (by omega), SMap.get, if_neg (Nat.ne_of_lt h)]

/-- A bank whose phase ends when its count is 0. -/
def VBank.ended (b : VBank) : VBank := if b.rem = 0 then { b with state := phaseEnd b.state } else b

theorem getBank_phaseEnds {v : Vault} (h : SMap.wf ({} : VBank) v.banks = true) (n : Nat) :
    getBank (phaseEnds v) n = (getBank v n).ended :=
  (SMap.get_foldl_set ({} : VBank) VBank.ended rfl n [] h (fun _ _ => rfl)).trans (if_neg (Nat.not_lt_zero n))

/-! Emergencies (R254, R318) -/

theorem raiseRefo_frame (c : CtxId) (v : Dbl) (s : State) :
    (raiseRefo c v s).vault = s.vault ∧ (raiseRefo c v s).mem = s.mem := by
  unfold raiseRefo; dsimp only; split <;> exact ⟨rfl, rfl⟩
theorem raiseRefo_pending {s : State} {c : CtxId} (v : Dbl) (h : (getCtx s c).pend.refo = none) :
    (getCtx (raiseRefo c v s) c).pend.refo = some v := by
  unfold raiseRefo; dsimp only
  rw [h, if_neg (by decide), getCtx_setCtx_self]

section
variable {s : State} {reason bank seq : Nat}

theorem startEmergency_begun (h : s.vault.emergency.contains seq = true) : startEmergency reason bank seq s = s := if_pos h

/-- The plan is in emergency, and those that were so before still are. -/
theorem startEmergency_frame (reason bank seq : Nat) (s : State) :
    (startEmergency reason bank seq s).vault.emergency.contains seq = true ∧
    (∀ p, s.vault.emergency.contains p = true → (startEmergency reason bank seq s).vault.emergency.contains p = true) ∧
    (startEmergency reason bank seq s).mem = s.mem := by
  by_cases h : s.vault.emergency.contains seq = true
  · rw [startEmergency_begun h]; exact ⟨h, fun _ hp => hp, rfl⟩
  · obtain ⟨hv, hm⟩ : (startEmergency reason bank seq s).vault =
        { s.vault with emergency := seq :: s.vault.emergency, lastRef := [] } ∧ (startEmergency reason bank seq s).mem = s.mem := by
      rw [startEmergency, if_neg h]
      dsimp only
      split
      · exact raiseRefo_frame ..
      · exact ⟨rfl, rfl⟩
    rw [hv]
    exact ⟨List.contains_iff_mem.mpr List.mem_cons_self,
      fun p hp => List.contains_iff_mem.mpr (List.mem_cons_of_mem _ (List.contains_iff_mem.mp hp)), hm⟩

/-- At the start of an emergency its primary context has REFRESH_OVERRUN pending. -/
theorem startEmergency_pending {c : CtxId} (h : s.vault.emergency.contains seq = false) (hc : primaryOf s seq = some c)
    (hp : (getCtx s c).pend.refo = none) :
    (getCtx (startEmergency reason bank seq s) c).pend.refo = some (refoTval s reason bank seq) := by
  have hc' : primaryOf { s with vault := { s.vault with emergency := seq :: s.vault.emergency, lastRef := [] } } seq = some c := hc
  rw [startEmergency, h, if_neg Bool.false_ne_true]
  dsimp only
  rw [hc', getCtx_blackBox]
  exact raiseRefo_pending _ hp

end

theorem exec_refreshDeadlineExpire_own (b : BitVec 6) (s : State) : exec (.refreshDeadlineExpire b s.self) s =
    .next (if (compilerBanks s).contains b.toNat && (getBank s.vault b.toNat).dl == 0
      then startEmergency 2 b.toNat (ownerOf s b.toNat) s else s) := congrArg Host.Outcome.next (if_pos rfl)

theorem ownDeadline (s : State) (b : BitVec 6) :
    ((compilerBanks s).contains b.toNat = true → (getBank s.vault b.toNat).dl = 0 →
      ∃ t, exec (.refreshDeadlineExpire b s.self) s = .next t ∧ t.vault.emergency.contains (ownerOf s b.toNat) = true ∧
        t.mem = s.mem ∧ (s.vault.emergency.contains (ownerOf s b.toNat) = true → t = s) ∧
        ∀ c, s.vault.emergency.contains (ownerOf s b.toNat) = false → primaryOf s (ownerOf s b.toNat) = some c →
          (getCtx s c).pend.refo = none → (getCtx t c).pend.refo = some (refoTval s 2 b.toNat (ownerOf s b.toNat))) ∧
    ((getBank s.vault b.toNat).dl ≠ 0 → exec (.refreshDeadlineExpire b s.self) s = .next s) := by
  rw [exec_refreshDeadlineExpire_own]
  refine ⟨fun ho hd => ?_, fun hd => ?_⟩
  · obtain ⟨hem, -, hm⟩ := startEmergency_frame 2 b.toNat (ownerOf s b.toNat) s
    rw [ho, hd]
    exact ⟨_, rfl, hem, hm, startEmergency_begun, fun c => startEmergency_pending⟩
  · rw [beq_eq_false_iff_ne.mpr hd, Bool.and_false]; rfl

theorem otherDeadline (s : State) (core : BitVec 11) (b : BitVec 6) (p : Plan) (r : CoreRes) (hc : core ≠ s.self)
    (hp : s.plans = [p]) (hr : resOf p core.toNat = some r) (ho : r.owned.getLsbD b.toNat = true)
    (hme : (resOf p s.me).isSome = true) :
    ∃ t, exec (.refreshDeadlineExpire b core) s = .next t ∧ t.vault.emergency.contains p.seq = true ∧ t.mem = s.mem := by
  have e : exec (.refreshDeadlineExpire b core) s = .next (startEmergency 2 b.toNat p.seq s) := by
    change execRefreshDeadlineExpire b s core = _
    unfold execRefreshDeadlineExpire
    dsimp only
    rw [if_neg (show ¬ core.toNat = s.me from fun h => hc (BitVec.eq_of_toNat_eq h)), hp, List.find?_singleton]
    simp only [hr, ho, hme, Bool.and_self, if_true]
  obtain ⟨hem, -, hm⟩ := startEmergency_frame 2 b.toNat p.seq s
  exact ⟨_, e, hem, hm⟩

/-- Banks of plans in emergency. -/
def emergencyBanks (s : State) : List Nat :=
  (List.range 64).filter (fun n => s.plans.any (fun p => s.vault.emergency.contains p.seq && (banksOf s p).contains n))
/-- The BREF of a cycle of an emergency, among banks: the first that is due, in the order of the rounds (R318). -/
def emergencyBref (own : List Nat) (s : State) : State :=
  match (sortBy (fun a b => decide (emergencyCount s a ≤ emergencyCount s b)) (own.filter (emergencyDue s))).head? with
  | some n =>
    if refreshOk s n then
      let u := refresh n s
      { u with vault := { u.vault with lastRef := SMap.set 0 u.vault.lastRef n (emergencyCount s n + 1) } }
    else s
  | none => s

theorem emergencyCycle_eq (s : State) : emergencyCycle s =
    if s.vault.emergency.isEmpty then s
    else emergencyBref (emergencyBanks s) (prechargeAll (fun b => b.state == stOPEN && b.pre == 0) (emergencyBanks s) s) := rfl

/-- A BREF of an emergency goes to an IDLE bank; every other bank stays. -/
theorem getBank_emergencyBref {s : State} {n : Nat} (own : List Nat) (h : (getBank s.vault n).state ≠ stIDLE) :
    getBank (emergencyBref own s).vault n = getBank s.vault n ∧ (emergencyBref own s).mem = s.mem := by
  unfold emergencyBref
  split
  · next m _ =>
    split
    · next hok =>
      have hm : n ≠ m := by
        rintro rfl
        simp only [refreshOk, commandOk, Bool.and_eq_true, beq_iff_eq] at hok
        exact h hok.1.1.1.1
      exact ⟨getBank_refresh_ne hm s, rfl⟩
    · exact ⟨rfl, rfl⟩
  · exact ⟨rfl, rfl⟩

theorem exec_emergencyRefresh_calm {s : State} (h : s.vault.emergency = []) : exec .emergencyRefresh s = .next s := by
  change Host.Outcome.next (emergencyCycle s) = _
  rw [emergencyCycle_eq, h]; rfl

/-- Of a plan in emergency an OPEN bank whose count has run down goes PRECHARGING; a BREF of the same cycle is another bank's. -/
theorem emergencyPrecharge (s : State) (n : Nat) (p : Plan) (hn : n < 64) (hp : p ∈ s.plans)
    (hem : s.vault.emergency.contains p.seq = true) (ho : n ∈ banksOf s p) (hst : (getBank s.vault n).state = 2)
    (hpre : (getBank s.vault n).pre = 0) :
    ∃ t, exec .emergencyRefresh s = .next t ∧ (getBank t.vault n).state = 3 ∧ t.mem = s.mem := by
  have hne : s.vault.emergency.isEmpty = false :=
    List.isEmpty_eq_false_iff.mpr (List.ne_nil_of_mem (List.contains_iff_mem.mp hem))
  have hown : n ∈ emergencyBanks s :=
    List.mem_filter.mpr ⟨List.mem_range.mpr hn, List.any_eq_true.mpr ⟨p, hp, by rw [hem, List.contains_iff_mem.mpr ho]; rfl⟩⟩
  have hclosed : (getBank (prechargeAll (fun b => b.state == stOPEN && b.pre == 0) (emergencyBanks s) s).vault n).state = stPRE := by
    rw [getBank_prechargeAll, if_pos ⟨hown, by rw [hst, hpre]; rfl, hst⟩]
  obtain ⟨hb, hm⟩ := getBank_emergencyBref (emergencyBanks s) (hclosed.trans_ne (by decide))
  obtain ⟨k, hk⟩ := prechargeAll_frame (fun b => b.state == stOPEN && b.pre == 0) (emergencyBanks s) s
  refine ⟨emergencyCycle s, rfl, ?_⟩
  rw [emergencyCycle_eq, hne, if_neg Bool.false_ne_true]
  exact ⟨by rw [hb, hclosed]; rfl, by rw [hm, hk]⟩

/-- What the emergencies of aged requests leave: those begun before, and memory. -/
theorem startEmergencies_frame (l : List (Nat × Kept)) (p : Nat) :
    ∀ s : State, s.vault.emergency.contains p = true →
      (l.foldl (fun s k => startEmergency 1 0 k.1 s) s).vault.emergency.contains p = true := by
  induction l with
  | nil => exact fun _ h => h
  | cons k l ih => exact fun s h => ih _ ((startEmergency_frame 1 0 k.1 s).2.1 p h)

theorem agedRequests (s : State) :
    (s.replan.var.toNat < s.replan.need.toNat → 2000000 < s.replan.age →
      ∃ t, exec .replanAgeExpire s = .next t ∧ t.vault.emergency.contains s.gate.seq = true ∧ t.mem = s.mem) ∧
    (s.replan.need.toNat ≤ s.replan.var.toNat → s.kept = [] → exec .replanAgeExpire s = .next s) := by
  refine ⟨fun hlt hage => ⟨_, rfl, ?_⟩, fun hle hk => ?_⟩
  · have hold : agedOut s.replan = true := by rw [agedOut, decide_eq_true hlt, decide_eq_true hage]; rfl
    obtain ⟨hem, -, hm⟩ := startEmergency_frame 1 0 s.gate.seq s
    rw [agedPlans, hold, if_pos rfl]
    exact ⟨startEmergencies_frame _ _ _ hem, (foldl_mem (fun s (k : Nat × Kept) => (startEmergency_frame 1 0 k.1 s).2.2) _ _).trans hm⟩
  · have hnew : agedOut s.replan = false := by rw [agedOut, decide_eq_false (Nat.not_lt.mpr hle)]; rfl
    change Host.Outcome.next (agedPlans s) = _
    rw [agedPlans, hnew, if_neg Bool.false_ne_true, hk]; rfl

/-! Temperature classes (R253, R316) -/

theorem scaleTier_tiers (t old new : Nat) (v : Vault) : (scaleTier t old new v).tiers = v.tiers := by
  unfold scaleTier
  induction List.range 16 generalizing v with
  | nil => rfl
  | cons i l ih => exact (ih _).trans rfl

theorem ownTierClass (s : State) (tr cls : BitVec 2) : ∃ t, exec (.tierClassChange tr cls s.self) s = .next t ∧
    (getTier t.vault tr.toNat).cls = cls ∧ (∀ u, u ≠ tr.toNat → getTier t.vault u = getTier s.vault u) ∧ t.mem = s.mem ∧
    t.replan.var = s.replan.var := by
  have e : exec (.tierClassChange tr cls s.self) s = _ := if_neg (not_not_intro rfl)
  refine ⟨_, e, (congrArg VTier.cls (getTier_setTier_self ..) :), fun u hu => (getTier_setTier_ne _ hu _).trans ?_, rfl, rfl⟩
  unfold getTier
  split
  · rw [scaleTier_tiers]
  · rfl

theorem otherTierClass (s : State) (core : BitVec 11) (tr cls : BitVec 2) (h : core ≠ s.self) :
    ∃ t, exec (.tierClassChange tr cls core) s = .next t ∧
      SMap.get 0 t.vault.far (4 * core.toNat + tr.toNat) = cls ∧ t.vault.banks = s.vault.banks ∧ t.vault.tiers = s.vault.tiers ∧
      t.mem = s.mem ∧ t.replan.var = s.replan.var := by
  have e : exec (.tierClassChange tr cls core) s = _ := if_pos (show core.toNat ≠ s.me from fun h' => h (BitVec.eq_of_toNat_eq h'))
  exact ⟨_, e, SMap.get_set_self .., rfl, rfl, rfl, rfl⟩

/-! Corrected errors (R257, R258, R267) -/

/-- The count of corrected errors takes the upper 16 bits of ERROR, and the rest stays. -/
theorem errorField_count (v : Dbl) : (errorField v 48 16 (satUp 16)).toNat / 2 ^ 48 = min 65535 (v.toNat / 2 ^ 48 + 1) ∧
    (errorField v 48 16 (satUp 16)).toNat % 2 ^ 48 = v.toNat % 2 ^ 48 := by
  have hv := v.isLt
  rw [errorField, satUp, BitVec.toNat_ofNat]
  omega

/-- Scrub may work on a bank: in the refresh windows of those that plans own, on others while they are not OPEN (R258). -/
theorem scrubs_iff (s : State) (n : Nat) :
    (if (compilerBanks s).contains n then (getBank s.vault n).state == stREF else (getBank s.vault n).state != stOPEN) = true ↔
      (compilerBanks s).contains n = true ∧ (getBank s.vault n).state = stREF ∨
      (compilerBanks s).contains n = false ∧ (getBank s.vault n).state ≠ stOPEN := by
  cases (compilerBanks s).contains n <;> simp

theorem patrolScrub (s : State) (e : Corrected) :
    let may := fun (n : Nat) => (compilerBanks s).contains n = true ∧ (getBank s.vault n).state = stREF ∨
      (compilerBanks s).contains n = false ∧ (getBank s.vault n).state ≠ stOPEN
    (∀ b, e = .scrub b → ¬ may b.toNat → exec (.patrolScrub e) s = .next s) ∧
    ((∀ b, e = .scrub b → may b.toNat) →
      ∃ t, exec (.patrolScrub e) s = .next t ∧
        t.error.toNat / 2 ^ 48 = min 65535 (s.error.toNat / 2 ^ 48 + 1) ∧ t.error.toNat % 2 ^ 48 = s.error.toNat % 2 ^ 48) := by
  intro may
  refine ⟨?_, fun h => ⟨{ s with error := errorField s.error 48 16 (satUp 16) }, ?_, errorField_count s.error⟩⟩
  · rintro b rfl hb
    exact congrArg Host.Outcome.next (if_neg (fun h => hb ((scrubs_iff s b.toNat).mp h)))
  · cases e with
    | scrub b => exact congrArg Host.Outcome.next (if_pos ((scrubs_iff s b.toNat).mpr (h b rfl)))
    | scratchpad => rfl
    | mirror => rfl
    | column b => rfl

/-- Settles O33: each event by the lemma about its part of the vault. -/
theorem vaultEvents : Obligations.VaultEvents :=
  ⟨fun _ _ => exec_bwrRowWrite, fun _ => ⟨_, rfl, rfl, getBank_phaseEnds⟩, ownDeadline, otherDeadline,
    fun _ => exec_emergencyRefresh_calm, emergencyPrecharge, agedRequests, ownTierClass, otherTierClass, patrolScrub⟩

end Sys2Proof.Machine
end

section
/-! SUPPORT. A copy that enters the release buffer, and the numbers of what waits there. -/
namespace Sys2Proof.Machine

/-! CPY to a destination outside the core's own memories (R265, R287) -/

/-- The ranges that a copy from or to global space takes along. -/
def copyRanges (x : Ctx) (hd hs : BitVec 256) : Option Ranges :=
  if shSpace hd = 3 ∨ shSpace hs = 3 then some { rga := x.rga, rgb := x.rgb, rgc := x.rgc } else none
/-- An access of a number takes ranges. -/
def Access.withRanges (id : Nat) (g : Option Ranges) (a : Access) : Access := if a.id = id then { a with ranges := g } else a

/-- The copy enters the release buffer, and every access there that has its number takes its ranges. -/
theorem exec_cpy_release {s : State} {d a : BitVec 4} {t : BitVec 6} (hc : cpyChecks s (rh s d) (rh s a) t = [])
    (h : 2 ≤ shSpace (rh s d)) : ∃ u, exec (.cpy d a t) s = .next u ∧ (cx u).rel =
      ((cx s).rel ++ [({ id := s.nextId, op := .copy (rh s d) (rh s a) t } : Access)]).map
        (Access.withRanges s.nextId (copyRanges (cx s) (rh s d) (rh s a))) := by
  have hl : localCopy (rh s d) = false := decide_eq_false (Nat.not_lt.mpr h)
  have e : exec (.cpy d a t) s = execCpy d a t s := rfl
  unfold execCpy at e
  dsimp only at e
  rw [hc, issue_effect, hl, if_neg Bool.false_ne_true] at e
  refine ⟨_, e, ?_⟩
  rw [cx_setCx, cx_enterRel, cx_tagUp]
  rfl

/-- An access that has the number of the next word loses its ranges to a copy that takes none along. -/
theorem not_copyAndTagWords {s : State} {d a : BitVec 4} {t : BitVec 6} {x : Access} (hr : s.roomFor 1)
    (hc : cpyChecks s (rh s d) (rh s a) t = []) (h : 2 ≤ shSpace (rh s d)) (hg : copyRanges (cx s) (rh s d) (rh s a) = none)
    (hx : (cx s).rel = [x]) (hid : x.id = s.nextId) (hranges : x.ranges ≠ none) : ¬ Claim.CopyAndTagWords := by
  intro hclaim
  obtain ⟨hcopy, -⟩ := hclaim s d a t 0 0 hr
  obtain ⟨u, y, e, hrel, -⟩ := (hcopy hc).2 h
  obtain ⟨v, e', hrel'⟩ := exec_cpy_release hc h
  cases Host.Outcome.next.inj (e.symm.trans e')
  rw [hrel', hx, hg, List.singleton_append, List.singleton_append, List.map_cons] at hrel
  have hhead : { x with ranges := none } = x := (if_pos hid).symm.trans (List.cons.inj hrel).1
  exact hranges (congrArg Access.ranges hhead).symm

/-- A record of one byte at an address of a space. -/
def byteRecord (base : Dbl) (space : BitVec 4) : BitVec 256 :=
  base ++ (0 : BitVec 96) ++ (1 : BitVec 16) ++ (1 : BitVec 16) ++ (1 : BitVec 16) ++ space ++ (0 : BitVec 44)

/-- A plan with the scratchpad of core 0 and tag 0, and a context of it whose release buffer holds an access that carries ranges and
has the number that the next word takes. -/
def takenNumber : State :=
  { State.reset with
    plans := [{ seq := 7, timed := false, matrix := false, optical := false, clusters := [0], groups := [], objs := [], routes := [],
                replan := [], hostWins := [],
                res := [{ sect := 1, core := 0, ctxs := 1, prim := true, entries := [], thand := 0, sbase := 0, ssize := 2 ^ 19,
                          mbase := 0, msize := 0, owned := 0, served := 0, tags := 1, mwords := 0, ranges := [], cbase := 0,
                          clen := 0, csize := 0 }] }]
    ctxs := [(0, { plan := 7, bank := { h := [(1, byteRecord 0 2), (2, byteRecord 8 0)] },
                   rel := [{ id := State.reset.nextId, op := .gfence, ranges := some { rga := [], rgb := [], rgc := [] } }] })] }

/-- Refutes O36: a word that takes the number of an access which still waits in the release buffer changes that access, where the
statement, for every state, asks that the buffer stay as it is with the copy behind it. -/
theorem not_peersAndCopies : ¬ Obligations.PeersAndCopies := fun ⟨_, hwords, _⟩ =>
  not_copyAndTagWords (s := takenNumber) (d := 1) (a := 2) (t := 0) (by unfold State.roomFor; decide) (by decide) (by decide)
    (by decide) rfl rfl (by decide) hwords

end Sys2Proof.Machine
end

section
/-! SUPPORT. A frame that the station sees, and a receive whose tick is still to come. -/
namespace Sys2Proof.Machine

/-! Frames as seen (R324, R326, R327, R333) -/

/-- A frame that the station sees has its effect at its tick, on the contexts and groups as they were. -/
theorem frameSeen_of_sees {s : State} {f : Frame} {crc : BitVec 32} {a : AirFrame} {l : List AirFrame} (h : Sees s f crc a l)
    (act : Nat → State → State) :
    ∃ u, frameSeen f.kind f crc act s = act a.tick u ∧ u.ctxs = s.ctxs ∧ u.groups = s.groups := by
  obtain ⟨hair, hsettled, hframe, hseen, hpresent, hleave, hreceived⟩ := h
  unfold Settled at hsettled
  dsimp only at hsettled
  generalize hs1 : armBus _ _ _ = s1 at hsettled
  have hthere : presentAt s1 f.bus a.tick = true := by
    rw [hsettled, presentAt, getBus_setBus_self]; exact hpresent
  unfold frameSeen
  dsimp only
  rw [hair]
  dsimp only
  rw [hs1, hframe, hseen, hthere, hleave, hreceived, bne_self_eq_false]
  rw [if_neg (by simp), if_neg (by decide), if_neg (by decide), hsettled]
  exact ⟨_, rfl, rfl, rfl⟩

theorem takes_future {s : State} {f : Frame} {t : Nat} {r : Recv} (h : t < r.tick) : takes s f t r = false := by
  rw [takes, decide_eq_false (Nat.not_le.mpr h), Bool.and_false, Bool.false_and, Bool.false_and, Bool.false_and]

theorem planCtxs_congr {s u : State} (h : u.ctxs = s.ctxs) (seq : Nat) : planCtxs u seq = planCtxs s seq := by
  unfold planCtxs getCtx; rw [h]

/-- A frame that no receive takes goes to none. -/
theorem deliverFrame_untaken {s : State} {f : Frame} {t : Nat} (drops : BitVec 4)
    (h : ∀ c ∈ planCtxs s (getGroup s f.id.toNat).plan, ∀ r ∈ (getCtx s c).recv, takes s f t r = false) :
    ∃ u, deliverFrame f drops t s = checkReduces f.bus t u ∧ u.ctxs = s.ctxs := by
  have hhit : (planCtxs s (getGroup s f.id.toNat).plan).filterMap
      (fun c => ((getCtx s c).recv.find? (takes s f t)).map (fun r => (c, r))) = [] :=
    List.filterMap_eq_nil_iff.mpr fun c hc => by
      rw [List.find?_eq_none.mpr fun r hr => Bool.eq_false_iff.mp (h c hc r hr)]; rfl
  unfold deliverFrame
  dsimp only
  rw [hhit, ite_self]
  exact ⟨_, rfl, rfl⟩

/-! Reduce receives (R333) -/

theorem checkReduce_plain {b : BitVec 2} {t : Nat} {c : CtxId} {s : State} {r : Recv} (h : r.reduce = false) :
    checkReduce b t c s r = s := by
  rw [checkReduce, h, Bool.and_false]; rfl
/-- A check changes the context whose receive it is about. -/
theorem getCtx_checkReduce_ne {b : BitVec 2} {t : Nat} {c d : CtxId} (h : c ≠ d) (s : State) (r : Recv) :
    getCtx (checkReduce b t d s r) c = getCtx s c := by
  unfold checkReduce
  split
  · exact getCtx_setCtx_ne _ h _
  · rfl

/-- A context without reduce receives stays as it is. -/
theorem getCtx_checkReduces {b : BitVec 2} {t : Nat} {s : State} {c : CtxId} (h : ∀ r ∈ (getCtx s c).recv, r.reduce = false) :
    getCtx (checkReduces b t s) c = getCtx s c := by
  refine List.foldlRecOn (motive := fun u => getCtx u c = getCtx s c) allCtx _ rfl (fun u hu d _ => ?_)
  by_cases hd : c = d
  · subst hd
    refine List.foldlRecOn (motive := fun v => getCtx v c = getCtx s c) _ _ hu (fun v hv r hr => ?_)
    rw [checkReduce_plain (h r (hu ▸ hr))]; exact hv
  · exact (foldl_keeps (π := fun v => getCtx v c) (getCtx_checkReduce_ne hd) _ u).trans hu

/-! A receive that is armed before its tick -/

/-- A frame that is seen before the tick of the only receive leaves it as it is. -/
theorem getCtx_frameSeen_future {s : State} {f : Frame} {crc : BitVec 32} {a : AirFrame} {l : List AirFrame} {c : CtxId} {r : Recv}
    (drops : BitVec 4) (h : Sees s f crc a l) (hc : planCtxs s (getGroup s f.id.toNat).plan = [c]) (hr : (getCtx s c).recv = [r])
    (hplain : r.reduce = false) (ht : a.tick < r.tick) :
    getCtx (frameSeen f.kind f crc (deliverFrame f drops) s) c = getCtx s c := by
  obtain ⟨u, hact, huctxs, hugroups⟩ := frameSeen_of_sees h (deliverFrame f drops)
  have hplan : planCtxs u (getGroup u f.id.toNat).plan = [c] := by
    rw [planCtxs_congr huctxs, getGroup, hugroups]; exact hc
  have hrecv : (getCtx u c).recv = [r] := by rw [getCtx_congr huctxs]; exact hr
  obtain ⟨v, hv, hvctxs⟩ := deliverFrame_untaken (s := u) (t := a.tick) drops (fun d hd q hq => by
    rw [hplan, List.mem_singleton] at hd; subst hd
    rw [hrecv, List.mem_singleton] at hq; subst hq
    exact takes_future ht)
  have hkeeps := getCtx_congr (hvctxs.trans huctxs) c
  rw [hact, hv, getCtx_checkReduces, hkeeps]
  intro q hq
  rw [hkeeps, hr, List.mem_singleton] at hq
  rw [hq]; exact hplain

theorem not_dataFrames {s : State} {f : Frame} {crc : BitVec 32} {a : AirFrame} {l : List AirFrame} {c : CtxId} {r : Recv}
    (hk : f.kind = 0) (h : Sees s f crc a l) (hm : (getGroup s f.id.toNat).members.contains s.me = true)
    (hc : planCtxs s (getGroup s f.id.toNat).plan = [c]) (hr : (getCtx s c).recv = [r]) (harmed : r.armed = true)
    (hfull : r.full = false) (hplain : r.reduce = false) (hsame : sameKind f r = true) (ht : a.tick < r.tick) :
    ¬ Claim.DataFrames := by
  intro hclaim
  obtain ⟨htaken, -⟩ := hclaim s f crc 0 c r a l hk
  obtain ⟨t, e, hrecv, -⟩ := htaken h hm hc hr harmed hfull hplain hsame
  have hkeeps := getCtx_frameSeen_future 0 h hc hr hplain ht
  rw [hk] at hkeeps
  rw [← Host.Outcome.next.inj e, hkeeps, hr] at hrecv
  exact Bool.false_ne_true (hfull.symm.trans (congrArg Recv.full (List.cons.inj hrecv).1))

/-- A DATA frame of no bytes, seen at tick 0. -/
def emptyFrame : Frame := { kind := 0, utag := 0, id := 1, len := 0, fmt := 0, bus := 0, sender := 0, ctx := 0, payload := [] }
def emptyAir : AirFrame := { tick := 0, frame := emptyFrame, mapL := 0x398A418820, mapH := 0x7B9AC5A928 }
/-- A receive that counts as armed although its tick is 1. -/
def earlyRecv : Recv :=
  { id := 0, bus := 0, group := 1, len := 0, reduce := false, bf16 := false, men := false, mtch := 0, dst := 0, tick := 1, armed := true }
/-- The frame and the receive on bus 0, on which every station is present from tick 0 on. -/
def earlyArmed : State :=
  { State.reset with
    time := Config.ns
    groups := [(1, { plan := 7, members := [0] })]
    ctxs := [(0, { st := .running, plan := 7, recv := [earlyRecv] })]
    buses := [(0, { air := [emptyAir], views := [{ tick := 0, pos := 0, round := 0, present := BitVec.allOnes 80 }] })] }

theorem sees_earlyArmed : Sees earlyArmed emptyFrame (frameCrc emptyFrame) emptyAir [] := by
  refine ⟨rfl, rfl, rfl, by decide, rfl, rfl, ?_⟩
  rw [received, show emptyAir.frame = emptyFrame from rfl, beq_self_eq_true]; rfl

/-- Refutes O44: a receive that counts as armed before its own tick takes no frame of an earlier tick (R332, R333), where the
statement gives it every frame that matches. -/
theorem not_dataAndReduceFrames : ¬ Obligations.DataAndReduceFrames := fun ⟨hdata, _, _⟩ =>
  not_dataFrames (s := earlyArmed) (f := emptyFrame) (c := 0) (r := earlyRecv) rfl sees_earlyArmed rfl rfl rfl rfl rfl rfl rfl
    (by decide) hdata

end Sys2Proof.Machine
end

section
/-! SUPPORT. The station in the cycle of a RESUME, and a GO that finds it quiet. -/
namespace Sys2Proof.Machine

/-! MAPGO (R345, R415, R416) -/

/-- MAPGO is the register 0x65 of a bus block (R341). -/
theorem opticalWrite_mapgo (b : BitVec 2) (v : Dbl) (s : State) : opticalWrite (256 * b.toNat + 0x65) v s = writeMapgo b v s := by
  have hbus : (256 * b.toNat + 0x65) / 256 = b.toNat := by omega
  have hoffset : (256 * b.toNat + 0x65) % 256 = 0x65 := by omega
  unfold opticalWrite
  rw [hbus, hoffset, BitVec.ofNat_toNat]
  rfl

/-- A write of GO alone. -/
theorem writeMapgo_go (b : BitVec 2) (s : State) : writeMapgo b 1 s = mapGo b false false s := rfl
/-- A write of RESUME alone. -/
theorem writeMapgo_resume (b : BitVec 2) (s : State) : writeMapgo b 4 s = resume b s := rfl

/-- GO at a quiet station queues nothing and sets MBAD (R416). -/
theorem getBus_mapGo_quiet {b : BitVec 2} {s : State} (quietNext : Bool) (hp : (getBus s b).mpend = false)
    (hq : isQuiet s (getBus s b) = true) : getBus (mapGo b quietNext false s) b = { getBus s b with mbad := true } := by
  unfold mapGo
  dsimp only
  rw [if_neg (ne_true_of_eq_false hp), if_pos (by rw [hq]; rfl), getBus_setBus_self]

/-! The cycle of a RESUME (R296, R416) -/

/-- The tick that takes a value placed in a cycle comes after the start of that cycle. -/
theorem time_lt_takenAt (s : State) : s.time < takenAt s * Config.ns := by
  have hns : 0 < Config.ns := by decide
  have hend : s.time ≤ cycleEnd s := Nat.le_add_right _ _
  have hnext : cycleEnd s ≤ nextTime s := by
    unfold nextTime
    split
    · exact Nat.le_refl _
    · exact Nat.le_max_left _ _
  have hdiv := Nat.lt_div_mul_add hns (a := nextTime s + Config.ns + (Config.ns - 1))
  unfold takenAt
  omega

/-- RESUME at a quiet station ends its quiet period at a tick still to come. -/
theorem getBus_resume {b : BitVec 2} {s : State} (h : (getBus s b).quiet.isSome = true) :
    getBus (resume b s) b = { getBus s b with quiet := none, resumeAt := some (takenAt s) } := by
  rw [resume, if_pos h, getBus_setBus_self]
theorem resume_time (b : BitVec 2) (s : State) : (resume b s).time = s.time := by
  unfold resume
  split
  · exact setBus_time ..
  · rfl

/-- In the cycle of the RESUME the station is still quiet. -/
theorem isQuiet_resume {b : BitVec 2} {s : State} (h : (getBus s b).quiet.isSome = true) :
    isQuiet (resume b s) (getBus (resume b s) b) = true := by
  rw [isQuiet, resume_time, getBus_resume h, Option.any_some, decide_eq_true (time_lt_takenAt s), Bool.or_true]

/-- A GO in the cycle of a RESUME is refused although no quiet period stands in the bus and the staged map is valid. -/
theorem not_opticalControlWrites {b : BitVec 2} {s : State} (hq : (getBus s b).quiet.isSome = true)
    (hp : (getBus s b).mpend = false) (hmap : mapOk (getBus s b).stagedL (getBus s b).stagedH = true) :
    ¬ Claim.OpticalControlWrites := by
  intro hclaim
  obtain ⟨-, -, hgo⟩ := hclaim (opticalWrite (256 * b.toNat + 0x65) 4 s) b 0 0 (by decide)
  rw [opticalWrite_mapgo b 4, writeMapgo_resume] at hgo
  have hbus := getBus_resume hq
  have hp' : (getBus (resume b s) b).mpend = false := hbus ▸ hp
  have hpending := (hgo hp' (by rw [hbus])).1 (by rw [hbus]; exact hmap)
  rw [opticalWrite_mapgo, writeMapgo_go, getBus_mapGo_quiet false hp' (isQuiet_resume hq)] at hpending
  exact Bool.false_ne_true (hp'.symm.trans hpending)

/-- The reset state with our station quiet on bus 0 since tick 0. -/
def quietStation : State := { State.reset with buses := [(0, { quiet := some 0 })] }

/-- Refutes O39: after a write of RESUME the station is quiet until the tick that takes it (R416), so that a GO in that cycle sets
MBAD, where the statement asks for MPEND of every station that is in no quiet period. -/
theorem not_busWords : ¬ Obligations.BusWords := fun ⟨_, hwrites⟩ =>
  not_opticalControlWrites (s := quietStation) (b := 0) rfl rfl (by decide) hwrites

end Sys2Proof.Machine
end
section
/-! SUPPORT. Memory and the black-box records through the operations that leave them as they are: one lemma for each operation of the
model that neither writes a byte nor makes a black-box entry. -/
namespace Sys2Proof.Machine

-- One declaration after another: proofs that wait for the kernel side by side would each hold a thread's stack.
set_option Elab.async false

/-- The memory and the black-box records of a state are those of another: what the invariant speaks of. -/
@[reducible, simp] def Keeps (s t : State) : Prop := t.mem = s.mem ∧ t.blackBox = s.blackBox ∧ t.boxes = s.boxes

theorem Keeps.refl (s : State) : Keeps s s := ⟨rfl, rfl, rfl⟩
theorem Keeps.trans {s t u : State} (h : Keeps s t) (k : Keeps t u) : Keeps s u :=
  ⟨k.1.trans h.1, k.2.1.trans h.2.1, k.2.2.trans h.2.2⟩
theorem Keeps.after {s t u : State} (k : Keeps t u) (h : Keeps s t) : Keeps s u := h.trans k
theorem ite_keeps {p : Prop} [Decidable p] {s t u : State} (h : Keeps s t) (k : Keeps s u) : Keeps s (if p then t else u) := by
  split
  · exact h
  · exact k
theorem foldl_keepsAll {α : Type} {f : State → α → State} (h : ∀ s a, Keeps s (f s a)) (l : List α) (s : State) :
    Keeps s (l.foldl f s) :=
  ⟨foldl_keeps (fun s a => (h s a).1) l s, foldl_keeps (fun s a => (h s a).2.1) l s, foldl_keeps (fun s a => (h s a).2.2) l s⟩
/-- The same for effects that carry more than a state. -/
theorem foldl_keepsOf {α β : Type} {proj : β → State} {f : β → α → β} (h : ∀ b a, Keeps (proj b) (proj (f b a))) (l : List α) (b : β) :
    Keeps (proj b) (proj (l.foldl f b)) := by
  induction l generalizing b with
  | nil => exact Keeps.refl _
  | cons a l ih => exact (h b a).trans (ih _)

/-! The trap sequence, waits and tags -/

@[simp] theorem setCtx_keeps (s : State) (c : CtxId) (x : Ctx) : Keeps s (setCtx s c x) := ⟨rfl, rfl, rfl⟩
@[simp] theorem setCx_keeps (s : State) (x : Ctx) : Keeps s (setCx s x) := ⟨rfl, rfl, rfl⟩
@[simp] theorem capture_keeps (s : State) (c : CtxId) (t : Nat) (rows : SMap Row) : Keeps s (capture s c t rows) := ⟨rfl, rfl, rfl⟩
@[simp] theorem holdAt_keeps (s : State) (c : CtxId) (addr : Dbl) : Keeps s (holdAt s c addr) := ⟨rfl, rfl, rfl⟩
@[simp] theorem freeze_keeps (s : State) (c : CtxId) (code : BitVec 8) (tval : Dbl) : Keeps s (freeze s c code tval) := by
  unfold freeze; split <;> simp
@[simp] theorem holdPre_keeps (s : State) (c : CtxId) (addr : Dbl) : Keeps s (holdPre s c addr) := ⟨rfl, rfl, rfl⟩
@[simp] theorem deliverPreempt_keeps (s : State) (c : CtxId) (addr : Dbl) (t : Nat) : Keeps s (deliverPreempt s c addr t) := by simp [deliverPreempt]
@[simp] theorem heldNext_keeps (c : CtxId) (s : State) : Keeps s (heldNext c s) := by
  unfold heldNext; dsimp only; split <;> simp
@[simp] theorem recordHeld_keeps (s : State) (c : CtxId) : Keeps s (recordHeld s c) := by
  unfold recordHeld; dsimp only; split <;> simp
@[simp] theorem waitFor_keeps (s : State) (w : Wait) : Keeps s (waitFor s w) := ⟨rfl, rfl, rfl⟩
@[simp] theorem transfer_keeps (t : Dbl) (gap : Nat) (s : State) : Keeps s (transfer t gap s) := ⟨rfl, rfl, rfl⟩

/-! Landing -/

@[simp] theorem drainClear_keeps (s : State) (f : Flight) : Keeps s (drainClear s f) := by
  unfold drainClear; dsimp only; (repeat' split) <;> simp
@[simp] theorem dropReplays_keeps (s : State) (c : CtxId) : Keeps s (dropReplays s c) := by
  unfold dropReplays; dsimp only; split <;> simp
@[simp] theorem fillFetch_keeps (s : State) (f : Fetch) : Keeps s (fillFetch s f) := by
  unfold fillFetch; dsimp only
  exact Keeps.after (foldl_keepsAll (fun s c => by split <;> simp) _ _) ⟨rfl, rfl, rfl⟩
@[simp] theorem runFetches_keeps (s : State) : Keeps s (runFetches s) := foldl_keepsAll (fun s a => by simp) _ _

/-! Operands -/

@[simp] theorem takePort_keeps (q : BitVec 2) (write : Bool) (delta : Nat) (s : State) : Keeps s (takePort q write delta s) := ⟨rfl, rfl, rfl⟩

/-! Control -/

@[simp] theorem takeIf_keeps (taken : Bool) (t : Dbl) (s : State) : Keeps s (takeIf taken t s) := by
  unfold takeIf; split <;> simp
@[simp] theorem endHandler_keeps (s : State) : Keeps s (endHandler s) := ⟨rfl, rfl, rfl⟩

/-! Accesses that leave the core -/

@[simp] theorem tagUp_keeps (t : BitVec 6) (s : State) : Keeps s (tagUp t s) := ⟨rfl, rfl, rfl⟩
@[simp] theorem tagDown_keeps (t : BitVec 6) (s : State) : Keeps s (tagDown t s) := by
  unfold tagDown; dsimp only; split <;> simp
@[simp] theorem enterRel_keeps (op : AccOp) (q : Option (BitVec 2)) (s : State) : Keeps s (enterRel op q s) := ⟨rfl, rfl, rfl⟩
@[simp] theorem leaveNow_keeps (op : AccOp) (q : Option (BitVec 2)) (s : State) : Keeps s (leaveNow op q s) := ⟨rfl, rfl, rfl⟩
@[simp] theorem putOut_keeps (c : CtxId) (a : Access) (f : Access → Option Access) (s : State) : Keeps s (putOut c a f s) := ⟨rfl, rfl, rfl⟩
@[simp] theorem goOut_keeps (c : CtxId) (a : Access) (f : Access → Access) (s : State) : Keeps s (goOut c a f s) := ⟨rfl, rfl, rfl⟩
@[simp] theorem dropFences_keeps (s : State) (c : CtxId) : Keeps s (dropFences s c) := by
  unfold dropFences; dsimp only; split <;> simp
@[simp] theorem meter_keeps (n : Nat) (s : State) : Keeps s (meter n s) := ⟨rfl, rfl, rfl⟩
@[simp] theorem toEgress_keeps (k : Nat × Nat) (s : State) : Keeps s (toEgress k s) := by
  unfold toEgress; split <;> simp
@[simp] theorem fromEgress_keeps (k : Nat × Nat) (s : State) : Keeps s (fromEgress k s) := ⟨rfl, rfl, rfl⟩
@[simp] theorem holdPort_keeps (a : Nat) (write : Bool) (s : State) : Keeps s (holdPort a write s) := ⟨rfl, rfl, rfl⟩
@[simp] theorem report_keeps (seq : Nat) (code : BitVec 16) (d0 d1 : Dbl) (s : State) : Keeps s (report seq code d0 d1 s) := by
  unfold report; split <;> simp
@[simp] theorem raiseLate_keeps (c : CtxId) (tval : Dbl) (s : State) : Keeps s (raiseLate c tval s) := by
  unfold raiseLate; dsimp only; split <;> simp
@[simp] theorem raiseMiss_keeps (kind port peer slot : Nat) (s : State) : Keeps s (raiseMiss kind port peer slot s) := by
  unfold raiseMiss; dsimp only; (repeat' split) <;> simp
@[simp] theorem raiseRefo_keeps (c : CtxId) (tval : Dbl) (s : State) : Keeps s (raiseRefo c tval s) := by
  unfold raiseRefo; dsimp only; split <;> simp
@[simp] theorem raiseAtom_keeps (c : CtxId) (tval : Dbl) (s : State) : Keeps s (raiseAtom c tval s) := by
  unfold raiseAtom; dsimp only; split <;> simp
@[simp] theorem markTimed_keeps (s : State) : Keeps s (markTimed s) := ⟨rfl, rfl, rfl⟩

/-! The vault -/

@[simp] theorem activate_keeps (n : Nat) (row : BitVec 13) (s : State) : Keeps s (activate n row s) := ⟨rfl, rfl, rfl⟩
@[simp] theorem refresh_keeps (n : Nat) (s : State) : Keeps s (refresh n s) := ⟨rfl, rfl, rfl⟩
@[simp] theorem precharge_keeps (n : Nat) (s : State) : Keeps s (precharge n s) := by
  unfold precharge; dsimp only; split <;> simp

/-! Exchange, cluster sync, gateway and barrier -/

@[simp] theorem pushPort_keeps (port : BitVec 2) (v : Dbl) (slot : Nat) (s : State) : Keeps s (pushPort port v slot s) := by
  unfold pushPort; split <;> simp
@[simp] theorem popPort_keeps (port : BitVec 2) (slot : Nat) (s : State) : Keeps s (popPort port slot s) := by
  unfold popPort; (repeat' split) <;> simp
@[simp] theorem expirePorts_keeps (s : State) : Keeps s (expirePorts s) := foldl_keepsAll (fun s a => by simp) _ _
@[simp] theorem lateIn_keeps (kind entry taken slot : Nat) (s : State) : Keeps s (lateIn kind entry taken slot s) := by
  unfold lateIn; split <;> simp
@[simp] theorem pushGate_keeps (v : Dbl) (slot : Nat) (s : State) : Keeps s (pushGate v slot s) := by
  unfold pushGate; dsimp only; (repeat' split) <;> simp
@[simp] theorem pushFo_keeps (v : Dbl) (slot : Nat) (s : State) : Keeps s (pushFo v slot s) := by
  unfold pushFo; dsimp only; (repeat' split) <;> simp
@[simp] theorem popGate_keeps (slot : Nat) (s : State) : Keeps s (popGate slot s) := by
  unfold popGate; dsimp only; (repeat' split) <;> simp
@[simp] theorem popFi_keeps (slot : Nat) (s : State) : Keeps s (popFi slot s) := by
  unfold popFi; dsimp only; (repeat' split) <;> simp
@[simp] theorem stallFor_keeps (s : State) : Keeps s (stallFor s) := ⟨rfl, rfl, rfl⟩
theorem departList_keeps (s : State) (fab : Bool) (l : List GEntry) : Keeps s (departList s fab l).2 :=
  foldl_keepsOf (proj := Prod.snd) (fun a e => by dsimp only; (repeat' split) <;> simp) l ([], s)
@[simp] theorem departs_keeps (s : State) : Keeps s (departs s) :=
  (((departList_keeps s false _).trans (departList_keeps _ false _)).trans (departList_keeps _ true _)).trans (departList_keeps _ true _)
@[simp] theorem enterRx_keeps (fab : Bool) (t : Nat) (s : State) (v : Dbl) : Keeps s (enterRx fab t s v) := by
  unfold enterRx; dsimp only; (repeat' split) <;> simp
@[simp] theorem flitIn_keeps (link : Option (BitVec 4 × Nat)) (ws : List Dbl) (s : State) : Keeps s (flitIn link ws s) := by
  unfold flitIn; split
  · exact ⟨rfl, rfl, rfl⟩
  · exact foldl_keepsAll (fun s v => enterRx_keeps _ _ s v) ws s
@[simp] theorem arrives_keeps (s : State) : Keeps s (arrives s) := by
  unfold arrives; dsimp only
  exact Keeps.after (foldl_keepsAll (fun s f => foldl_keepsAll (enterRx_keeps _ _) _ s) _ _) ⟨rfl, rfl, rfl⟩
@[simp] theorem useGate_keeps (k : Kept) (s : State) : Keeps s (useGate k s) := ⟨rfl, rfl, rfl⟩
@[simp] theorem withPlan_keeps {f : State → State} (hf : ∀ u, Keeps u (f u)) (seq : Nat) (s : State) : Keeps s (withPlan seq f s) := by
  unfold withPlan; split
  · exact hf s
  · exact ⟨(hf _).1, (hf _).2.1, (hf _).2.2⟩
@[simp] theorem switchGate_keeps (seq : Nat) (s : State) : Keeps s (switchGate seq s) := by
  unfold switchGate; dsimp only; (repeat' split) <;> simp
@[simp] theorem gateCycle_keeps (s : State) : Keeps s (gateCycle s) := by
  have hgate : ∀ u, Keeps u (arrives (departs u)) := fun u => (departs_keeps u).trans (arrives_keeps _)
  exact (hgate s).trans (foldl_keepsAll (fun s q => withPlan_keeps hgate q s) _ _)
@[simp] theorem setFreq_keeps (f : BitVec 6) (s : State) : Keeps s (setFreq f s) := ⟨rfl, rfl, rfl⟩
@[simp] theorem dueFreq_keeps (f : BitVec 6) (s : State) : Keeps s (dueFreq f s) := ⟨rfl, rfl, rfl⟩
@[simp] theorem takeFreq_keeps (s : State) : Keeps s (takeFreq s) := by
  unfold takeFreq; split <;> simp
@[simp] theorem releaseFreq_keeps (s : State) : Keeps s (releaseFreq s) := by
  unfold releaseFreq; split <;> simp
@[simp] theorem failUnfilled_keeps (l : List GEntry) (s : State) : Keeps s (failUnfilled l s) :=
  foldl_keepsAll (fun s e => by split <;> simp) l s
@[simp] theorem dropLeft_keeps (s : State) : Keeps s (dropLeft s) := by
  unfold dropLeft; dsimp only; (repeat' split) <;> simp
@[simp] theorem arriveAt_keeps (s : State) (c : CtxId) : Keeps s (arriveAt s c) := by
  unfold arriveAt; dsimp only; split <;> simp
@[simp] theorem soleRelease_keeps (s : State) (c : CtxId) : Keeps s (soleRelease s c) := by
  unfold soleRelease; dsimp only; (repeat' split) <;> simp
@[simp] theorem startSync_keeps (m : BitVec 16) (t : BitVec 6) (slot : Nat) (s : State) : Keeps s (startSync m t slot s) := by
  unfold startSync; dsimp only; (repeat' split) <;> simp
@[simp] theorem releaseSync_keeps (s : State) : Keeps s (releaseSync s) := by
  unfold releaseSync; split <;> simp
@[simp] theorem soleSync_keeps (s : State) : Keeps s (soleSync s) := by
  unfold soleSync; (repeat' split) <;> simp

/-! Optical registers -/

@[simp] theorem setBus_keeps (b : BitVec 2) (x : Bus) (s : State) : Keeps s (setBus b x s) := ⟨rfl, rfl, rfl⟩
@[simp] theorem startAcquire_keeps (obj : BitVec 12) (shared : Bool) (s : State) : Keeps s (startAcquire obj shared s) := by
  unfold startAcquire; dsimp only; (repeat' split) <;> simp
@[simp] theorem enqueueLate_keeps (f : Frame) (s : State) : Keeps s (enqueueLate f s) := ⟨rfl, rfl, rfl⟩
@[simp] theorem mapGo_keeps (b : BitVec 2) (quietNext resumed : Bool) (s : State) : Keeps s (mapGo b quietNext resumed s) := by
  unfold mapGo; dsimp only; (repeat' split) <;> simp
@[simp] theorem endQuiet_keeps (b : BitVec 2) (s : State) : Keeps s (endQuiet b s) := ⟨rfl, rfl, rfl⟩
@[simp] theorem resume_keeps (b : BitVec 2) (s : State) : Keeps s (resume b s) := by
  unfold resume; split <;> simp
@[simp] theorem writeMapgo_keeps (b : BitVec 2) (v : Dbl) (s : State) : Keeps s (writeMapgo b v s) := by
  unfold writeMapgo; dsimp only; (repeat' split) <;> simp
@[simp] theorem opticalWrite_keeps (idx : Nat) (v : Dbl) (s : State) : Keeps s (opticalWrite idx v s) := by
  unfold opticalWrite; dsimp only; (repeat' split) <;> simp
@[simp] theorem fillKey_keeps (key : Nat) (v : Dbl) (s : State) : Keeps s (fillKey key v s) := by
  unfold fillKey; dsimp only
  exact Keeps.after (foldl_keepsAll (fun s c => by split <;> simp) _ _) ⟨rfl, rfl, rfl⟩
@[simp] theorem opticalCycle_keeps (s : State) : Keeps s (opticalCycle s) := by
  unfold opticalCycle; dsimp only
  refine Keeps.after (foldl_keepsAll (fun s g => ?_) _ _) (Keeps.after (foldl_keepsAll (fun s w => opticalWrite_keeps _ _ s) _ _) ?_)
  · split <;> simp
  · exact ⟨rfl, rfl, rfl⟩

/-! The matrix engine -/

@[simp] theorem occupy_keeps (arr : BitVec 2) (mf : Nat) (s : State) : Keeps s (occupy arr mf s) := ⟨rfl, rfl, rfl⟩
@[simp] theorem startSwap_keeps (arr : BitVec 2) (s : State) : Keeps s (startSwap arr s) := ⟨rfl, rfl, rfl⟩
theorem endRoutine_keeps (s : State) (r : MRoutine) (k : BitVec 8) (w : Nat) : Keeps s (endRoutine s r k w) := ⟨rfl, rfl, rfl⟩
/-- What a microword makes of the state when it goes on or ends the routine keeps memory and the records. -/
def MNext.Keeps (s : State) : MNext → Prop
  | .wait => True
  | .go t _ => Machine.Keeps s t
  | .stop t _ _ _ => Machine.Keeps s t

@[simp] theorem engineFlight_keeps (s : State) (c : CtxId) (lat : Nat) (r : Res) (mx : Mx) (key : Nat) :
    Keeps s (engineFlight s c lat r mx key) := ⟨rfl, rfl, rfl⟩
theorem stepWord_keeps (s : State) (c : CtxId) (r : MRoutine) (w : Dbl) : (stepWord s c r w).Keeps s := by
  unfold stepWord; dsimp only
  split_ifs <;> simp [MNext.Keeps]
theorem loadWord_keeps (s : State) (c : CtxId) (r : MRoutine) (w : Dbl) : (loadWord s c r w).Keeps s := by
  unfold loadWord; dsimp only
  split_ifs <;> simp [MNext.Keeps]
theorem microWord_keeps (s : State) (c : CtxId) (r : MRoutine) : (microWord s c r).Keeps s := by
  have hend : ∀ q k w, (MNext.stop s q k w).Keeps s := fun _ _ _ => ⟨rfl, rfl, rfl⟩
  have hgo : ∀ q, (MNext.go s q).Keeps s := fun _ => ⟨rfl, rfl, rfl⟩
  unfold microWord; dsimp only
  split
  · exact hend _ _ _
  split
  case h_1 => split <;> exact hend _ _ _
  case h_2 =>
    split
    · exact hend _ _ _
    split
    · trivial
    · exact stepWord_keeps s c r _
  case h_3 =>
    split
    · exact hend _ _ _
    split
    · trivial
    · exact loadWord_keeps s c r _
  case h_4 =>
    split
    · exact hend _ _ _
    · exact hgo _
  case h_5 =>
    split
    · split
      · exact hend _ _ _
      · split <;> exact hgo _
    · exact hend _ _ _
  case h_6 => exact hend _ _ _

theorem runWords_keeps (c : CtxId) (fuel : Nat) (s : State) (r : MRoutine) : Keeps s (runWords c fuel s r) := by
  induction fuel generalizing s r with
  | zero => exact ⟨rfl, rfl, rfl⟩
  | succ n ih =>
    have h := microWord_keeps s c r
    rw [runWords]
    split <;> simp only [*, MNext.Keeps] at h
    · exact ⟨rfl, rfl, rfl⟩
    · exact h.trans (ih _ _)
    · exact h
@[simp] theorem routineCycle_keeps (s : State) : Keeps s (routineCycle s) := by
  unfold routineCycle; split
  · split
    · exact runWords_keeps _ _ _ _
    · exact Keeps.refl s
  · exact Keeps.refl s
@[simp] theorem postEnded_keeps (s : State) : Keeps s (postEnded s) := by
  unfold postEnded; dsimp only
  exact Keeps.after (foldl_keepsAll (fun s c => by split <;> simp) _ _) ⟨rfl, rfl, rfl⟩

/-! Reruns and the bank restore -/

@[simp] theorem signWrites_keeps (l : List SignedWrite) (s : State) : Keeps s (signWrites l s) :=
  foldl_keepsAll (fun s w => by dsimp only; split <;> simp) _ s
@[simp] theorem takeCkpt_keeps (c : CtxId) (addr : Dbl) (s : State) : Keeps s (takeCkpt c addr s) := ⟨rfl, rfl, rfl⟩
@[simp] theorem discardTags_keeps (l : List Access) (s : State) : Keeps s (discardTags l s) :=
  foldl_keepsAll (fun s a => by split <;> simp) l s
@[simp] theorem rollCtx_keeps (t phase : Nat) (c : CtxId) (s : State) : Keeps s (rollCtx t phase c s) := by simp [rollCtx]
@[simp] theorem replaced_keeps (s : State) : Keeps s (replaced s) := ⟨rfl, rfl, rfl⟩
theorem driveTier_keeps (own : List Nat) (sr : State × Restore) (t : Nat) : Keeps sr.1 (driveTier own sr t).1 := by
  unfold driveTier; dsimp only; split <;> split <;> simp
@[simp] theorem driveBanks_keeps (own : List Nat) (s : State) (r : Restore) : Keeps s (driveBanks own s r).1 := by
  unfold driveBanks; dsimp only; split
  · exact foldl_keepsAll (fun s n => by split <;> simp) _ s
  · exact foldl_keepsOf (driveTier_keeps own) _ (s, r)
@[simp] theorem endRestore_keeps (seq : Nat) (s : State) : Keeps s (endRestore seq s) := foldl_keepsAll (fun s a => by simp) _ _
@[simp] theorem restoreCycle_keeps (s : State) (c : CtxId) : Keeps s (restoreCycle s c) := by
  unfold restoreCycle; dsimp only; (repeat' split) <;> simp

/-! Homes -/

@[simp] theorem bufferDrop_keeps (page : Nat) (s : State) : Keeps s (bufferDrop page s) := ⟨rfl, rfl, rfl⟩
@[simp] theorem countRun_keeps (page : Nat) (src : Option Nat) (op : GlobalOp) (s : State) : Keeps s (countRun page src op s) := ⟨rfl, rfl, rfl⟩
@[simp] theorem clearPoison_keeps (key n : Nat) (s : State) : Keeps s (clearPoison key n s) := ⟨rfl, rfl, rfl⟩
@[simp] theorem faultAt_keeps (ia : Nat) (s : State) : Keeps s (faultAt ia s) := by
  unfold faultAt; dsimp only; split <;> simp
@[simp] theorem reportReply_keeps (c : CtxId) (p : Part) (r : Reply) (s : State) : Keeps s (reportReply c p r s) := by
  unfold reportReply; split <;> simp
@[simp] theorem postPoison_keeps (c : CtxId) (id ia : Nat) (s : State) : Keeps s (postPoison c id ia s) := ⟨rfl, rfl, rfl⟩
@[simp] theorem conclude_keeps (c : CtxId) (a : Access) (p : Part) (r : Reply) (s : State) : Keeps s (conclude c a p r s) := by
  have hrep : ∀ x, Keeps s (reportReply c p r (setCtx s c x)) := fun x => (setCtx_keeps s c x).trans (reportReply_keeps c p r _)
  have hset : ∀ x y, Keeps s (setCtx (reportReply c p r (setCtx s c x)) c y) := fun x y => (hrep x).trans (setCtx_keeps _ c y)
  have hpoison : ∀ x i n, Keeps s (postPoison c i n (reportReply c p r (setCtx s c x))) := fun x i n => (hrep x).trans (postPoison_keeps c i n _)
  unfold conclude; dsimp only; split
  · refine ite_keeps ((raiseAtom_keeps _ _ _).after ?_) ?_ <;>
      exact ite_keeps (hset _ _) (ite_keeps (ite_keeps (hpoison _ _ _) (hrep _)) (ite_keeps (hset _ _) (ite_keeps (hset _ _) (hrep _))))
  · exact hrep _
@[simp] theorem settle_keeps (c : CtxId) (a : Access) (p : Part) (r : Reply) (s : State) : Keeps s (settle c a p r s) := by simp [settle]
@[simp] theorem enterSide_keeps (c : CtxId) (a : Access) (s : State) : Keeps s (enterSide c a s) := by
  unfold enterSide; dsimp only; split <;> simp
@[simp] theorem admitSide_keeps (c : CtxId) (s : State) : Keeps s (admitSide c s) := by
  unfold admitSide; split <;> simp
@[simp] theorem holdReq_keeps (h : HeldReq) (s : State) : Keeps s (holdReq h s) := by
  unfold holdReq; split <;> simp
@[simp] theorem freeReq_keeps (h : HeldReq) (s : State) : Keeps s (freeReq h s) := ⟨rfl, rfl, rfl⟩
@[simp] theorem faultReport_keeps (c : CtxId) (p : Part) (s : State) : Keeps s (faultReport c p s) := by simp [faultReport]
@[simp] theorem takeCopy_keeps (s : State) : Keeps s (takeCopy s) := by
  unfold takeCopy; (repeat' split) <;> simp
@[simp] theorem sendPart_keeps (r : CopyReq) (wr : Bool) (i space : Nat) (w : Nat × Nat) (s : State) : Keeps s (sendPart r wr i space w s).1 := by
  unfold sendPart; dsimp only; (repeat' split) <;> simp
@[simp] theorem closeRun_keeps (e : Nat) (r : CopyReq) (s : State) : Keeps s (closeRun e r s) := by
  unfold closeRun; dsimp only; (repeat' split) <;> simp
@[simp] theorem takeReply_keeps (n : Nat) (r : Reply) (s : State) : Keeps s (takeReply n r s) := by
  unfold takeReply; (repeat' split) <;> simp

/-! The station -/

@[simp] theorem addView_keeps (b : BitVec 2) (t : Nat) (s : State) : Keeps s (addView b t s) := ⟨rfl, rfl, rfl⟩
@[simp] theorem dropFrames_keeps (l : List TxEntry) (s : State) : Keeps s (dropFrames l s) :=
  foldl_keepsAll (fun s e => by split <;> simp) l s
@[simp] theorem purge_keeps (b : BitVec 2) (s : State) : Keeps s (purge b s) := by
  unfold purge; split <;> simp
@[simp] theorem enqueue_keeps (e : TxEntry) (s : State) : Keeps s (enqueue e s) := by
  unfold enqueue; dsimp only; split <;> simp
theorem headNext_keeps {s t : State} {c : CtxId} {a : Access} (h : headNext s c a = .leave t) : Keeps s t := by
  revert h; unfold headNext; dsimp only
  (repeat' split) <;> intro h <;> cases h <;> exact ⟨rfl, rfl, rfl⟩
theorem drainRel_keeps (c : CtxId) (n : Nat) (s : State) : Keeps s (drainRel c n s) := by
  induction n generalizing s with
  | zero => exact Keeps.refl s
  | succ n ih =>
    rw [drainRel]; dsimp only; split
    · split
      · exact ⟨rfl, rfl, rfl⟩
      · next h => exact (headNext_keeps h).trans (Keeps.trans ⟨rfl, rfl, rfl⟩ (ih _))
    · exact Keeps.refl s
@[simp] theorem relCycle_keeps (s : State) (c : CtxId) : Keeps s (relCycle s c) := drainRel_keeps c _ s
@[simp] theorem enter_keeps (t : Nat) (r : Ready) (s : State) : Keeps s (enter t r s) := by
  unfold enter; split <;> simp
theorem takeIn_keeps (t : Nat) (ok : Nat → Bool) (n : Nat) (s : State) : Keeps s (takeIn t ok n s) := by
  induction n generalizing s with
  | zero => exact Keeps.refl s
  | succ n ih =>
    rw [takeIn]; split
    · exact (enter_keeps t _ s).trans (ih _)
    · exact Keeps.refl s
@[simp] theorem admitAt_keeps (t : Nat) (s : State) : Keeps s (admitAt t s) := takeIn_keeps _ _ _ s
@[simp] theorem admitCycle_keeps (s : State) : Keeps s (admitCycle s) := takeIn_keeps _ _ _ s

/-! Frames -/

@[simp] theorem loadMap_keeps (b : BitVec 2) (s : State) : Keeps s (loadMap b s) := by
  unfold loadMap; dsimp only; (repeat' split) <;> simp
@[simp] theorem mapCycle_keeps (s : State) (b : BitVec 2) : Keeps s (mapCycle s b) := by
  unfold mapCycle; split <;> simp
/-- What our frame's last beat at tick u leaves of the station: its frame is on the air. -/
def beatBus (u : Nat) (e : TxEntry) (t : List TxEntry) (x : Bus) : Bus :=
  let f : AirFrame := { tick := u + 4, frame := e.frame, mapL := x.mapL, mapH := x.mapH }
  let y : Bus := { x with sending := false, txq := t, air := x.air ++ [f], next := u + 2 }
  if e.frame.kind = 6 then mapSent u e.frame y else y

/-- A last beat leaves the station as it is but for a lane map that it loads, or sends the frame. The body of lastBeat is put in its
place as a function: a test of a tick in it must not be evaluated. -/
theorem lastBeat_cases {b : BitVec 2} {s u : State} (hu : (if seen s ((getBus s b).arr + 1) then loadMap b s else s) = u) :
    lastBeat b s = u ∨ ∃ n e t, lastBeat b s =
      admitAt n { dropFrames [e] (setBus b (beatBus n e t (getBus u b)) u) with justZero := u.justZero } := by
  obtain ⟨f, hf⟩ : ∃ f, f = lastBeat := ⟨_, rfl⟩
  rw [← hf]
  delta lastBeat at hf
  subst hf
  beta_reduce
  rw [hu]
  extract_lets x
  split
  · extract_lets n f y s1
    split
    · exact .inl rfl
    · exact .inr ⟨_, _, _, rfl⟩
  · exact .inl rfl
@[simp] theorem lastBeat_keeps (b : BitVec 2) (s : State) : Keeps s (lastBeat b s) := by
  obtain ⟨u, hu⟩ : ∃ u, (if seen s ((getBus s b).arr + 1) then loadMap b s else s) = u := ⟨_, rfl⟩
  have hmap : Keeps s u := hu ▸ ite_keeps (loadMap_keeps b s) (Keeps.refl s)
  rcases lastBeat_cases hu with h | ⟨n, e, t, h⟩ <;> rw [h]
  · exact hmap
  · refine hmap.trans ((admitAt_keeps _ _).after ?_)
    simp
@[simp] theorem otherBeat_keeps (b : BitVec 2) (f : Frame) (l h : Dbl) (s : State) : Keeps s (otherBeat b f l h s) := by
  unfold otherBeat; dsimp only; split <;> simp
@[simp] theorem payloadOne_keeps (b : BitVec 2) (s : State) : Keeps s (payloadOne b s) := by
  unfold payloadOne; dsimp only; (repeat' split) <;> simp
@[simp] theorem payloadCycle_keeps (s : State) (b : BitVec 2) : Keeps s (payloadCycle s b) := by simp [payloadCycle]
@[simp] theorem putRecv_keeps (c : CtxId) (r : Recv) (s : State) : Keeps s (putRecv c r s) := ⟨rfl, rfl, rfl⟩
@[simp] theorem completeRecv_keeps (c : CtxId) (r : Recv) (v : Dbl) (s : State) : Keeps s (completeRecv c r v s) := ⟨rfl, rfl, rfl⟩
@[simp] theorem endRecv_keeps (c : CtxId) (r : Recv) (v : Dbl) (s : State) : Keeps s (endRecv c r v s) := ⟨rfl, rfl, rfl⟩
@[simp] theorem postRecv_keeps (c : CtxId) (s : State) (r : Recv) : Keeps s (postRecv c s r) := by
  unfold postRecv; (repeat' split) <;> simp
@[simp] theorem postRecvs_keeps (s : State) (c : CtxId) : Keeps s (postRecvs s c) := foldl_keepsAll (fun s a => by simp) _ _
@[simp] theorem checkReduce_keeps (b : BitVec 2) (t : Nat) (c : CtxId) (s : State) (r : Recv) : Keeps s (checkReduce b t c s r) := by
  unfold checkReduce; split <;> simp
@[simp] theorem checkReduces_keeps (b : BitVec 2) (t : Nat) (s : State) : Keeps s (checkReduces b t s) :=
  foldl_keepsAll (fun s c => foldl_keepsAll (checkReduce_keeps b t c) _ s) _ s
@[simp] theorem intoRecv_keeps (f : Frame) (c : CtxId) (r : Recv) (s : State) : Keeps s (intoRecv f c r s) := by
  unfold intoRecv; split <;> simp
@[simp] theorem deliverFrame_keeps (f : Frame) (drops : BitVec 4) (t : Nat) (s : State) : Keeps s (deliverFrame f drops t s) := by
  unfold deliverFrame; dsimp only
  exact ((setBus_keeps _ _ s).trans (foldl_keepsAll (fun s h => intoRecv_keeps f _ _ s) _ _)).trans (checkReduces_keeps _ _ _)
@[simp] theorem armRecv_keeps (t : Nat) (c : CtxId) (s : State) (r : Recv) : Keeps s (armRecv t c s r) := by
  unfold armRecv; (repeat' split) <;> simp
@[simp] theorem armBus_keeps (b : BitVec 2) (t : Nat) (s : State) : Keeps s (armBus b t s) :=
  foldl_keepsAll (fun s c => foldl_keepsAll (armRecv_keeps t c) _ s) _ s
@[simp] theorem answerAcq_keeps (r : Requester) (obj : BitVec 12) (shared queued : Bool) (status t : Nat) (s : State) : Keeps s (answerAcq r obj shared queued status t s) := by
  unfold answerAcq; dsimp only; (repeat' split) <;> simp
@[simp] theorem queueAcq_keeps (r : Requester) (obj : BitVec 12) (shared : Bool) (s : State) : Keeps s (queueAcq r obj shared s) := by
  unfold queueAcq; dsimp only; (repeat' split) <;> simp
@[simp] theorem answerRel_keeps (r : Requester) (obj : BitVec 12) (status t : Nat) (s : State) : Keeps s (answerRel r obj status t s) := by
  unfold answerRel; dsimp only; (repeat' split) <;> simp
@[simp] theorem setObj_keeps (o : Nat) (x : SyncObj) (s : State) : Keeps s (setObj o x s) := ⟨rfl, rfl, rfl⟩
@[simp] theorem decideAcq_keeps (o : BitVec 12) (r : Requester) (shared : Bool) (t : Nat) (s : State) : Keeps s (decideAcq o r shared t s) := by
  unfold decideAcq; dsimp only; (repeat' split) <;> simp
@[simp] theorem handover_keeps (o : BitVec 12) (t : Nat) (s : State) : Keeps s (handover o t s) := by
  unfold handover; dsimp only; split
  · exact setObj_keeps _ _ s
  · exact (setObj_keeps _ _ s).trans (answerAcq_keeps _ _ _ _ _ _ _)
  · exact (setObj_keeps _ _ s).trans (foldl_keepsAll (fun s w => answerAcq_keeps _ _ _ _ _ _ s) _ _)
@[simp] theorem decideRel_keeps (o : BitVec 12) (r : Requester) (t : Nat) (s : State) : Keeps s (decideRel o r t s) := by
  unfold decideRel; dsimp only; (repeat' split) <;> simp
@[simp] theorem resetObj_keeps (o : Nat) (s : State) : Keeps s (resetObj o s) := ⟨rfl, rfl, rfl⟩
@[simp] theorem releaseGroup_keeps (g : BitVec 8) (t : Nat) (s : State) (c : CtxId) : Keeps s (releaseGroup g t s c) := by
  unfold releaseGroup; dsimp only; split <;> simp
@[simp] theorem endEpisode_keeps (g r : Nat) (s : State) : Keeps s (endEpisode g r s) := by
  unfold endEpisode; dsimp only
  exact (foldl_keepsAll (releaseGroup_keeps _ _) _ _).after ⟨rfl, rfl, rfl⟩
@[simp] theorem checkGroup_keeps (g t : Nat) (s : State) : Keeps s (checkGroup g t s) := by
  unfold checkGroup; dsimp only; (repeat' split) <;> simp
@[simp] theorem othersDone_keeps (g a : Nat) (s : State) : Keeps s (othersDone g a s) := by
  unfold othersDone; dsimp only; split <;> simp
@[simp] theorem markGroup_keeps (g core t : Nat) (s : State) : Keeps s (markGroup g core t s) := by
  unfold markGroup; dsimp only; split <;> simp
@[simp] theorem roundSeen_keeps (b : BitVec 2) (t : Nat) (s : State) : Keeps s (roundSeen b t s) :=
  ((armBus_keeps b t s).trans (checkReduces_keeps b t _)).trans (foldl_keepsAll (fun s _ => checkGroup_keeps _ t s) _ _)
@[simp] theorem applyViews_keeps (b : BitVec 2) (lim : Nat) (s : State) : Keeps s (applyViews b lim s) := foldl_keepsAll (fun s a => by simp) _ _
@[simp] theorem busCycle_keeps (s : State) (b : BitVec 2) : Keeps s (busCycle s b) := by simp [busCycle]
@[simp] theorem quietCycle_keeps (s : State) (b : BitVec 2) : Keeps s (quietCycle s b) := by
  unfold quietCycle; (repeat' split) <;> simp

/-! Records -/

@[simp] theorem recSet_keeps (c : CtxId) (o : Nat) (b : Byte) (s : State) : Keeps s (recSet c o b s) := by
  unfold recSet; dsimp only; (repeat' split) <;> simp
@[simp] theorem recWrite_keeps (c : CtxId) (o : Nat) (l : List Byte) (s : State) : Keeps s (recWrite c o l s) := by
  induction l generalizing o s with
  | nil => exact Keeps.refl s
  | cons b l ih => exact (recSet_keeps c o b s).trans (ih _ _)

/-! Slots and code -/

@[simp] theorem queueCycle_keeps (s : State) (c : CtxId) : Keeps s (queueCycle s c) := by
  unfold queueCycle; dsimp only; split <;> simp
@[simp] theorem seeTags_keeps (s : State) (c : CtxId) : Keeps s (seeTags s c) := by
  unfold seeTags; dsimp only; split <;> simp
@[simp] theorem wake_keeps (s : State) (c : CtxId) : Keeps s (wake s c) := by
  unfold wake; dsimp only; split <;> simp
@[simp] theorem clearSlot_keeps (k : BitVec 2) (s : State) : Keeps s (clearSlot k s) := ⟨rfl, rfl, rfl⟩
@[simp] theorem dropHalves_keeps (s : State) : Keeps s (dropHalves s) :=
  foldl_keepsAll (fun s e => by dsimp only; split_ifs <;> exact ⟨rfl, rfl, rfl⟩) _ s
@[simp] theorem fillHalf_keeps (s : State) (e : Expansion) : Keeps s (fillHalf s e) := by
  unfold fillHalf; (repeat' split) <;> simp
@[simp] theorem endExpansions_keeps (s : State) : Keeps s (endExpansions s) := foldl_keepsAll (fun s a => by simp) _ _
@[simp] theorem expandCycle_keeps (s : State) : Keeps s (expandCycle s) := ⟨rfl, rfl, rfl⟩
@[simp] theorem wantCode_keeps (s : State) (c : CtxId) : Keeps s (wantCode s c) := by
  unfold wantCode; dsimp only; (repeat' split) <;> simp
@[simp] theorem beginLoad_keeps (c : CtxId) (k : BitVec 2) (s : State) : Keeps s (beginLoad c k s) := ⟨rfl, rfl, rfl⟩
@[simp] theorem beginUnload_keeps (c : CtxId) (after : Option CtxId) (s : State) : Keeps s (beginUnload c after s) := ⟨rfl, rfl, rfl⟩
@[simp] theorem pendingUnload_keeps (s : State) : Keeps s (pendingUnload s) := by
  unfold pendingUnload; (repeat' split) <;> simp
@[simp] theorem finishLoad_keeps (s : State) : Keeps s (finishLoad s) := by
  unfold finishLoad; dsimp only; (repeat' split) <;> simp
@[simp] theorem finishUnload_keeps (s : State) : Keeps s (finishUnload s) := by
  unfold finishUnload; dsimp only; (repeat' split) <;> simp
@[simp] theorem streamCycle_keeps (s : State) : Keeps s (streamCycle s) := ⟨rfl, rfl, rfl⟩
@[simp] theorem markReady_keeps (s : State) (c : CtxId) : Keeps s (markReady s c) := by
  unfold markReady; dsimp only; split <;> simp
@[simp] theorem selectSlot_keeps (s : State) : Keeps s (selectSlot s) := by
  unfold selectSlot; (repeat' split) <;> simp
@[simp] theorem raisePreempt_keeps (s : State) (c : CtxId) : Keeps s (raisePreempt s c) := by
  unfold raisePreempt; dsimp only; split <;> simp
theorem raisePreempt_all_keeps (l : List CtxId) (s : State) : Keeps s (l.foldl raisePreempt s) :=
  foldl_keepsAll raisePreempt_keeps l s
@[simp] theorem boundaryStop_keeps (s : State) (seq : Nat) : Keeps s (boundaryStop s seq) := by
  unfold boundaryStop; dsimp only; split
  · split
    · exact (holdPre_keeps _ _ _).trans (raisePreempt_all_keeps _ _)
    · exact Keeps.refl s
  · exact raisePreempt_all_keeps _ s
@[simp] theorem boundaryCycle_keeps (s : State) : Keeps s (boundaryCycle s) :=
  foldl_keepsAll (fun s p => by split <;> simp) _ s
@[simp] theorem urgentStop_keeps (s : State) (p : Nat × Launch) : Keeps s (urgentStop s p) := by
  unfold urgentStop; dsimp only; split
  · refine Keeps.after (withPlan_keeps (fun u => ?_) _ _) (Keeps.after (raisePreempt_all_keeps _ _) ⟨rfl, rfl, rfl⟩)
    split
    · exact Keeps.refl u
    · exact ⟨rfl, rfl, rfl⟩
  · exact Keeps.refl s
@[simp] theorem urgentCycle_keeps (s : State) : Keeps s (urgentCycle s) := foldl_keepsAll (fun s a => by simp) _ _
@[simp] theorem startAt_keeps (s : State) (c : CtxId) : Keeps s (startAt s c) := by
  unfold startAt; dsimp only; split <;> simp

/-! The cycle -/

theorem eachCtx_keeps {f : State → CtxId → State} (hf : ∀ u c, Keeps u (f u c)) (s : State) : Keeps s (eachCtx f s) :=
  foldl_keepsAll hf _ s
@[simp] theorem shiftArrivals_keeps (e : Stop × Nat) (s : State) : Keeps s (shiftArrivals e s) := ⟨rfl, rfl, rfl⟩
@[simp] theorem endStop_keeps (s : State) : Keeps s (endStop s) := by
  unfold endStop; dsimp only
  refine Keeps.trans ?_ (foldl_keepsAll (fun s k => ?_) _ _)
  · split
    · exact (shiftArrivals_keeps _ s).trans (useGate_keeps _ _)
    · exact Keeps.refl s
  · split
    · exact Keeps.trans ⟨rfl, rfl, rfl⟩ (shiftArrivals_keeps _ _)
    · exact Keeps.refl s
@[simp] theorem linkCycle_keeps (s : State) : Keeps s (linkCycle s) := by
  have hports : ∀ u : State, Keeps u (if u.stop.isSome then u else expirePorts u) := fun u => by split <;> simp
  have hsync : ∀ u : State, Keeps u (if u.stop.isSome then u else soleSync u) := fun u => by split <;> simp
  have hstart : ∀ u, Keeps u (eachCtx startAt u) := fun u => foldl_keepsAll startAt_keeps _ u
  have hsole : ∀ u : State, Keeps u (eachCtx (fun s c => if (recOf s (getCtx s c).plan).stop.isSome then s else soleRelease s c) u) :=
    fun u => foldl_keepsAll (fun s c => by split <;> simp) _ u
  unfold linkCycle
  exact ((((endStop_keeps s).trans (hports _)).trans ((urgentCycle_keeps _).trans (hstart _))).trans
    ((hsync _).trans (gateCycle_keeps _))).trans (hsole _)
@[simp] theorem emergencyCycle_keeps (s : State) : Keeps s (emergencyCycle s) := by
  have hshut : ∀ (l : List Nat) (t : State), Keeps t (l.foldl (fun s n =>
      let b := getBank s.vault n
      if b.state == stOPEN && b.pre == 0 then precharge n s else s) t) :=
    foldl_keepsAll (fun s n => by dsimp only; split <;> simp)
  unfold emergencyCycle; split
  · exact Keeps.refl s
  · dsimp only; split
    · next n _ =>
      split
      · exact (hshut _ s).trans (refresh_keeps n _)
      · exact hshut _ s
    · exact hshut _ s
@[simp] theorem markAt_keeps (s : State) (c : CtxId) : Keeps s (markAt s c) := by
  unfold markAt; dsimp only; (repeat' split) <;> simp
@[simp] theorem takeSource_keeps (a : Access) (s : State) : Keeps s (takeSource a s) := by
  unfold takeSource; split <;> simp
@[simp] theorem leaveOne_keeps (c : CtxId) (s : State) (a : Access) : Keeps s (leaveOne c s a) := by
  unfold leaveOne; dsimp only; (repeat' split) <;> simp
@[simp] theorem leaveCycle_keeps (s : State) (c : CtxId) : Keeps s (leaveCycle s c) := foldl_keepsAll (fun s a => by simp) _ _
@[simp] theorem gfenceOne_keeps (c : CtxId) (s : State) (a : Access) : Keeps s (gfenceOne c s a) := by
  unfold gfenceOne; split <;> simp
@[simp] theorem gfenceCycle_keeps (s : State) (c : CtxId) : Keeps s (gfenceCycle s c) := foldl_keepsAll (fun s a => by simp) _ _
@[simp] theorem deadlines_keeps (n : Nat) (s : State) : Keeps s (deadlines n s) := by
  unfold deadlines; split <;> simp
@[simp] theorem seeChanges_keeps (s : State) : Keeps s (seeChanges s) := ⟨rfl, rfl, rfl⟩
@[simp] theorem passTicks_keeps (t' : Nat) (s : State) : Keeps s (passTicks t' s) := by
  unfold passTicks; dsimp only; split <;> simp
@[simp] theorem endCycle_keeps (s : State) : Keeps s (endCycle s) := by simp [endCycle]
theorem leaving_keeps (s : State) : Keeps s (eachCtx (fun s c => leaveCycle (relCycle s c) c) (eachCtx markAt (eachCtx arriveAt s))) :=
  ((eachCtx_keeps arriveAt_keeps s).trans (eachCtx_keeps markAt_keeps _)).trans
    (eachCtx_keeps (fun u c => (relCycle_keeps u c).trans (leaveCycle_keeps _ c)) _)
@[simp] theorem epilogue_keeps (s : State) : Keeps s (epilogue s) := by
  have hwrote : ∀ u, Keeps u (eachCtx (fun s c => if (getCtx s c).wrote.isEmpty then s else setCtx s c { getCtx s c with wrote := [] }) u) :=
    eachCtx_keeps (fun u c => ite_keeps (Keeps.refl u) (setCtx_keeps u c _))
  have hvault : ∀ u : State, Keeps u { u with vault := vaultTick u.vault } := fun _ => ⟨rfl, rfl, rfl⟩
  have hzero : ∀ u : State, Keeps u { u with justZero := [] } := fun _ => ⟨rfl, rfl, rfl⟩
  have hpay : ∀ u, Keeps u ([0, 1, 2, 3].foldl payloadCycle u) := foldl_keepsAll payloadCycle_keeps _
  have hcopy : ∀ u, Keeps u (eachCtx dropFences (takeCopy (takeCopy u))) := fun u =>
    ((takeCopy_keeps u).trans (takeCopy_keeps _)).trans (eachCtx_keeps dropFences_keeps _)
  have hcode : ∀ u, Keeps u (eachCtx wantCode (dropHalves u)) := fun u => (dropHalves_keeps u).trans (eachCtx_keeps wantCode_keeps _)
  have hsend := ((leaving_keeps s).trans (admitCycle_keeps _)).trans ((eachCtx_keeps gfenceCycle_keeps _).trans (hpay _))
  exact ((((((hsend.trans (hcopy _)).trans (hvault _)).trans (hcode _)).trans (hwrote _)).trans (hzero _)).trans (endCycle_keeps _))

/-! Events of the core -/

@[simp] theorem microEvent_keeps (ops : List Nat) (s : State) : Keeps s (microEvent ops s) := by
  unfold microEvent; split
  case h_1 c r _ _ =>
    have h := microWord_keeps s c r
    split
    · exact ⟨rfl, rfl, rfl⟩
    · split <;> simp only [*, MNext.Keeps] at h
      · exact ⟨rfl, rfl, rfl⟩
      · exact h
      · exact h
  case h_2 => exact ⟨rfl, rfl, rfl⟩
@[simp] theorem reevaluate_keeps (s : State) : Keeps s (reevaluate s) := ⟨rfl, rfl, rfl⟩
@[simp] theorem fllLock_keeps (s : State) : Keeps s (fllLock s) := by
  unfold fllLock; split <;> simp

/-! Code memory and the engine's ports -/

@[simp] theorem addFetch_keeps (m n : Nat) (s : State) : Keeps s (addFetch m n s) := ⟨rfl, rfl, rfl⟩

@[simp] theorem takeAll_keeps (write : Bool) (delta : Nat) (s : State) : Keeps s (takeAll write delta s) := ⟨rfl, rfl, rfl⟩

/-! Loading -/

@[simp] theorem discardCtxs_keeps (s : State) (cs : List CtxId) : Keeps s (discardCtxs s cs) := by
  have hclear : ∀ (l : List CtxId) (t : State), Keeps t (l.foldl (fun s c => match (getCtx s c).slot with
      | some k => clearSlot k s
      | none => s) t) :=
    foldl_keepsAll (fun s c => by split <;> simp)
  exact hclear cs s
theorem enqueueLate_all_keeps (l : List Nat) (s : State) : Keeps s (l.foldl (fun s o => enqueueLate (resetFrame s o) s) s) :=
  foldl_keepsAll (fun s _ => enqueueLate_keeps _ s) l s
@[simp] theorem freePlan_keeps (p : Plan) (s : State) : Keeps s (freePlan p s) := by
  unfold freePlan; extract_lets here tags banks s1 s2 s3 s4
  have h1 : Keeps s s1 := ⟨rfl, rfl, rfl⟩
  have h2 : Keeps s1 s2 := ite_keeps (enqueueLate_all_keeps _ _) (Keeps.refl _)
  have h3 : Keeps s2 s3 := ite_keeps (foldl_keepsAll (fun u b => endQuiet_keeps b u) _ _) (Keeps.refl _)
  have h4 : Keeps s3 s4 := ite_keeps (by split <;> simp) (Keeps.refl _)
  exact ((h1.trans h2).trans (h3.trans h4)).trans ⟨rfl, rfl, rfl⟩
@[simp] theorem discardPlan_keeps (seq : Nat) (s : State) : Keeps s (discardPlan seq s) := by
  unfold discardPlan; dsimp only; split <;> simp
@[simp] theorem dropImages_keeps (s : State) : Keeps s (dropImages s) := ⟨rfl, rfl, rfl⟩
@[simp] theorem storeImage_keeps (l : Launch) (s : State) : Keeps s (storeImage l s).1 := by
  unfold storeImage; dsimp only; (repeat' split) <;> simp
@[simp] theorem wakeCluster_keeps (cl : Nat) (s : State) : Keeps s (wakeCluster cl s) := by
  unfold wakeCluster; split <;> simp
@[simp] theorem wakeDie_keeps (d : Nat) (s : State) : Keeps s (wakeDie d s) := by
  unfold wakeDie; split <;> simp
@[simp] theorem wakeFor_keeps (cls : List Nat) (s : State) : Keeps s (wakeFor cls s) := foldl_keepsAll (fun s a => by simp) _ _
@[simp] theorem startPreempt_keeps (k : Nat) (urgent : Bool) (s : State) : Keeps s (startPreempt k urgent s) := by
  unfold startPreempt; dsimp only; (repeat' split) <;> simp
@[simp] theorem seatCtx_keeps (c : CtxId) (k : BitVec 2) (s : State) : Keeps s (seatCtx c k s) := by
  unfold seatCtx; dsimp only; split <;> simp
@[simp] theorem loadCtx_keeps (p : Plan) (im : Image) (r : CoreRes) (start : Nat) (s : State) (q : CtxId × Nat) : Keeps s (loadCtx p im r start s q) := by
  unfold loadCtx; dsimp only; (repeat' split) <;> simp
theorem loadCtx_all_keeps (p : Plan) (im : Image) (r : CoreRes) (start : Nat) (l : List (CtxId × Nat)) (s : State) :
    Keeps s (l.foldl (loadCtx p im r start) s) :=
  foldl_keepsAll (fun s q => loadCtx_keeps p im r start s q) l s
@[simp] theorem loadHere_keeps (p : Plan) (im : Image) (r : CoreRes) (start : Nat) (s : State) : Keeps s (loadHere p im r start s) := by
  have hneed : ∀ u, Keeps u (withPlan p.seq (fun s => { s with replan := { need := BitVec.ofNat 2 (neededOf s p) } }) u) := fun u =>
    withPlan_keeps (by exact fun _ => ⟨rfl, rfl, rfl⟩) _ u
  unfold loadHere; dsimp only
  refine (hneed _).after ((loadCtx_all_keeps _ _ _ _ _ _).after (ite_keeps ((switchGate_keeps _ _).after ?_) ?_)) <;> exact ⟨rfl, rfl, rfl⟩
@[simp] theorem restartAt_keeps (sp : Nat) (s : State) (c : CtxId) : Keeps s (restartAt sp s c) := by
  unfold restartAt; dsimp only; split <;> simp

/-! The fabric -/

@[simp] theorem setHtinv_keeps (core : Nat) (h : Htinv) (s : State) : Keeps s (setHtinv core h s) := ⟨rfl, rfl, rfl⟩
@[simp] theorem invalidate_keeps (core : Nat) (v : BitVec 13) (s : State) : Keeps s (invalidate core v s) := ⟨rfl, rfl, rfl⟩
@[simp] theorem setPort_keeps (p : BitVec 4) (x : PortSt) (s : State) : Keeps s (setPort p x s) := ⟨rfl, rfl, rfl⟩

/-! The supervisor -/

@[simp] theorem resumeTpc_keeps (c : CtxId) (s : State) : Keeps s (resumeTpc c s) := by
  unfold resumeTpc; dsimp only; (repeat' split) <;> simp
@[simp] theorem resumePc_keeps (c : CtxId) (s : State) : Keeps s (resumePc c s) := by
  unfold resumePc; dsimp only; split <;> simp
@[simp] theorem leaveSlot_keeps (c : CtxId) (s : State) : Keeps s (leaveSlot c s) := by
  unfold leaveSlot; dsimp only; split <;> simp
@[simp] theorem recordBanks_keeps (c : CtxId) (s : State) : Keeps s (recordBanks c s) := by
  unfold recordBanks; dsimp only
  exact (foldl_keepsAll (fun s n => by split <;> simp) _ _).after (setCtx_keeps s c _)
@[simp] theorem evictCtx_keeps (c : CtxId) (s : State) : Keeps s (evictCtx c s) := by
  unfold evictCtx; (repeat' split) <;> simp
@[simp] theorem endContext_keeps (c : CtxId) (s : State) : Keeps s (endContext c s) := by
  unfold endContext; dsimp only; split <;> simp
@[simp] theorem mgmtStatus_keeps (n : BitVec 2) (s : State) : Keeps s (mgmtStatus n s) := ⟨rfl, rfl, rfl⟩
@[simp] theorem stampLayer_keeps (layer : DebugLayer) (s : State) : Keeps s (stampLayer layer s) := ⟨rfl, rfl, rfl⟩
@[simp] theorem touchLayer_keeps (layer : DebugLayer) (s : State) : Keeps s (touchLayer layer s) := by
  unfold touchLayer; split <;> simp
@[simp] theorem recordWrite_keeps (c : CtxId) (off : Nat) (bytes : List Byte) (s : State) : Keeps s (recordWrite c off bytes s) := by
  unfold recordWrite; (repeat' split) <;> simp
@[simp] theorem freqWrite_keeps (v : Dbl) (s : State) : Keeps s (freqWrite v s) := by
  unfold freqWrite; dsimp only; (repeat' split) <;> simp
@[simp] theorem heldWrite_keeps (c : CtxId) (f : Bank → Bank) (s : State) : Keeps s (heldWrite c f s) := by
  unfold heldWrite; dsimp only; split <;> simp
@[simp] theorem rangeWrite_keeps (c : CtxId) (f : Ctx → Ctx) (s : State) : Keeps s (rangeWrite c f s) := ⟨rfl, rfl, rfl⟩
@[simp] theorem heldVec_keeps (c : CtxId) (f : Ctx → Ctx) (s : State) : Keeps s (heldVec c f s) := by
  unfold heldVec; dsimp only; split <;> simp

/-! Power -/

@[simp] theorem setCluster_keeps (cl : Nat) (p : PowerSt) (s : State) : Keeps s (setCluster cl p s) := ⟨rfl, rfl, rfl⟩
@[simp] theorem setDie_keeps (d : Nat) (p : PowerSt) (s : State) : Keeps s (setDie d p s) := ⟨rfl, rfl, rfl⟩
@[simp] theorem dropLock_keeps (cl : Nat) (s : State) : Keeps s (dropLock cl s) := by
  unfold dropLock; exact ⟨rfl, rfl, rfl⟩
@[simp] theorem gateAtTick_keeps (cl : Nat) (s : State) : Keeps s (gateAtTick cl s) := ⟨rfl, rfl, rfl⟩
@[simp] theorem idleStations_keeps (s : State) : Keeps s (idleStations s) := ⟨rfl, rfl, rfl⟩
@[simp] theorem chargeDevice_keeps (n : Nat) (s : State) : Keeps s (chargeDevice n s) := ⟨rfl, rfl, rfl⟩
@[simp] theorem chargeLaunch_keeps (seq n : Nat) (s : State) : Keeps s (chargeLaunch seq n s) := by
  unfold chargeLaunch; (repeat' split) <;> simp
@[simp] theorem chargeParts_keeps (ws : List (Nat × Nat)) (n : Nat) (s : State) : Keeps s (chargeParts ws n s) := by
  unfold chargeParts; dsimp only; split
  · exact chargeDevice_keeps n s
  · exact (foldl_keepsAll (fun s w => chargeLaunch_keeps _ _ s) ws s).trans (chargeLaunch_keeps _ _ _)
@[simp] theorem charge_keeps (s : State) (p : EnergyPart) : Keeps s (charge s p) := by
  unfold charge; split <;> simp
@[simp] theorem toRetention_keeps (layer : DebugLayer) (s : State) : Keeps s (toRetention layer s) := ⟨rfl, rfl, rfl⟩

/-! The snapshot queue -/

@[simp] theorem popHead_keeps (q : BitVec 2) (s : State) : Keeps s (popHead q s) := by
  unfold popHead; dsimp only; split <;> simp

end Sys2Proof.Machine
end

section
/-! SUPPORT. The invariant through the operations that write bytes or make a black-box entry: one lemma for each. -/
namespace Sys2Proof.Machine

-- One declaration after another: proofs that wait for the kernel side by side would each hold a thread's stack.
set_option Elab.async false

theorem State.Inv.keeps {s t : State} (h : s.Inv) (k : Keeps s t) : t.Inv :=
  ⟨k.1.symm ▸ h.mem, k.2.1.symm ▸ h.ring, k.2.2.symm ▸ h.rings⟩
/-- A state that differs in neither. -/
theorem State.Inv.same {s t : State} (h : s.Inv) (hm : t.mem = s.mem := by rfl) (hb : t.blackBox = s.blackBox := by rfl)
    (hx : t.boxes = s.boxes := by rfl) : t.Inv := h.keeps ⟨hm, hb, hx⟩
theorem State.Inv.withMem {s : State} (h : s.Inv) {m : List Host.Cell} (hm : Memory.wf m = true) : State.Inv { s with mem := m } :=
  ⟨hm, h.ring, h.rings⟩
theorem State.Inv.write {s : State} (h : s.Inv) (a : Nat) (bs : List Byte) : State.Inv { s with mem := memWrite s.mem a bs } :=
  h.withMem (wf_memWrite bs a h.mem)
theorem ite_inv {p : Prop} [Decidable p] {t u : State} (h : t.Inv) (k : u.Inv) : (if p then t else u).Inv := by
  split
  · exact h
  · exact k
theorem foldl_inv {α : Type} {f : State → α → State} (hf : ∀ u a, u.Inv → (f u a).Inv) (l : List α) {s : State} (h : s.Inv) :
    (l.foldl f s).Inv := List.foldlRecOn l f h (fun u hu a _ => hf u a hu)
/-- The same for effects that carry more than a state. -/
theorem foldl_invOf {α β : Type} {proj : β → State} {f : β → α → β} (hf : ∀ b a, (proj b).Inv → (proj (f b a)).Inv) (l : List α)
    {b : β} (h : (proj b).Inv) : (proj (l.foldl f b)).Inv :=
  List.foldlRecOn (motive := fun b => (proj b).Inv) l f h (fun b hb a _ => hf b a hb)
theorem eachCtx_inv {f : State → CtxId → State} (hf : ∀ u c, u.Inv → (f u c).Inv) {s : State} (h : s.Inv) : (eachCtx f s).Inv :=
  foldl_inv hf allCtx h

/-! Black-box records (R433) -/

theorem SMap.get_mem {α : Type} (d : α) (i : Nat) (m : List (Nat × α)) : SMap.get d m i = d ∨ (i, SMap.get d m i) ∈ m := by
  induction m with
  | nil => exact .inl rfl
  | cons a t ih =>
    obtain ⟨k, v⟩ := a
    simp only [SMap.get]
    split
    · next h => exact .inr (h ▸ List.mem_cons_self)
    · exact ih.imp_right (List.mem_cons_of_mem _)
theorem boxes_next {s : State} (h : s.Inv) (d : Nat) : (SMap.get {} s.boxes d : BlackBox).next < 1022 := by
  rcases SMap.get_mem {} d s.boxes with e | e
  · rw [e]; decide
  · exact h.rings _ e
theorem boxOf_next {s : State} (h : s.Inv) (d : Nat) : (boxOf s d).next < 1022 := by
  unfold boxOf; split
  · exact h.ring
  · exact boxes_next h d
theorem mapBox_inv {s : State} (h : s.Inv) (d : Nat) {f : BlackBox → BlackBox} (hf : ∀ b, b.next < 1022 → (f b).next < 1022) :
    (mapBox d f s).Inv where
  mem := h.mem
  ring := by
    simp only [mapBox]; split
    · exact hf _ h.ring
    · exact h.ring
  rings := by
    simp only [mapBox]; split
    · exact h.rings
    · intro p hp
      rcases SMap.mem_put _ _ _ hp with rfl | hp
      · exact hf _ (boxOf_next h d)
      · exact h.rings p hp
theorem blackBox_inv {s : State} (h : s.Inv) (k : BitVec 8) (r : BitVec 11) (q : Nat) (a b : Dbl) : (blackBox s k r q a b).Inv :=
  ⟨h.mem, blackBox_next s k r q a b h.ring, blackBox_rings s k r q a b h.rings⟩

/-! Traps and errors -/

theorem escalate_inv {s : State} (h : s.Inv) (c : CtxId) (code : BitVec 8) (addr : Dbl) : (escalate s c code addr).Inv :=
  blackBox_inv h.same _ _ _ _ _
theorem deliver_inv {s : State} (h : s.Inv) (c : CtxId) (code : BitVec 8) (v addr : Dbl) (t : Nat) (z : Ctx) :
    (deliver s c code v addr t z).Inv := by
  have hf : (freeze s c code v).Inv := h.keeps (freeze_keeps s c code v)
  unfold deliver; dsimp only
  split
  · exact escalate_inv hf c code addr
  · split
    · exact hf.keeps (by simp)
    · split
      · exact escalate_inv (hf.keeps (by simp)) c code addr
      · split
        · exact escalate_inv (hf.keeps (by simp)) c _ addr
        · exact hf.keeps (by simp)
theorem trapWord_inv {s : State} (h : s.Inv) (c : Cause) : (trapWord s c).Inv :=
  (deliver_inv h _ _ _ _ _ _).same
theorem issue_inv {s : State} (h : s.Inv) (cs : List Cause) (outs : List Out) {eff : State → State}
    (he : ∀ u, u.Inv → (eff u).Inv) : (issue s cs outs eff).Inv := by
  unfold issue; dsimp only; split
  · exact trapWord_inv h.same _
  · exact he _ h.same
theorem results_inv {s : State} (h : s.Inv) (outs : List Out) : (results s outs).Inv := issue_inv h _ _ (fun _ hu => hu)
theorem retire_inv {s : State} (h : s.Inv) (q : Nat) : (retire q s).Inv :=
  (blackBox_inv h _ _ _ _ _).keeps ((foldl_keepsAll (fun s _ => report_keeps _ _ _ _ s) _ _).trans ⟨rfl, rfl, rfl⟩)
theorem endRerun_inv {s : State} (h : s.Inv) (c : CtxId) {done : State → State} (hd : ∀ u, u.Inv → (done u).Inv) :
    (endRerun c done s).Inv := by
  unfold endRerun; dsimp only; split
  · split
    · exact retire_inv h _
    · exact h.keeps (by simp)
  · split
    · exact hd s h
    · exact retire_inv h _
theorem softTrap_inv {s : State} (h : s.Inv) (k : BitVec 8) (n : BitVec 12) (t : Nat) (z : Ctx) : (softTrap s k n t z).Inv :=
  (deliver_inv h _ _ _ _ _ _).same
theorem sysTrap_inv {s : State} (h : s.Inv) (k : BitVec 12) : (sysTrap k s).Inv :=
  ite_inv ((softTrap_inv h _ _ _ _).same) (softTrap_inv h _ _ _ _)
theorem replanPoint_inv {s : State} (h : s.Inv) (k : Nat) : (replanPoint k s).Inv := by
  unfold replanPoint; split
  · exact h
  · exact (blackBox_inv h.same _ _ _ _ _).same
theorem startStep_inv {s : State} (h : s.Inv) (rp : Bool) (k : BitVec 12) (rel : Nat) : (startStep rp k rel s).Inv := by
  have hleft : (dropLeft (failUnfilled s.gate.foList (failUnfilled s.gate.list s))).Inv := h.keeps (by simp)
  exact ite_inv (replanPoint_inv ((hleft.same).keeps (releaseFreq_keeps _)) _) (hleft.same)
theorem stopAsync_inv {s : State} (h : s.Inv) (c : CtxId) : (stopAsync s c).Inv := by
  unfold stopAsync; dsimp only; split
  · exact h
  · split
    · split
      · exact h.keeps (by simp)
      · exact deliver_inv (h.keeps (setCtx_keeps _ _ _)) _ _ _ _ _ _
    · exact h
theorem stopCode_inv {s : State} (h : s.Inv) (c : CtxId) : (stopCode s c).Inv := by
  unfold stopCode; dsimp only; split
  · exact h
  · split
    · exact deliver_inv h _ _ _ _ _ _
    · exact h
theorem trapTag_inv {s : State} (h : s.Inv) (c : CtxId) (cls phys : Nat) (g : Tag) : (trapTag s c cls phys g).Inv :=
  deliver_inv (h.keeps (setCtx_keeps _ _ _)) _ _ _ _ _ _
theorem uncorrectable_inv {s : State} (h : s.Inv) (src : BitVec 4) (loc : BitVec 24) : (uncorrectable src loc s).Inv := by
  unfold uncorrectable; dsimp only; split
  · exact h
  · split
    · exact retire_inv h.same _
    · split
      · exact h.same
      · exact foldl_inv (fun u c hu => hu.keeps (rollCtx_keeps _ _ c u)) _ (blackBox_inv h.same _ _ _ _ _)
theorem poisonCycle_inv {s : State} (h : s.Inv) (c : CtxId) : (poisonCycle s c).Inv :=
  foldl_inv (fun _ _ hu => uncorrectable_inv hu _ _) _ (ite_inv h (h.keeps (setCtx_keeps _ _ _)))
theorem startEmergency_inv {s : State} (h : s.Inv) (reason bank seq : Nat) : (startEmergency reason bank seq s).Inv := by
  unfold startEmergency; dsimp only; split
  · exact h
  · split
    · exact blackBox_inv (h.keeps (by simp)) _ _ _ _ _
    · exact blackBox_inv h.same _ _ _ _ _
theorem agedPlans_inv {s : State} (h : s.Inv) : (agedPlans s).Inv :=
  foldl_inv (fun _ _ hu => startEmergency_inv hu _ _ _) _ (ite_inv (startEmergency_inv h _ _ _) h)
theorem checkEmergency_inv {s : State} (h : s.Inv) : (checkEmergency s).Inv :=
  foldl_inv (fun _ _ hu => startEmergency_inv hu _ _ _) _ (agedPlans_inv h)

/-! Landings (R91, R249) -/

theorem scratchWrite_inv {s : State} (h : s.Inv) (a : Nat) (bs : List Byte) : (scratchWrite s a bs).Inv := h.write _ bs
theorem mirrorWrite_inv {s : State} (h : s.Inv) (a : Nat) (bs : List Byte) : (mirrorWrite s a bs).Inv := h.write _ bs
theorem landAs_inv {a : LandAcc} (h : a.s.Inv) (f : Flight) (r : Res) : (landAs f r a).s.Inv := h.keeps (setCtx_keeps _ _ _)
theorem countStep_keeps (f : Flight) (s : State) : Keeps s (countStep f s) := by
  unfold countStep; (repeat' split) <;> exact ⟨rfl, rfl, rfl⟩
theorem sideOf_inv {a : LandAcc} (h : a.s.Inv) (f : Flight) : (sideOf a f).s.Inv := by
  unfold sideOf; split
  · refine State.Inv.keeps ?_ (countStep_keeps _ _)
    exact h.same
  · exact h.keeps (countStep_keeps _ _)
  · exact h.keeps (countStep_keeps _ _)
  · exact h
theorem landOne_inv (base : State) {acc : LandAcc} (h : acc.s.Inv) (f : Flight) : (landOne base acc f).s.Inv := by
  unfold landOne
  extract_lets a put
  have ha : a.s.Inv := h
  clear_value a
  generalize f.res = r
  cases r
  case scratch p bs => exact scratchWrite_inv ha p bs
  case mirror p bs => exact mirrorWrite_inv ha p bs
  case reduce =>
    dsimp only; split
    · exact ha
    · exact ha.keeps (setCtx_keeps _ _ _)
  case mma =>
    dsimp only; split
    · exact ha
    · exact landAs_inv ha f _
  case row =>
    dsimp only; split
    · exact landAs_inv ha f _
    · exact landAs_inv ha f _
  case mldb => exact ha.same
  case mprogWord => exact ha.same
  case mprogEntry => exact ha.same
  case flags => exact ha
  case mdrn => exact ha
  case stepNan => exact landAs_inv ha f _
  all_goals exact landAs_inv ha f _
theorem landLog_inv {s : State} (h : s.Inv) (withReplays : Bool) (p : Flight → Bool) : (landLog withReplays p s).1.Inv := by
  have hreplay : ∀ u : State, u.Inv → (if withReplays then allCtx.foldl dropReplays u else u).Inv := fun u hu =>
    ite_inv (hu.keeps (foldl_keepsAll dropReplays_keeps _ _)) hu
  unfold landLog; extract_lets reps due now s0 s1 all a1 all2 a2 s2
  have h1 : a1.s.Inv := foldl_invOf (proj := LandAcc.s) (fun _ f ha => sideOf_inv ha f) _ (hreplay s0 h.same)
  have h2 : a2.s.Inv := foldl_invOf (proj := LandAcc.s) (fun _ f ha => landOne_inv s ha f) _
    (h1.keeps (foldl_keepsAll drainClear_keeps _ _))
  have h3 : s2.Inv := foldl_inv (fun u g hu => ite_inv hu (hu.keeps (setCtx_keeps _ _ _))) _ h2
  exact (h3.same).keeps (runFetches_keeps _)
theorem landingsOf_inv {s : State} (h : s.Inv) (withReplays : Bool) (p : Flight → Bool) : (landingsOf withReplays p s).Inv :=
  (landLog_inv h _ _).keeps (signWrites_keeps _ _)
theorem putRows_inv {s : State} (h : s.Inv) : (putRows s).Inv :=
  foldl_inv (fun _ _ hu => hu.write _ _) _ h.same
theorem rowWrites_inv {s : State} (h : s.Inv) : (rowWrites s).Inv := (putRows_inv h).keeps (signWrites_keeps _ _)
theorem landings_inv {s : State} (h : s.Inv) : (landings s).Inv :=
  (putRows_inv (landLog_inv h _ _)).keeps (signWrites_keeps _ _)

end Sys2Proof.Machine
end

section
/-! SUPPORT. The invariant through homes, copies, peers and receives. -/
namespace Sys2Proof.Machine

-- One declaration after another: proofs that wait for the kernel side by side would each hold a thread's stack.
set_option Elab.async false

/-! Homes (R353 to R363) -/

theorem putEntry_inv {s : State} (h : s.Inv) (core idx : Nat) (e : Dbl) : (putEntry core idx e s).Inv := h.write _ _
theorem changeEntry_inv {s : State} (h : s.Inv) (core idx page : Nat) (e : Dbl) : (changeEntry core idx page e s).Inv :=
  (putEntry_inv h _ _ _).keeps (bufferDrop_keeps _ _)
theorem walk_inv {s : State} (h : s.Inv) (core idx page : Nat) : (walk core idx page s).1.Inv := by
  unfold walk; dsimp only; split
  · exact h
  · exact (changeEntry_inv h core idx page _).same
theorem homeEntry_inv {s : State} (h : s.Inv) (core idx page : Nat) : (homeEntry core idx page s).1.Inv := by
  unfold homeEntry; split
  · exact h
  · exact walk_inv h core idx page
theorem setDirty_inv {s : State} (h : s.Inv) (core idx page : Nat) (e : Dbl) : (setDirty core idx page e s).Inv :=
  (putEntry_inv h _ _ _).same
theorem resolveAt_inv (core idx page ia : Nat) (op : GlobalOp) (w : Asker) (n : Nat) {s : State} (h : s.Inv) :
    (resolveAt core idx page ia op w n s).1.Inv := by
  induction n generalizing s with
  | zero => exact h
  | succ n ih =>
    have hhome := homeEntry_inv h core idx page
    unfold resolveAt; split
    · next e => exact (congrArg Prod.fst e) ▸ hhome
    · next s1 e he =>
      have h1 : s1.Inv := by rw [he] at hhome; exact hhome
      split
      · exact h1
      · split
        · exact h1
        · split
          · split
            · exact setDirty_inv h1 core idx page e
            · exact ih (h1.keeps (bufferDrop_keeps _ _))
          · exact h1
theorem resolve_inv {s : State} (h : s.Inv) (ia : Nat) (op : GlobalOp) (w : Asker) : (resolve ia op w s).1.Inv := by
  unfold resolve; dsimp only; split
  · exact h
  · exact resolveAt_inv _ _ _ _ _ _ _ h
/-- An access performed on its bytes keeps memory canonical. -/
theorem wf_opPerform (op : GlobalOp) (key : Nat) {m : List Host.Cell} (h : Memory.wf m = true) :
    Memory.wf (opPerform op key m).1 = true := by
  have hput : ∀ bs, Memory.wf (memWrite m key bs) = true := fun bs => wf_memWrite bs key h
  cases op with
  | load => exact h
  | xread => exact h
  | copyRead => exact h
  | _ => exact hput _
theorem performAt_inv {s : State} (h : s.Inv) (key : Nat) (e : Dbl) (ia : Nat) (op : GlobalOp) (w : Asker) :
    (performAt key e ia op w s).1.Inv := by
  have hm : State.Inv { s with mem := (opPerform op key s.mem).1 } := h.withMem (wf_opPerform op key h.mem)
  unfold performAt; dsimp only; split
  · exact h.keeps (countRun_keeps _ _ _ _)
  · exact ite_inv ((hm.keeps (countRun_keeps _ _ _ _)).keeps (clearPoison_keeps _ _ _)) (hm.keeps (countRun_keeps _ _ _ _))
theorem denialEntry_inv {s : State} (h : s.Inv) (ia q : Nat) (e : Dbl) : (denialEntry ia q e s).Inv := blackBox_inv h _ _ _ _ _
theorem performHome_inv {s : State} (h : s.Inv) (ia : Nat) (op : GlobalOp) (w : Asker) (seq : Nat) :
    (performHome ia op w seq s).1.Inv := by
  unfold performHome; split
  · have hr := resolve_inv h ia (.load false) w
    split <;> rename_i e <;> rw [e] at hr <;> exact hr
  · have hr := resolve_inv h ia op w
    split <;> rename_i e <;> rw [e] at hr
    · exact hr
    · exact hr
    · exact denialEntry_inv hr _ _ _
    · exact performAt_inv hr _ _ _ _ _
theorem performPart_inv {s : State} (h : s.Inv) (c : CtxId) (a : Access) (p : Part) : (performPart c a p s).Inv := by
  have hhold : ∀ u r, u.Inv → (holdReq r u).Inv := fun u r hu => hu.keeps (holdReq_keeps r u)
  have hfree : ∀ u r, u.Inv → (freeReq r u).Inv := fun u r hu => hu.keeps (freeReq_keeps r u)
  have hhome := performHome_inv h p.ia p.op .near (getCtx s c).plan
  unfold performPart; dsimp only; split
  · exact h
  split
  · exact (hfree _ _ (ite_inv h (h.keeps (faultReport_keeps _ _ _)))).keeps (enterSide_keeps _ _ _)
  split
  · exact hhold _ _ (h.keeps (faultReport_keeps _ _ _))
  split
  · exact hhold _ _ h
  split <;> rename_i e <;> rw [e] at hhome
  · exact (hfree _ _ hhome).keeps (settle_keeps _ _ _ _ _)
  · exact ite_inv (hhold _ _ hhome) (hfree _ _ hhome)
  · exact hhome
theorem performOwn_inv {s : State} (h : s.Inv) (n : Nat) : (performOwn n s).Inv := by
  unfold performOwn; split
  · split
    · exact ite_inv (performPart_inv h _ _ _) h
    · exact h
  · exact h
theorem performOther_inv {s : State} (h : s.Inv) (ia : Nat) (op : GlobalOp) (ret : Bool) (seq : Nat) :
    (performOther ia op ret seq s).Inv := by
  have hhome := performHome_inv h ia op .near seq
  unfold performOther; dsimp only; split
  · exact ite_inv (h.keeps (holdReq_keeps _ _)) h
  split <;> rename_i e <;> rw [e] at hhome
  · exact hhome.keeps (freeReq_keeps _ _)
  · exact ite_inv (hhome.keeps (holdReq_keeps _ _)) (hhome.keeps (freeReq_keeps _ _))
  · exact ite_inv ((hhome.keeps (faultAt_keeps _ _)).keeps (holdReq_keeps _ _)) (hhome.keeps (faultAt_keeps _ _))
theorem addPoison_keeps (ia : Nat) (s : State) : Keeps s (addPoison ia s) := by
  unfold addPoison; split
  · exact ⟨rfl, rfl, rfl⟩
  · exact ite_keeps (Keeps.refl s) ⟨rfl, rfl, rfl⟩
  · exact Keeps.refl s
theorem performForeign_inv {s : State} (h : s.Inv) (q : FabricRequest) : (performForeign q s).Inv := by
  have hhome := performHome_inv h q.ia.toNat q.op (.far q.src.toNat) q.seq
  have hanswer : ∀ (u : State) r, u.Inv →
      (freeReq (.foreign q) { u with fabric := { u.fabric with replies := u.fabric.replies ++ [(q, r)] } }).Inv :=
    fun u r hu => hu.same
  unfold performForeign; dsimp only; split
  · exact ite_inv (h.keeps (holdReq_keeps _ _)) (hanswer _ _ h)
  split <;> rename_i e <;> rw [e] at hhome
  · exact hanswer _ _ hhome
  · exact ite_inv (hhome.keeps (holdReq_keeps _ _)) hhome.same
  · exact ite_inv ((hhome.keeps (faultAt_keeps _ _)).keeps (holdReq_keeps _ _)) (hanswer _ _ (hhome.keeps (faultAt_keeps _ _)))
theorem performGuest_inv {s : State} (h : s.Inv) (q : FabricRequest) (e : Dbl) : (performGuest q e s).Inv := by
  unfold performGuest; dsimp only; split
  · exact h.same
  · split
    · exact (denialEntry_inv h _ _ _).same
    · exact (performAt_inv h _ _ _ _ _).same

/-! Copies (R289, R292, R371) -/

theorem localPart_inv {s : State} (h : s.Inv) (r : CopyReq) (wr : Bool) (space : Nat) (w : Piece) : (localPart r wr space w s).1.Inv := by
  unfold localPart; extract_lets core off own wait key s1
  have h1 : s1.Inv := ite_inv (h.keeps (holdPort_keeps _ _ _)) h
  split
  · exact h
  · split
    · exact h1.write _ _
    · exact h1
theorem globalPart_inv {s : State} (h : s.Inv) (r : CopyReq) (wr : Bool) (q : SentPart) (w : Piece) : (globalPart r wr q w s).1.Inv := by
  unfold globalPart; extract_lets hreq op p
  have hres := resolve_inv h w.addr op .near
  split
  · exact h
  split
  · exact (h.keeps (faultReport_keeps _ _ _)).keeps (holdReq_keeps _ _)
  split
  · exact h.keeps (holdReq_keeps _ _)
  split <;> rename_i e <;> rw [e] at hres
  · extract_lets s2 bad s3
    have h2 : s2.Inv := (hres.keeps (countRun_keeps _ _ _ _)).keeps (freeReq_keeps _ _)
    have h3 : s3.Inv := State.Inv.keeps (h2.write _ _) (clearPoison_keeps _ _ _)
    split
    · exact h3.keeps (setCtx_keeps _ _ _)
    · exact ite_inv (uncorrectable_inv h2 _ _) h2
  · exact ite_inv (hres.keeps (holdReq_keeps _ _)) (hres.keeps (freeReq_keeps _ _))
  · exact (denialEntry_inv (hres.keeps (freeReq_keeps _ _)) _ _ _).keeps (reportReply_keeps _ _ _ _)
  · exact hres
theorem hostPart_inv {s : State} (h : s.Inv) (r : CopyReq) (wr : Bool) (q : SentPart) (w : Piece) : (hostPart r wr q w s).1.Inv := by
  unfold hostPart; split
  · exact h
  · split
    · exact h.write _ _
    · exact h
theorem tryPart_inv {s : State} (h : s.Inv) (r : CopyReq) (wr : Bool) (i n : Nat) : (tryPart r wr i n s).1.Inv := by
  unfold tryPart; dsimp only; split
  · exact h
  split
  · exact localPart_inv h _ _ _ _
  have hsent := fun a b => h.keeps (sendPart_keeps r wr i a b s)
  split
  · split
    · exact globalPart_inv (hsent _ _) _ _ _ _
    · exact hostPart_inv (hsent _ _) _ _ _ _
  · exact hsent _ _
theorem tryParts_inv {s : State} (h : s.Inv) (wr : Bool) (pick : Option Nat) (n : Nat) (r : CopyReq) : (tryParts wr pick n s r).1.Inv :=
  foldl_invOf (proj := Prod.fst) (b := (s, r)) (fun q i hq => by
    split
    · exact hq
    · exact tryPart_inv hq _ _ _ _) _ h
theorem copyStep_inv {s : State} (h : s.Inv) (e : Nat) (pick : Option Nat) (n : Nat) : (copyStep e pick n s).Inv := by
  unfold copyStep; split
  · exact (tryParts_inv h _ _ _ _).keeps (closeRun_keeps _ _ _)
  · exact h
theorem performHeld_inv {s : State} (h : s.Inv) (r : HeldReq) : (performHeld s r).Inv := by
  cases r with
  | own c id sub =>
    simp only [performHeld]; split
    · split
      · exact performPart_inv h _ _ _
      · exact h.keeps (freeReq_keeps _ _)
    · exact h.keeps (freeReq_keeps _ _)
  | copy id wr i =>
    simp only [performHeld]; split
    · exact (tryPart_inv h _ _ _ _).keeps (closeRun_keeps _ _ _)
    · exact h.keeps (freeReq_keeps _ _)
  | other ia op seq => exact performOther_inv h _ _ _ _
  | foreign q => exact performForeign_inv h q
theorem performAllHeld_inv {s : State} (h : s.Inv) (page : Nat) : (performAllHeld page s).Inv :=
  foldl_inv (fun _ r hu => ite_inv (performHeld_inv hu r) hu) _ h
theorem replaySide_inv {s : State} (h : s.Inv) (c : CtxId) (n : Nat) (far : Reply) : (replaySide c n far s).Inv := by
  unfold replaySide; dsimp only
  split
  · exact h
  split
  · exact h
  next p _ =>
  have hhome : ∀ (b : Bool) (q : State × HomeRes),
      (if b then (s, HomeRes.reply far) else performHome p.ia p.op .near (getCtx s c).plan s) = q → q.1.Inv := by
    rintro b q rfl; cases b
    · exact performHome_inv h _ _ _ _
    · exact h
  split
  · exact h
  split
  · next e => exact (((hhome _ _ e).keeps (setCtx_keeps _ _ _)).keeps (conclude_keeps _ _ _ _ _)).keeps (admitSide_keeps _ _)
  · next e _ _ => exact hhome _ _ ‹_›
theorem pageNowMapped_inv {s : State} (h : s.Inv) (core idx : Nat) : (pageNowMapped core idx s).Inv := by
  have hside : ∀ (u : State) (c : CtxId) (page : Nat), u.Inv →
      (match (getCtx u c).side.findIdx? (fun e => (pagesOf u e).contains page) with
        | some n => replaySide c n (.done 0 false) u
        | none => u).Inv := fun u c page hu => by
    split
    · exact replaySide_inv hu _ _ _
    · exact hu
  unfold pageNowMapped; dsimp only; split
  · exact h
  · exact performAllHeld_inv (foldl_inv (fun u c hu => foldl_inv (fun v _ hv => hside v c _ hv) _ hu) _ (performAllHeld_inv h.same _)) _
theorem farBytes_inv {s : State} (h : s.Inv) (n : Nat) : (farBytes n s).1.Inv := h.same
theorem returnBytes_inv {s : State} (h : s.Inv) (core : Nat) (e : Dbl) : (returnBytes core e s).Inv :=
  (farBytes_inv h _).write _ _
theorem partReply_inv {s : State} (h : s.Inv) (e : Nat) (wr : Bool) (i : Nat) (f : Reply) : (partReply e wr i f s).Inv := by
  have hrep : ∀ c p f, (reportReply c p f s).Inv := fun c p f => h.keeps (reportReply_keeps c p f s)
  unfold partReply; split
  · exact h
  next r _ =>
  rcases Option.eq_none_or_eq_some (r.parts s wr)[i]? with hw | ⟨w, hw⟩ <;> rw [hw]
  · exact h
  rcases Option.eq_none_or_eq_some (r.leftAs wr i) with hq | ⟨q, hq⟩ <;> rw [hq]
  · exact h
  dsimp -zeta only
  extract_lets v p f s1
  have h1 : s1.Inv := hrep _ _ _
  clear_value s1 f
  split
  · exact h
  cases f with
  | done _ pin =>
    exact ite_inv ((h1.keeps (setCtx_keeps _ _ _)).keeps (closeRun_keeps _ _ _)) ((farBytes_inv h1 _).keeps (closeRun_keeps _ _ _))
  | poisoned => exact ite_inv h ((farBytes_inv (uncorrectable_inv h1 _ _) _).keeps (closeRun_keeps _ _ _))
  | denied => exact h1.same
  | fault => exact h1
  | unsupported => exact h1

/-! Peers, receives and the companion (R234, R292, R333, R374) -/

theorem peerAccess_inv {s : State} (h : s.Inv) (c : CtxId) (a : Access) : (peerAccess c a s).Inv := by
  unfold peerAccess; split
  · extract_lets core off busy s1
    have h1 : s1.Inv := ite_inv (h.keeps (holdPort_keeps _ _ _)) h
    split
    · exact h
    split
    · exact (h1.keeps (putOut_keeps _ _ _ _)).keeps (setCtx_keeps _ _ _)
    · exact State.Inv.keeps (h1.write _ _) (putOut_keeps _ _ _ _)
  · exact h
theorem performPeer_inv {s : State} (h : s.Inv) (n : Nat) : (performPeer n s).Inv := by
  unfold performPeer; split
  · exact peerAccess_inv h _ _
  · exact h
theorem performNeighbour_inv {s : State} (h : s.Inv) (r : PeerReq) : (performNeighbour r s).Inv := by
  have hhold : ∀ a w, (holdPort a w s).Inv := fun a w => h.keeps (holdPort_keeps a w s)
  cases r with
  | own n => exact performPeer_inv h n
  | load a => exact ite_inv (hhold _ _) h
  | store a v => exact ite_inv (scratchWrite_inv (hhold _ _) _ _) h
  | copyIn a bs => exact ite_inv (scratchWrite_inv (hhold _ _) _ _) h
  | copyOut a n => exact ite_inv (hhold _ _) h
  | change core a bs => exact ite_inv h (h.write _ _)
theorem selfPeers_inv {s : State} (h : s.Inv) : (selfPeers s).Inv :=
  foldl_inv (fun u q hu => by
    split
    · exact ite_inv (peerAccess_inv hu _ _) hu
    · exact hu) _ h
theorem rxOne_inv {s : State} (h : s.Inv) : (rxOne s).Inv := by
  unfold rxOne; split
  · exact h
  · dsimp only; split
    · exact h
    · exact (scratchWrite_inv (h.keeps (holdPort_keeps _ _ _)) _ _).same
theorem rxCycle_inv {s : State} (h : s.Inv) : (rxCycle s).Inv :=
  foldl_inv (fun u c hu => hu.keeps (postRecvs_keeps u c)) _ (rxOne_inv (rxOne_inv (rxOne_inv (rxOne_inv h))))
theorem performHost_inv {s : State} (h : s.Inv) (n : Nat) : (performHost n s).Inv := by
  unfold performHost; split
  · split
    · exact h
    split
    · exact (h.keeps (putOut_keeps _ _ _ _)).keeps (setCtx_keeps _ _ _)
    · exact State.Inv.keeps (h.write _ _) (putOut_keeps _ _ _ _)
    · exact h
  · exact h

end Sys2Proof.Machine
end

section
/-! SUPPORT. The invariant through launches, the station, the supervisor, the package's power and the issue of bundles. -/
namespace Sys2Proof.Machine

-- One declaration after another: proofs that wait for the kernel side by side would each hold a thread's stack.
set_option Elab.async false

/-! Launches and the distributor (R392 to R405) -/

theorem moveLaunch_inv {s : State} (h : s.Inv) (k : Nat) (l : Launch) : (moveLaunch k l s).Inv := by
  have h1 : State.Inv { s with launches := SMap.put s.launches k l } := h.same
  unfold moveLaunch; dsimp only; split
  · exact ite_inv h.same (h1.write _ _)
  · exact h1
theorem endLaunch_inv {s : State} (h : s.Inv) (k : Nat) (l : Launch) (st : LaunchStatus) : (endLaunch k l st s).Inv := by
  unfold endLaunch; extract_lets s1 hist nj acc idle src s2
  have h1 : s1.Inv := ite_inv (h.keeps (discardPlan_keeps _ _)) h
  have h2 : s2.Inv := h1.same
  exact (moveLaunch_inv h2 _ _).keeps (dropImages_keeps _)
theorem applyCancel_inv {s : State} (h : s.Inv) (k : Nat) : (applyCancel k s).Inv := by
  unfold applyCancel; split
  · exact ite_inv (endLaunch_inv h _ _ _) h
  · exact h
theorem takeRecord_inv {s : State} (h : s.Inv) (k : Nat) (bs : List Byte) : (takeRecord k bs s).Inv := by
  unfold takeRecord; dsimp only; split
  · exact endLaunch_inv h.same _ _ _
  · exact moveLaunch_inv h.same _ _
theorem overrun_inv {s : State} (h : s.Inv) (k seq : Nat) : (overrun k seq s).Inv := by
  refine blackBox_inv (mapBox_inv h 0 ?_) _ _ _ _ _
  exact fun _ hb => hb
theorem foldl_wf {α : Type} {f : List Host.Cell → α → List Host.Cell}
    (hf : ∀ m a, Memory.wf m = true → Memory.wf (f m a) = true) (l : List α) {m : List Host.Cell} (h : Memory.wf m = true) :
    Memory.wf (l.foldl f m) = true := List.foldlRecOn l f h (fun m hm a _ => hf m a hm)
theorem wf_memClear (a n : Nat) {m : List Host.Cell} (h : Memory.wf m = true) : Memory.wf (memClear m a n) = true := wf_filter _ h
theorem wf_clearCore (core : Nat) (r : CoreRes) {m : List Host.Cell} (h : Memory.wf m = true) : Memory.wf (clearCore core r m) = true :=
  foldl_wf (fun _ _ hm => wf_memClear _ _ hm) _ (wf_memClear _ _ (wf_memClear _ _ h))
theorem wf_writeCode (core : Nat) (im : Image) (r : CoreRes) {m : List Host.Cell} (h : Memory.wf m = true) :
    Memory.wf (writeCode core im r m) = true := foldl_wf (fun _ _ hm => wf_memWrite _ _ hm) _ (wf_memWrite _ _ h)
theorem wf_fillCore (l : Launch) (p : Plan) (im : Image) (core : Nat) (r : CoreRes) {m : List Host.Cell} (h : Memory.wf m = true) :
    Memory.wf (fillCore l p im core r m) = true :=
  foldl_wf (fun _ _ hm => by
    split
    · exact wf_memWrite _ _ hm
    · exact hm) _ (wf_writeCode _ _ _ (foldl_wf (fun _ _ hm => wf_memWrite _ _ hm) _ (wf_clearCore core r h)))
theorem wf_fillAll (l : Launch) (p : Plan) (im : Image) {m : List Host.Cell} (h : Memory.wf m = true) :
    Memory.wf (fillAll l p im m) = true :=
  foldl_wf (fun _ r hm => by
    split
    · exact wf_fillCore _ _ _ _ r hm
    · exact hm) _ h
theorem loadTables_keeps (p : Plan) (im : Image) (s : State) : Keeps s (loadTables p im s) := ⟨rfl, rfl, rfl⟩
theorem startLaunch_inv {s : State} (h : s.Inv) (k : Nat) (l : Launch) (p : Plan) (im : Image) : (startLaunch k l p im s).Inv := by
  unfold startLaunch; split
  · exact endLaunch_inv h _ _ _
  · extract_lets start s1 s2 s3
    have h1 : s1.Inv := ⟨wf_fillAll l p im h.mem, h.ring, h.rings⟩
    have h2 : s2.Inv := by
      simp only [s2]; split
      · exact h1.keeps (loadHere_keeps _ _ _ _ _)
      · exact h1
    have h3 : s3.Inv := ite_inv (h2.keeps (dueFreq_keeps _ _)) h2
    exact applyCancel_inv (moveLaunch_inv h3 _ _) _
theorem endPlan_inv {s : State} (h : s.Inv) (c : CtxId) (status : LaunchStatus) : (endPlan c status s).Inv := by
  unfold endPlan; dsimp only; split
  · exact h
  · split
    · exact ite_inv (endLaunch_inv h _ _ _) h
    · exact h
theorem placeLaunch_inv {s : State} (h : s.Inv) (k : Nat) (l : Launch) (im : Image) (cls : List Nat) : (placeLaunch k l im cls s).Inv :=
  (moveLaunch_inv h _ _).keeps (wakeFor_keeps _ _)
theorem tryLaunch_inv {a : Pass} (h : a.s.Inv) (p : Nat × Launch) : (tryLaunch a p).s.Inv := by
  unfold tryLaunch; dsimp only; split
  · exact endLaunch_inv h _ _ _
  split
  · exact h
  split
  · exact h
  split
  · exact placeLaunch_inv h _ _ _ _
  split
  · exact endLaunch_inv h _ _ _
  · exact h.keeps (foldl_keepsAll (fun u _ => startPreempt_keeps _ _ u) _ _)
theorem distributorPass_inv {s : State} (h : s.Inv) : (distributorPass s).Inv :=
  foldl_invOf (proj := Pass.s) (fun _ p ha => tryLaunch_inv ha p) _ (b := { s := { s with pkg := { s.pkg with pass := false } } }) h.same
theorem distribute_inv (n : Nat) {s : State} (h : s.Inv) : (distribute n s).Inv := by
  induction n generalizing s with
  | zero => exact h
  | succ n ih => exact ite_inv (ih (distributorPass_inv h)) h
theorem distributorCycle_inv {s : State} (h : s.Inv) : (distributorCycle s).Inv := distribute_inv _ h
theorem preemptDone_inv {s : State} (h : s.Inv) (p : Nat × Launch) : (preemptDone s p).Inv :=
  ite_inv (moveLaunch_inv h.same _ _) h
theorem preemptCycle_inv {s : State} (h : s.Inv) : (preemptCycle s).Inv := foldl_inv (fun _ p hu => preemptDone_inv hu p) _ h

/-! Power, the station and the supervisor (R322, R327, R406, R433) -/

/-- A canonical table whose keys are from a bound on. -/
theorem SMap.wfFrom_of_le {α : Type} [DecidableEq α] (d : α) {b c : Nat} {m : List (Nat × α)} (h : SMap.wfFrom d b m = true)
    (hc : ∀ p ∈ m, c ≤ p.1) : SMap.wfFrom d c m = true := by
  cases m with
  | nil => rfl
  | cons q t =>
    simp only [SMap.wfFrom, Bool.and_eq_true, decide_eq_true_eq] at h ⊢
    exact ⟨⟨hc q List.mem_cons_self, h.1.2⟩, h.2⟩
/-- The bytes of a range, listed by their keys, those of value 0 left out. -/
theorem wfFrom_listed (f : Nat → Byte) (a n k b : Nat) (hb : b ≤ a + k) :
    SMap.wfFrom unlisted b ((List.range' k n).filterMap (fun i => if f i = unlisted then none else some (a + i, f i))) = true := by
  induction n generalizing k b with
  | zero => rfl
  | succ n ih =>
    rw [List.range'_succ, List.filterMap_cons]
    by_cases hf : f k = unlisted
    · rw [if_pos hf]; exact ih (k + 1) b (by omega)
    · rw [if_neg hf]
      simp only [SMap.wfFrom, Bool.and_eq_true, decide_eq_true_eq]
      exact ⟨⟨hb, hf⟩, ih (k + 1) _ (by omega)⟩
theorem wf_memFresh (a n : Nat) (f : Nat → Byte) {m : List Host.Cell} (h : Memory.wf m = true) :
    Memory.wf (memFresh m a n f) = true := by
  have hrest : SMap.wfFrom unlisted (a + n) (m.filter (fun p => decide (a + n ≤ p.1))) = true :=
    SMap.wfFrom_of_le _ (wf_filter _ h) (fun p hp => by simpa using (List.mem_filter.1 hp).2)
  have hnew := wfFrom_listed f a n 0 a (by omega)
  rw [← List.range_eq_range'] at hnew
  refine SMap.wfFrom_append _ (SMap.wfFrom_append _ hrest hnew (by omega) ?_) (wf_filter _ h) (Nat.zero_le _) ?_
  · intro p hp
    obtain ⟨i, hi, e⟩ := List.mem_filterMap.1 hp
    by_cases hf : f i = unlisted
    · simp [hf] at e
    · rw [if_neg hf, Option.some.injEq] at e
      subst e
      exact Nat.add_lt_add_left (List.mem_range.1 hi) a
  · exact fun p hp => by simpa using (List.mem_filter.1 hp).2
theorem freeScratch_inv {s : State} (h : s.Inv) (cl : Nat) : (freeScratch cl s).Inv :=
  ⟨foldl_wf (fun _ _ hm => wf_memFresh _ _ _ hm) _ h.mem, h.ring, h.rings⟩
theorem leftBus_inv {s : State} (h : s.Inv) (b : BitVec 2) : (leftBus b s).Inv :=
  (blackBox_inv h _ _ _ _ _).keeps (foldl_keepsAll (fun u _ => report_keeps _ _ _ _ u) _ _)
theorem roundStart_inv {s : State} (h : s.Inv) (b : BitVec 2) : (roundStart b s).Inv := by
  unfold roundStart; extract_lets x s1
  have h1 : s1.Inv := h.keeps (by simp [s1])
  exact ite_inv (leftBus_inv h1 b) h1
theorem tokenStep_inv {s : State} (h : s.Inv) (b : BitVec 2) : (tokenStep b s).Inv := by
  unfold tokenStep; extract_lets x p t s0 s1 y
  have h0 : s0.Inv := h.keeps (setBus_keeps _ _ _)
  have h1 : s1.Inv := State.Inv.keeps (ite_inv (roundStart_inv h0 b) h0) (addView_keeps _ _ _)
  clear_value s1 y
  split
  · exact h
  split
  · exact ite_inv (ite_inv (h1.keeps (setBus_keeps _ _ _)) (ite_inv h h1)) h1
  · exact h1
theorem leaveBus_inv {s : State} (h : s.Inv) (b : BitVec 2) : (leaveBus b s).Inv := blackBox_inv (h.keeps (setBus_keeps _ _ _)) _ _ _ _ _
theorem frameSeen_inv {s : State} (h : s.Inv) (kind : BitVec 4) (f : Frame) (crc : BitVec 32) {act : Nat → State → State}
    (ha : ∀ t u, u.Inv → (act t u).Inv) : (frameSeen kind f crc act s).Inv := by
  unfold frameSeen; extract_lets b x
  split
  · exact h
  split
  · exact h
  extract_lets s1
  have h1 : s1.Inv := h.keeps (by simp [s1])
  clear_value s1
  split
  · exact h1
  split
  · exact leaveBus_inv h1 b
  · exact ha _ _ (h1.keeps (setBus_keeps _ _ _))
theorem busgateWrite_inv {s : State} (h : s.Inv) (k : Nat) (v : Dbl) : (busgateWrite k v s).Inv :=
  ite_inv h (blackBox_inv h.same _ _ _ _ _)
theorem mgmtWrite_inv {s : State} (h : s.Inv) (r : MgmtReg) (v : Dbl) : (mgmtWrite r v s).Inv := by
  have hvec : ∀ c f, (heldVec c f s).Inv := fun c f => h.keeps (heldVec_keeps c f s)
  have hbank : ∀ c f, (heldWrite c f s).Inv := fun c f => h.keeps (heldWrite_keeps c f s)
  have hrange : ∀ c f, (rangeWrite c f s).Inv := fun c f => h.keeps (rangeWrite_keeps c f s)
  cases r with
  | rga | rgb | rgc => simp only [mgmtWrite]; exact hrange _ _
  | heldPc | heldTpc | heldScalar | heldPreds | heldMask | heldMparam | heldCreg | heldShape => simp only [mgmtWrite]; exact hbank _ _
  | heldRow | heldRowTag | heldLatch | heldLatchTag | heldDist | heldDistTag | heldDistSet => simp only [mgmtWrite]; exact hvec _ _
  | errorRecord => exact h.same
  | svcbud => exact h.same
  | homeEntry core idx =>
    exact ite_inv (((putEntry_inv h _ _ _).keeps (touchLayer_keeps _ _)).keeps (mgmtStatus_keeps _ _)) (h.keeps (mgmtStatus_keeps _ _))
  | overrun w => simp only [mgmtWrite]; exact mapBox_inv h 0 (by exact fun _ hb => hb)
  | busgate cl => exact busgateWrite_inv h _ v
  | blackBoxOf d w => exact ite_inv (mapBox_inv h _ (fun _ hb => hb)) h
  | _ => exact h
theorem railEvent_inv {s : State} (h : s.Inv) (watts : Nat) : (railEvent watts s).Inv := blackBox_inv h _ _ _ _ _
theorem resetPackage_inv {s : State} (h : s.Inv) : (resetPackage s).Inv where
  mem := h.mem
  ring := h.ring
  rings := by
    intro p hp
    obtain ⟨d, _, rfl⟩ := List.mem_map.1 hp
    exact boxes_next h d

end Sys2Proof.Machine
end

section
/-! SUPPORT. The invariant through each word and event. -/
namespace Sys2Proof.Machine

-- One declaration after another: proofs that wait for the kernel side by side would each hold a thread's stack.
set_option Elab.async false

/-- An answer to a state that meets the invariant meets it. -/
def InvNext (a : Answer) : Prop := ∀ t, a = .next t → t.Inv

theorem invNext_next {t : State} (h : t.Inv) : InvNext (.next t) := fun _ e => by cases e; exact h
theorem invNext_ite {p : Prop} [Decidable p] {a b : Answer} (ha : InvNext a) (hb : InvNext b) : InvNext (if p then a else b) := by
  split
  · exact ha
  · exact hb
theorem invNext_keeps {s t : State} (h : s.Inv) (k : Keeps s t) : InvNext (.next t) := invNext_next (h.keeps k)
/-- A word that issues meets the invariant if its effects keep it; its results only enter State.flight. -/
theorem invNext_issue {s : State} {a : Answer} {cs : List Cause} {outs : List Out} {eff : State → State} (h : s.Inv)
    (e : a = .next (issue s cs outs eff)) (he : ∀ u, Keeps u (eff u)) : InvNext a :=
  e ▸ invNext_next (issue_inv h cs outs (fun u hu => hu.keeps (he u)))
theorem invNext_onDie {s t : State} (h : s.Inv) (ht : t.Inv) (die : Nat) : InvNext (onDie die t s) := invNext_next (ite_inv ht h)

/-! Words that wait, trap, or whose form decides what they send -/

theorem execCkpt_inv {s : State} (h : s.Inv) : InvNext (execCkpt s) := by
  have hrun : (endRerun s.cur.ctx id s).Inv := endRerun_inv h _ (fun _ hu => hu)
  unfold execCkpt; dsimp only
  refine invNext_ite (invNext_issue h rfl (fun _ => ⟨rfl, rfl, rfl⟩)) (invNext_ite (invNext_issue h rfl (fun _ => ⟨rfl, rfl, rfl⟩))
    (invNext_ite (invNext_keeps hrun (replaced_keeps _)) (invNext_ite (invNext_keeps (retire_inv h _) (replaced_keeps _)) ?_)))
  exact invNext_issue h rfl (fun u => takeCkpt_keeps _ _ u)
theorem execSys_inv {s : State} (h : s.Inv) (k : BitVec 12) : InvNext (execSys k s) := by
  unfold execSys; dsimp only
  refine invNext_ite (invNext_next (sysTrap_inv h k)) (invNext_ite ?_ ?_)
  · exact invNext_keeps (endRerun_inv h _ (fun _ hu => hu)) (replaced_keeps _)
  · exact invNext_next (endRerun_inv h _ (fun u hu => sysTrap_inv (hu.keeps (setCx_keeps _ _)) k))
theorem popStall_inv {s : State} (h : s.Inv) (d : BitVec 6) (q : BitVec 2) : InvNext (popStall d q s) := by
  unfold popStall; split
  · exact invNext_keeps h (waitFor_keeps s _)
  · exact invNext_issue h rfl (popHead_keeps q)
theorem popReady_inv {s : State} (h : s.Inv) (d : BitVec 6) (q : BitVec 2) (p : BitVec 5) : InvNext (popReady d q p s) := by
  unfold popReady; split
  · exact invNext_next (results_inv h _)
  · exact invNext_issue h rfl (popHead_keeps q)
theorem execVqnt_inv {s : State} (h : s.Inv) (d v : BitVec 8) (t : Tag) (r : Rm) : InvNext (execVqnt d v t r s) := by
  unfold execVqnt; dsimp only; split <;> exact invNext_issue h rfl (fun _ => ⟨rfl, rfl, rfl⟩)
theorem execMma_inv {s : State} (h : s.Inv) (d a : BitVec 8) (w : BitVec 2) (g n : Bool) (f : BitVec 2) (m : BitVec 3) :
    InvNext (execMma d a w g n f m s) := by
  unfold execMma; dsimp only; split
  · exact invNext_issue h rfl (fun _ => ⟨rfl, rfl, rfl⟩)
  · split <;> exact invNext_issue h rfl (fun _ => ⟨rfl, rfl, rfl⟩)
theorem execMldb_inv {s : State} (h : s.Inv) (w : BitVec 2) (i : BitVec 4) : InvNext (execMldb w i s) := by
  unfold execMldb; dsimp only; split <;> exact invNext_issue h rfl (fun _ => ⟨rfl, rfl, rfl⟩)
theorem execMdrn_inv {s : State} (h : s.Inv) (v : BitVec 8) (b : Bool) (w : BitVec 2) : InvNext (execMdrn v b w s) := by
  unfold execMdrn; split <;> exact invNext_next (results_inv h _)
theorem execMprog_inv {s : State} (h : s.Inv) (a b : BitVec 6) : InvNext (execMprog a b s) := by
  unfold execMprog; split
  · exact invNext_next (results_inv h _)
  · split <;> exact invNext_next (results_inv h _)
theorem execMcall_inv {s : State} (h : s.Inv) (i : BitVec 6) : InvNext (execMcall i s) := by
  have hfail : ∀ k fl, InvNext (mcallFail s k i fl) := fun _ _ => invNext_issue h rfl (fun _ => ⟨rfl, rfl, rfl⟩)
  unfold execMcall; dsimp only
  exact invNext_ite (hfail _ _) (invNext_ite (hfail _ _) (invNext_ite (hfail _ _) (invNext_issue h rfl (fun _ => ⟨rfl, rfl, rfl⟩))))
theorem execXput_inv {s : State} (h : s.Inv) (f : BitVec 3) (a : BitVec 6) : InvNext (execXput f a s) := by
  unfold execXput; dsimp only; split
  · exact invNext_issue h rfl (fun u => (markTimed_keeps u).trans (pushGate_keeps _ _ _))
  · exact invNext_ite (invNext_keeps h (stallFor_keeps s))
      (invNext_issue h rfl (fun u => (markTimed_keeps u).trans (pushFo_keeps _ _ _)))
  · exact invNext_issue h rfl (fun u => (markTimed_keeps u).trans (pushPort_keeps _ _ _ _))
theorem execXget_inv {s : State} (h : s.Inv) (d : BitVec 6) (f : BitVec 3) : InvNext (execXget d f s) := by
  unfold execXget; dsimp only; split
  · exact invNext_issue h rfl (fun u => (markTimed_keeps u).trans (popGate_keeps _ _))
  · exact invNext_ite (invNext_keeps h (stallFor_keeps s))
      (invNext_issue h rfl (fun u => (markTimed_keeps u).trans (popFi_keeps _ _)))
  · exact invNext_issue h rfl (fun u => (markTimed_keeps u).trans (popPort_keeps _ _ _))
/-- What a plan's gateway undergoes keeps the invariant if it does so alone. -/
theorem withPlan_inv {f : State → State} (hf : ∀ u, u.Inv → (f u).Inv) (q : Nat) {s : State} (h : s.Inv) : (withPlan q f s).Inv := by
  unfold withPlan; split
  · exact hf s h
  · extract_lets k t
    have ht : t.Inv := hf _ h.same
    exact ht.same
theorem execPbar_inv {s : State} (h : s.Inv) (r : Bool) (k : BitVec 12) : InvNext (execPbar r k s) := by
  unfold execPbar
  refine invNext_ite (invNext_issue h rfl (fun u => (markTimed_keeps u).trans (raiseLate_keeps _ _ _))) ?_
  split
  · exact invNext_next (issue_inv h _ _ (fun u hu =>
      withPlan_inv (fun v hv => startStep_inv hv r k _) _ (hu.keeps (markTimed_keeps u))))
  · exact invNext_keeps h (waitFor_keeps s _)
theorem execTwall_inv {s : State} (h : s.Inv) (a : BitVec 6) : InvNext (execTwall a s) :=
  invNext_ite (invNext_next (results_inv h _)) (invNext_keeps h (waitFor_keeps s _))
theorem execTwany_inv {s : State} (h : s.Inv) (d a : BitVec 6) : InvNext (execTwany d a s) :=
  invNext_ite (invNext_next (results_inv h _)) (invNext_keeps h (waitFor_keeps s _))
theorem execCpy_inv {s : State} (h : s.Inv) (d a : BitVec 4) (t : BitVec 6) : InvNext (execCpy d a t s) :=
  invNext_issue h rfl (fun u => by dsimp only; split <;> exact ⟨rfl, rfl, rfl⟩)
theorem execOrecv_inv {s : State} (h : s.Inv) (a b : BitVec 6) : InvNext (execOrecv a b s) := by
  unfold execOrecv; dsimp only
  exact invNext_ite (invNext_keeps h (waitFor_keeps s _)) (invNext_issue h rfl (fun _ => ⟨rfl, rfl, rfl⟩))
theorem execGbar_inv {s : State} (h : s.Inv) (a : BitVec 6) : InvNext (execGbar a s) := by
  unfold execGbar; dsimp only
  refine invNext_ite ?_ (invNext_issue h rfl (fun _ => ⟨rfl, rfl, rfl⟩))
  split
  · exact invNext_ite (invNext_issue h rfl (fun _ => ⟨rfl, rfl, rfl⟩)) (invNext_keeps h (waitFor_keeps s _))
  · exact invNext_keeps h (waitFor_keeps s _)
theorem globalWord_inv {s : State} (h : s.Inv) (a : BitVec 6) (op : GlobalOp) (n : Nat) (w m r t : Bool) (f : BitVec 6) :
    InvNext (globalWord s a op n w m r t f) :=
  invNext_issue h rfl (fun u => by
    split
    · exact ite_keeps (enterRel_keeps _ _ u) (leaveNow_keeps _ _ u)
    · exact Keeps.refl u)
theorem execGws_inv {s : State} (h : s.Inv) (k a b : BitVec 6) : InvNext (execGws k a b s) :=
  invNext_issue h rfl (fun u => by
    split
    · exact enterRel_keeps _ _ u
    · exact Keeps.refl u)

/-! All words -/

/-- The words that have an encoding: those named here by their own lemmas, the others by the issue of their results and
effects that touch neither memory nor the records. -/
theorem exec_word_inv {s : State} (h : s.Inv) (i : Instr) (hi : (encode false i).isSome = true) : InvNext (exec i s) := by
  cases i <;> cases hi
  case j => exact invNext_issue h rfl (takeIf_keeps _ _)
  case call => exact invNext_issue h rfl (takeIf_keeps _ _)
  case loop => exact invNext_issue h rfl (takeIf_keeps _ _)
  case ckpt => exact execCkpt_inv h
  case sys k => exact execSys_inv h k
  case trap => exact invNext_keeps (softTrap_inv h _ _ _ _) (heldNext_keeps _ _)
  case brk => exact invNext_keeps (softTrap_inv h _ _ _ _) (heldNext_keeps _ _)
  case qpopa d q => exact popStall_inv h d q
  case qpop d q => exact popStall_inv h d q
  case qpopaNr d q p => exact popReady_inv h d q p
  case qpopNr d q p => exact popReady_inv h d q p
  case vqnt d v t r => exact execVqnt_inv h d v t r
  case mma d a w g n f m => exact execMma_inv h d a w g n f m
  case mldb w i => exact execMldb_inv h w i
  case mdrn v b w => exact execMdrn_inv h v b w
  case mprog a b => exact execMprog_inv h a b
  case mcall k => exact execMcall_inv h k
  case bpre b => exact invNext_issue h rfl (precharge_keeps _)
  case bprea => exact invNext_issue h rfl (fun u => foldl_keepsAll (fun s n => precharge_keeps n s) _ u)
  case xput f a => exact execXput_inv h f a
  case xget d f => exact execXget_inv h d f
  case csync => exact invNext_issue h rfl (fun u => (markTimed_keeps u).trans (startSync_keeps _ _ _ _))
  case pbar r k => exact execPbar_inv h r k
  case cpy d a t => exact execCpy_inv h d a t
  case twall a => exact execTwall_inv h a
  case twany d a => exact execTwany_inv h d a
  case orecv a b => exact execOrecv_inv h a b
  case acq => exact invNext_issue h rfl (startAcquire_keeps _ _)
  case acqs => exact invNext_issue h rfl (startAcquire_keeps _ _)
  case gbar a => exact execGbar_inv h a
  case gws k a b => exact execGws_inv h k a b
  case gld | gst | gaadd | gamin | gamax | gaand | gaor | gaxor | gaswp | gacas | gafadd | gafmin | gafmax | gabadd | gxadd | gxrd =>
    exact globalWord_inv h _ _ _ _ _ _ _ _
  all_goals exact invNext_issue h rfl (fun _ => ⟨rfl, rfl, rfl⟩)

/-! Events whose effect depends on what they find -/

theorem execRefreshDeadlineExpire_inv {s : State} (h : s.Inv) (bank : BitVec 6) (core : BitVec 11) :
    InvNext (execRefreshDeadlineExpire bank s core) := by
  unfold execRefreshDeadlineExpire; dsimp only
  refine invNext_next (ite_inv (ite_inv (startEmergency_inv h _ _ _) h) ?_)
  split
  · exact startEmergency_inv h _ _ _
  · exact h
theorem execTierClassChange_inv {s : State} (h : s.Inv) (tier cls : BitVec 2) (core : BitVec 11) :
    InvNext (execTierClassChange tier cls s core) := by
  unfold execTierClassChange; dsimp only
  exact invNext_ite (invNext_keeps h ⟨rfl, rfl, rfl⟩) (invNext_keeps h ⟨rfl, rfl, rfl⟩)
theorem execPatrolScrub_inv {s : State} (h : s.Inv) (r : Corrected) : InvNext (execPatrolScrub r s) := by
  unfold execPatrolScrub; extract_lets up
  have hup : up.Inv := h.same
  refine invNext_next ?_
  split
  · dsimp only; exact ite_inv hup h
  · exact hup
theorem execSlotSelect_inv {s : State} (h : s.Inv) : InvNext (execSlotSelect s) :=
  invNext_keeps h ((eachCtx_keeps markReady_keeps s).trans (selectSlot_keeps _))
theorem execXchgWordArrive_inv {s : State} (h : s.Inv) (port : BitVec 2) (v : Dbl) : InvNext (execXchgWordArrive port v s) :=
  invNext_keeps h (ite_keeps (Keeps.refl s) ⟨rfl, rfl, rfl⟩)
theorem execXchgWindowExpire_inv {s : State} (h : s.Inv) : InvNext (execXchgWindowExpire s) :=
  invNext_keeps h (ite_keeps (Keeps.refl s) (expirePorts_keeps s))
theorem execCsyncRelease_inv {s : State} (h : s.Inv) (last : Nat) : InvNext (execCsyncRelease s last) := by
  unfold execCsyncRelease; refine invNext_keeps h ?_; split
  · exact ite_keeps (releaseSync_keeps s) (Keeps.refl s)
  · exact Keeps.refl s
theorem execTagCountZero_inv {s : State} (h : s.Inv) (t : BitVec 6) : InvNext (execTagCountZero t s) :=
  invNext_keeps h (ite_keeps ((eachCtx_keeps seeTags_keeps s).trans (eachCtx_keeps wake_keeps _)) (Keeps.refl s))
theorem execDroopStretch_inv {s : State} (h : s.Inv) : InvNext (execDroopStretch s) :=
  invNext_keeps h (ite_keeps (Keeps.refl s) ⟨rfl, rfl, rfl⟩)
theorem execSvcbudInterval_inv {s : State} (h : s.Inv) : InvNext (execSvcbudInterval s) :=
  invNext_keeps h (ite_keeps ⟨rfl, rfl, rfl⟩ (Keeps.refl s))
theorem execServiceEgress_inv {s : State} (h : s.Inv) (others : BitVec 24) : InvNext (execServiceEgress s others) := by
  unfold execServiceEgress; dsimp only
  refine invNext_next (eachCtx_inv (fun u c hu => ?_) h.same)
  exact hu.keeps (foldl_keepsAll (fun v a => ite_keeps (leaveOne_keeps c v a) (Keeps.refl v)) _ _)
theorem execServiceFlitHop_inv {s : State} (h : s.Inv) : InvNext (execServiceFlitHop s) := by
  unfold execServiceFlitHop; dsimp only; refine invNext_keeps h ?_; split
  · exact ite_keeps (Keeps.refl s) (putOut_keeps _ _ _ s)
  · exact Keeps.refl s
theorem execPbarRelease_inv {s : State} (h : s.Inv) (r : Nat) (steps : List (BitVec 12)) (seq : Nat) :
    InvNext (execPbarRelease r s steps seq) :=
  invNext_keeps h (ite_keeps (withPlan_keeps (by exact fun _ => ⟨rfl, rfl, rfl⟩) _ s) (Keeps.refl s))
theorem execPreemptRequest_inv {s : State} (h : s.Inv) (seq : Nat) (urgent : Bool) : InvNext (execPreemptRequest seq urgent s) := by
  unfold execPreemptRequest; refine invNext_keeps h ?_; split
  · exact startPreempt_keeps _ _ s
  · exact Keeps.refl s
theorem execPlacementResume_inv {s : State} (h : s.Inv) (seq sp : Nat) : InvNext (execPlacementResume seq sp s) := by
  unfold execPlacementResume; refine invNext_next ?_; split
  · extract_lets aligned s0 s1
    have h0 : s0.Inv := ite_inv (h.keeps (switchGate_keeps _ _)) h
    have h1 : s1.Inv := h0.keeps (foldl_keepsAll (restartAt_keeps sp) _ _)
    exact ite_inv (applyCancel_inv (moveLaunch_inv (h1.keeps (withPlan_keeps (by exact fun _ => ⟨rfl, rfl, rfl⟩) _ _)) _ _) _) h
  · exact h
theorem execClusterGate_inv {s : State} (h : s.Inv) (cl : BitVec 7) : InvNext (execClusterGate cl s) :=
  invNext_keeps h (ite_keeps (Keeps.refl s) ((gateAtTick_keeps _ _).trans (dropLock_keeps _ _)))
theorem execClusterWakeDone_inv {s : State} (h : s.Inv) (cl : BitVec 7) : InvNext (execClusterWakeDone cl s) := by
  unfold execClusterWakeDone; extract_lets c s1
  have h1 : s1.Inv := freeScratch_inv (h.keeps (setCluster_keeps _ _ _)) _
  exact invNext_next (ite_inv h (ite_inv h1.same h1))
theorem execDieWakeDone_inv {s : State} (h : s.Inv) (d : BitVec 3) : InvNext (execDieWakeDone d s) := by
  unfold execDieWakeDone; extract_lets n s1 s2
  have h1 : s1.Inv := h.keeps (Keeps.trans (setDie_keeps _ _ _) (foldl_keepsAll (fun u _ => gateAtTick_keeps _ u) _ _))
  have h2 : s2.Inv := ite_inv (h1.keeps (idleStations_keeps _)) h1
  exact invNext_next (ite_inv h (h2.keeps (foldl_keepsAll (fun u _ => wakeFor_keeps _ u) _ _)))
theorem execFrameLastBeat_inv {s : State} (h : s.Inv) (bus : BitVec 2) (other : Option (Frame × Dbl × Dbl)) :
    InvNext (execFrameLastBeat bus s other) := by
  cases other with
  | none => exact invNext_keeps h (lastBeat_keeps bus s)
  | some o => exact invNext_keeps h (otherBeat_keeps _ _ _ _ s)
theorem execStationEnqueue_inv {s : State} (h : s.Inv) (bus : BitVec 2) (other : Option Frame) :
    InvNext (execStationEnqueue bus s other) := by
  cases other with
  | none => exact invNext_keeps h (admitAt_keeps _ s)
  | some f => exact invNext_keeps h (ite_keeps (setBus_keeps _ _ s) (Keeps.refl s))
theorem execHomePerform_inv {s : State} (h : s.Inv) (r : HomeReq) : InvNext (execHomePerform r s) := by
  cases r with
  | own n => exact invNext_next (performOwn_inv h n)
  | other ia op ret seq => exact invNext_next (ite_inv (performOther_inv h _ _ _ _) h)
  | companion ia op => exact invNext_next (ite_inv (performHome_inv h _ _ _ _) h)
  | poison ia => exact invNext_next (ite_inv (h.keeps (addPoison_keeps _ s)) h)
theorem execHtinvAck_inv {s : State} (h : s.Inv) (core : BitVec 11) : InvNext (execHtinvAck s core) := by
  unfold execHtinvAck; dsimp only
  refine invNext_keeps h (ite_keeps ?_ (Keeps.refl s))
  split
  · exact setHtinv_keeps _ _ s
  · exact (setHtinv_keeps _ _ s).trans (invalidate_keeps _ _ _)
theorem execPageMigrate_inv {s : State} (h : s.Inv) (core : BitVec 11) (idx : BitVec 12) (q : BitVec 6) :
    InvNext (execPageMigrate core idx q s) := by
  unfold execPageMigrate; extract_lets i page e run back ok w e1 go
  have hgo : ∀ x, (go x).Inv := fun x => changeEntry_inv h _ _ _ x
  exact invNext_next (ite_inv h (ite_inv (hgo _) (ite_inv (hgo _) (hgo _))))
theorem execPageMoveDone_inv {s : State} (h : s.Inv) (core : BitVec 11) (idx : BitVec 12) (guest : Option (BitVec 48 × Dbl)) :
    InvNext (execPageMoveDone core idx s guest) := by
  unfold execPageMoveDone; split
  · exact invNext_keeps h (ite_keeps (Keeps.refl s) ⟨rfl, rfl, rfl⟩)
  · extract_lets i page e q src s1 home
    have h1 : s1.Inv := h.same
    have hback : State.Inv { s1 with free := s.free + 1 } := h1.same
    exact invNext_next (ite_inv h (ite_inv (performAllHeld_inv (returnBytes_inv (changeEntry_inv hback _ _ _ _) _ _) _)
      (performAllHeld_inv (changeEntry_inv h1 _ _ _ _) _)))
theorem execHostAccessPerform_inv {s : State} (h : s.Inv) (r : HostReq) : InvNext (execHostAccessPerform r s) := by
  cases r with
  | own n => exact invNext_next (performHost_inv h n)
  | companion a bs => exact invNext_next (ite_inv (h.write _ _) h)
theorem execLaunchRecordTake_inv {s : State} (h : s.Inv) (slot : BitVec 8) : InvNext (execLaunchRecordTake slot s) := by
  unfold execLaunchRecordTake; extract_lets k bs seq src s1
  have h1 : s1.Inv := h.same
  exact invNext_next (ite_inv h (ite_inv h1 (ite_inv (overrun_inv h1 _ _) (takeRecord_inv h1 _ _))))
theorem execLaunchCancel_inv {s : State} (h : s.Inv) (slot : BitVec 8) : InvNext (execLaunchCancel slot s) := by
  unfold execLaunchCancel; dsimp only; refine invNext_next ?_; split
  · exact ite_inv h (ite_inv h.same (endLaunch_inv h _ _ _))
  · exact h
theorem execLaunchDepsMet_inv {s : State} (h : s.Inv) (slot : BitVec 8) : InvNext (execLaunchDepsMet slot s) := by
  unfold execLaunchDepsMet; dsimp only; refine invNext_next ?_; split
  · refine ite_inv h (ite_inv (endLaunch_inv h _ _ _) ?_)
    split
    · exact endLaunch_inv h _ _ _
    · refine ite_inv h ?_
      have hstore := fun l q => (moveLaunch_inv h slot.toNat q).keeps (storeImage_keeps l _)
      split
      · exact endLaunch_inv (hstore _ _) _ _ _
      · exact (hstore _ _).same
  · exact h
theorem execLaunchStart_inv {s : State} (h : s.Inv) (slot : BitVec 8) : InvNext (execLaunchStart slot s) := by
  unfold execLaunchStart; dsimp only; refine invNext_next ?_; split
  · split
    · exact ite_inv (startLaunch_inv h _ _ _ _) h
    · exact h
  · exact h
theorem execLaunchEnd_inv {s : State} (h : s.Inv) (slot : BitVec 8) (status : LaunchStatus) : InvNext (execLaunchEnd slot status s) := by
  have hend : ∀ k l st, (endLaunch k l st s).Inv := endLaunch_inv h
  unfold execLaunchEnd; dsimp only; refine invNext_next ?_; split
  · exact ite_inv h (ite_inv (hend _ _ _) (ite_inv (ite_inv (hend _ _ _) h) (ite_inv (hend _ _ _) h)))
  · exact h
theorem execPowerWindow_inv {s : State} (h : s.Inv) (watts : Nat) : InvNext (execPowerWindow watts s) := by
  unfold execPowerWindow; extract_lets p src s1 s2
  have h1 : s1.Inv := h.same
  have h2 : s2.Inv := ite_inv h1 (railEvent_inv h1 _)
  exact invNext_next (ite_inv h (ite_inv (ite_inv (railEvent_inv h2 _) h2) h.same))
theorem execPowerFreqStep_inv {s : State} (h : s.Inv) : InvNext (execPowerFreqStep s) :=
  invNext_next (ite_inv (State.Inv.keeps (s := { s with pkg := { s.pkg with stepAt := some (tickNow s) } }) h.same (dueFreq_keeps _ _)) h)
theorem execThermalTrip_inv {s : State} (h : s.Inv) (die : BitVec 3) (reading : Nat) : InvNext (execThermalTrip die reading s) :=
  invNext_next (ite_inv h (resetPackage_inv (blackBox_inv h _ _ _ _ _)))
theorem execEbpinRetrainTimeout_inv {s : State} (h : s.Inv) : InvNext (execEbpinRetrainTimeout s) :=
  invNext_next (ite_inv (resetPackage_inv (blackBox_inv h _ _ _ _ _)) h)
theorem execPackageReset_inv {s : State} (h : s.Inv) (digestsOk : BitVec 8) : InvNext (execPackageReset digestsOk s) := by
  unfold execPackageReset; extract_lets s1
  have h1 : s1.Inv := ite_inv h (resetPackage_inv h)
  exact invNext_next h1.same
theorem execAttestRequest_inv {s : State} (h : s.Inv) (nonce : List Byte) : InvNext (execAttestRequest nonce s) :=
  invNext_next (ite_inv h h.same)
theorem execDebugAccess_inv {s : State} (h : s.Inv) (layer : DebugLayer) (off : Nat) (wr : Option Byte) (busy : Bool) :
    InvNext (execDebugAccess layer off wr s busy) := by
  have htouch : (touchLayer layer s).Inv := h.keeps (touchLayer_keeps layer s)
  have hst : ∀ n, (mgmtStatus n (touchLayer layer s)).Inv := fun n => htouch.keeps (mgmtStatus_keeps n _)
  unfold execDebugAccess
  refine invNext_next (ite_inv h (ite_inv (h.keeps (mgmtStatus_keeps _ _)) (ite_inv (hst _) ?_)))
  extract_lets u
  have hu : u.Inv := htouch
  clear_value u
  split
  · refine ite_inv (hu.keeps (mgmtStatus_keeps _ _)) ?_
    split
    · exact (hu.keeps (recSet_keeps _ _ _ _)).keeps (mgmtStatus_keeps _ _)
    · exact State.Inv.keeps hu ⟨rfl, rfl, rfl⟩
  · split
    · exact State.Inv.keeps (hu.withMem (wf_memSet _ _ hu.mem)) (mgmtStatus_keeps _ _)
    · exact State.Inv.keeps hu ⟨rfl, rfl, rfl⟩
theorem execDebugWake_inv {s : State} (h : s.Inv) (layer : DebugLayer) : InvNext (execDebugWake layer s) :=
  invNext_keeps h (ite_keeps (Keeps.refl s) ⟨rfl, rfl, rfl⟩)
theorem execDebugWakeDone_inv {s : State} (h : s.Inv) (layer : DebugLayer) : InvNext (execDebugWakeDone layer s) :=
  invNext_keeps h (ite_keeps ⟨rfl, rfl, rfl⟩ (Keeps.refl s))
theorem execLinkLock_inv {s : State} (h : s.Inv) (port : BitVec 4) (measured : Nat) : InvNext (execLinkLock port measured s) := by
  unfold execLinkLock; dsimp only; refine invNext_keeps h ?_; split
  · exact ite_keeps (setPort_keeps _ _ s) (Keeps.refl s)
  · exact Keeps.refl s
theorem execLinkCheckFail_inv {s : State} (h : s.Inv) (port : BitVec 4) : InvNext (execLinkCheckFail port s) := by
  unfold execLinkCheckFail; extract_lets x n s1
  have h1 : s1.Inv := h.same
  exact invNext_next (ite_inv h (ite_inv h1.same h1))
theorem execPackageUnreachable_inv {s : State} (h : s.Inv) (pkg : BitVec 6) : InvNext (execPackageUnreachable pkg s) := by
  unfold execPackageUnreachable; extract_lets src s1 s2
  have h1 : s1.Inv := h.same
  have h2 : s2.Inv := foldl_inv (fun u q hu => by
    split
    · exact ite_inv (hu.keeps (settle_keeps _ _ _ _ _)) hu
    · exact hu) _ h1
  exact invNext_next (foldl_inv (fun _ _ hu => endLaunch_inv hu _ _ _) _ h2)
theorem execFabricRequestArrive_inv {s : State} (h : s.Inv) (q : FabricRequest) : InvNext (execFabricRequestArrive q s) := by
  unfold execFabricRequestArrive; dsimp only
  refine invNext_next (ite_inv h (ite_inv ?_ (ite_inv h.same (performForeign_inv h q))))
  split
  · exact ite_inv (performGuest_inv h _ _) h
  · exact h
theorem execRemoteReply_inv {s : State} (h : s.Inv) (n : Nat) (r : Reply) (part : Option (Bool × Bool × Nat)) :
    InvNext (execRemoteReply n r s part) := by
  cases part with
  | none => exact invNext_keeps h (takeReply_keeps n r s)
  | some p => exact invNext_next (partReply_inv h _ _ _ _)
theorem execFabricSyncMessage_inv {s : State} (h : s.Inv) (m : SyncMessage) : InvNext (execFabricSyncMessage m s) := by
  unfold execFabricSyncMessage; extract_lets r x t home sent sh
  refine invNext_keeps h (ite_keeps ⟨rfl, rfl, rfl⟩ (ite_keeps ⟨rfl, rfl, rfl⟩ (ite_keeps (Keeps.refl s) (ite_keeps (othersDone_keeps _ _ s)
    (ite_keeps (Keeps.refl s) (ite_keeps ?_ (ite_keeps ?_ (Keeps.refl s))))))))
  · exact ite_keeps (answerAcq_keeps _ _ _ _ _ _ s) (ite_keeps (decideAcq_keeps _ _ _ _ s) (Keeps.refl s))
  · exact ite_keeps (answerRel_keeps _ _ _ _ s) (ite_keeps (decideRel_keeps _ _ _ s) (Keeps.refl s))
theorem execEvictedBankRefresh_inv {s : State} (h : s.Inv) : InvNext (execEvictedBankRefresh s) := by
  unfold execEvictedBankRefresh; extract_lets own s1
  have h1 : s1.Inv := h.keeps (foldl_keepsAll (fun u n => ite_keeps (precharge_keeps n u) (Keeps.refl u)) _ _)
  refine invNext_next ?_; split
  · exact h1.keeps (refresh_keeps _ _)
  · exact h1
/-- Settles O54: memory is empty, and each record is new. -/
theorem resetHoldsInvariant : Obligations.ResetHoldsInvariant := ⟨rfl, by decide, by decide⟩
theorem execEbpinRetrainingDone_inv {s : State} (h : s.Inv) : InvNext (execEbpinRetrainingDone s) :=
  invNext_next ⟨foldl_wf (fun _ _ hm => wf_memWrite _ _ hm) _ h.mem, h.ring, h.rings⟩
theorem execPackagePowerLoss_inv {s : State} (h : s.Inv) : InvNext (execPackagePowerLoss s) :=
  invNext_next ⟨wf_filter _ h.mem, resetHoldsInvariant.ring, resetHoldsInvariant.rings⟩

/-! All words and events -/

/-- Each word and event keeps the invariant: the words by `exec_word_inv`, the events that find what they do by their own lemmas,
the others by the operation that they are. -/
theorem exec_inv {s : State} (h : s.Inv) (i : Instr) : InvNext (exec i s) := by
  by_cases hi : (encode false i).isSome = true
  · exact exec_word_inv h i hi
  cases i
  case asyncCauseDeliver c => exact invNext_next (stopAsync_inv h c)
  case resultLanding | snapshotReplay | reductionUpdate | mmaLand | mdrnLand | mldbSwap | brdLand =>
    exact invNext_next (landingsOf_inv h _ _)
  case routineStep | routineLoad => exact invNext_keeps h (microEvent_keeps _ s)
  case routineEnd => exact invNext_keeps h ((microEvent_keeps _ s).trans (postEnded_keeps _))
  case bwrRowWrite => exact invNext_next (rowWrites_inv h)
  case refreshDeadlineExpire b c => exact execRefreshDeadlineExpire_inv h b c
  case emergencyRefresh => exact invNext_keeps h (emergencyCycle_keeps s)
  case tierClassChange t c k => exact execTierClassChange_inv h t c k
  case replanAgeExpire => exact invNext_next (agedPlans_inv h)
  case patrolScrub r => exact execPatrolScrub_inv h r
  case uncorrectableError src loc => exact invNext_next (uncorrectable_inv h src loc)
  case rollbackRestoreDone => exact invNext_keeps h (eachCtx_keeps restoreCycle_keeps s)
  case slotSelect => exact execSlotSelect_inv h
  case loadStreamDone => exact invNext_keeps h (finishLoad_keeps s)
  case unloadStreamDone => exact invNext_keeps h (finishUnload_keeps s)
  case segmentExpanded => exact invNext_keeps h (endExpansions_keeps s)
  case xchgWordArrive p v => exact execXchgWordArrive_inv h p v
  case xchgWindowExpire => exact execXchgWindowExpire_inv h
  case csyncRelease l => exact execCsyncRelease_inv h l
  case tagCountZero t => exact execTagCountZero_inv h t
  case copyTake => exact invNext_keeps h (takeCopy_keeps s)
  case copyComplete => exact invNext_next (copyStep_inv h _ _ _)
  case peerAccessPerform r => exact invNext_next (performNeighbour_inv h r)
  case droopStretch => exact execDroopStretch_inv h
  case fllLock => exact invNext_keeps h (fllLock_keeps s)
  case svcbudInterval => exact execSvcbudInterval_inv h
  case serviceEgress o => exact execServiceEgress_inv h o
  case serviceFlitHop => exact execServiceFlitHop_inv h
  case routeFlitDepart => exact invNext_keeps h (departs_keeps s)
  case routeFlitArrive => exact invNext_keeps h (withPlan_keeps (flitIn_keeps _ _) _ s)
  case pbarArrive c => exact invNext_keeps h (arriveAt_keeps s c)
  case pbarRelease r st q => exact execPbarRelease_inv h r st q
  case preemptRequest q u => exact execPreemptRequest_inv h q u
  case placementResume q sp => exact execPlacementResume_inv h q sp
  case clusterGate cl => exact execClusterGate_inv h cl
  case clusterWake => exact invNext_keeps h (ite_keeps (Keeps.refl s) (wakeCluster_keeps _ s))
  case clusterWakeDone cl => exact execClusterWakeDone_inv h cl
  case dieGate => exact invNext_keeps h (ite_keeps (Keeps.refl s) (setDie_keeps _ _ s))
  case dieWake => exact invNext_keeps h (wakeDie_keeps _ s)
  case dieWakeDone d => exact execDieWakeDone_inv h d
  case tokenArrive b => exact invNext_next (tokenStep_inv h b)
  case frameLastBeat b o => exact execFrameLastBeat_inv h b o
  case stationEnqueue b o => exact execStationEnqueue_inv h b o
  case frameData | frameRed =>
    exact invNext_next (frameSeen_inv h _ _ _ (fun t u hu => hu.keeps (deliverFrame_keeps _ _ t u)))
  case frameAcq | frameAcqs => exact invNext_next (frameSeen_inv h _ _ _ (fun t u hu => hu.keeps (decideAcq_keeps _ _ _ t u)))
  case frameRel => exact invNext_next (frameSeen_inv h _ _ _ (fun t u hu => hu.keeps (decideRel_keeps _ _ t u)))
  case frameMark => exact invNext_next (frameSeen_inv h _ _ _ (fun t u hu => hu.keeps (markGroup_keeps _ _ t u)))
  case frameMap => exact invNext_next (frameSeen_inv h _ _ _ (fun _ u hu => hu.keeps (setBus_keeps _ _ u)))
  case frameReset => exact invNext_next (frameSeen_inv h _ _ _ (fun _ u hu => hu.keeps (resetObj_keeps _ u)))
  case busgateWrite => exact invNext_onDie h (busgateWrite_inv h _ _) _
  case theatWrite => exact invNext_keeps h (ite_keeps (opticalWrite_keeps _ _ s) (Keeps.refl s))
  case mapgoGo | mapgoQuiet => exact invNext_keeps h (mapGo_keeps _ _ _ s)
  case mapgoResume b => exact invNext_keeps h (resume_keeps b s)
  case quietTimeout b => exact invNext_keeps h (quietCycle_keeps s b)
  case homePerform r => exact execHomePerform_inv h r
  case pageMapped => exact invNext_next (pageNowMapped_inv h _ _)
  case sideLogReplay c n r => exact invNext_next (replaySide_inv h c n r)
  case htinvWrite => exact invNext_onDie h (h.keeps (ite_keeps (setHtinv_keeps _ _ s) (invalidate_keeps _ _ s))) _
  case htinvAck c => exact execHtinvAck_inv h c
  case pageMigrate c i q => exact execPageMigrate_inv h c i q
  case pageMoveDone c i g => exact execPageMoveDone_inv h c i g
  case hostAccessPerform r => exact execHostAccessPerform_inv h r
  case launchRecordTake k => exact execLaunchRecordTake_inv h k
  case launchCancel k => exact execLaunchCancel_inv h k
  case launchDepsMet k => exact execLaunchDepsMet_inv h k
  case distributorDecide => exact invNext_next (distributorCycle_inv h)
  case launchStart k => exact execLaunchStart_inv h k
  case launchEnd k st => exact execLaunchEnd_inv h k st
  case ctxRecordWrite => exact invNext_onDie h (h.keeps (recordWrite_keeps _ _ _ s)) _
  case supervisorResumeTpc => exact invNext_onDie h (h.keeps (resumeTpc_keeps _ s)) _
  case supervisorResumePc => exact invNext_onDie h (h.keeps (resumePc_keeps _ s)) _
  case supervisorEvict => exact invNext_onDie h (h.keeps (evictCtx_keeps _ s)) _
  case supervisorEndPlan => exact invNext_onDie h (endPlan_inv h _ _) _
  case supervisorEndContext => exact invNext_onDie h (h.keeps (endContext_keeps _ s)) _
  case clkctlWrite => exact invNext_onDie h (h.keeps (freqWrite_keeps _ s)) _
  case mgmtRegisterWrite r v => exact invNext_onDie h (mgmtWrite_inv h r v) _
  case powerWindow w => exact execPowerWindow_inv h w
  case powerFreqStep => exact execPowerFreqStep_inv h
  case thermalTrip d r => exact execThermalTrip_inv h d r
  case energyInterval => exact invNext_keeps h (foldl_keepsAll charge_keeps _ s)
  case ebpinRetrainTimeout => exact execEbpinRetrainTimeout_inv h
  case packageReset d => exact execPackageReset_inv h d
  case attestRequest n => exact execAttestRequest_inv h n
  case debugAccess l o w b => exact execDebugAccess_inv h l o w b
  case debugWake l => exact execDebugWake_inv h l
  case debugWakeDone l => exact execDebugWakeDone_inv h l
  case debugRelease => exact invNext_keeps h (toRetention_keeps _ s)
  case debugIdleTimeout => exact invNext_keeps h (ite_keeps (toRetention_keeps _ s) (Keeps.refl s))
  case linkTrainRequest | linkTrainTimeout => exact invNext_keeps h (ite_keeps (setPort_keeps _ _ s) (Keeps.refl s))
  case linkLock p m => exact execLinkLock_inv h p m
  case linkCheckFail p => exact execLinkCheckFail_inv h p
  case packageUnreachable p => exact execPackageUnreachable_inv h p
  case fabricFlitArrive => exact invNext_keeps h (ite_keeps (flitIn_keeps _ _ s) (Keeps.refl s))
  case fabricRequestArrive q => exact execFabricRequestArrive_inv h q
  case remoteReply n r p => exact execRemoteReply_inv h n r p
  case fabricSyncMessage m => exact execFabricSyncMessage_inv h m
  case evictedBankRefresh => exact execEvictedBankRefresh_inv h
  case ebpinRetrainingDone => exact execEbpinRetrainingDone_inv h
  case packagePowerLoss => exact execPackagePowerLoss_inv h
  case launchWindowRegister | domainFormed => exact invNext_keeps h (ite_keeps ⟨rfl, rfl, rfl⟩ (Keeps.refl s))
  case bankPhaseEnd | queueEntryDeliver | columnReenable | receiverLock | clkctlRead | linkRead | ingrejaRead | ebpinRetrainingStart |
      grantTokenMint => exact invNext_keeps h ⟨rfl, rfl, rfl⟩
  all_goals exact absurd rfl hi

end Sys2Proof.Machine
end

section
/-! SUPPORT. The invariant through the issue of bundles, the cycle and the step. -/
namespace Sys2Proof.Machine

-- One declaration after another: proofs that wait for the kernel side by side would each hold a thread's stack.
set_option Elab.async false

/-! The issue of bundles (R72, R118, R139) -/

theorem takeBanks_keeps (q : Nat) (s : State) : Keeps s (takeBanks q s) :=
  foldl_keepsAll (fun u d => by
    dsimp only; split
    · exact ite_keeps ⟨rfl, rfl, rfl⟩ (Keeps.refl u)
    · exact Keeps.refl u) _ s
theorem atResume_keeps (c : CtxId) (s : State) : Keeps s (atResume c s) := by
  unfold atResume; extract_lets u x r
  have hu : Keeps s u := takeBanks_keeps _ s
  exact ite_keeps hu (hu.trans (setCtx_keeps _ _ _))
theorem resumeEngine_keeps (c : CtxId) (s : State) : Keeps s (resumeEngine c s) :=
  ite_keeps (Keeps.after (routineCycle_keeps _) ⟨rfl, rfl, rfl⟩) (Keeps.refl s)
theorem enterBundle_keeps (s : State) (c : CtxId) (n : Nat) : Keeps s (enterBundle s c n) := by
  unfold enterBundle; extract_lets u x y a
  have hu : Keeps s u := (atResume_keeps c s).trans (resumeEngine_keeps c _)
  clear_value u
  exact hu.trans ⟨rfl, rfl, rfl⟩
theorem execSlot_inv {s : State} (h : s.Inv) (k : Nat) (i : Instr) : (execSlot s k i).Inv := by
  have hexec := exec_inv (s := { s with cur := { s.cur with slot := BitVec.ofNat 4 k, trap := none, wait := false, stall := false } })
    h.same i
  unfold execSlot; split
  · next e => exact hexec _ e
  · exact h
  · exact h

/-- The states of a fold meet the invariant: the one that the words run in, and the one that replaces the bundle. -/
structure Fold.Inv (f : Fold) : Prop where
  st : f.st.Inv
  final : ∀ t, f.final = some t → t.Inv

theorem foldWord_inv {f : Fold} (h : f.Inv) (k : Nat) (i : Instr) : (foldWord f k i).Inv := by
  have ht : (execSlot f.st k i).Inv := execSlot_inv h.st k i
  unfold foldWord; extract_lets t
  change t.Inv at ht
  clear_value t
  split
  · exact ⟨h.st, h.final⟩
  split
  · exact ⟨h.st, h.final⟩
  split
  · exact ⟨ht, h.final⟩
  split
  · exact ⟨h.st, fun u e => by cases e; exact ht⟩
  split
  · exact ⟨ht, h.final⟩
  · exact ⟨h.st.same, h.final⟩
theorem foldBundle_inv {s : State} (h : s.Inv) (is : List Instr) : (foldBundle s is).Inv :=
  List.foldlRecOn (motive := Fold.Inv) (ordered is) (fun f p => foldWord f p.1 p.2) ⟨h, fun _ e => by cases e⟩
    (fun _ hf p _ => foldWord_inv hf p.1 p.2)
theorem unreplay_keeps (x : Ctx) (c : CtxId) (s : State) : Keeps s (unreplay x c s) := ite_keeps (setCtx_keeps _ _ _) (Keeps.refl s)
theorem prefetch_keeps (c : CtxId) (g : Seg) (s : State) : Keeps s (prefetch c g s) := by
  unfold prefetch; dsimp only; (repeat' split) <;> exact ⟨rfl, rfl, rfl⟩
theorem signRel_keeps (c : CtxId) (old : Nat) (s : State) : Keeps s (signRel c old s) := ite_keeps (Keeps.refl s) (setCtx_keeps _ _ _)
theorem finishBundle_inv {t : State} (h : t.Inv) (c : CtxId) (g : Seg) (old : Nat) (soft : Bool) : (finishBundle c g old soft t).Inv := by
  unfold finishBundle; extract_lets hold t1 x src y past t2
  have h1 : t1.Inv := State.Inv.keeps h.same (signRel_keeps _ _ _)
  have h2 : t2.Inv := h1.keeps (setCtx_keeps _ _ _)
  exact ite_inv h2 (h2.keeps (prefetch_keeps _ _ _))

/-- What comes of a bundle leaves a state that meets the invariant. -/
def Try.Inv : Try → Prop
  | .idle => True
  | .taken t _ => t.Inv
  | .blocked t => t.Inv

theorem refuseBundle_inv {s : State} (h : s.Inv) (c : CtxId) (used ps : List Nat) (sec : Bool) (code : BitVec 8) (v : Dbl) :
    (refuseBundle s c used ps sec code v).Inv := by
  unfold refuseBundle; split
  · trivial
  · split
    · exact trapTag_inv h _ _ _ _
    · exact deliver_inv h _ _ _ _ _ _
theorem tryBundle_inv {s : State} (h : s.Inv) (c : CtxId) (used : List Nat) (sec : Bool) : (tryBundle s c used sec).Inv := by
  unfold tryBundle; dsimp only; split
  · trivial
  split
  · trivial
  split
  · exact refuseBundle_inv h _ _ _ _ _ _
  next is _ =>
  split
  · exact refuseBundle_inv h _ _ _ _ _ _
  generalize hb : enterBundle s c _ = base
  have hbase : base.Inv := hb ▸ h.keeps (enterBundle_keeps _ _ _)
  have hfold := foldBundle_inv hbase is
  split
  · trivial
  split
  · exact h.keeps (setCtx_keeps _ _ _)
  split
  · trivial
  split
  · exact trapTag_inv h _ _ _ _
  split
  · exact (deliver_inv hbase _ _ _ _ _ _).keeps (unreplay_keeps _ _ _)
  split
  · next e => exact (hfold.final _ e).same
  · exact finishBundle_inv hfold.st _ _ _ _
theorem secondaryIssue_inv (used : List Nat) (l : List (BitVec 2)) {s : State} (h : s.Inv) : (secondaryIssue used l s).Inv := by
  induction l generalizing s with
  | nil => exact h
  | cons k t ih =>
    rw [secondaryIssue]; split
    · exact ih h
    split
    · exact ih h
    next c _ _ =>
    have htry := tryBundle_inv h c used true
    revert htry
    generalize tryBundle s c used true = r
    intro htry
    cases r with
    | idle => exact ih h
    | blocked u => exact ih htry
    | taken u ps => exact State.Inv.same htry
theorem issueCycle_inv {s : State} (h : s.Inv) : (issueCycle s).Inv := by
  unfold issueCycle; extract_lets s0
  have h0 : s0.Inv := foldl_inv (fun _ c hu => stopCode_inv hu c) _ (foldl_inv (fun _ c hu => stopAsync_inv hu c) _ h)
  clear_value s0
  split
  · exact secondaryIssue_inv _ _ h0
  · next c _ =>
    have htry := tryBundle_inv h0 c [] false
    revert htry
    generalize tryBundle s0 c [] false = r
    intro htry
    cases r with
    | idle => exact secondaryIssue_inv _ _ h0
    | blocked u => exact secondaryIssue_inv _ _ htry
    | taken u ps => exact secondaryIssue_inv _ _ htry

/-! Cycles and steps -/

theorem prologue_inv {s : State} (h : s.Inv) : (prologue s).Inv := by
  have hall : ∀ {f : State → CtxId → State} {u : State}, (∀ v c, Keeps v (f v c)) → u.Inv → (eachCtx f u).Inv :=
    fun hf hu => hu.keeps (eachCtx_keeps hf _)
  have hbus : ∀ {f : State → BitVec 2 → State} {u : State}, (∀ v b, Keeps v (f v b)) → u.Inv → ([0, 1, 2, 3].foldl f u).Inv :=
    fun hf hu => hu.keeps (foldl_keepsAll hf _ _)
  unfold prologue; extract_lets s1 s2 s3 s4 s5 s6 s7 s8 s9
  have h1 : s1.Inv := hbus mapCycle_keeps (hbus busCycle_keeps (hall seeTags_keeps (h.keeps (takeFreq_keeps s))))
  have h2 : s2.Inv := hall postRecvs_keeps h1
  have h3 : s3.Inv := landings_inv (rxCycle_inv (selfPeers_inv (eachCtx_inv (fun _ c hu => poisonCycle_inv hu c)
    (hall queueCycle_keeps (hall recordHeld_keeps h2)))))
  have h4 : s4.Inv := (h3.keeps (opticalCycle_keeps _)).keeps (linkCycle_keeps _)
  have h5 : s5.Inv := (checkEmergency_inv h4).keeps (emergencyCycle_keeps _)
  have h6 : s6.Inv := hall restoreCycle_keeps (hbus quietCycle_keeps h5)
  have h7 : s7.Inv := hall wake_keeps ((h6.keeps (endExpansions_keeps _)).keeps (expandCycle_keeps _))
  have h8 : s8.Inv := preemptCycle_inv (((h7.keeps (finishUnload_keeps _)).keeps (finishLoad_keeps _)).keeps (pendingUnload_keeps _))
  have h9 : s9.Inv := (((hall markReady_keeps h8).keeps (selectSlot_keeps _)).keeps (streamCycle_keeps _)).keeps (boundaryCycle_keeps _)
  exact (h9.keeps (routineCycle_keeps _)).keeps (postEnded_keeps _)
theorem coreCycle_inv {s : State} (h : s.Inv) : (coreCycle s).Inv :=
  (distributorCycle_inv (issueCycle_inv (prologue_inv h))).keeps (epilogue_keeps _)
theorem stepNext_inv {s : State} (h : s.Inv) : InvNext (stepNext s) := by
  unfold stepNext; split
  · exact exec_inv h.same _
  · exact invNext_next (ite_inv (h.keeps (fllLock_keeps s)) (coreCycle_inv h))

/-- Settles O55: the distributor's decision, and then the event, LOCK or the core cycle that is next, keep the invariant. -/
theorem stepKeepsInvariant : Obligations.StepKeepsInvariant := by
  intro s t h ht
  unfold step at ht
  split at ht
  · cases ht
  · exact stepNext_inv (distributorCycle_inv h) t ht

end Sys2Proof.Machine
end

section
/-! SUPPORT. O38: a global word whose checks pass puts its access in place; its first failing check traps. -/
namespace Sys2Proof.Machine

-- One declaration after another, as in the parts above.
set_option Elab.async false

/-! The checks of a global word (R351) -/

theorem globalChecks_read {s : State} {v align : Nat} (hv : v % align = 0) (ht : (translate s (cx s) v).isSome = true) :
    globalChecks s v align false false = [] := by
  obtain ⟨x, hx⟩ := Option.isSome_iff_exists.mp ht
  simp [globalChecks, firstOf, alignIf, rangeIf, permIf, failIf, hv, hx]

theorem globalChecks_write {s : State} {v align ia r : Nat} (hv : v % align = 0) (ht : translate s (cx s) v = some (ia, r))
    (hw : rangeWr (cx s) r = true) (hr : (cx s).rel.length < 64) : globalChecks s v align true true = [] := by
  have room : relRoom s = [] := by simp [relRoom, failIf]; omega
  simp [globalChecks, firstOf, alignIf, rangeIf, permIf, failIf, hv, ht, hw, room]

theorem globalChecks_misaligned {s : State} {v align : Nat} (write room : Bool) (hv : v % align ≠ 0) :
    globalChecks s v align write room = [⟨5, 0x12, BitVec.ofNat 64 v⟩] := by
  simp [globalChecks, firstOf, alignIf, failIf, hv]

theorem globalChecks_untranslated {s : State} {v align : Nat} (write room : Bool) (hv : v % align = 0)
    (ht : translate s (cx s) v = none) : globalChecks s v align write room = [⟨5, 0x13, BitVec.ofNat 64 v⟩] := by
  simp [globalChecks, firstOf, alignIf, rangeIf, failIf, hv, ht]

theorem globalChecks_noWrite {s : State} {v align ia r : Nat} (room : Bool) (hv : v % align = 0)
    (ht : translate s (cx s) v = some (ia, r)) (hw : rangeWr (cx s) r = false) :
    globalChecks s v align true room = [⟨5, 0x17, BitVec.ofNat 64 (2 ^ 63 + v)⟩] := by
  simp [globalChecks, firstOf, alignIf, rangeIf, permIf, failIf, hv, ht, hw]

/-! The access in place (R361, R365) -/

/-- A word's debt to qgl when its access leaves or is buffered: an entry for its returning form only. -/
def owedForm (s : State) (ret : Bool) : List Owed :=
  (cx s).owed ++ (if ret then [{ q := 0, id := s.nextId, val := none, cyc := 0 }] else [])

theorem globalWord_leaves {s : State} {a : BitVec 6} {align ia r : Nat} (op : GlobalOp) (t : Bool) (fn : BitVec 6)
    (ht : translate s (cx s) (rs s a).toNat = some (ia, r)) (hv : (rs s a).toNat % align = 0) :
    ∃ u x, globalWord s a op align false false true t fn = .next u ∧ (cx u).out = (cx s).out ++ [x] ∧
      x.op = .global op ia r true t fn ∧ x.id = s.nextId ∧ (cx u).owed = owedForm s true ∧ u.mem = s.mem ∧
      (cx u).bank = (cx s).bank := by
  have word : globalWord s a op align false false true t fn =
      .next (leaveNow (.global op ia r true t fn) (some 0) (s.sent [])) := by
    simp only [globalWord]
    rw [globalChecks_read hv (by rw [ht]; rfl), issue_next _ _ _ (.inl rfl)]
    have ht' : translate (s.sent []) (cx (s.sent [])) (rs s a).toNat = some (ia, r) := ht
    simp only [ht', if_true]
    rfl
  refine ⟨_, { id := s.nextId, op := .global op ia r true t fn, tick := takenAt (s.sent []) }, word, ?_⟩
  rw [cx_leaveNow, leaveNow_mem]
  exact ⟨rfl, rfl, rfl, rfl, rfl, rfl⟩

theorem globalWord_enters {s : State} {a : BitVec 6} {align ia r : Nat} (op : GlobalOp) (ret t : Bool) (fn : BitVec 6)
    (ht : translate s (cx s) (rs s a).toNat = some (ia, r)) (hw : rangeWr (cx s) r = true) (hr : (cx s).rel.length < 64)
    (hv : (rs s a).toNat % align = 0) :
    ∃ u x, globalWord s a op align true true ret t fn = .next u ∧ (cx u).rel = (cx s).rel ++ [x] ∧
      x.op = .global op ia r ret t fn ∧ x.id = s.nextId ∧ (cx u).owed = owedForm s ret ∧ u.mem = s.mem ∧
      (cx u).bank = (cx s).bank := by
  have word : globalWord s a op align true true ret t fn =
      .next (enterRel (.global op ia r ret t fn) (if ret then some 0 else none) (s.sent [])) := by
    simp only [globalWord]
    rw [globalChecks_write hv ht hw hr, issue_next _ _ _ (.inl rfl)]
    have ht' : translate (s.sent []) (cx (s.sent [])) (rs s a).toNat = some (ia, r) := ht
    simp only [ht', if_true]
  refine ⟨_, { id := s.nextId, op := .global op ia r ret t fn }, word, ?_⟩
  rw [cx_enterRel, enterRel_mem]
  cases ret
  · exact ⟨rfl, rfl, rfl, (List.append_nil _).symm, rfl, rfl⟩
  · exact ⟨rfl, rfl, rfl, rfl, rfl, rfl⟩

theorem globalWords : Claim.GlobalWords := by
  intro s a b k q t w ia r ht
  refine ⟨globalWord_leaves _ _ _ ht, globalWord_leaves _ _ _ ht, fun hw hr => ⟨fun hv => ⟨?store, ?integer, ?compare⟩, fun hv => ?float, ?add⟩⟩
  case store => exact globalWord_enters _ false _ _ ht hw hr hv
  case compare => exact globalWord_enters _ true _ _ ht hw hr hv
  case add => exact globalWord_enters _ false _ _ ht hw hr
  case integer =>
    intro fn i hi
    simp only [List.mem_cons, Prod.mk.injEq, List.not_mem_nil, or_false] at hi
    rcases hi with ⟨rfl, rfl⟩ | ⟨rfl, rfl⟩ | ⟨rfl, rfl⟩ | ⟨rfl, rfl⟩ | ⟨rfl, rfl⟩ | ⟨rfl, rfl⟩ | ⟨rfl, rfl⟩ <;>
      exact globalWord_enters _ q _ _ ht hw hr hv
  case float =>
    intro fn i hi
    simp only [List.mem_cons, Prod.mk.injEq, List.not_mem_nil, or_false] at hi
    rcases hi with ⟨rfl, rfl⟩ | ⟨rfl, rfl⟩ | ⟨rfl, rfl⟩ | ⟨rfl, rfl⟩ <;>
      exact globalWord_enters _ q _ _ ht hw hr hv

/-! The traps (R351) -/

/-- A global word whose one failing check is of class 5 traps with it. -/
theorem traps_globalWord {i : Instr} {s : State} {a : BitVec 6} {op : GlobalOp} {align : Nat} {w m ret t : Bool} {fn : BitVec 6}
    {code : BitVec 8} {v : Dbl} (e : exec i s = globalWord s a op align w m ret t fn)
    (h : globalChecks s (rs s a).toNat align w m = [⟨5, code, v⟩]) : Traps i s 5 code v :=
  traps_class5 e h (by simp) (.inl rfl)

theorem globalWordTraps : Claim.GlobalWordTraps := by
  intro s a b w
  have value : BitVec.ofNat 64 (rs s a).toNat = rs s a := by simp
  refine ⟨fun hv => ?align, fun hv ht => ?range, fun ia r hv ht hw => ⟨_, traps_globalWord rfl (globalChecks_noWrite true hv ht hw)⟩⟩
  case align =>
    rw [← value]
    exact ⟨traps_globalWord rfl (globalChecks_misaligned _ _ (by simpa using hv)), traps_globalWord rfl (globalChecks_misaligned _ _ (by simpa using hv))⟩
  case range =>
    have read := globalChecks_untranslated false false hv ht
    have write := globalChecks_untranslated true true hv ht
    rw [value] at read write
    exact ⟨traps_globalWord rfl read, traps_globalWord rfl write⟩

/-- Settles O38: each global word is one use of `globalWord`, whose access leaves or enters the release buffer when the
checks of R351 pass, and whose first failing check traps. -/
theorem globalWordsAndTraps : Obligations.GlobalWordsAndTraps := ⟨globalWords, globalWordTraps⟩

end Sys2Proof.Machine
end

section
/-! SUPPORT. O42: the clock of a cluster, its service budget and its egress. -/
namespace Sys2Proof.Machine

-- One declaration after another, as in the parts above.
set_option Elab.async false

/-! A step over all contexts that does something at one of them only -/

theorem mem_allCtx (c : CtxId) : c ∈ allCtx := by revert c; decide
theorem allCtx_nodup : allCtx.Nodup := by decide

theorem foldl_fixed_mem {α β : Type} {f : α → β → α} {a : α} {l : List β} (h : ∀ b, b ∈ l → f a b = a) : l.foldl f a = a :=
  List.foldlRecOn (motive := fun x => x = a) l f rfl (fun _ hx b hb => by rw [hx, h b hb])

/-- A step over all contexts is its step at one of them, when it leaves the state as it is at the others. -/
theorem eachCtx_only {f : State → CtxId → State} {s : State} (c : CtxId) (before : ∀ d, d ≠ c → f s d = s)
    (after : ∀ d, d ≠ c → f (f s c) d = f s c) : eachCtx f s = f s c := by
  obtain ⟨l, r, split⟩ := List.append_of_mem (mem_allCtx c)
  have nodup := allCtx_nodup
  rw [split] at nodup
  obtain ⟨-, right, apart⟩ := List.nodup_append.mp nodup
  have left : l.foldl f s = s := foldl_fixed_mem (fun d hd => before d (apart d hd c List.mem_cons_self))
  have rest : r.foldl f (f s c) = f s c :=
    foldl_fixed_mem (fun d hd => after d (fun e => (List.nodup_cons.mp right).1 (e ▸ hd)))
  rw [eachCtx, split, List.foldl_append, left, List.foldl_cons, rest]

/-! The egress (R299) -/

/-- The step of the egress: the access at its head leaves if it may. -/
def egressStep (s : State) (c : CtxId) : State :=
  (getCtx s c).out.foldl (fun s a => if s.cluster.egress.head? = some (a.id, a.sub) then leaveOne c s a else s) s

theorem egressStep_none {s : State} {c : CtxId} (h : (getCtx s c).out = []) : egressStep s c = s := by rw [egressStep, h]; rfl

theorem egressStep_one {s : State} {c : CtxId} {a : Access} (h : (getCtx s c).out = [a])
    (he : s.cluster.egress = [(a.id, a.sub)]) : egressStep s c = leaveOne c s a := by
  rw [egressStep, h]
  exact if_pos (by rw [he]; rfl)

/-- A lone load of a context that no fence and no earlier page holds may leave. -/
theorem mayLeave_alone {s : State} {c : CtxId} {a : Access} (hout : (getCtx s c).out = [a]) (hf : fenceHolds s c a = false)
    (hside : (getCtx s c).side = []) (hacks : (getCtx s c).acks = []) : mayLeave s c a = true := by
  have own : a.is a = true := by simp [Access.is]
  simp [mayLeave, hf, hout, hside, hacks, own]

/-- The access as it leaves the core (R299, R304, R443). -/
def asItLeaves (s : State) (x : Ctx) (a : Access) (b : Access) : Access :=
  { b with op := sourced s a, tick := takenAt s, token := tokenOf s x a, hops := hopsOf s a }

/-- At the head of the egress, a global load leaves when the budget allows its flit, and else waits (R298, R299). -/
theorem leaveOne_head {s : State} {c : CtxId} {a : Access} {op : GlobalOp} {ia rg : Nat} {ret t : Bool} {fn : BitVec 6}
    (hleft : a.left = none) (hop : a.op = .global op ia rg ret t fn) (he : s.cluster.egress = [(a.id, a.sub)])
    (hm : mayLeave s c a = true) :
    leaveOne c s a = if mayMeter s 1 then
      goOut c a (asItLeaves s (getCtx s c) a) (meter 1 (fromEgress (a.id, a.sub) s)) else s := by
  have flits : a.op.flits = 1 := by rw [hop]; rfl
  have source : sourceFree s a = true := by rw [sourceFree, hop]
  have first : behind s (a.id, a.sub) = false := by simp [behind, he]
  have stays : toEgress (a.id, a.sub) s = s := if_pos (by simp [he])
  have take : ∀ u, takeSource a u = u := fun u => by rw [takeSource, hop]
  unfold leaveOne
  simp only [hleft, Option.isSome_none, Bool.false_eq_true, if_false, flits, hm, source, first, stays, Bool.not_true, Bool.or_self,
    Bool.false_or]
  rw [hop]
  simp only [take]
  cases mayMeter s 1 <;> rfl

/-- The egress with one access, at its head. -/
theorem egress_alone {s : State} {c : CtxId} {a : Access} {ia rg : Nat} {fn : BitVec 6}
    (hother : ∀ d, d ≠ c → (getCtx s d).out = []) (hout : (getCtx s c).out = [a]) (he : s.cluster.egress = [(a.id, a.sub)])
    (hleft : a.left = none) (hop : a.op = .global (.load false) ia rg true false fn) (hf : fenceHolds s c a = false)
    (hside : (getCtx s c).side = []) (hacks : (getCtx s c).acks = []) :
    eachCtx egressStep s = if mayMeter s 1 then
      goOut c a (asItLeaves s (getCtx s c) a) (meter 1 (fromEgress (a.id, a.sub) s)) else s := by
  have step := (egressStep_one hout he).trans (leaveOne_head hleft hop he (mayLeave_alone hout hf hside hacks))
  rw [eachCtx_only c (fun d hd => egressStep_none (hother d hd)) ?after, step]
  case after =>
    intro d hd
    refine egressStep_none ?_
    rw [step]
    split
    · exact (congrArg Ctx.out (getCtx_setCtx_ne _ hd _)).trans (hother d hd)
    · exact hother d hd

/-- The flits of the cluster's other cores counted (R299). -/
def meterOthers (others : BitVec 24) (s : State) : State :=
  { s with cluster := { s.cluster with used := BitVec.ofNat 24 (min 0xFFFFFF (s.cluster.used.toNat + others.toNat)) } }

theorem execServiceEgress_eq (others : BitVec 24) (s : State) :
    exec (.serviceEgress others) s = .next (eachCtx egressStep (meterOthers others s)) := rfl

/-- The only access of a context, as it leaves (R361). -/
theorem getCtx_goOut_alone {s : State} {c : CtxId} {a : Access} (f : Access → Access) (h : (getCtx s c).out = [a]) :
    (getCtx (goOut c a f s) c).out = [{ f a with left := some s.cycle, ord := s.nextId }] := by
  have own : a.is a = true := by simp [Access.is]
  change (getCtx (putOut c a _ s) c).out = _
  rw [putOut, getCtx_setCtx_self]
  simp [h, own]

/-- What an access takes from the egress and the service budget as it leaves (R298, R299). -/
theorem goOut_metered (c : CtxId) (a : Access) (f : Access → Access) (s : State) :
    (goOut c a f (meter 1 (fromEgress (a.id, a.sub) s))).cluster.egress = s.cluster.egress.filter (fun i => i != (a.id, a.sub)) ∧
    (goOut c a f (meter 1 (fromEgress (a.id, a.sub) s))).cluster.used = s.cluster.used + 1 ∧
    (goOut c a f (meter 1 (fromEgress (a.id, a.sub) s))).mem = s.mem := ⟨rfl, rfl, rfl⟩

theorem tokenOf_global {s : State} {x : Ctx} {a : Access} {op : GlobalOp} {ia rg : Nat} {ret t : Bool} {fn : BitVec 6}
    (h : a.op = .global op ia rg ret t fn) :
    tokenOf s x a = if iaPkg ia = myPkg s then 0 else SMap.get 0 x.rgc rg := by
  simp [tokenOf, rangeAddr, h]

/-! The clock (R294, R295) -/

theorem deadlines_cycle (n : Nat) (s : State) : (deadlines n s).cycle = s.cycle := by
  unfold deadlines; split <;> rfl
theorem deadlines_ctxs (n : Nat) (s : State) : (deadlines n s).ctxs = s.ctxs := by
  unfold deadlines; split <;> rfl

/-- What a change of the time leaves of the cycle and the contexts: only deadlines, ages and the service budget move. -/
theorem passTicks_cycle_ctxs (n : Nat) (s : State) : (passTicks n s).cycle = s.cycle ∧ (passTicks n s).ctxs = s.ctxs := by
  let s1 := if n / Config.ns = tickNow s then s else seeChanges (deadlines (n / Config.ns - tickNow s) s)
  have h : s1.cycle = s.cycle ∧ s1.ctxs = s.ctxs := by
    unfold s1
    split
    · exact ⟨rfl, rfl⟩
    · exact ⟨deadlines_cycle _ s, deadlines_ctxs _ s⟩
  exact h

theorem fllLock_unlocked {s : State} {n : Nat} (hl : s.cluster.lock = false) (hn : s.cluster.lockAt = some n) :
    (fllLock s).cluster.lock = true ∧ (fllLock s).cluster.lockAt = none ∧ (fllLock s).time = max s.time n ∧
    (fllLock s).cycle = s.cycle ∧ (fllLock s).ctxs = s.ctxs ∧ (fllLock s).mem = s.mem := by
  unfold fllLock
  rw [if_neg (by simp [hl]), hn]
  exact ⟨rfl, rfl, rfl, (passTicks_cycle_ctxs _ s).1, (passTicks_cycle_ctxs _ s).2, (passTicks_keeps _ s).1⟩

theorem execDroopStretch_few {s : State} (hs : s.cluster.stretchNext = false)
    (few : (s.cluster.droops.filter (fun c => decide (s.cycle < c + 1023))).length < 16) :
    exec .droopStretch s = .next { s with cluster := { s.cluster with stretchNext := true, droops := (s.cycle + 1) :: s.cluster.droops.filter (fun c => decide (s.cycle < c + 1023)) } } :=
  congrArg _ (if_neg (by simp only [hs, Bool.false_or, decide_eq_true_eq]; omega))

theorem execDroopStretch_many {s : State}
    (many : 16 ≤ (s.cluster.droops.filter (fun c => decide (s.cycle < c + 1023))).length) :
    exec .droopStretch s = .next s :=
  congrArg _ (if_pos (by simp only [many, decide_true, Bool.or_true]))

/-- Settles O42, by cases on the budget of droops, the lock, the tick and the service budget; the egress acts at the one
context that has an access. -/
theorem clockAndMeterEvents : Obligations.ClockAndMeterEvents := by
  refine ⟨fun s hs => ⟨fun few => ?droop, execDroopStretch_many⟩,
    fun s n => ⟨fun hl hn => ⟨_, rfl, fllLock_unlocked hl hn⟩, fun hl => congrArg _ (if_pos hl)⟩,
    fun s => ⟨fun h => congrArg _ (if_pos h), fun h => congrArg _ (if_neg h)⟩, ?egress⟩
  case droop => exact ⟨_, execDroopStretch_few hs few, rfl, List.mem_cons_self, rfl, rfl⟩
  case egress =>
    intro s c a ia rg fn others hother hout he hleft hop hf hside hacks
    have run := execServiceEgress_eq others s
    rw [egress_alone (s := meterOthers others s) hother hout he hleft hop hf hside hacks] at run
    refine ⟨fun hm => ?leaves, fun hm => run.trans (congrArg _ (if_neg (ne_true_of_eq_false hm)))⟩
    have none : s.cluster.egress.filter (fun i => i != (a.id, a.sub)) = [] := by simp [he]
    obtain ⟨egress, used, mem⟩ := goOut_metered c a (asItLeaves (meterOthers others s) (getCtx s c) a) (meterOthers others s)
    have out := getCtx_goOut_alone (c := c) (s := meter 1 (fromEgress (a.id, a.sub) (meterOthers others s)))
      (asItLeaves (meterOthers others s) (getCtx s c) a) hout
    exact ⟨_, _, run.trans (congrArg _ (if_pos hm)), egress.trans none, out, rfl, tokenOf_global hop, used, mem⟩

end Sys2Proof.Machine
end

section
/-! SUPPORT. O46: the registers of a station: lock, BUSGATE, heaters, MAPGO and the quiet period. -/
namespace Sys2Proof.Machine

-- One declaration after another, as in the parts above.
set_option Elab.async false

/-! Receiver lock (R327) -/

/-- One bit of the receivers' lock. -/
theorem lockBit_set (l : BitVec 80) {n : Nat} (hn : n < 80) (up : Bool) (j : Nat) :
    (if up then l ||| 1#80 <<< n else l &&& ~~~(1#80 <<< n)).getLsbD j = if j = n then up else l.getLsbD j := by
  have bit : (1#80 <<< n).getLsbD j = (decide (n < 80) && decide (n = j)) := BitVec.getLsbD_twoPow n j
  cases up
  · rw [if_neg Bool.false_ne_true, BitVec.getLsbD_and, BitVec.getLsbD_not, bit]
    by_cases h : j = n
    · simp [h, hn]
    · have apart : n ≠ j := fun e => h e.symm
      simp only [h, apart, decide_false, Bool.and_false, Bool.not_false, Bool.and_true, if_false]
      by_cases hj : j < 80
      · simp [hj]
      · simp [hj, BitVec.getLsbD_of_ge l j (by omega)]
  · rw [if_pos rfl, BitVec.getLsbD_or, bit]
    by_cases h : j = n
    · simp [h, hn]
    · have apart : n ≠ j := fun e => h e.symm
      simp [h, apart]

theorem receiverLocks (s : State) (b : BitVec 2) (n : BitVec 7) (up : Bool) (hn : n.toNat < 80) :
    ∃ t, exec (.receiverLock b n up) s = .next t ∧
    (∀ j, (getBus t b).lock.getLsbD j = if j = n.toNat then up else (getBus s b).lock.getLsbD j) ∧ t.mem = s.mem ∧ t.ctxs = s.ctxs ∧
    (n.toNat = s.myCluster → (getBus t b).leave = !up) ∧ (n.toNat ≠ s.myCluster → (getBus t b).leave = (getBus s b).leave) := by
  refine ⟨_, rfl, ?_⟩
  rw [getBus_setBus_self, if_pos hn]
  exact ⟨lockBit_set _ hn up, rfl, rfl, fun h => if_pos h, fun h => if_neg h⟩

/-! BUSGATE (R406, R434) -/

/-- An entry of a new tick stands where NEXT points (R434). -/
theorem bbPut_newTick {r : List (Nat × BBEntry)} {e : BBEntry} (h : r.all (fun p => p.2.tick != e.tick) = true) :
    ∀ n i, bbPut n r i e = SMap.put r i e
  | 0, _ => rfl
  | n + 1, i => by
    rw [bbPut]
    split
    next k p hp =>
      have new := List.all_eq_true.mp h _ (List.mem_of_find?_eq_some hp)
      rw [if_neg (by simpa using fun e => absurd e (by simpa using new))]
    next => rfl

theorem blackBox_newest {s : State} {kind : BitVec 8} {src : BitVec 11} (z : BBEntry) (seq : Nat) (v w : Dbl) (hd : src.toNat / 160 = s.myDie)
    (h : s.blackBox.ring.all (fun p => p.2.tick != tickNow s) = true) :
    (SMap.get z (Machine.blackBox s kind src seq v w).blackBox.ring s.blackBox.next).kind = kind := by
  have ring : (Machine.blackBox s kind src seq v w).blackBox.ring = SMap.put s.blackBox.ring s.blackBox.next
      { kind := kind, src := src, seq := BitVec.ofNat 32 seq, d0 := v, d1 := w, tick := tickNow s } := by
    change (if src.toNat / 160 = s.myDie then bbWrite _ s.blackBox else s.blackBox).ring = _
    rw [if_pos hd]
    exact bbPut_newTick h _ _
  rw [ring, SMap.get_put, if_pos rfl]

theorem busgateWrite_own (s : State) (v : Dbl) (hb : s.pkg.boot.getLsbD (s.myCluster / 10) = true) (hk : s.myCluster < 80)
    (hd : s.myCluster / 10 = s.myDie) :
    ∃ t, exec (.busgateWrite v) s = .next t ∧ gateReg t s.myCluster = v.extractLsb' 0 4 ∧
    t.buses = s.buses ∧ t.mem = s.mem ∧ (s.blackBox.ring.all (fun p => p.2.tick != tickNow s) = true →
      (SMap.get { kind := 0, src := 0, seq := 0, d0 := 0, d1 := 0, tick := 0 } t.blackBox.ring s.blackBox.next).kind = 9) := by
  obtain ⟨reg, mem, -⟩ := busgateWrite_reads (s := s) v hk
  have die : (BitVec.ofNat 11 (16 * s.myCluster)).toNat / 160 = s.myDie := by
    rw [BitVec.toNat_ofNat, ← hd]; omega
  have run : exec (.busgateWrite v) s = .next (busgateWrite s.myCluster v s) := congrArg Host.Outcome.next (if_pos hb)
  refine ⟨_, run, reg, ?_, mem, fun new => ?_⟩
  all_goals
    unfold busgateWrite
    rw [if_neg (Nat.not_le.mpr hk)]
  · rfl
  · exact blackBox_newest _ 0 v 0 die new

/-! Heaters (R342) -/

theorem clampHeat_fst (v : Dbl) : (clampHeat v).1 =
    if (v.extractLsb' 0 12).toNat < 128 then 128 else if 3967 < (v.extractLsb' 0 12).toNat then 3967 else v.extractLsb' 0 12 := by
  have code : (v.extractLsb' 0 12).toNat = v.toNat % 2 ^ 12 := by simp [BitVec.extractLsb'_toNat]
  have value : BitVec.ofNat 12 (v.toNat % 2 ^ 12) = v.extractLsb' 0 12 := by rw [← code, BitVec.ofNat_toNat, BitVec.setWidth_eq]
  simp only [clampHeat, code, value]
  split
  · rfl
  · split <;> rfl

theorem theatWrites (s : State) (b : BitVec 2) (m : BitVec 4) (v : Dbl) : ∃ t,
    exec (.theatWrite (BitVec.ofNat 16 (0x100 * b.toNat + m.toNat)) v) s = .next t ∧ t.mem = s.mem ∧ t.ctxs = s.ctxs ∧
    SMap.get 2048 (getBus t b).theat m.toNat = (clampHeat v).1 := by
  have hb := b.isLt
  have hm := m.isLt
  have index : (BitVec.ofNat 16 (0x100 * b.toNat + m.toNat)).toNat = 0x100 * b.toNat + m.toNat := by
    rw [BitVec.toNat_ofNat]; omega
  have place : (0x100 * b.toNat + m.toNat) % 256 = m.toNat := by omega
  have bus : BitVec.ofNat 2 ((0x100 * b.toNat + m.toNat) / 256) = b := by
    rw [show (0x100 * b.toNat + m.toNat) / 256 = b.toNat by omega]; simp
  have taken : exec (.theatWrite (BitVec.ofNat 16 (0x100 * b.toNat + m.toNat)) v) s =
      .next (opticalWrite (0x100 * b.toNat + m.toNat) v s) := by
    change Host.Outcome.next (if _ then _ else s) = _
    rw [index, place, if_pos]
    simp only [Bool.and_eq_true, Bool.or_eq_true, decide_eq_true_eq]
    exact ⟨by omega, .inl (by omega)⟩
  refine ⟨_, taken, ?_⟩
  unfold opticalWrite
  rw [bus, place]
  simp only
  rw [if_pos (show m.toNat < 0x10 from hm)]
  refine ⟨rfl, rfl, ?_⟩
  rw [getBus_setBus_self]
  exact SMap.get_set_self _ _ _ _

/-! MAPGO (R345, R415) -/

theorem mapGo_accepted {s : State} {b : BitVec 2} (q : Bool) (hp : (getBus s b).mpend = false)
    (hq : isQuiet s (getBus s b) = false) (hm : mapOk (getBus s b).stagedL (getBus s b).stagedH = true) :
    mapGo b q false s = enqueueLate (mapFrame s b) (setBus b { getBus s b with mpend := true, quietNext := q } s) := by
  unfold mapGo
  simp only [hp, hq, hm, Bool.false_eq_true, if_false, Bool.false_and, Bool.not_true, Bool.or_self]

theorem mapGo_invalid {s : State} {b : BitVec 2} (q : Bool) (hp : (getBus s b).mpend = false)
    (hm : mapOk (getBus s b).stagedL (getBus s b).stagedH = false) :
    mapGo b q false s = setBus b { getBus s b with mbad := true } s := by
  unfold mapGo
  simp only [hp, hm, Bool.false_eq_true, if_false, Bool.not_false, Bool.or_true, if_true]

/-- Settles O46, one register after the other. -/
theorem stationRegisters : Obligations.StationRegisters := by
  refine ⟨receiverLocks, busgateWrite_own, fun s b m v => ?heat, ?go, fun s b n hn => ⟨⟨_, rfl, ?_⟩, fun due => ⟨_, rfl, ?_⟩, fun early => ?_⟩⟩
  case heat =>
    obtain ⟨t, ht, mem, ctxs, code⟩ := theatWrites s b m v
    exact ⟨t, ht, mem, ctxs, code.trans (clampHeat_fst v)⟩
  case go =>
    intro s b q e x he hp hq
    have run : exec e s = .next (mapGo b q false s) := by subst he; cases q <;> rfl
    refine ⟨fun hm => ⟨_, run, ?_⟩, fun hm => ⟨_, run, ?_⟩⟩
    · rw [mapGo_accepted q hp hq hm]
      unfold enqueueLate
      rw [show (mapFrame s b).bus = b from rfl, getBus_setBus_self, getBus_setBus_self]
      exact ⟨rfl, rfl, rfl, rfl, rfl, rfl⟩
    · rw [mapGo_invalid q hp hm, getBus_setBus_self]
      exact ⟨rfl, hp, rfl, rfl⟩
  · rw [getBus_resume (by rw [hn]; rfl)]
    exact ⟨rfl, rfl, (resume_keeps b s).1⟩
  · simp only [quietCycle, hn, if_pos due, endQuiet, getBus_setBus_self]
    exact ⟨trivial, rfl⟩
  · change Host.Outcome.next (quietCycle s b) = _
    rw [quietCycle, hn]
    exact congrArg _ (if_neg (Nat.not_le.mpr early))

end Sys2Proof.Machine
end

section
/-! SUPPORT. O50: the power states of clusters and dies, and columns enabled again. -/
namespace Sys2Proof.Machine

-- One declaration after another, as in the parts above.
set_option Elab.async false

/-! Power states (R322, R403) -/

@[simp] theorem clusterSt_setCluster (s : State) (c j : Nat) (p : PowerSt) :
    clusterSt (setCluster c p s) j = if c = j then p else clusterSt s j := SMap.get_set ..
@[simp] theorem clusterSt_gateAtTick (s : State) (c j : Nat) :
    clusterSt (gateAtTick c s) j = if c = j then .gated else clusterSt s j := clusterSt_setCluster s c j .gated
theorem dies_setDie (s : State) (d : Nat) (p : PowerSt) : SMap.get .active (setDie d p s).pkg.dies d = p := SMap.get_set_self _ _ _ _
theorem gateAtTick_ctxs (c : Nat) (s : State) : (gateAtTick c s).ctxs = s.ctxs := rfl
theorem dropLock_ctxs (c : Nat) (s : State) : (dropLock c s).ctxs = s.ctxs := by simp only [dropLock]
theorem clusterSt_dropLock (s : State) (c j : Nat) : clusterSt (dropLock c s) j = clusterSt s j := rfl

/-- Every bus of a station changed, one after the other. -/
theorem SMap.get_buses {α : Type} [DecidableEq α] (d : α) (f : α → α) (m : List (Nat × α)) {b : Nat} (hb : b < 4) :
    SMap.get d ([0, 1, 2, 3].foldl (fun m b => SMap.set d m b (f (SMap.get d m b))) m) b = f (SMap.get d m b) := by
  simp only [List.foldl_cons, List.foldl_nil, SMap.get_set]
  obtain rfl | rfl | rfl | rfl : b = 0 ∨ b = 1 ∨ b = 2 ∨ b = 3 := by omega
  all_goals simp

/-- A bus without the lock of one receiver. -/
def loseLock (c : Nat) (x : Bus) : Bus := { x with lock := x.lock &&& ~~~(1#80 <<< c) }

theorem dropLock_buses (c : Nat) (s : State) : (dropLock c s).buses =
    [0, 1, 2, 3].foldl (fun m b => SMap.set {} m b (loseLock c (SMap.get {} m b))) s.buses := by
  simp only [dropLock, loseLock]

theorem getBus_dropLock (c : Nat) (s : State) (b : BitVec 2) : getBus (dropLock c s) b = loseLock c (getBus s b) := by
  rw [getBus, dropLock_buses]
  exact SMap.get_buses _ _ _ b.isLt

/-- A gated cluster's receivers have lost lock on every bus (R327, log 44). -/
theorem lock_dropLock (s : State) {c : Nat} (hc : c < 80) (b : BitVec 2) : (getBus (dropLock c s) b).lock.getLsbD c = false := by
  have bit : (1#80 <<< c).getLsbD c = (decide (c < 80) && decide (c = c)) := BitVec.getLsbD_twoPow c c
  rw [getBus_dropLock, loseLock, BitVec.getLsbD_and, BitVec.getLsbD_not, bit]
  simp [hc]

theorem execClusterGate_idle {s : State} {cl : BitVec 7} (hc : cl.toNat < 80) (ha : clusterSt s cl.toNat = .active)
    (free : (holding s).any (fun p => onCluster p cl.toNat) = false) (debug : debugOn s cl.toNat = false)
    (idle : idleSince s cl.toNat + 65536 ≤ tickNow s) :
    exec (.clusterGate cl) s = .next (dropLock cl.toNat (gateAtTick cl.toNat s)) := by
  refine congrArg Host.Outcome.next (if_neg ?_)
  simp [ha, free, debug, hc, idle]

theorem execClusterGate_held {s : State} {cl : BitVec 7}
    (h : (holding s).any (fun p => onCluster p cl.toNat) = true ∨ tickNow s < idleSince s cl.toNat + 65536) :
    exec (.clusterGate cl) s = .next s := by
  refine congrArg Host.Outcome.next (if_pos ?_)
  rcases h with h | h <;> simp [h]

theorem wakeCluster_gated {s : State} {c : Nat} (hg : clusterSt s c = .gated) (hd : SMap.get .active s.pkg.dies (c / 10) = .active) :
    clusterSt (wakeCluster c s) c = .waking ∧ (wakeCluster c s).mem = s.mem ∧ (wakeCluster c s).ctxs = s.ctxs ∧
    SMap.get 0 (wakeCluster c s).pkg.wakeAt c = tickNow s := by
  unfold wakeCluster
  rw [if_pos (by simp [hg, hd])]
  have waking : SMap.get PowerSt.active (SMap.set PowerSt.active s.pkg.clusters c .waking) c = .waking := SMap.get_set_self _ _ _ _
  exact ⟨waking, rfl, rfl, (SMap.get_put _ _ _ _ _).trans (if_pos rfl)⟩

/-- A cluster that has woken, of this core or of another (R322). -/
def clusterWoken (c : Nat) (s : State) : State :=
  if c = s.myCluster then { freeScratch c (setCluster c .active s) with tags := [] } else freeScratch c (setCluster c .active s)

theorem freeScratch_pkg (c : Nat) (s : State) : (freeScratch c s).pkg = s.pkg := rfl

theorem clusterWoken_spec (c : Nat) (s : State) : clusterSt (clusterWoken c s) c = .active ∧ (clusterWoken c s).ctxs = s.ctxs ∧
    (clusterWoken c s).free = s.free + 1 ∧ (c = s.myCluster → ∀ n, tagCount (clusterWoken c s) n = 0) := by
  have on : clusterSt (freeScratch c (setCluster c .active s)) c = .active := by
    rw [clusterSt, freeScratch_pkg, ← clusterSt, clusterSt_setCluster, if_pos rfl]
  unfold clusterWoken
  split
  next => exact ⟨on, rfl, rfl, fun _ _ => rfl⟩
  next other => exact ⟨on, rfl, rfl, fun own => absurd own other⟩

theorem execClusterWakeDone_due {s : State} {cl : BitVec 7} (hw : clusterSt s cl.toNat = .waking)
    (due : SMap.get 0 s.pkg.wakeAt cl.toNat + 18000 ≤ tickNow s) :
    exec (.clusterWakeDone cl) s = .next (clusterWoken cl.toNat s) := by
  refine congrArg Host.Outcome.next ((if_neg ?_).trans rfl)
  simp [hw, due]

theorem execClusterWakeDone_early {s : State} {cl : BitVec 7}
    (h : clusterSt s cl.toNat ≠ .waking ∨ tickNow s < SMap.get 0 s.pkg.wakeAt cl.toNat + 18000) :
    exec (.clusterWakeDone cl) s = .next s := congrArg Host.Outcome.next (if_pos (by simpa using h))

theorem execDieGate_gated {s : State} {d : BitVec 3} (hd : dieDown s d.toNat = false)
    (h : ∀ i, i < 10 → clusterSt s (10 * d.toNat + i) = .gated ∧ gatedSince s (10 * d.toNat + i) + 65536 ≤ tickNow s) :
    exec (.dieGate d) s = .next (setDie d.toNat .gated s) := by
  have all : (List.range 10).all (fun i => clusterSt s (10 * d.toNat + i) == .gated &&
      decide (gatedSince s (10 * d.toNat + i) + 65536 ≤ tickNow s)) = true := by
    refine List.all_eq_true.mpr (fun i hi => ?_)
    obtain ⟨gated, since⟩ := h i (List.mem_range.mp hi)
    simp [gated, since]
  refine congrArg Host.Outcome.next (if_neg ?_)
  rw [hd, all]
  decide

theorem execDieGate_awake {s : State} {d : BitVec 3} {i : Nat} (hi : i < 10)
    (h : clusterSt s (10 * d.toNat + i) ≠ .gated ∨ tickNow s < gatedSince s (10 * d.toNat + i) + 65536) :
    exec (.dieGate d) s = .next s := by
  have all : (List.range 10).all (fun i => clusterSt s (10 * d.toNat + i) == .gated &&
      decide (gatedSince s (10 * d.toNat + i) + 65536 ≤ tickNow s)) = false := by
    refine List.all_eq_false.mpr ⟨i, List.mem_range.mpr hi, ?_⟩
    rcases h with h | h <;> simp [h]
  refine congrArg Host.Outcome.next (if_pos ?_)
  rw [all]
  simp

theorem wakeDie_gated {s : State} {d : Nat} (h : SMap.get .active s.pkg.dies d = .gated) :
    SMap.get PowerSt.active (wakeDie d s).pkg.dies d = PowerSt.waking ∧ (wakeDie d s).mem = s.mem ∧ (wakeDie d s).ctxs = s.ctxs ∧
    SMap.get 0 (wakeDie d s).pkg.dieWakeAt d = tickNow s := by
  unfold wakeDie
  rw [if_pos h]
  have waking : SMap.get PowerSt.active (SMap.set PowerSt.active s.pkg.dies d .waking) d = .waking := SMap.get_set_self _ _ _ _
  exact ⟨waking, rfl, rfl, (SMap.get_put _ _ _ _ _).trans (if_pos rfl)⟩

/-- The clusters of a waking die, GATED from the current tick on (R322). -/
def gateDie (n : Nat) (s : State) : State := (List.range 10).foldl (fun s i => gateAtTick (10 * n + i) s) s

/-- What gating clusters leaves as it is. -/
structure SamePower (s t : State) : Prop where
  dies : t.pkg.dies = s.pkg.dies
  launches : t.launches = s.launches
  mem : t.mem = s.mem
  ctxs : t.ctxs = s.ctxs

theorem gateDie_same (n : Nat) (s : State) : SamePower s (gateDie n s) := by
  refine List.foldlRecOn (motive := SamePower s) _ _ ⟨rfl, rfl, rfl, rfl⟩ (fun u hu i _ => ?_)
  exact ⟨hu.dies, hu.launches, hu.mem, hu.ctxs⟩

theorem clusterSt_gateClusters (n : Nat) {l : List Nat} {i : Nat} (s : State) (h : i ∈ l ∨ clusterSt s (10 * n + i) = .gated) :
    clusterSt (l.foldl (fun s i => gateAtTick (10 * n + i) s) s) (10 * n + i) = .gated := by
  induction l generalizing s with
  | nil => exact h.resolve_left List.not_mem_nil
  | cons j l ih =>
    refine ih _ ?_
    rw [clusterSt_gateAtTick]
    rcases h with h | h
    · rcases List.mem_cons.mp h with rfl | h
      · exact .inr (if_pos rfl)
      · exact .inl h
    · refine .inr ?_
      split
      · rfl
      · exact h

theorem clusterSt_gateDie {n i : Nat} (s : State) (hi : i < 10) : clusterSt (gateDie n s) (10 * n + i) = .gated :=
  clusterSt_gateClusters n s (.inl (List.mem_range.mpr hi))

/-- A die that has woken, with no launch that waits for it (R322). -/
def dieWoken (n : Nat) (s : State) : State :=
  if n = s.myDie then idleStations (gateDie n (setDie n .active s)) else gateDie n (setDie n .active s)

theorem dieWoken_spec (n : Nat) (s : State) : SMap.get PowerSt.active (dieWoken n s).pkg.dies n = PowerSt.active ∧
    (∀ i, i < 10 → clusterSt (dieWoken n s) (10 * n + i) = .gated) ∧ (dieWoken n s).launches = s.launches ∧
    (dieWoken n s).mem = s.mem ∧ (dieWoken n s).ctxs = s.ctxs := by
  obtain ⟨dies, launches, mem, ctxs⟩ := gateDie_same n (setDie n .active s)
  have gated := fun i (hi : i < 10) => clusterSt_gateDie (n := n) (setDie n .active s) hi
  unfold dieWoken
  generalize gateDie n (setDie n .active s) = u at *
  have on : SMap.get PowerSt.active u.pkg.dies n = PowerSt.active := by rw [dies, dies_setDie]
  split
  · exact ⟨on, gated, launches, mem, ctxs⟩
  · exact ⟨on, gated, launches, mem, ctxs⟩

theorem execDieWakeDone_due {s : State} {d : BitVec 3} (hw : SMap.get .active s.pkg.dies d.toNat = .waking)
    (due : SMap.get 0 s.pkg.dieWakeAt d.toNat + 120000 ≤ tickNow s) (hl : s.launches = []) :
    exec (.dieWakeDone d) s = .next (dieWoken d.toNat s) := by
  obtain ⟨-, -, launches, -, -⟩ := dieWoken_spec d.toNat s
  have none : (dieWoken d.toNat s).launches.filter (fun p => p.2.st == .placing) = [] := by rw [launches, hl]; rfl
  have wake : exec (.dieWakeDone d) s = .next (((dieWoken d.toNat s).launches.filter (fun p => p.2.st == .placing)).foldl
      (fun s p => wakeFor p.2.clusters s) (dieWoken d.toNat s)) := by
    refine congrArg Host.Outcome.next ((if_neg ?_).trans rfl)
    simp [hw, due]
  rw [wake, none]
  rfl

theorem execDieWakeDone_early {s : State} {d : BitVec 3}
    (h : SMap.get .active s.pkg.dies d.toNat ≠ .waking ∨ tickNow s < SMap.get 0 s.pkg.dieWakeAt d.toNat + 120000) :
    exec (.dieWakeDone d) s = .next s := congrArg Host.Outcome.next (if_pos (by simpa using h))

theorem clustersGate (s : State) (cl : BitVec 7) (hc : cl.toNat < 80) (ha : clusterSt s cl.toNat = .active) :
    ((holding s).any (fun p => onCluster p cl.toNat) = false → debugOn s cl.toNat = false → idleSince s cl.toNat + 65536 ≤ tickNow s →
      ∃ t, exec (.clusterGate cl) s = .next t ∧ clusterSt t cl.toNat = .gated ∧ t.mem = s.mem ∧ t.ctxs = s.ctxs ∧
        ∀ b, (getBus t b).lock.getLsbD cl.toNat = false) ∧
    ((holding s).any (fun p => onCluster p cl.toNat) = true ∨ tickNow s < idleSince s cl.toNat + 65536 →
      exec (.clusterGate cl) s = .next s) := by
  refine ⟨fun free debug idle => ⟨_, execClusterGate_idle hc ha free debug idle, ?_, ?_, ?_, lock_dropLock _ hc⟩, execClusterGate_held⟩
  · rw [clusterSt_dropLock, clusterSt_gateAtTick, if_pos rfl]
  · exact ((gateAtTick_keeps _ _).trans (dropLock_keeps _ _)).1
  · rw [dropLock_ctxs, gateAtTick_ctxs]

/-- Settles O50, event by event. -/
theorem powerStates : Obligations.PowerStates := by
  refine ⟨clustersGate, fun s cl hc hg hd => ⟨_, congrArg Host.Outcome.next (if_neg (Nat.not_le.mpr hc)), wakeCluster_gated hg hd⟩,
    fun s cl => ⟨fun hw due => ⟨_, execClusterWakeDone_due hw due, clusterWoken_spec _ s⟩, execClusterWakeDone_early⟩,
    fun s d hd => ⟨fun h => ⟨_, execDieGate_gated hd h, dies_setDie _ _ _, rfl, rfl⟩, fun i hi h => execDieGate_awake hi h⟩,
    fun s d => ⟨fun hg => ⟨_, rfl, wakeDie_gated hg⟩, execDieWakeDone_early, fun hw due hl => ?dieWoken⟩, fun s c => ?column⟩
  case dieWoken =>
    obtain ⟨on, gated, -, mem, ctxs⟩ := dieWoken_spec d.toNat s
    exact ⟨_, execDieWakeDone_due hw due hl, on, gated, mem, ctxs⟩
  case column =>
    refine ⟨_, rfl, by simp, fun own => ?_, fun other => ?_, rfl, rfl⟩
    · subst own; simp
    · simp [other]

end Sys2Proof.Machine
end

section
/-! SUPPORT. O34: fo counts the words of earlier steps that have not departed, which the statement's clause leaves out. -/
namespace Sys2Proof.Machine

-- One declaration after another, as in the parts above.
set_option Elab.async false

/-- XPUT fo waits in place as long as fo is full, whatever its list alone holds. -/
theorem execXput_fo_full {s : State} (a : BitVec 6) (h : foFull s = true) : execXput 6 a s = .next (stallFor s) := by
  change (if foFull s then Host.Outcome.next (stallFor s) else _) = _
  rw [if_pos h]

/-- fo with an open entry of this step and 64 words of an earlier step that have not departed; its plan uses fabric port 0,
whose link is up. -/
def foBehindOld : State :=
  let e : GEntry := { index := 0, dep := 99, count := 8, dst := 16 }
  let route := { step := 0, src := 0, dst := 0, dep := 0, count := 1, port := some (0, 60) }
  { t0 with
    plans := [{ tPlan with routes := [route] }]
    fabric := { t0.fabric with ports := [(0, { state := 2 })] }
    gate := { foList := [e], foOld := [{ e with words := List.replicate 64 (0, 0) }], step := some 0 } }

/-- What the statement asks of `foBehindOld`, and why XPUT fo waits there: its list has room, but fo holds 64 words. -/
theorem foBehindOld_spec :
    foBehindOld.roomFor 1 ∧ fabricUser foBehindOld = true ∧ fabricEdge foBehindOld = false ∧
    heldWords foBehindOld.gate.foList < 64 ∧ foBehindOld.gate.step ≠ none ∧ roomIn foBehindOld.gate.foList = true ∧
    foFull foBehindOld = true ∧
    pushEntry (takenAt foBehindOld) (rs foBehindOld 0) foBehindOld.gate.foList ≠ foBehindOld.gate.foList := by
  unfold State.roomFor; decide

/-- Refutes O34: the clause of XPUT fo with room counts the words of the present step only; with 64 words of an earlier step
still in fo the word waits (R440), and the list takes nothing. -/
theorem not_exchangeWordsAndEvents : ¬ Obligations.ExchangeWordsAndEvents := by
  rintro ⟨words, -⟩
  obtain ⟨room, user, edge, held, step, open', full, grows⟩ := foBehindOld_spec
  obtain ⟨-, -, -, -, fabric⟩ := words foBehindOld 0 0 0 room
  obtain ⟨-, -, -, -, -, put⟩ := fabric user
  obtain ⟨put, -⟩ := put edge held
  obtain ⟨t, ht, -, -, -, list⟩ := put ⟨step, open'⟩
  obtain rfl : stallFor foBehindOld = t := Host.Outcome.next.inj ((execXput_fo_full 0 full).symm.trans ht)
  exact grows list.symm

end Sys2Proof.Machine
end

section
/-! SUPPORT. O45: sync objects, group marks and lane maps as this station sees their frames. -/
namespace Sys2Proof.Machine

-- One declaration after another, as in the parts above.
set_option Elab.async false

/-- A state as a frame finds it at its tick: only its bus has changed, and not the views of it. -/
structure AsSeen (s u : State) (b : BitVec 2) : Prop where
  views : (getBus u b).views = (getBus s b).views
  mem : u.mem = s.mem
  ctxs : u.ctxs = s.ctxs
  objs : u.objs = s.objs
  groups : u.groups = s.groups
  self : u.self = s.self
  fabric : u.fabric = s.fabric
  cycle : u.cycle = s.cycle
  time : u.time = s.time
  cluster : u.cluster = s.cluster

theorem asSeen_setBus {s : State} {b : BitVec 2} {x : Bus} (y : Bus) (h : x.views = (getBus s b).views) :
    AsSeen s (setBus b x (setBus b y s)) b :=
  ⟨by rw [getBus_setBus_self, h], rfl, rfl, rfl, rfl, rfl, rfl, rfl, rfl, rfl⟩

section
variable {s u : State} {b : BitVec 2} (h : AsSeen s u b)
include h
theorem AsSeen.getObj (n : Nat) : getObj u n = getObj s n := by rw [Machine.getObj, h.objs]; rfl
theorem AsSeen.getGroup (n : Nat) : getGroup u n = getGroup s n := by rw [Machine.getGroup, h.groups]; rfl
theorem AsSeen.getCtx (c : CtxId) : getCtx u c = getCtx s c := getCtx_congr h.ctxs c
theorem AsSeen.busWaiters (n : Nat) : busWaiters u n = busWaiters s n := by rw [Machine.busWaiters, h.objs]; rfl
theorem AsSeen.isMine (r : Requester) : isMine u r = isMine s r := by rw [Machine.isMine, h.self, h.fabric]; rfl
theorem AsSeen.cycleSeeing (t : Nat) : cycleSeeing u t = cycleSeeing s t := by
  rw [Machine.cycleSeeing, h.cycle, h.time, h.cluster]; rfl
theorem AsSeen.presentAt (t : Nat) : presentAt u b t = presentAt s b t := by
  rw [Machine.presentAt, viewAt, h.views, State.myCluster, State.me, h.self]; rfl
theorem AsSeen.absentAt (t n : Nat) : absentAt u b t n = absentAt s b t n := by
  rw [Machine.absentAt, viewAt, h.views]; rfl
end

/-- A frame that the station sees has its effect at its tick, on the contexts, objects and groups as they were. -/
theorem frameSeen_acts {s : State} {f : Frame} {crc : BitVec 32} {a : AirFrame} {l : List AirFrame} (h : Sees s f crc a l)
    {k : BitVec 4} (hk : f.kind = k) (act : Nat → State → State) :
    ∃ u, AsSeen s u f.bus ∧ frameSeen k f crc act s = act a.tick u := by
  subst hk
  obtain ⟨hair, hsettled, hframe, hseen, hpresent, hleave, hreceived⟩ := h
  unfold Settled at hsettled
  dsimp only at hsettled
  generalize hs1 : armBus _ _ _ = s1 at hsettled
  have hbus := congrArg (fun u => getBus u f.bus) hsettled
  rw [getBus_setBus_self] at hbus
  have hthere : presentAt s1 f.bus a.tick = true := by
    rw [hsettled, presentAt, getBus_setBus_self]; exact hpresent
  refine ⟨_, asSeen_setBus (x := { getBus s1 f.bus with frames := (getBus s1 f.bus).frames + 1 }) (getBus s1 f.bus) (by rw [hbus]), ?_⟩
  unfold frameSeen
  dsimp only
  rw [hair]
  dsimp only
  rw [hs1, hframe, hseen, hthere, hleave, hreceived, bne_self_eq_false]
  rw [if_neg (by simp), if_neg (by decide), if_neg (by decide)]
  have hs1 : s1 = setBus f.bus (getBus s1 f.bus) s := by rw [hbus]; exact hsettled
  exact congrArg (fun v => act a.tick (setBus f.bus { getBus s1 f.bus with frames := (getBus s1 f.bus).frames + 1 } v)) hs1

/-! What an answer leaves as it is (R337, R338) -/

@[simp] theorem answerAcq_objs (r : Requester) (o : BitVec 12) (sh q : Bool) (st t : Nat) (s : State) :
    (answerAcq r o sh q st t s).objs = s.objs := by
  unfold answerAcq; dsimp only; repeat' split
  all_goals rfl
@[simp] theorem queueAcq_objs (r : Requester) (o : BitVec 12) (sh : Bool) (s : State) : (queueAcq r o sh s).objs = s.objs := by
  unfold queueAcq; dsimp only; repeat' split
  all_goals rfl
@[simp] theorem answerRel_objs (r : Requester) (o : BitVec 12) (st t : Nat) (s : State) : (answerRel r o st t s).objs = s.objs := by
  unfold answerRel; dsimp only; repeat' split
  all_goals rfl

@[simp] theorem getObj_answerAcq (r : Requester) (o : BitVec 12) (sh q : Bool) (st t : Nat) (s : State) (n : Nat) :
    getObj (answerAcq r o sh q st t s) n = getObj s n := by rw [getObj, answerAcq_objs]; rfl
@[simp] theorem getObj_queueAcq (r : Requester) (o : BitVec 12) (sh : Bool) (s : State) (n : Nat) :
    getObj (queueAcq r o sh s) n = getObj s n := by rw [getObj, queueAcq_objs]; rfl
@[simp] theorem getObj_answerRel (r : Requester) (o : BitVec 12) (st t : Nat) (s : State) (n : Nat) :
    getObj (answerRel r o st t s) n = getObj s n := by rw [getObj, answerRel_objs]; rfl

theorem answerAcq_other {s : State} {r : Requester} (h : isMine s r = false) (o : BitVec 12) (sh q : Bool) (st t : Nat) :
    answerAcq r o sh q st t s = s := by
  unfold answerAcq; rw [h]; rfl

/-! The limit of waiters (R335) -/

/-- An object without waiters, put in the place of one without, leaves the count of its bus. -/
theorem foldl_put_of_idle {f : Nat → Nat × SyncObj → Nat} {o : Nat} {x : SyncObj} (hx : ∀ n, f n (o, x) = n) :
    ∀ {m : List (Nat × SyncObj)}, (∀ n, f n (o, SMap.get {} m o) = n) → ∀ n, (SMap.put m o x).foldl f n = m.foldl f n
  | [], _, n => hx n
  | (k, v) :: m, hm, n => by
    rw [SMap.put]
    split
    · rw [List.foldl_cons, hx]
    · split
      next e =>
        subst e
        have hv : f n (k, v) = n := by simpa [SMap.get] using hm n
        rw [List.foldl_cons, List.foldl_cons, hx, hv]
      next e =>
        rw [List.foldl_cons, List.foldl_cons]
        exact foldl_put_of_idle hx (fun n => by simpa [SMap.get, e] using hm n) _

theorem busWaiters_setObj {s : State} {o : Nat} {x : SyncObj} (hx : x ≠ {}) (hw : x.waiters = []) (hy : (getObj s o).waiters = []) :
    busWaiters (setObj o x s) o = busWaiters s o := by
  have put : (setObj o x s).objs = SMap.put s.objs o x := if_neg hx
  unfold busWaiters
  rw [put]
  have idle : (SMap.get {} s.objs o).waiters = [] := hy
  exact foldl_put_of_idle (fun n => by simp [hw]) (fun n => by rw [idle]; simp) 0

/-! Acquires (R337, R338) -/

/-- An object as the first acquire of an instance makes it (R378). -/
def claimed (y : SyncObj) (r : Requester) : SyncObj := { y with inst := some (y.inst.getD r) }

theorem claimed_ne (y : SyncObj) (r : Requester) : claimed y r ≠ {} := fun e => by
  have := congrArg SyncObj.inst e; simp [claimed] at this

/-- A request that is in scope and within the limit takes the object or waits for it (R337). -/
def placeAcq (o : BitVec 12) (r : Requester) (shared : Bool) (t : Nat) (x : SyncObj) (s : State) : State :=
  if x.excl.isNone && x.shared.isEmpty && x.waiters.isEmpty && !shared then
    answerAcq r o shared false 0 t (setObj o.toNat { x with excl := some r } s)
  else if shared && x.excl.isNone && x.waiters.isEmpty then
    answerAcq r o shared false 0 t (setObj o.toNat { x with shared := x.shared ++ [r] } s)
  else queueAcq r o shared (setObj o.toNat { x with waiters := x.waiters ++ [(r, shared)] } s)

/-- An acquire in scope of an object without waiters, by a requester that does not hold it. -/
theorem decideAcq_inScope {s : State} {o : BitVec 12} {r : Requester} (hin : inScope (getObj s o.toNat) r = true)
    (hlimit : busWaiters s o.toNat < 1024) (hw : (getObj s o.toNat).waiters = []) (hold : holds (getObj s o.toNat) r = false)
    (shared : Bool) (t : Nat) : decideAcq o r shared t s =
      placeAcq o r shared t (claimed (getObj s o.toNat) r) (setObj o.toNat (claimed (getObj s o.toNat) r) s) := by
  have free : ¬ ((holds (claimed (getObj s o.toNat) r) r || (claimed (getObj s o.toNat) r).waiters.any (fun w => w.1 == r)) = true) := by
    have held : holds (claimed (getObj s o.toNat) r) r = false := hold
    have waiters : (claimed (getObj s o.toNat) r).waiters = [] := hw
    simp [held, waiters]
  have room : ¬ ((claimed (getObj s o.toNat) r).scope ≠ 5 ∧ 1024 ≤ busWaiters (setObj o.toNat (claimed (getObj s o.toNat) r) s) o.toNat) := by
    rw [busWaiters_setObj (claimed_ne _ _) hw hw]; omega
  have scope : ¬ ((!inScope (getObj s o.toNat) r) = true) := by simp [hin]
  unfold decideAcq
  exact (if_neg scope).trans ((if_neg free).trans (if_neg room))

section
variable {s : State} {o : BitVec 12} {r : Requester} (hin : inScope (getObj s o.toNat) r = true)
  (hlimit : busWaiters s o.toNat < 1024) (hw : (getObj s o.toNat).waiters = [])
include hin hlimit hw

/-- ACQ takes a free object (R337). -/
theorem decideAcq_free (t : Nat) (he : (getObj s o.toNat).excl = none) (hs : (getObj s o.toNat).shared = []) :
    ∃ x, x.excl = some r ∧ x.waiters = [] ∧ decideAcq o r false t s =
      answerAcq r o false false 0 t (setObj o.toNat x (setObj o.toNat (claimed (getObj s o.toNat) r) s)) := by
  refine ⟨{ claimed (getObj s o.toNat) r with excl := some r }, rfl, hw, ?_⟩
  rw [decideAcq_inScope hin hlimit hw (by simp [holds, he, hs]), placeAcq]
  exact if_pos (by simp [claimed, he, hs, hw])

/-- ACQ waits behind the holder (R337). -/
theorem decideAcq_behind {h : Requester} (t : Nat) (he : (getObj s o.toNat).excl = some h) (hne : h ≠ r)
    (hs : (getObj s o.toNat).shared = []) :
    ∃ x, x.excl = some h ∧ x.waiters = [(r, false)] ∧ decideAcq o r false t s =
      queueAcq r o false (setObj o.toNat x (setObj o.toNat (claimed (getObj s o.toNat) r) s)) := by
  have waiters : (claimed (getObj s o.toNat) r).waiters = [] := hw
  refine ⟨{ claimed (getObj s o.toNat) r with waiters := (claimed (getObj s o.toNat) r).waiters ++ [(r, false)] }, he, by simp [waiters], ?_⟩
  rw [decideAcq_inScope hin hlimit hw (by simp [holds, he, hs, hne]), placeAcq, if_neg (by simp [claimed, he]), if_neg (by simp)]

/-- ACQS joins the holders of a shared object (R337). -/
theorem decideAcq_shares (t : Nat) (he : (getObj s o.toNat).excl = none) (hs : (getObj s o.toNat).shared.contains r = false) :
    ∃ x, x.shared = (getObj s o.toNat).shared ++ [r] ∧ x.excl = none ∧ decideAcq o r true t s =
      answerAcq r o true false 0 t (setObj o.toNat x (setObj o.toNat (claimed (getObj s o.toNat) r) s)) := by
  refine ⟨{ claimed (getObj s o.toNat) r with shared := (claimed (getObj s o.toNat) r).shared ++ [r] }, rfl, he, ?_⟩
  rw [decideAcq_inScope hin hlimit hw (by simp only [holds, he, hs]; rfl), placeAcq, if_neg (by simp), if_pos (by simp [claimed, he, hw])]

end

/-- The status of a granted acquire posts for this core's context (R338). -/
theorem getCtx_answerAcq_mine {s : State} {r : Requester} {o : BitVec 12} {w : Access} {v : Owed} (t : Nat) (hm : isMine s r = true)
    (hout : (getCtx s r.ctx).out = [w]) (hacq : acqOf o false false w = true) (howed : (getCtx s r.ctx).owed = [v])
    (hid : v.id = w.id) (hval : v.val = none) :
    (getCtx (answerAcq r o false false 0 t s) r.ctx).out = [] ∧
    (getCtx (answerAcq r o false false 0 t s) r.ctx).owed = [{ v with val := some (qfxEntry 0 0 o.toNat), cyc := cycleSeeing s t }] := by
  have found : (getCtx s r.ctx).out.find? (acqOf o false false) = some w := by rw [hout, List.find?_cons_of_pos hacq]
  have waits : (getCtx s r.ctx).owed.any (fun u => u.id == w.id && u.val.isNone) = true := by simp [howed, hid, hval]
  unfold answerAcq
  dsimp only
  rw [hm, if_neg (by decide), found]
  dsimp only
  rw [if_pos waits, getCtx_setCtx_self]
  have out : (getCtx s r.ctx).out.filter (fun b => b.id != w.id) = [] := by simp [hout]
  have owed : ((getCtx s r.ctx).owed.map (fun u => if u.id == w.id && u.val.isNone then
      { u with val := some (qfxEntry 0 0 o.toNat), cyc := cycleSeeing s t } else u)) =
      [{ v with val := some (qfxEntry 0 0 o.toNat), cyc := cycleSeeing s t }] := by simp [howed, hid, hval]
  split
  · exact ⟨out, owed⟩
  · exact ⟨out, owed⟩

/-! Releases (R337) -/

section
variable {s : State} {o : BitVec 12} {r : Requester} (hin : inScope (getObj s o.toNat) r = true)
  (he : (getObj s o.toNat).excl = some r)
include hin he

theorem decideRel_holder (t : Nat) : decideRel o r t s = handover o t (answerRel r o 0 t s) := by
  have scope : ¬ ((!inScope (getObj s o.toNat) r) = true) := by simp [hin]
  unfold decideRel
  exact (if_neg scope).trans (if_pos he)

theorem getObj_decideRel_idle (t : Nat) (hw : (getObj s o.toNat).waiters = []) :
    (getObj (decideRel o r t s) o.toNat).excl = none ∧ (getObj (decideRel o r t s) o.toNat).shared = [] := by
  rw [decideRel_holder hin he]
  unfold handover
  simp only [getObj_answerRel, hw, getObj_setObj_self, and_self]

theorem getObj_decideRel_next {w : Requester} {k : List (Requester × Bool)} (t : Nat) (hw : (getObj s o.toNat).waiters = (w, false) :: k) :
    (getObj (decideRel o r t s) o.toNat).excl = some w ∧ (getObj (decideRel o r t s) o.toNat).waiters = k := by
  rw [decideRel_holder hin he]
  unfold handover
  simp only [getObj_answerRel, hw, getObj_answerAcq, getObj_setObj_self, and_self]

end

theorem syncFrames : Claim.SyncFrames := by
  intro s f crc a l
  dsimp only
  intro sees limit
  refine ⟨fun hk hin he hs hw => ?acq, fun h hk hin he hne hs hw => ?queue, fun hk hin he hs hw => ?acqs,
    fun hk hin he hw => ?rel, fun w k hk hin he hw => ?handed, fun hk => ?reset⟩
  case acq =>
    obtain ⟨u, hu, run⟩ := frameSeen_acts sees hk (decideAcq f.id (frameReq s f) false)
    rw [← hu.busWaiters] at limit
    rw [← hu.getObj] at hin he hs hw
    obtain ⟨n, excl, waiters, act⟩ := decideAcq_free hin limit hw a.tick he hs
    refine ⟨_, congrArg Host.Outcome.next run, ?_⟩
    rw [act]
    refine ⟨?_, ?_, (answerAcq_keeps _ _ _ _ _ _ _).1.trans hu.mem, fun other => ?_, fun w v mine out acq owed id val => ?_⟩
    · rw [getObj_answerAcq, getObj_setObj_self]; exact excl
    · rw [getObj_answerAcq, getObj_setObj_self]; exact waiters
    · rw [← hu.isMine] at other
      exact (congrArg State.ctxs (answerAcq_other (s := setObj f.id.toNat n (setObj f.id.toNat _ u)) other _ _ _ _ _)).trans hu.ctxs
    · rw [← hu.isMine] at mine
      rw [← hu.getCtx] at out owed
      rw [← hu.cycleSeeing]
      exact getCtx_answerAcq_mine a.tick mine out acq owed id val
  case queue =>
    obtain ⟨u, hu, run⟩ := frameSeen_acts sees hk (decideAcq f.id (frameReq s f) false)
    rw [← hu.busWaiters] at limit
    rw [← hu.getObj] at hin he hs hw
    obtain ⟨n, excl, waiters, act⟩ := decideAcq_behind hin limit hw a.tick he hne hs
    refine ⟨_, congrArg Host.Outcome.next run, ?_⟩
    rw [act, getObj_queueAcq, getObj_setObj_self]
    exact ⟨excl, waiters, (queueAcq_keeps _ _ _ _).1.trans hu.mem⟩
  case acqs =>
    obtain ⟨u, hu, run⟩ := frameSeen_acts sees hk (decideAcq f.id (frameReq s f) true)
    rw [← hu.busWaiters] at limit
    rw [← hu.getObj] at hin he hs hw
    obtain ⟨n, shared, excl, act⟩ := decideAcq_shares hin limit hw a.tick he hs
    refine ⟨_, congrArg Host.Outcome.next run, ?_⟩
    rw [act, getObj_answerAcq, getObj_setObj_self]
    refine ⟨by rw [← hu.getObj]; exact shared, excl, (answerAcq_keeps _ _ _ _ _ _ _).1.trans hu.mem, fun other => ?_⟩
    rw [← hu.isMine] at other
    exact (congrArg State.ctxs (answerAcq_other (s := setObj f.id.toNat n (setObj f.id.toNat _ u)) other _ _ _ _ _)).trans hu.ctxs
  case rel =>
    obtain ⟨u, hu, run⟩ := frameSeen_acts sees hk (decideRel f.id (frameReq s f))
    rw [← hu.getObj] at hin he hw
    obtain ⟨excl, shared⟩ := getObj_decideRel_idle hin he a.tick hw
    exact ⟨_, congrArg Host.Outcome.next run, excl, shared, (decideRel_keeps _ _ _ _).1.trans hu.mem⟩
  case handed =>
    obtain ⟨u, hu, run⟩ := frameSeen_acts sees hk (decideRel f.id (frameReq s f))
    rw [← hu.getObj] at hin he hw
    obtain ⟨excl, waiters⟩ := getObj_decideRel_next hin he a.tick hw
    exact ⟨_, congrArg Host.Outcome.next run, excl, waiters, (decideRel_keeps _ _ _ _).1.trans hu.mem⟩
  case reset =>
    obtain ⟨u, hu, run⟩ := frameSeen_acts sees hk (fun _ => resetObj f.id.toNat)
    refine ⟨_, congrArg Host.Outcome.next run, ?_⟩
    rw [resetObj, getObj_setObj_self]
    exact ⟨rfl, rfl, rfl, rfl, hu.mem, hu.ctxs⟩

/-! Group marks (R339, R454) -/

@[simp] theorem releaseGroup_groups (g : BitVec 8) (t : Nat) (s : State) (c : CtxId) : (releaseGroup g t s c).groups = s.groups := by
  unfold releaseGroup; dsimp only; split <;> rfl

theorem getGroup_endEpisode (g r : Nat) (s : State) :
    getGroup (endEpisode g r s) g = { getGroup s g with epoch := (getGroup s g).epoch + 1, marked := [], doneAt := none, others := none } := by
  have groups : (endEpisode g r s).groups = _ :=
    foldl_keeps (π := State.groups) (fun u c => releaseGroup_groups _ r u c) _ _
  rw [getGroup, groups]
  exact SMap.get_set_self _ _ _ _

/-- A group with one more mark. -/
def marked (g core : Nat) (s : State) : State :=
  { s with groups := SMap.set {} s.groups g { getGroup s g with marked := (getGroup s g).marked ++ [core] } }

theorem getGroup_marked (g core : Nat) (s : State) :
    getGroup (marked g core s) g = { getGroup s g with marked := (getGroup s g).marked ++ [core] } := SMap.get_set_self _ _ _ _

/-- A group over several packages notes that its episode is complete here (R454). -/
def noteDone (g d : Nat) (s : State) : State := { s with groups := SMap.set {} s.groups g { getGroup s g with doneAt := some d } }

/-- A group that is complete in this package releases its episode, or waits for the other packages (R339, R454). -/
def releaseOrNote (g t : Nat) (s : State) : State :=
  if !(getGroup s g).wide then endEpisode g t s
  else match (getGroup s g).others with
    | some o => endEpisode g (wideRelease s (getGroup s g) (max ((getGroup s g).doneAt.getD t) o)) s
    | none => noteDone g ((getGroup s g).doneAt.getD t) s

section
variable {s : State} {g core t : Nat} (hm : (getGroup s g).members.contains core = true)
  (hnew : (getGroup s g).marked.contains core = false)
include hm hnew

theorem markGroup_new : markGroup g core t s = checkGroup g t (marked g core s) := by
  unfold markGroup
  exact if_neg (by simp only [hm, hnew]; decide)

/-- The mark that completes the episode in this package (R339, R454). -/
theorem markGroup_complete (hp : presentAt s (BitVec.ofNat 2 g) t = true)
    (hall : ∀ m, m ∈ (getGroup s g).members → m = core ∨ (getGroup s g).marked.contains m = true) :
    markGroup g core t s = releaseOrNote g t (marked g core s) := by
  rw [markGroup_new hm hnew]
  refine if_neg ?_
  have new := getGroup_marked g core s
  have members : ((getGroup s g).members.all (fun m => ((getGroup s g).marked ++ [core]).contains m ||
      absentAt (marked g core s) (BitVec.ofNat 2 g) t m)) = true := by
    refine List.all_eq_true.mpr (fun m hmem => ?_)
    rcases hall m hmem with rfl | h
    · simp
    · simp only [List.contains_eq_mem, decide_eq_true_eq] at h
      simp [h]
  have present : presentAt (marked g core s) (BitVec.ofNat 2 g) t = true := hp
  rw [new]
  simp only [members, present]
  simp

/-- A mark that leaves another member neither marked nor absent (R339). -/
theorem markGroup_partial {m : Nat} (hmem : m ∈ (getGroup s g).members) (hne : m ≠ core)
    (hnot : (getGroup s g).marked.contains m = false) (habs : absentAt s (BitVec.ofNat 2 g) t m = false) :
    markGroup g core t s = marked g core s := by
  rw [markGroup_new hm hnew]
  refine if_pos ?_
  have absent : absentAt (marked g core s) (BitVec.ofNat 2 g) t m = false := habs
  have members : ((getGroup s g).members.all (fun m => ((getGroup s g).marked ++ [core]).contains m ||
      absentAt (marked g core s) (BitVec.ofNat 2 g) t m)) = false := by
    refine List.all_eq_false.mpr ⟨m, hmem, ?_⟩
    rw [absent, List.contains_eq_mem]
    simp only [List.contains_eq_mem, decide_eq_false_iff_not] at hnot
    simp [hnot, hne]
  rw [getGroup_marked]
  simp only [members]
  simp

end

theorem marked_releases {s : State} {g core : Nat} (t : Nat) (h : (getGroup s g).wide = false ∨ (getGroup s g).others.isSome = true) :
    ∃ r, releaseOrNote g t (marked g core s) = endEpisode g r (marked g core s) := by
  unfold releaseOrNote
  rw [getGroup_marked]
  dsimp only
  rcases h with h | h
  · exact ⟨t, if_pos (by simp [h])⟩
  · obtain ⟨o, ho⟩ := Option.isSome_iff_exists.mp h
    rw [ho]
    split
    · exact ⟨_, rfl⟩
    · exact ⟨_, rfl⟩

theorem marked_notes {s : State} {g core : Nat} (t : Nat) (hw : (getGroup s g).wide = true) (ho : (getGroup s g).others = none) :
    getGroup (releaseOrNote g t (marked g core s)) g =
      { getGroup (marked g core s) g with doneAt := some ((getGroup s g).doneAt.getD t) } ∧
    (releaseOrNote g t (marked g core s)).ctxs = s.ctxs := by
  have step : releaseOrNote g t (marked g core s) = noteDone g ((getGroup s g).doneAt.getD t) (marked g core s) := by
    unfold releaseOrNote noteDone
    rw [getGroup_marked]
    dsimp only
    rw [if_neg (by simp [hw]), ho]
  rw [step]
  exact ⟨SMap.get_set_self _ _ _ _, rfl⟩

theorem markAndMapFrames : Claim.MarkAndMapFrames := by
  intro s f crc a l sees
  refine ⟨fun g hk hb hg hm hnew => ?mark, fun lo hi hk hpay => ?map⟩
  case mark =>
    subst hg
    obtain ⟨u, hu, run⟩ := frameSeen_acts sees hk (markGroup f.id.toNat f.sender.toNat)
    have run : exec (.frameMark f crc) s = .next (markGroup f.id.toNat f.sender.toNat a.tick u) := congrArg Host.Outcome.next run
    have present : presentAt u (BitVec.ofNat 2 f.id.toNat) a.tick = true := by
      obtain ⟨-, -, -, -, present, -⟩ := sees
      rw [hb, hu.presentAt]; exact present
    rw [← hu.getGroup] at hm hnew ⊢
    have mem : ∀ v, v = markGroup f.id.toNat f.sender.toNat a.tick u → v.mem = s.mem := fun v hv => by
      rw [hv]; exact (markGroup_keeps _ _ _ _).1.trans hu.mem
    refine ⟨fun all => ⟨_, run, mem _ rfl, ?_⟩, fun m hmem hne hnot habs => ⟨_, run, ?_⟩⟩
    · rw [markGroup_complete hm hnew present all]
      refine ⟨fun h => ?_, fun hw ho => ?_⟩
      · obtain ⟨r, release⟩ := marked_releases (core := f.sender.toNat) a.tick h
        rw [release, getGroup_endEpisode, getGroup_marked]
        exact ⟨rfl, rfl⟩
      · obtain ⟨group, ctxs⟩ := marked_notes (core := f.sender.toNat) a.tick hw ho
        rw [group, getGroup_marked]
        exact ⟨rfl, rfl, ctxs.trans hu.ctxs⟩
    · rw [hb, ← hu.absentAt, ← hb] at habs
      rw [markGroup_partial hm hnew hmem hne hnot habs, getGroup_marked]
      exact ⟨rfl, rfl, hu.mem, hu.ctxs⟩
  case map =>
    obtain ⟨u, hu, run⟩ := frameSeen_acts sees hk _
    refine ⟨_, congrArg Host.Outcome.next run, hu.mem, hu.ctxs, ?_⟩
    rw [getBus_setBus_self, laneMap]
    dsimp only
    rw [SMap.find_put, hpay]
    have low : (leBytes 8 lo.toNat ++ leBytes 8 hi.toNat).take 8 = leBytes 8 lo.toNat := rfl
    have high : ((leBytes 8 lo.toNat ++ leBytes 8 hi.toNat).drop 8).take 8 = leBytes 8 hi.toNat := rfl
    rw [low, high, leNat_leBytes_dbl, leNat_leBytes_dbl, BitVec.ofNat_toNat, BitVec.ofNat_toNat]
    simp

/-- Settles O45: a frame that the station sees acts on the contexts, objects and groups as they were; then by cases on the
state of the object, or of the group. -/
theorem syncAndMarkFrames : Obligations.SyncAndMarkFrames := ⟨syncFrames, markAndMapFrames⟩

end Sys2Proof.Machine
end

section
/-! SUPPORT. O35: CSYNC and PBAR. -/
namespace Sys2Proof.Machine

-- One declaration after another, as in the parts above.
set_option Elab.async false

/-! Causes that become pending leave everything but their context as it is (R282, R311) -/

/-- The contexts differ in pending causes only, and the gateway in what it holds. -/
structure OnlyPend (s t : State) : Prop where
  self : t.self = s.self
  cur : t.cur = s.cur
  plans : t.plans = s.plans
  seq : t.gate.seq = s.gate.seq
  replan : t.replan = s.replan
  pbarTick : t.pbarTick = s.pbarTick
  kept : t.kept = s.kept
  cluster : t.cluster = s.cluster
  tags : t.tags = s.tags
  flight : t.flight = s.flight
  mem : t.mem = s.mem
  plan : ∀ c, (getCtx t c).plan = (getCtx s c).plan

theorem OnlyPend.refl (s : State) : OnlyPend s s := ⟨rfl, rfl, rfl, rfl, rfl, rfl, rfl, rfl, rfl, rfl, rfl, fun _ => rfl⟩

theorem OnlyPend.trans {s t u : State} (h : OnlyPend s t) (k : OnlyPend t u) : OnlyPend s u :=
  ⟨k.self.trans h.self, k.cur.trans h.cur, k.plans.trans h.plans, k.seq.trans h.seq, k.replan.trans h.replan,
    k.pbarTick.trans h.pbarTick, k.kept.trans h.kept, k.cluster.trans h.cluster, k.tags.trans h.tags, k.flight.trans h.flight,
    k.mem.trans h.mem, fun c => (k.plan c).trans (h.plan c)⟩

theorem onlyPend_setPend (s : State) (c : CtxId) (p : Pend) : OnlyPend s (setCtx s c { getCtx s c with pend := p }) :=
  ⟨rfl, rfl, rfl, rfl, rfl, rfl, rfl, rfl, rfl, rfl, rfl, fun d => by
    by_cases h : d = c
    · subst h; rw [getCtx_setCtx_self]
    · rw [getCtx_setCtx_ne _ h]⟩

theorem raiseMiss_onlyPend (k p q n : Nat) (s : State) : OnlyPend s (raiseMiss k p q n s) := by
  unfold raiseMiss
  split
  · dsimp only
    split
    · exact OnlyPend.refl s
    · exact onlyPend_setPend s _ _
  · exact OnlyPend.refl s

theorem raiseLate_onlyPend (c : CtxId) (v : Dbl) (s : State) : OnlyPend s (raiseLate c v s) := by
  unfold raiseLate
  dsimp only
  split
  · exact OnlyPend.refl s
  · exact onlyPend_setPend s _ _

theorem raiseMiss_gate (k p q n : Nat) (s : State) : (raiseMiss k p q n s).gate = s.gate := by
  unfold raiseMiss
  split
  · dsimp only
    split <;> rfl
  · rfl
theorem lateIn_gate (k e n sl : Nat) (s : State) : (lateIn k e n sl s).gate = s.gate := by
  unfold lateIn raiseLate
  split
  · dsimp only
    split <;> rfl
  · rfl

theorem lateIn_onlyPend (k e n sl : Nat) (s : State) : OnlyPend s (lateIn k e n sl s) := by
  unfold lateIn
  split
  · exact raiseLate_onlyPend _ _ s
  · exact OnlyPend.refl s

/-- TIMING_MISS stands pending in the primary context, which had none (R282). -/
theorem raiseMiss_pends {s : State} {c : CtxId} (k p q n : Nat) (hc : primaryCtx s = some c) (h : (getCtx s c).pend.miss = none) :
    (getCtx (raiseMiss k p q n s) c).pend.miss = some (BitVec.ofNat 64 (k * 2 ^ 16 + p * 2 ^ 8 + q * 16 + n)) := by
  unfold raiseMiss
  rw [hc]
  dsimp only
  rw [h, if_neg (by simp), getCtx_setCtx_self]

/-- A second TIMING_MISS merges (R282). -/
theorem raiseMiss_merges {s : State} {c : CtxId} {v : Dbl} (k p q n : Nat) (h : (getCtx s c).pend.miss = some v) :
    (getCtx (raiseMiss k p q n s) c).pend.miss = some v := by
  unfold raiseMiss
  split
  next d hd =>
    dsimp only
    split
    · exact h
    · next none =>
      by_cases e : c = d
      · subst e; rw [h] at none; exact absurd rfl none
      · rw [getCtx_setCtx_ne _ e]; exact h
  next => exact h

theorem raiseLate_pends {s : State} {c : CtxId} (v : Dbl) (h : (getCtx s c).pend.late = none) :
    (getCtx (raiseLate c v s) c).pend.late = some v := by
  unfold raiseLate
  dsimp only
  rw [h, if_neg (by simp), getCtx_setCtx_self]

/-! What a word at a timed port marks (R264) -/

/-- The contexts of a word at a timed port: one flag of its own context is set. -/
theorem getCtx_markTimed (s : State) (c : CtxId) :
    getCtx (markTimed s) c = if s.cur.ctx = c then { getCtx s c with xch := true } else getCtx s c := by
  by_cases h : s.cur.ctx = c
  · subst h
    rw [if_pos rfl]
    exact cx_setCx s _
  · rw [if_neg h]
    exact getCtx_setCtx_ne s (fun e => h e.symm) _

theorem pend_markTimed (s : State) (c : CtxId) : (getCtx (markTimed s) c).pend = (getCtx s c).pend := by
  rw [getCtx_markTimed]; split <;> rfl
theorem plan_markTimed (s : State) (c : CtxId) : (getCtx (markTimed s) c).plan = (getCtx s c).plan := by
  rw [getCtx_markTimed]; split <;> rfl
theorem primary_markTimed (s : State) (c : CtxId) : (getCtx (markTimed s) c).primary = (getCtx s c).primary := by
  rw [getCtx_markTimed]; split <;> rfl
theorem st_markTimed (s : State) (c : CtxId) : (getCtx (markTimed s) c).st = (getCtx s c).st := by
  rw [getCtx_markTimed]; split <;> rfl

theorem primaryCtx_markTimed (s : State) : primaryCtx (markTimed s) = primaryCtx s := by
  unfold primaryCtx
  simp only [primary_markTimed, st_markTimed, plan_markTimed]
  rfl

theorem clusterMask_markTimed (s : State) (c : CtxId) : clusterMask (markTimed s) c = clusterMask s c := by
  unfold clusterMask
  rw [plan_markTimed]
  rfl

/-! CSYNC (R283, R286) -/

/-- A mask that names cores outside the placement's, or not this one (R283). -/
def badMask (s : State) (m : BitVec 16) : Bool := !m.getLsbD s.myIndex || m &&& ~~~(clusterMask s s.cur.ctx) != 0

theorem badMask_iff (s : State) (m : BitVec 16) :
    badMask s m = true ↔ m.getLsbD s.myIndex = false ∨ m &&& ~~~(clusterMask s s.cur.ctx) ≠ 0 := by
  simp [badMask]

theorem startSync_markTimed (m : BitVec 16) (t : BitVec 6) (slot : Nat) (s : State) :
    startSync m t slot (markTimed s) =
      if badMask s m then raiseMiss 4 0 0 slot (markTimed s)
      else if s.cluster.csync.isSome then raiseMiss 5 0 0 slot (markTimed s)
      else tagUp t { markTimed s with cluster := { s.cluster with csync := some (m, t, s.cycle) } } := by
  unfold startSync
  have hmask : clusterMask (markTimed s) (markTimed s).cur.ctx = clusterMask s s.cur.ctx := clusterMask_markTimed s _
  rw [hmask]
  rfl

/-- CSYNC passes its checks of the tag (R286). -/
theorem execCsync_tagged {s : State} {a t : BitVec 6} (h : tagChecks s t = []) :
    exec (.csync a t) s = .next (startSync ((rs s a).extractLsb' 0 16) t (slotN s) (markTimed s)) := by
  change Host.Outcome.next (issue s (firstOf (tagChecks s t)) [] _) = _
  rw [h]
  exact congrArg _ (issue_effect s _)

theorem tagCount_of_tagChecks {s : State} {t : BitVec 6} (h : tagChecks s t = []) : tagCount s t.toNat < 255 := by
  have room := (List.append_eq_nil_iff.mp h).2
  have le : tagCount s t.toNat < 256 := (SMap.get 0 s.tags t.toNat).isLt
  by_contra full
  have : tagCount s t.toNat = 255 := by omega
  simp [failIf, this] at room

/-- CSYNC with a mask of its placement, while none is outstanding, takes its tag (R283, R286). -/
theorem csync_taken {s : State} {a t : BitVec 6} (hg : tagChecks s t = []) (hi : ((rs s a).extractLsb' 0 16).getLsbD s.myIndex = true)
    (hm : (rs s a).extractLsb' 0 16 &&& ~~~(clusterMask s s.cur.ctx) = 0) (hn : s.cluster.csync = none) :
    ∃ u, exec (.csync a t) s = .next u ∧ u.cluster.csync = some ((rs s a).extractLsb' 0 16, t, s.cycle) ∧
      tagCount u t.toNat = tagCount s t.toNat + 1 ∧ (cx u).bank = (cx s).bank ∧ u.mem = s.mem := by
  have good : badMask s ((rs s a).extractLsb' 0 16) = false := by simp [badMask, hi, hm]
  have count : tagCount { markTimed s with cluster := { s.cluster with csync := some ((rs s a).extractLsb' 0 16, t, s.cycle) } } t.toNat < 255 :=
    (tagCount_of_tagChecks hg : tagCount s t.toNat < 255)
  have bank : (cx (markTimed s)).bank = (cx s).bank := by rw [markTimed, cx_setCx]
  refine ⟨_, execCsync_tagged hg, ?_⟩
  rw [startSync_markTimed, if_neg (by simp [good]), if_neg (by simp [hn])]
  exact ⟨rfl, tagCount_tagUp t _ count, bank, rfl⟩

/-- CSYNC with a bad mask, or while one is outstanding, raises TIMING_MISS (R283). -/
theorem csync_missed {s : State} {a t : BitVec 6} {c : CtxId} (hg : tagChecks s t = []) (hc : primaryCtx s = some c)
    (hp : (getCtx s c).pend.miss = none) :
    let bad := ((rs s a).extractLsb' 0 16).getLsbD s.myIndex = false ∨ (rs s a).extractLsb' 0 16 &&& ~~~(clusterMask s s.cur.ctx) ≠ 0
    (bad ∨ s.cluster.csync.isSome = true) → ∃ u, exec (.csync a t) s = .next u ∧ u.cluster = s.cluster ∧ u.tags = s.tags ∧
      (bad → (getCtx u c).pend.miss = some (BitVec.ofNat 64 (4 * 2 ^ 16 + slotN s))) ∧
      (¬ bad → (getCtx u c).pend.miss = some (BitVec.ofNat 64 (5 * 2 ^ 16 + slotN s))) ∧ u.mem = s.mem := by
  intro bad h
  have hc' : primaryCtx (markTimed s) = some c := (primaryCtx_markTimed s).trans hc
  have hp' : (getCtx (markTimed s) c).pend.miss = none := by rw [pend_markTimed]; exact hp
  have misses : ∀ k, (getCtx (raiseMiss k 0 0 (slotN s) (markTimed s)) c).pend.miss = some (BitVec.ofNat 64 (k * 2 ^ 16 + slotN s)) :=
    fun k => by simpa only [Nat.zero_mul, Nat.add_zero] using raiseMiss_pends k 0 0 (slotN s) hc' hp'
  have only := fun k => raiseMiss_onlyPend k 0 0 (slotN s) (markTimed s)
  refine ⟨_, execCsync_tagged hg, ?_⟩
  rw [startSync_markTimed]
  by_cases hb : bad
  · rw [if_pos ((badMask_iff s _).mpr hb)]
    exact ⟨(only 4).cluster, (only 4).tags, fun _ => misses 4, fun good => absurd hb good, (only 4).mem⟩
  · rw [if_neg (fun e => hb ((badMask_iff s _).mp e)), if_pos (h.resolve_left hb)]
    exact ⟨(only 5).cluster, (only 5).tags, fun worse => absurd worse hb, fun _ => misses 5, (only 5).mem⟩

/-! PBAR (R313, R317) -/

theorem failUnfilled_onlyPend (l : List GEntry) (s : State) : OnlyPend s (failUnfilled l s) :=
  List.foldlRecOn (motive := OnlyPend s) l _ (OnlyPend.refl s) (fun u hu e _ => by
    split
    · exact hu
    · exact hu.trans (lateIn_onlyPend _ _ _ _ u))

/-- What is left in the two receive buffers at the end of a step is discarded (R312, R440). -/
def dropRx (s : State) : State := if s.gate.rx.isEmpty then s else raiseMiss 1 4 0 0 { s with gate := { s.gate with rx := [] } }
def dropFi (s : State) : State := if s.gate.fi.isEmpty then s else raiseMiss 1 5 0 0 { s with gate := { s.gate with fi := [] } }
theorem dropLeft_eq (s : State) : dropLeft s = dropFi (dropRx s) := rfl

theorem OnlyPend.withGate {s t : State} {g : Gateway} (h : OnlyPend { s with gate := g } t) (hg : g.seq = s.gate.seq) : OnlyPend s t :=
  ⟨h.self, h.cur, h.plans, h.seq.trans hg, h.replan, h.pbarTick, h.kept, h.cluster, h.tags, h.flight, h.mem, h.plan⟩

theorem dropRx_onlyPend (s : State) : OnlyPend s (dropRx s) := by
  unfold dropRx
  split
  · exact OnlyPend.refl s
  · exact (raiseMiss_onlyPend 1 4 0 0 _).withGate rfl
theorem dropFi_onlyPend (s : State) : OnlyPend s (dropFi s) := by
  unfold dropFi
  split
  · exact OnlyPend.refl s
  · exact (raiseMiss_onlyPend 1 5 0 0 _).withGate rfl
theorem dropLeft_onlyPend (s : State) : OnlyPend s (dropLeft s) := by
  rw [dropLeft_eq]
  exact (dropRx_onlyPend s).trans (dropFi_onlyPend _)

/-! The record of a plan (R310, R313) -/

theorem recOf_own {s : State} {q : Nat} (h : s.gate.seq = q) : recOf s q = keepGate s := if_pos h
theorem recOf_other {s : State} {q : Nat} (h : s.gate.seq ≠ q) : recOf s q = SMap.get (freshKept q) s.kept q := if_neg h

/-- The re-plan record of a plan is that of the gateway's own, or a kept one. -/
theorem recOf_replan_congr {s t : State} (hseq : t.gate.seq = s.gate.seq) (hr : t.replan = s.replan) (hk : t.kept = s.kept) (q : Nat) :
    (recOf t q).replan = (recOf s q).replan := by
  unfold recOf
  rw [hseq, hk]
  split
  · exact hr
  · rfl

/-- The state in which what a plan has on this core is that of its gateway. -/
def planView (q : Nat) (s : State) : State :=
  if s.gate.seq = q then s
  else { s with gate := (recOf s q).gate, replan := (recOf s q).replan, pbarTick := (recOf s q).pbarTick, stop := (recOf s q).stop }

theorem planView_replan (q : Nat) (s : State) : (recOf (planView q s) q).replan = (recOf s q).replan := by
  unfold planView
  split
  · rfl
  next h =>
    unfold recOf
    dsimp only
    rw [if_neg h]
    split
    · rfl
    · rfl

theorem planView_frame (q : Nat) (s : State) : (planView q s).plans = s.plans ∧ (planView q s).ctxs = s.ctxs ∧
    (planView q s).cur = s.cur ∧ (planView q s).cluster = s.cluster ∧ (planView q s).mem = s.mem := by
  unfold planView
  split
  · exact ⟨rfl, rfl, rfl, rfl, rfl⟩
  · exact ⟨rfl, rfl, rfl, rfl, rfl⟩

/-- The gateway of the core back in its place, and what its plan has in the record of that plan. -/
def putBack (q : Nat) (s t : State) : State :=
  { t with gate := s.gate, replan := s.replan, pbarTick := s.pbarTick, stop := s.stop,
           kept := SMap.put t.kept q { recOf s q with gate := t.gate, replan := t.replan, pbarTick := t.pbarTick, stop := t.stop } }

theorem withPlan_own {f : State → State} {q : Nat} {s : State} (h : s.gate.seq = q) : withPlan q f s = f (planView q s) := by
  rw [withPlan, planView, if_pos h, if_pos h]
theorem withPlan_other {f : State → State} {q : Nat} {s : State} (h : s.gate.seq ≠ q) :
    withPlan q f s = putBack q s (f (planView q s)) := by
  rw [withPlan, planView, if_neg h, if_neg h]
  rfl

theorem recOf_putBack {q : Nat} {s : State} (h : s.gate.seq ≠ q) (t : State) :
    recOf (putBack q s t) q = { recOf s q with gate := t.gate, replan := t.replan, pbarTick := t.pbarTick, stop := t.stop } :=
  (recOf_other (s := putBack q s t) h).trans ((SMap.get_put _ _ _ _ _).trans (if_pos rfl))

/-- What a plan's own gateway undergoes stands in its record; the rest of the state is as it left it. -/
theorem withPlan_spec {f : State → State} {q : Nat} {s : State} (hseq : ∀ u, (f u).gate.seq = u.gate.seq) :
    (recOf (withPlan q f s) q).gate = (f (planView q s)).gate ∧ (recOf (withPlan q f s) q).pbarTick = (f (planView q s)).pbarTick ∧
    (recOf (withPlan q f s) q).replan = (f (planView q s)).replan ∧ (withPlan q f s).ctxs = (f (planView q s)).ctxs ∧
    (withPlan q f s).cur = (f (planView q s)).cur ∧ (withPlan q f s).cluster = (f (planView q s)).cluster := by
  by_cases h : s.gate.seq = q
  · have view : planView q s = s := if_pos h
    rw [withPlan_own h, view, recOf_own ((hseq s).trans h)]
    exact ⟨rfl, rfl, rfl, rfl, rfl, rfl⟩
  · rw [withPlan_other h, recOf_putBack h]
    exact ⟨rfl, rfl, rfl, rfl, rfl, rfl⟩

theorem cx_congr {s t : State} (hc : t.cur.ctx = s.cur.ctx) (h : t.ctxs = s.ctxs) : cx t = cx s := by
  unfold cx
  rw [hc]
  exact getCtx_congr h _

/-! The step that PBAR starts (R310, R313, R317) -/

/-- A switch depends on the plan of the context, the placed plans and the re-plan record of the plan. -/
theorem switchAt_congr {s t : State} (hp : t.plans = s.plans) (hx : (cx t).plan = (cx s).plan)
    (hr : (recOf t (cx s).plan).replan = (recOf s (cx s).plan).replan) (k : Nat) : switchAt t k = switchAt s k := by
  unfold switchAt
  rw [hx, show findPlan t = findPlan s from funext fun q => by rw [findPlan, hp]; rfl]
  cases h : findPlan s (cx s).plan with
  | none => rfl
  | some p =>
    have seq : p.seq = (cx s).plan := by simpa using List.find?_some h
    dsimp only
    rw [seq, hr]

theorem releaseFreq_heldFreq (s : State) : (releaseFreq s).cluster.heldFreq = none := by
  unfold releaseFreq
  split
  · rfl
  next h => exact h

/-- The release of a held FREQ touches the clock of the cluster only (R294). -/
theorem releaseFreq_frame (s : State) : (releaseFreq s).gate = s.gate ∧ (releaseFreq s).pbarTick = s.pbarTick ∧
    (releaseFreq s).ctxs = s.ctxs ∧ (releaseFreq s).cur = s.cur ∧ (releaseFreq s).plans = s.plans ∧
    (releaseFreq s).replan = s.replan ∧ (releaseFreq s).kept = s.kept := by
  unfold releaseFreq
  split
  · exact ⟨rfl, rfl, rfl, rfl, rfl, rfl, rfl⟩
  · exact ⟨rfl, rfl, rfl, rfl, rfl, rfl, rfl⟩

theorem replanPoint_frame (k : Nat) (s : State) : (replanPoint k s).gate = s.gate ∧ (replanPoint k s).pbarTick = s.pbarTick ∧
    (replanPoint k s).ctxs = s.ctxs ∧ (replanPoint k s).cur.ctx = s.cur.ctx ∧ (replanPoint k s).cluster = s.cluster := by
  unfold replanPoint
  split
  · exact ⟨rfl, rfl, rfl, rfl, rfl⟩
  · exact ⟨rfl, rfl, rfl, rfl, rfl⟩

theorem replanPoint_switches {k cls : Nat} {target : Dbl} {s : State} (h : switchAt s k = some (cls, target)) :
    (replanPoint k s).replan.var = BitVec.ofNat 2 cls ∧ (replanPoint k s).cur.npc = target ∧ (replanPoint k s).cur.gap = 1 := by
  unfold replanPoint
  rw [h]
  exact ⟨rfl, rfl, rfl⟩

/-- The state before a re-planning point: the lists of the step current, the barrier over, no arrival. -/
structure StepBegun (s t : State) (k : BitVec 12) : Prop where
  step : t.gate.step = some k
  seq : t.gate.seq = s.gate.seq
  barrier : t.pbarTick = none
  arrived : (cx t).arrived = none
  plan : (cx t).plan = (cx s).plan
  plans : t.plans = s.plans
  replan : t.replan = s.replan
  kept : t.kept = s.kept
  cluster : t.cluster = s.cluster

theorem startStep_begins (r : Bool) (k : BitVec 12) (rel : Nat) (s : State) :
    ∃ t, StepBegun s t k ∧ startStep r k rel s = if r then replanPoint k.toNat (releaseFreq t) else t := by
  have h := ((failUnfilled_onlyPend s.gate.list s).trans (failUnfilled_onlyPend s.gate.foList _)).trans (dropLeft_onlyPend _)
  unfold startStep
  generalize dropLeft (failUnfilled s.gate.foList (failUnfilled s.gate.list s)) = u at h ⊢
  refine ⟨_, ⟨?_, ?_, ?_, ?_, ?_, ?_, ?_, ?_, ?_⟩, rfl⟩
  case refine_4 => rw [cx_setCx]
  case refine_5 =>
    rw [cx_setCx]
    change (getCtx u u.cur.ctx).plan = _
    rw [h.plan, h.cur]
    rfl
  · rfl
  · exact h.seq
  · rfl
  · exact h.plans
  · exact h.replan
  · exact h.kept
  · exact h.cluster

/-- What a step of the placement begins with (R310, R313, R317). -/
theorem startStep_spec (r : Bool) (k : BitVec 12) (rel : Nat) (s : State) :
    (startStep r k rel s).gate.step = some k ∧ (startStep r k rel s).gate.seq = s.gate.seq ∧
    (startStep r k rel s).pbarTick = none ∧ (cx (startStep r k rel s)).arrived = none ∧
    (r = true → (startStep r k rel s).cluster.heldFreq = none) ∧ (r = false → (startStep r k rel s).cluster = s.cluster) ∧
    (∀ cls target, r = true → switchAt s k.toNat = some (cls, target) → (startStep r k rel s).replan.var = BitVec.ofNat 2 cls ∧
      (startStep r k rel s).cur.npc = target ∧ (startStep r k rel s).cur.gap = 1) := by
  obtain ⟨t, begun, run⟩ := startStep_begins r k rel s
  rw [run]
  cases r with
  | false =>
    exact ⟨begun.step, begun.seq, begun.barrier, begun.arrived, fun h => absurd h (by decide), fun _ => begun.cluster,
      fun _ _ h => absurd h (by decide)⟩
  | true =>
    rw [if_pos rfl]
    obtain ⟨gate, barrier, ctxs, ctx, cluster⟩ := replanPoint_frame k.toNat (releaseFreq t)
    obtain ⟨gate', barrier', ctxs', cur', plans', replan', kept'⟩ := releaseFreq_frame t
    have same : cx (replanPoint k.toNat (releaseFreq t)) = cx t :=
      cx_congr (ctx.trans (congrArg Cur.ctx cur')) (ctxs.trans ctxs')
    have same' : cx (releaseFreq t) = cx t := cx_congr (congrArg Cur.ctx cur') ctxs'
    have switch : switchAt (releaseFreq t) k.toNat = switchAt s k.toNat :=
      switchAt_congr (plans'.trans begun.plans) ((congrArg Ctx.plan same').trans begun.plan)
        (recOf_replan_congr ((congrArg Gateway.seq gate').trans begun.seq) (replan'.trans begun.replan) (kept'.trans begun.kept) _) _
    rw [same, gate, gate', barrier, barrier', cluster]
    exact ⟨begun.step, begun.seq, begun.barrier, begun.arrived, fun _ => releaseFreq_heldFreq t, fun h => absurd h (by decide),
      fun cls target _ h => replanPoint_switches (switch.trans h)⟩

/-- PBAR's word when the core has seen the release: its step begins, unless a cause of the switch stops it (R313, R317). -/
theorem execPbar_released {s : State} {r : Bool} {k : BitVec 12} {rel : Nat} (hp : (cx s).primary = true)
    (hr : releaseSeen s (cx s) = some rel) :
    exec (.pbar r k) s = .next (issue s (switchCause s r k.toNat) [] (fun s => withPlan (cx s).plan (startStep r k rel) (markTimed s))) := by
  change (if !(cx s).primary then _ else match releaseSeen s (cx s) with | some rel => _ | none => _) = _
  rw [hp, hr]
  rfl

theorem pbar_starts {s : State} {r : Bool} {k : BitVec 12} {rel : Nat} (hp : (cx s).primary = true)
    (hr : releaseSeen s (cx s) = some rel) (hc : switchCause s r k.toNat = []) :
    ∃ u, exec (.pbar r k) s = .next u ∧ (recOf u (cx s).plan).gate.step = some k ∧ (recOf u (cx s).plan).pbarTick = none ∧
      (cx u).arrived = none ∧ u.mem = s.mem ∧
      (r = true → u.cluster.heldFreq = none) ∧ (r = false → u.cluster = s.cluster) ∧
      (∀ cls target, r = true → switchAt s k.toNat = some (cls, target) →
        (recOf u (cx s).plan).replan.var = BitVec.ofNat 2 cls ∧ u.cur.npc = target ∧ u.cur.gap = 1) := by
  have run := execPbar_released (k := k) (r := r) hp hr
  rw [hc, issue_effect] at run
  refine ⟨_, run, ?_⟩
  obtain ⟨gate, barrier, replan, ctxs, cur, cluster⟩ :=
    withPlan_spec (q := (cx s).plan) (s := markTimed s) (fun u => (startStep_spec r k rel u).2.1)
  obtain ⟨step, -, none, arrived, held, kept, switches⟩ := startStep_spec r k rel (planView (cx s).plan (markTimed s))
  obtain ⟨plans', ctxs', cur', cluster', -⟩ := planView_frame (cx s).plan (markTimed s)
  have context : cx (withPlan (cx s).plan (startStep r k rel) (markTimed s)) =
      cx (startStep r k rel (planView (cx s).plan (markTimed s))) :=
    cx_congr (congrArg Cur.ctx cur) ctxs
  have switch : switchAt (planView (cx s).plan (markTimed s)) k.toNat = switchAt s k.toNat := by
    have plan : (cx (planView (cx s).plan (markTimed s))).plan = (cx s).plan := by
      rw [cx_congr (congrArg Cur.ctx cur') ctxs']
      exact plan_markTimed s _
    exact switchAt_congr (s := s) plans' plan (planView_replan _ (markTimed s)) _
  rw [gate, barrier, replan, cur, cluster, context]
  exact ⟨step, none, arrived, withPlan_mem (startStep_mem r k rel) _ _, held, fun h => (kept h).trans cluster',
    fun cls target h e => switches cls target h (switch.trans e)⟩

/-- A switch whose target is bad traps (R106, R317). -/
theorem pbar_traps {s : State} {r : Bool} {k : BitVec 12} {rel : Nat} (hp : (cx s).primary = true)
    (hr : releaseSeen s (cx s) = some rel) (hc : switchCause s r k.toNat ≠ []) : ∃ w x, Traps (.pbar r k) s 5 w x := by
  have class5 : ∀ c ∈ switchCause s r k.toNat, c.cls = 5 := fun c h => by
    unfold switchCause at h
    split at h
    · split at h
      · exact targetCause_cls h
      · exact absurd h List.not_mem_nil
    · exact absurd h List.not_mem_nil
  obtain ⟨c, l, hl⟩ := List.exists_cons_of_ne_nil hc
  rw [hl] at class5
  obtain ⟨cls, code, v⟩ := c
  have five : cls = 5 := class5 _ List.mem_cons_self
  subst five
  exact ⟨code, v, traps_class5 (execPbar_released hp hr) hl (fun d hd => class5 d (List.mem_cons_of_mem _ hd)) (.inl rfl)⟩

/-- PBAR of a context that is not primary (R290, R313). -/
theorem pbar_late {s : State} {r : Bool} {k : BitVec 12} (hp : (cx s).primary = false) :
    ∃ u, exec (.pbar r k) s = .next u ∧
      ((cx s).pend.late = none → (cx u).pend.late = some (lateTval 3 0 0 0 (slotN s))) ∧ u.cur = s.cur ∧ u.mem = s.mem := by
  have run : exec (.pbar r k) s = .next (raiseLate s.cur.ctx (lateTval 3 0 0 0 (slotN s)) (markTimed s)) := by
    change (if !(cx s).primary then _ else _) = _
    rw [hp, issue_effect]
    rfl
  have only := raiseLate_onlyPend s.cur.ctx (lateTval 3 0 0 0 (slotN s)) (markTimed s)
  refine ⟨_, run, fun h => ?_, only.cur, only.mem⟩
  rw [cx, only.cur]
  exact raiseLate_pends _ (by rw [pend_markTimed]; exact h)

theorem barrierWords : Claim.BarrierWords := by
  intro s a t r k
  refine ⟨csync_taken, fun c hg hc hp => csync_missed hg hc hp, fun hp hr => ⟨?_, by simp⟩, fun rel => pbar_starts, fun rel => pbar_traps, pbar_late⟩
  change (if !(cx s).primary then _ else match releaseSeen s (cx s) with | some rel => _ | none => _) = _
  rw [hp, hr]
  rfl

end Sys2Proof.Machine
end

section
/-! SUPPORT. O35: the hops of service flits, the departures and arrivals of the gateway, and the barrier. -/
namespace Sys2Proof.Machine

-- One declaration after another, as in the parts above.
set_option Elab.async false

/-! Service flits (R304) -/

/-- The only flit of the core, once it has arrived at a station, may leave it. -/
theorem mayHop_alone {s : State} {c : CtxId} {a : Access} (ho : ownGlobal s = [(c, a)]) (hh : a.hops ≠ 0) (ht : a.tick ≤ tickNow s) :
    mayHop s a = true := by
  have due : decide (tickNow s < a.tick) = false := decide_eq_false (Nat.not_lt.mpr ht)
  unfold mayHop
  dsimp only
  rw [ho, List.any_cons, List.any_nil, due]
  simp [hh, ht]

theorem execServiceFlitHop_between {s : State} (h : tickNow s % 8 ≠ 7) : exec .serviceFlitHop s = .next s := by
  change Host.Outcome.next (match (ownGlobal s).find? (fun p => mayHop s p.2) with | some (c, a) => _ | none => s) = _
  split
  · rw [if_pos h]
  · rfl

/-- Ticks of a flit's next hop: four on the interposer, two on a mesh link (R304). -/
def hopTicks (s : State) (a : Access) : Nat :=
  if (rangeAddr a).any (fun r => iaCore r.2 / 160 != s.myDie) && a.hops == hopsOf s a then 4 else 2

theorem execServiceFlitHop_alone {s : State} {c : CtxId} {a : Access} (ho : ownGlobal s = [(c, a)]) (hh : a.hops ≠ 0)
    (ht : a.tick ≤ tickNow s) (h8 : tickNow s % 8 = 7) :
    exec .serviceFlitHop s = .next (putOut c a (fun b => some { b with hops := b.hops - 1, tick := tickNow s + hopTicks s a }) s) := by
  have first : (ownGlobal s).find? (fun p => mayHop s p.2) = some (c, a) := by
    rw [ho]
    exact List.find?_cons_of_pos (p := fun p : CtxId × Access => mayHop s p.2) (a := (c, a)) (mayHop_alone ho hh ht)
  change Host.Outcome.next (match (ownGlobal s).find? (fun p => mayHop s p.2) with | some (c, a) => _ | none => s) = _
  rw [first]
  dsimp only
  rw [if_neg (not_not.mpr h8)]
  rfl

theorem getCtx_putOut_alone {s : State} {c : CtxId} {a b : Access} {f : Access → Option Access} (h : (getCtx s c).out = [a])
    (hf : f a = some b) : (getCtx (putOut c a f s) c).out = [b] := by
  have own : a.is a = true := by simp [Access.is]
  rw [putOut, getCtx_setCtx_self]
  simp [h, own, hf]

theorem serviceHops (s : State) (c : CtxId) (a : Access) (ho : ownGlobal s = [(c, a)]) (hout : (getCtx s c).out = [a]) (hh : a.hops ≠ 0) :
    (a.tick ≤ tickNow s → tickNow s % 8 = 7 → ∃ t b, exec .serviceFlitHop s = .next t ∧ (getCtx t c).out = [b] ∧
      b.hops + 1 = a.hops ∧ (b.tick = tickNow s + 2 ∨ b.tick = tickNow s + 4) ∧ b.op = a.op ∧ t.mem = s.mem) ∧
    (tickNow s % 8 ≠ 7 → exec .serviceFlitHop s = .next s) := by
  refine ⟨fun ht h8 => ⟨_, _, execServiceFlitHop_alone ho hh ht h8, getCtx_putOut_alone hout rfl, ?_, ?_, rfl, rfl⟩,
    execServiceFlitHop_between⟩
  · exact Nat.sub_add_cancel (Nat.pos_of_ne_zero hh)
  · unfold hopTicks
    split
    · exact .inr rfl
    · exact .inl rfl

/-! Departures of the route list (R308, R311) -/

theorem dueTick_running {s : State} (h : s.stop = none) (t : Nat) : dueTick s t = seen s t := by
  simp [dueTick, h]

/-- What a departing list of one entry does. -/
theorem departList_one (s : State) (fab : Bool) (e : GEntry) : departList s fab [e] =
    if e.gone || !dueTick s e.dep then ([e], s)
    else if (inTime e).length < e.count then ([{ e with gone := true }], lateIn 1 e.index (inTime e).length 0 s)
    else if fab && fabricEdge s then ([{ e with gone := true }], s)
    else ([{ e with gone := true }], { s with gate := { s.gate with flits := s.gate.flits ++
      [{ tick := if fab then e.dep + 2 else e.dep + 2 * hops (s.myCluster % 10) (e.dst / 16 % 10) + 2,
         dst := if fab then 2 ^ 16 + e.dst else e.dst, link := e.link, words := (inTime e).map (·.2) }] } }) := by
  unfold departList
  rw [List.foldl_cons, List.foldl_nil]
  rfl

/-- The departures of a gateway whose only list is that of the step. -/
theorem departs_list {s u : State} {l : List GEntry} (hl : departList s false s.gate.list = (l, u)) (hold : u.gate.old = [])
    (hfo : u.gate.foList = []) (hfoOld : u.gate.foOld = []) :
    departs s = { u with gate := { u.gate with list := l, old := [], foList := [], foOld := [] } } := by
  unfold departs
  rw [hl]
  dsimp only
  rw [hold]
  simp only [departList, List.foldl_nil, hfo, hfoOld]
  rfl

/-- The flit of a full entry of the route list: 2 ticks a hop, and 2 (R308). -/
def routeFlit (s : State) (e : GEntry) : Flit :=
  { tick := e.dep + 2 * hops (s.myCluster % 10) (e.dst / 16 % 10) + 2, dst := e.dst, link := e.link, words := (inTime e).map (·.2) }

section
variable {s : State} {e : GEntry} (hstop : s.stop = none) (hl : s.gate.list = [e]) (hold : s.gate.old = [])
  (hfo : s.gate.foList = []) (hfoOld : s.gate.foOld = [])
include hstop hl hold hfo hfoOld

/-- A full entry departs at its tick (R308). -/
theorem departs_full (hg : e.gone = false) (hs : seen s e.dep = true) (hn : (inTime e).length = e.count) :
    (departs s).gate.list = [{ e with gone := true }] ∧ (departs s).ctxs = s.ctxs ∧
    (departs s).gate.flits = s.gate.flits ++ [routeFlit s e] := by
  have one := departList_one s false e
  rw [if_neg (by simp [hg, dueTick_running hstop, hs]), if_neg (by omega), if_neg (by simp), ← hl] at one
  rw [departs_list one hold hfo hfoOld]
  exact ⟨rfl, rfl, rfl⟩

/-- An entry that is not full at its tick is lost (R311). -/
theorem departs_late {c : CtxId} (hg : e.gone = false) (hs : seen s e.dep = true) (hn : (inTime e).length < e.count) (hc : primaryCtx s = some c)
    (hp : (getCtx s c).pend.late = none) :
    (departs s).gate.list = [{ e with gone := true }] ∧ (departs s).gate.flits = s.gate.flits ∧
    (getCtx (departs s) c).pend.late = some (lateTval 1 (stepOf s) e.index (inTime e).length 0) := by
  have one := departList_one s false e
  rw [if_neg (by simp [hg, dueTick_running hstop, hs]), if_pos hn, ← hl] at one
  have gate := lateIn_gate 1 e.index (inTime e).length 0 s
  have late : (getCtx (lateIn 1 e.index (inTime e).length 0 s) c).pend.late =
      some (lateTval 1 (stepOf s) e.index (inTime e).length 0) := by
    rw [lateIn, hc]
    exact raiseLate_pends _ hp
  rw [departs_list one (by rw [gate]; exact hold) (by rw [gate]; exact hfo) (by rw [gate]; exact hfoOld)]
  exact ⟨rfl, by rw [← gate], late⟩

/-- Before its tick an entry stays (R308). -/
theorem departs_early (hs : seen s e.dep = false) :
    (departs s).gate.list = [e] ∧ (departs s).gate.flits = s.gate.flits ∧ (departs s).ctxs = s.ctxs := by
  have one := departList_one s false e
  rw [if_pos (by simp [dueTick_running hstop, hs]), ← hl] at one
  rw [departs_list one hold hfo hfoOld, hl]
  exact ⟨rfl, rfl, rfl⟩

end

/-! Arriving flits (R308, R312) -/

theorem namedPlan_own (s : State) : namedPlan s 0 = s.gate.seq := if_pos rfl

/-- A flit for the core's own plan, while its placement runs (R308, R315). -/
theorem execRouteFlitArrive_running {s : State} (h : s.stop = none) (ws : List Dbl) :
    exec (.routeFlitArrive ws) s = .next ((ws.take 8).foldl (enterRx false (tickNow s)) s) := by
  change Host.Outcome.next (withPlan (namedPlan s 0) (flitIn none (ws.take 8)) s) = _
  rw [namedPlan_own, withPlan, if_pos rfl, flitIn, h, if_neg (by simp)]
  rfl

theorem foldl_enterRx_room (t : Nat) : ∀ (ws : List Dbl) (s : State), s.gate.rx.length + ws.length ≤ 64 →
    ws.foldl (enterRx false t) s = { s with gate := { s.gate with rx := s.gate.rx ++ ws.map (fun v => (t, v)) } }
  | [], s, _ => by simp
  | v :: ws, s, h => by
    rw [List.length_cons] at h
    have enter : enterRx false t s v = { s with gate := { s.gate with rx := s.gate.rx ++ [(t, v)] } } := by
      rw [enterRx, if_neg (by decide), if_pos (by omega)]
    rw [List.foldl_cons, enter, foldl_enterRx_room t ws _ (by simp; omega)]
    simp [List.append_assoc]

/-- The words that find the receive buffer full change only what is pending (R312). -/
theorem foldl_enterRx_full (t : Nat) {c : CtxId} {v : Dbl} : ∀ (ws : List Dbl) (s : State), s.gate.rx.length = 64 →
    (ws.foldl (enterRx false t) s).gate = s.gate ∧ (ws.foldl (enterRx false t) s).mem = s.mem ∧
    ((getCtx s c).pend.miss = some v → (getCtx (ws.foldl (enterRx false t) s) c).pend.miss = some v)
  | [], s, _ => ⟨rfl, rfl, id⟩
  | w :: ws, s, h => by
    have enter : enterRx false t s w = raiseMiss 1 4 0 0 s := by
      rw [enterRx, if_neg (by decide), if_neg (by omega)]
    have gate := raiseMiss_gate 1 4 0 0 s
    obtain ⟨gate', mem', miss'⟩ := foldl_enterRx_full t (c := c) (v := v) ws (raiseMiss 1 4 0 0 s) (by rw [gate]; exact h)
    rw [List.foldl_cons, enter]
    exact ⟨gate'.trans gate, mem'.trans (raiseMiss_mem ..), fun hm => miss' (raiseMiss_merges _ _ _ _ hm)⟩

theorem routeFlits_full {s : State} {ws : List Dbl} {c : CtxId} (h : s.stop = none) (hw : ws ≠ []) (hr : s.gate.rx.length = 64)
    (hc : primaryCtx s = some c) : ∃ t, exec (.routeFlitArrive ws) s = .next t ∧ t.gate = s.gate ∧ t.mem = s.mem ∧
      ((getCtx s c).pend.miss = none → (getCtx t c).pend.miss = some (BitVec.ofNat 64 (2 ^ 16 + 4 * 2 ^ 8))) := by
  obtain ⟨w, l, rfl⟩ := List.exists_cons_of_ne_nil hw
  refine ⟨_, execRouteFlitArrive_running h _, ?_⟩
  rw [List.take_succ_cons, List.foldl_cons]
  have enter : enterRx false (tickNow s) s w = raiseMiss 1 4 0 0 s := by
    rw [enterRx, if_neg (by decide), if_neg (by omega)]
  have gate := raiseMiss_gate 1 4 0 0 s
  obtain ⟨gate', mem', miss'⟩ := foldl_enterRx_full (tickNow s) (c := c) (v := BitVec.ofNat 64 (2 ^ 16 + 4 * 2 ^ 8)) (l.take 7)
    (raiseMiss 1 4 0 0 s) (by rw [gate]; exact hr)
  rw [enter]
  refine ⟨gate'.trans gate, mem'.trans (raiseMiss_mem ..), fun hm => miss' ?_⟩
  have pends := raiseMiss_pends 1 4 0 0 hc hm
  simpa only [Nat.one_mul, Nat.zero_mul, Nat.add_zero] using pends

/-! The barrier of the placement (R313) -/

theorem arriveAt_waiting {s : State} {c : CtxId} (hs : (recOf s (getCtx s c).plan).stop = none) (hb : atBarrier (getCtx s c) = true)
    (ha : (getCtx s c).arrived = none) :
    arriveAt s c = if quiet s c then setCtx s c { getCtx s c with arrived := some (takenAt s) } else s := by
  unfold arriveAt
  simp only [hs, hb, ha, Option.isNone_none, Bool.true_and]

theorem namedPlan_named {q : Nat} (s : State) (h : q ≠ 0) : namedPlan s q = q := if_neg h

/-- The release of the barrier, with the steps of the other cores (R313, R317). -/
def releaseAt (r : Nat) (ks : List (BitVec 12)) (s : State) : State := { s with pbarTick := some r, replan := { s.replan with steps := ks } }

/-- A release tick no earlier than the least is taken (R313). -/
theorem execPbarRelease_taken {s : State} {c : CtxId} {q r : Nat} (ks : List (BitVec 12)) (hq : q ≠ 0) (hp : (getCtx s c).plan = q)
    (hn : (recOf s q).pbarTick = none) (hr : releaseOk s r c = true) :
    exec (.pbarRelease r ks q) s = .next (withPlan q (releaseAt r ks) s) := by
  have any : allCtx.any (fun c => (getCtx s c).plan == q && releaseOk s r c) = true :=
    List.any_eq_true.mpr ⟨c, mem_allCtx c, by simp [hp, hr]⟩
  change Host.Outcome.next (if (recOf s (namedPlan s q)).pbarTick.isNone &&
    allCtx.any (fun c => (getCtx s c).plan == namedPlan s q && releaseOk s r c) then _ else s) = _
  rw [namedPlan_named s hq, hn, any]
  rfl

theorem pbarReleases {s : State} {c : CtxId} {p : Plan} {a r q : Nat} {ks : List (BitVec 12)} (hq : q ≠ 0) (hp : (getCtx s c).plan = q)
    (hn : (recOf s q).pbarTick = none) (ha : (getCtx s c).arrived = some a) (hf : findPlan s q = some p) (h8 : r % 8 = 0)
    (hl : leastRelease s p a ≤ r) : ∃ t, exec (.pbarRelease r ks q) s = .next t ∧ (recOf t q).pbarTick = some r ∧
      (recOf t q).replan.steps = ks ∧ t.ctxs = s.ctxs ∧ t.mem = s.mem := by
  have ok : releaseOk s r c = true := by
    unfold releaseOk
    simp [ha, hp, hf, h8, hl]
  refine ⟨_, execPbarRelease_taken ks hq hp hn ok, ?_⟩
  obtain ⟨-, barrier, replan, ctxs, -, -⟩ :=
    withPlan_spec (q := q) (s := s) (f := releaseAt r ks) (fun _ => rfl)
  obtain ⟨-, ctxs', -, -, -⟩ := planView_frame q s
  rw [barrier, replan, ctxs]
  exact ⟨rfl, rfl, ctxs', withPlan_mem (f := releaseAt r ks) (fun _ => rfl) q s⟩

theorem execPbarRelease_off {s : State} {r : Nat} (ks : List (BitVec 12)) (h : r % 8 ≠ 0) : exec (.pbarRelease r ks) s = .next s := by
  have no : ∀ c, releaseOk s r c = false := fun c => by
    unfold releaseOk
    dsimp only
    split
    · simp [h]
    · rfl
  have none : allCtx.any (fun c => (getCtx s c).plan == namedPlan s 0 && releaseOk s r c) = false :=
    List.any_eq_false.mpr (fun c _ => by simp [no c])
  change Host.Outcome.next (if (recOf s (namedPlan s 0)).pbarTick.isNone &&
    allCtx.any (fun c => (getCtx s c).plan == namedPlan s 0 && releaseOk s r c) then _ else s) = _
  rw [none, Bool.and_false]
  rfl

theorem routeEvents : Claim.RouteEvents := by
  refine ⟨serviceHops, fun s e hstop hl hold hfo hfoOld hg => ⟨?full, ?late, ?early⟩, fun s ws h hn hr => ?room,
    fun s ws c => routeFlits_full, fun s c hs hb ha => ⟨fun hq => ?arrive, fun hq => ?wait⟩,
    fun s c p a r q ks => pbarReleases, fun s r ks => execPbarRelease_off ks⟩
  case full => exact fun hs hn => ⟨_, rfl, departs_full hstop hl hold hfo hfoOld hg hs hn⟩
  case late => exact fun c hs hn hc hp => ⟨_, rfl, departs_late hstop hl hold hfo hfoOld hg hs hn hc hp⟩
  case early => exact fun hs => ⟨_, rfl, departs_early hstop hl hold hfo hfoOld hs⟩
  case room =>
    rw [execRouteFlitArrive_running h, List.take_of_length_le hn, foldl_enterRx_room _ _ _ hr]
  case arrive =>
    refine ⟨_, congrArg Host.Outcome.next ((arriveAt_waiting hs hb ha).trans (if_pos hq)), ?_, rfl⟩
    rw [getCtx_setCtx_self]
  case wait => exact congrArg Host.Outcome.next ((arriveAt_waiting hs hb ha).trans (if_neg (by simp [hq])))

/-- Settles O35: a word at a time and an event at a time; what a step of the placement begins with is `startStep_spec`, and
what a plan has on this core `withPlan_spec`. -/
theorem barrierAndRoutes : Obligations.BarrierAndRoutes := ⟨barrierWords, routeEvents⟩

end Sys2Proof.Machine
end

section
/-! SUPPORT. Replies: an access of this core that has its reply leaves the list of its context, and its entry posts. -/
namespace Sys2Proof.Machine

-- One declaration after another, as in the parts above.
set_option Elab.async false

/-! The reply of a lone access (R354, R361, R366) -/

theorem report_ctxs (q : Nat) (k : BitVec 16) (a b : Dbl) (s : State) : (report q k a b s).ctxs = s.ctxs := by
  unfold report; split <;> rfl
theorem reportReply_ctxs (c : CtxId) (p : Part) (r : Reply) (s : State) : (reportReply c p r s).ctxs = s.ctxs := by
  unfold reportReply; split
  · exact report_ctxs _ _ _ _ _
  · rfl
theorem reportReply_done (c : CtxId) (p : Part) (v : Dbl) (pin : Bool) (s : State) : reportReply c p (.done v pin) s = s := rfl

/-- The context of a settled access, before its entry posts: the access has left the list. -/
theorem getCtx_putOut_none {s : State} {c : CtxId} {a : Access} (h : (getCtx s c).out = [a]) :
    getCtx (putOut c a (fun _ => none) s) c = { getCtx s c with out := [] } := by
  have own : a.is a = true := by simp [Access.is]
  rw [putOut, getCtx_setCtx_self]
  simp [h, own]

/-- A context whose accesses of one word take note of a pinned page (R364, R450). -/
def notedCtx (pin : Bool) (id : Nat) (x : Ctx) : Ctx := spreadPin pin id (notePin pin id x)

theorem notedCtx_out {pin : Bool} {id : Nat} {x : Ctx} (h : x.out = []) : (notedCtx pin id x).out = [] := by
  unfold notedCtx notePin
  split <;> simp [spreadPin, h]
theorem notedCtx_side {pin : Bool} {id : Nat} {x : Ctx} (h : x.side = []) : (notedCtx pin id x).side = [] := by
  unfold notedCtx notePin
  split <;> simp [spreadPin, h]
theorem notedCtx_frame (pin : Bool) (id : Nat) (x : Ctx) : (notedCtx pin id x).owed = x.owed ∧ (notedCtx pin id x).plan = x.plan ∧
    (notedCtx pin id x).bank = x.bank := by
  unfold notedCtx notePin
  split <;> exact ⟨rfl, rfl, rfl⟩

/-- A reply with a value, as its access concludes: the entry of a returning word posts (R366). -/
theorem conclude_done {c : CtxId} {a : Access} {p : Part} {op : GlobalOp} {ia rg : Nat} {ret t : Bool} {fn : BitVec 6} (v : Dbl) (pin : Bool)
    (s : State) (hop : a.op = .global op ia rg ret t fn) (hflag : isFlag op = false) :
    conclude c a p (.done v pin) s =
      (let u := setCtx s c (notedCtx (metPin p.op (.done v pin)) a.id (getCtx s c))
       if ret then setCtx u c (post a.id (returnEntry op (.done v pin)) s.cycle (getCtx u c)) else u) := by
  unfold conclude
  rw [hop]
  simp only [hflag, Bool.and_false, Bool.false_eq_true, if_false, reportReply_done]
  rfl

theorem getCtx_conclude_done {c : CtxId} {a : Access} {p : Part} {op : GlobalOp} {ia rg : Nat} {ret t : Bool} {fn : BitVec 6} (v : Dbl)
    (pin : Bool) (s : State) (hop : a.op = .global op ia rg ret t fn) (hflag : isFlag op = false) :
    getCtx (conclude c a p (.done v pin) s) c =
      (let x := notedCtx (metPin p.op (.done v pin)) a.id (getCtx s c)
       if ret then post a.id (returnEntry op (.done v pin)) s.cycle x else x) := by
  rw [conclude_done v pin s hop hflag]
  dsimp only
  split
  · rw [getCtx_setCtx_self, getCtx_setCtx_self]
  · rw [getCtx_setCtx_self]

/-- A lone access that is answered with a value has left, and its entry has posted if it returns (R361, R366). -/
theorem getCtx_settle_done {s : State} {c : CtxId} {a : Access} {p : Part} {op : GlobalOp} {ia rg : Nat} {ret t : Bool} {fn : BitVec 6}
    (v : Dbl) (pin : Bool) (hop : a.op = .global op ia rg ret t fn) (hflag : isFlag op = false) (hout : (getCtx s c).out = [a]) :
    (getCtx (settle c a p (.done v pin) s) c).out = [] ∧
    (ret = false → (getCtx (settle c a p (.done v pin) s) c).owed = (getCtx s c).owed) ∧
    (ret = true → ∀ o, (getCtx s c).owed = [o] → o.id = a.id → o.val = none → (getCtx (settle c a p (.done v pin) s) c).owed =
      [{ o with val := some (returnEntry op (.done v pin)), cyc := s.cycle }]) := by
  have left := getCtx_putOut_none hout
  rw [settle, getCtx_conclude_done v pin _ hop hflag, left]
  dsimp only
  have out : (notedCtx (metPin p.op (.done v pin)) a.id { getCtx s c with out := [] }).out = [] := notedCtx_out rfl
  obtain ⟨owed, -, -⟩ := notedCtx_frame (metPin p.op (.done v pin)) a.id { getCtx s c with out := [] }
  cases ret with
  | false => exact ⟨out, fun _ => owed, fun h => absurd h (by decide)⟩
  | true =>
    refine ⟨out, fun h => absurd h (by decide), fun _ o ho hid hval => ?_⟩
    rw [if_pos rfl, post, owed]
    simp only [ho, List.map_cons, List.map_nil, hid, hval, beq_self_eq_true, Option.isNone_none, Bool.and_self, if_true]
    rfl

end Sys2Proof.Machine
end

section
/-! SUPPORT. O48: links, flits and requests of the fabric, tokens, unreachable packages, and the fabric sync agent. -/
namespace Sys2Proof.Machine

-- One declaration after another, as in the parts above.
set_option Elab.async false

/-! Ports and links (R436, R437) -/

theorem getPort_setPort (p : BitVec 4) (x : PortSt) (s : State) : getPort (setPort p x s) p = x := SMap.get_set_self _ _ _ _

theorem execLinkTrainRequest_down {s : State} {p : BitVec 4} {l : Link} (hl : linkAt s p = some l) (hd : (getPort s p).state = 0) :
    exec (.linkTrainRequest p) s = .next (setPort p { getPort s p with state := 1, since := tickNow s } s) :=
  congrArg Host.Outcome.next (if_pos (by rw [hd, hl]; rfl))

theorem execLinkLock_inTime {s : State} {p : BitVec 4} {l : Link} (n : Nat) (hl : linkAt s p = some l) (ht : (getPort s p).state = 1)
    (hs : tickNow s ≤ (getPort s p).since + 10000000) :
    exec (.linkLock p n) s = .next (setPort p
      { getPort s p with state := if n ≤ l.pad.toNat then 2 else 0, upAt := tickNow s / 8 * 8 + 8 } s) := by
  change Host.Outcome.next (match linkAt s p with | some l => _ | none => s) = _
  rw [hl]
  dsimp only
  rw [if_pos (by simp [ht, hs])]

theorem execLinkTrainTimeout_due {s : State} {p : BitVec 4} (ht : (getPort s p).state = 1)
    (hs : (getPort s p).since + 10000000 ≤ tickNow s) :
    exec (.linkTrainTimeout p) s = .next (setPort p { getPort s p with state := 0 } s) :=
  congrArg Host.Outcome.next (if_pos (by simp [ht, hs]))

/-- A link that fails its check is DOWN (R437). -/
def linkDown (p : BitVec 4) (s : State) : State :=
  setPort p { state := 0, rtry := satAdd16 (getPort s p).rtry ((Config.freeDbl s.free).toNat % 2 ^ 16) } { s with free := s.free + 1 }

/-- The flits and routes of a port whose link is lost (R455). -/
def loseFlits (lost : Bool) (s : State) : State :=
  { s with gate := { s.gate with lost := s.gate.lost || lost, flits := s.gate.flits.filter (fun f => f.link.isNone) } }

theorem execLinkCheckFail_up {s : State} {p : BitVec 4} (h : (getPort s p).state = 2) :
    exec (.linkCheckFail p) s = .next (if myPort s = some p then loseFlits (routesOn s p) (linkDown p s) else linkDown p s) :=
  congrArg Host.Outcome.next ((if_neg (not_not.mpr h)).trans rfl)

theorem linkCheckFails (s : State) (p : BitVec 4) :
    ((getPort s p).state = 2 → ∃ t, exec (.linkCheckFail p) s = .next t ∧ (getPort t p).state = 0 ∧ t.mem = s.mem ∧ t.ctxs = s.ctxs ∧
      (myPort s = some p → routesOn s p = true → t.gate.lost = true)) ∧
    ((getPort s p).state ≠ 2 → exec (.linkCheckFail p) s = .next s) := by
  refine ⟨fun h => ⟨_, execLinkCheckFail_up h, ?_⟩, fun h => congrArg Host.Outcome.next (if_pos h)⟩
  have down : (getPort (linkDown p s) p).state = 0 := by rw [linkDown, getPort_setPort]
  split
  next => exact ⟨down, rfl, rfl, fun _ routes => by simp [loseFlits, routes]⟩
  next other => exact ⟨down, rfl, rfl, fun mine => absurd mine other⟩

theorem linksTrain (s : State) (p : BitVec 4) (l : Link) (n : Nat) (hl : linkAt s p = some l) :
    ((getPort s p).state = 0 → ∃ t, exec (.linkTrainRequest p) s = .next t ∧ (getPort t p).state = 1 ∧
      (getPort t p).since = tickNow s ∧ t.mem = s.mem ∧ t.ctxs = s.ctxs) ∧
    ((getPort s p).state = 1 → tickNow s ≤ (getPort s p).since + 10000000 → ∃ t, exec (.linkLock p n) s = .next t ∧
      (getPort t p).state = (if n ≤ l.pad.toNat then 2 else 0) ∧ (getPort t p).upAt % 8 = 0 ∧
      tickNow s < (getPort t p).upAt ∧ (getPort t p).upAt ≤ tickNow s + 8 ∧ t.mem = s.mem ∧ t.ctxs = s.ctxs) ∧
    ((getPort s p).state = 1 → (getPort s p).since + 10000000 ≤ tickNow s → ∃ t, exec (.linkTrainTimeout p) s = .next t ∧ (getPort t p).state = 0 ∧ t.mem = s.mem) := by
  refine ⟨fun hd => ⟨_, execLinkTrainRequest_down hl hd, ?_⟩, fun ht hs => ⟨_, execLinkLock_inTime n hl ht hs, ?_⟩,
    fun ht hs => ⟨_, execLinkTrainTimeout_due ht hs, ?_⟩⟩
  · rw [getPort_setPort]
    exact ⟨rfl, rfl, rfl, rfl⟩
  · rw [getPort_setPort]
    exact ⟨rfl, by dsimp only; omega, by dsimp only; omega, by dsimp only; omega, rfl, rfl⟩
  · rw [getPort_setPort]
    exact ⟨rfl, rfl⟩

/-- A padded latency that the topology table may hold (R436). -/
theorem padOk_iff (l : Link) : padOk l = true ↔ 16 ≤ l.pad.toNat ∧ l.pad.toNat ≤ 1024 ∧ l.pad.toNat % 8 = 0 := by
  simp only [padOk, Bool.and_eq_true, beq_iff_eq, decide_eq_true_eq]
  omega

theorem domainForms (s : State) (y : Topology) :
    ((∀ l ∈ y.links, 16 ≤ l.pad.toNat ∧ l.pad.toNat ≤ 1024 ∧ l.pad.toNat % 8 = 0) →
      exec (.domainFormed y) s = .next { s with fabric := { s.fabric with topo := y } }) ∧
    (∀ l ∈ y.links, l.pad.toNat < 16 ∨ 1024 < l.pad.toNat ∨ l.pad.toNat % 8 ≠ 0 → exec (.domainFormed y) s = .next s) := by
  refine ⟨fun h => congrArg Host.Outcome.next (if_pos (List.all_eq_true.mpr (fun l hl => (padOk_iff l).mpr (h l hl)))),
    fun l hl h => congrArg Host.Outcome.next (if_neg (fun all => ?_))⟩
  have := (padOk_iff l).mp (List.all_eq_true.mp all l hl)
  omega

/-! Flits for fi (R440, R442) -/

theorem execFabricFlitArrive_notDue {s : State} {p : BitVec 4} {ws : List Dbl} (h : flitDue s p ws.length = false) :
    exec (.fabricFlitArrive p ws) s = .next s := congrArg Host.Outcome.next (if_neg (by simp [h]))

theorem foldl_enterFi_room (t : Nat) : ∀ (ws : List Dbl) (s : State), s.gate.fi.length + ws.length ≤ 64 →
    ws.foldl (enterRx true t) s = { s with gate := { s.gate with fi := s.gate.fi ++ ws.map (fun v => (t, v)) } }
  | [], s, _ => by simp
  | v :: ws, s, h => by
    rw [List.length_cons] at h
    have enter : enterRx true t s v = { s with gate := { s.gate with fi := s.gate.fi ++ [(t, v)] } } := by
      rw [enterRx, if_pos rfl, if_pos (by omega)]
    rw [List.foldl_cons, enter, foldl_enterFi_room t ws _ (by simp; omega)]
    simp [List.append_assoc]

theorem execFabricFlitArrive_due {s : State} {p : BitVec 4} {ws : List Dbl} (hr : s.gate.fi.length + ws.length ≤ 64) (hs : s.stop = none)
    (hp : myPort s = some p) (he : fabricEdge s = false) (hd : flitDue s p ws.length = true) :
    exec (.fabricFlitArrive p ws) s =
      .next { s with gate := { s.gate with fi := s.gate.fi ++ ws.map (fun v => (tickNow s, v)) } } := by
  have enters : flitIn (some (p, 0)) ws s = ws.foldl (enterRx true (tickNow s)) s := if_neg (by simp [hs])
  refine congrArg Host.Outcome.next ((if_pos (by simp [hp, he, hd])).trans ?_)
  rw [enters, foldl_enterFi_room _ _ _ hr]

/-! Requests of other packages (R354, R358, R363, R445, R446) -/

theorem execFabricRequestArrive_between {s : State} (q : FabricRequest) (h : tickNow s % 8 ≠ 7) :
    exec (.fabricRequestArrive q) s = .next s := congrArg Host.Outcome.next (if_pos (by simp [onService, h]))

/-- The ingress rejects a request (R446). -/
def rejectRequest (q : FabricRequest) (r : Nat) (s : State) : State :=
  { s with fabric := { s.fabric with ingCount := satAdd16 s.fabric.ingCount 1, ingReason := BitVec.ofNat 4 r,
                                     ingSpkg := q.src.zeroExtend 8, ingIa := q.ia, replies := s.fabric.replies ++ [(q, .denied 0)] } }

theorem execFabricRequestArrive_own {s : State} {q : FabricRequest} (h7 : tickNow s % 8 = 7) (hd : iaDie q.ia.toNat < 8)
    (hc : iaCol q.ia.toNat < 160) (hp : iaPkg q.ia.toNat = myPkg s) :
    exec (.fabricRequestArrive q) s = .next (if ingressReason s q ≠ 0 then rejectRequest q (ingressReason s q) s else performForeign q s) := by
  refine congrArg Host.Outcome.next ((if_neg ?_).trans ((if_neg (not_not.mpr hp)).trans rfl))
  simp [onService, h7]
  omega

theorem satAdd16_toNat (v : BitVec 16) : (satAdd16 v 1).toNat = min 65535 (v.toNat + 1) := by
  have := v.isLt
  simp only [satAdd16, BitVec.toNat_ofNat]
  omega

/-- What the home answers to a request of another package, as the package takes it (R358, R363, R446). -/
def foreignAnswer (q : FabricRequest) : State × HomeRes → State
  | (s1, .reply p) => freeReq (.foreign q) { s1 with fabric := { s1.fabric with replies := s1.fabric.replies ++ [(q, p)] } }
  | (s1, .away e) =>
    if e.getLsbD 58 then holdReq (.foreign q) s1
    else freeReq (.foreign q) { s1 with fabric := { s1.fabric with forwards := s1.fabric.forwards ++ [(eBits e 33 8, q)] } }
  | (s1, .fault) =>
    let u := faultAt q.ia.toNat s1
    if holdsAtFault q.op q.ret then holdReq (.foreign q) u
    else freeReq (.foreign q) { u with fabric := { u.fabric with replies := u.fabric.replies ++ [(q, .fault)] } }

/-- A request that nothing held stands before is answered, held or forwarded by its home (R358, R363). -/
theorem performForeign_unheld {s : State} (q : FabricRequest) (hh : s.home.held = []) :
    performForeign q s = foreignAnswer q (performHome q.ia.toNat q.op (.far q.src.toNat) q.seq s) := by
  have free : ¬ (heldBefore s (pageOf s q.ia.toNat) (.foreign q) = true) := by rw [heldBefore, hh]; simp
  exact (if_neg free).trans rfl

theorem mem_held_holdReq (h : HeldReq) (s : State) : h ∈ (holdReq h s).home.held := by
  unfold holdReq
  split
  next held => simpa using held
  next => simp

theorem faultAt_fabric (ia : Nat) (s : State) : (faultAt ia s).fabric = s.fabric := by
  unfold faultAt
  dsimp only
  split <;> rfl

theorem requestsArrive (s : State) (q : FabricRequest) : let home := performHome q.ia.toNat q.op (.far q.src.toNat) q.seq s
    tickNow s % 8 = 7 → iaDie q.ia.toNat < 8 → iaCol q.ia.toNat < 160 → iaPkg q.ia.toNat = myPkg s →
    (∀ r, ingressReason s q = r → r ≠ 0 → ∃ t, exec (.fabricRequestArrive q) s = .next t ∧ t.mem = s.mem ∧ t.ctxs = s.ctxs ∧
      t.fabric.ingReason = BitVec.ofNat 4 r ∧ t.fabric.ingCount.toNat = min 65535 (s.fabric.ingCount.toNat + 1) ∧
      t.fabric.replies = s.fabric.replies ++ [(q, .denied 0)]) ∧
    (∀ s1 rp, ingressReason s q = 0 → s.home.held = [] → home = (s1, .reply rp) →
      ∃ t, exec (.fabricRequestArrive q) s = .next t ∧ t.mem = s1.mem ∧ t.fabric.replies = s1.fabric.replies ++ [(q, rp)]) ∧
    (∀ s1 e, ingressReason s q = 0 → s.home.held = [] → home = (s1, .away e) →
      ∃ t, exec (.fabricRequestArrive q) s = .next t ∧ t.mem = s1.mem ∧ (e.getLsbD 58 = true → .foreign q ∈ t.home.held) ∧
        (e.getLsbD 58 = false → t.fabric.forwards = s1.fabric.forwards ++ [(eBits e 33 8, q)])) ∧
    (∀ s1, ingressReason s q = 0 → s.home.held = [] → home = (s1, .fault) →
      ∃ t, exec (.fabricRequestArrive q) s = .next t ∧ t.mem = s1.mem ∧ (holdsAtFault q.op q.ret = true → .foreign q ∈ t.home.held) ∧
        (holdsAtFault q.op q.ret = false → t.fabric.replies = s1.fabric.replies ++ [(q, .fault)])) := by
  dsimp only
  intro h7 hd hc hp
  have run := execFabricRequestArrive_own h7 hd hc hp
  have passes : ingressReason s q = 0 → exec (.fabricRequestArrive q) s = .next (performForeign q s) := fun h0 => by
    rw [run, if_neg (by simp [h0])]
  refine ⟨fun r hr h0 => ⟨_, run.trans (congrArg _ (if_pos (by rw [hr]; exact h0))), rfl, rfl, ?_, satAdd16_toNat _, rfl⟩,
    fun s1 rp h0 hh hr => ⟨_, passes h0, ?_⟩, fun s1 e h0 hh hr => ⟨_, passes h0, ?_⟩, fun s1 h0 hh hr => ⟨_, passes h0, ?_⟩⟩
  · rw [hr]; rfl
  · rw [performForeign_unheld q hh, hr]
    exact ⟨rfl, rfl⟩
  · rw [performForeign_unheld q hh, hr]
    unfold foreignAnswer
    dsimp only
    cases h : e.getLsbD 58
    · exact ⟨rfl, fun h => absurd h (by decide), fun _ => rfl⟩
    · exact ⟨(holdReq_keeps _ _).1, fun _ => mem_held_holdReq _ _, fun h => absurd h (by decide)⟩
  · rw [performForeign_unheld q hh, hr]
    unfold foreignAnswer
    dsimp only
    cases h : holdsAtFault q.op q.ret
    · exact ⟨(faultAt_keeps _ s1).1, fun h => absurd h (by decide), fun _ => by
        rw [← faultAt_fabric q.ia.toNat s1]; rfl⟩
    · exact ⟨((faultAt_keeps _ s1).trans (holdReq_keeps _ _)).1, fun _ => mem_held_holdReq _ _, fun h => absurd h (by decide)⟩

/-! The ingress register and tokens (R444, R446) -/

theorem execIngrejaRead_eq (s : State) : ∃ t, exec .ingrejaRead s = .next t ∧ t.fabric.ingCount = 0 ∧ t.fabric.ingReason = s.fabric.ingReason ∧
    t.pkg.mgmt.toNat / 2 ^ 48 = s.fabric.ingCount.toNat ∧ t.mem = s.mem := by
  have hc := s.fabric.ingCount.isLt
  have hr := s.fabric.ingReason.isLt
  have hs := s.fabric.ingSpkg.isLt
  refine ⟨_, rfl, rfl, rfl, ?_, rfl⟩
  dsimp only
  rw [BitVec.toNat_ofNat]
  omega

/-- A token as the sum of its fields (R443, R444). -/
theorem token_toNat (rights : BitVec 8) (region : BitVec 20) (ex : BitVec 12) (m : BitVec 24) :
    (BitVec.ofNat 64 (rights.toNat * 2 ^ 56 + region.toNat * 2 ^ 36 + ex.toNat * 2 ^ 24) ||| m.zeroExtend 64).toNat =
      (rights.toNat * 2 ^ 32 + region.toNat * 2 ^ 12 + ex.toNat) * 2 ^ 24 + m.toNat := by
  have h1 := rights.isLt
  have h2 := region.isLt
  have h3 := ex.isLt
  have h4 := m.isLt
  have high : (BitVec.ofNat 64 (rights.toNat * 2 ^ 56 + region.toNat * 2 ^ 36 + ex.toNat * 2 ^ 24)).toNat =
      (rights.toNat * 2 ^ 32 + region.toNat * 2 ^ 12 + ex.toNat) <<< 24 := by
    rw [BitVec.toNat_ofNat, Nat.shiftLeft_eq]; omega
  have low : (m.zeroExtend 64).toNat = m.toNat := by
    simp only [BitVec.zeroExtend_eq_setWidth, BitVec.toNat_setWidth]; omega
  rw [BitVec.toNat_or, high, low, ← Nat.shiftLeft_add_eq_or_of_lt h4, Nat.shiftLeft_eq]

theorem extract_eq {n len : Nat} {v : Dbl} {x : BitVec len} (h : v.toNat / 2 ^ n % 2 ^ len = x.toNat) : v.extractLsb' n len = x := by
  refine BitVec.eq_of_toNat_eq ?_
  rw [BitVec.extractLsb'_toNat, Nat.shiftRight_eq_div_pow, h]

theorem grantTokenMints (s : State) (rights : BitVec 8) (region : BitVec 20) (ex : BitVec 12) (p : BitVec 6) :
    ∃ t, exec (.grantTokenMint rights region ex p) s = .next t ∧
      t.pkg.mgmt.extractLsb' 56 8 = rights ∧ t.pkg.mgmt.extractLsb' 36 20 = region ∧ t.pkg.mgmt.extractLsb' 24 12 = ex ∧
      t.pkg.mgmt.extractLsb' 0 24 = mac s.fabric.keyA (tokenMsg t.pkg.mgmt p.toNat) ∧ t.mem = s.mem := by
  let v := BitVec.ofNat 64 (rights.toNat * 2 ^ 56 + region.toNat * 2 ^ 36 + ex.toNat * 2 ^ 24)
  let m := mac s.fabric.keyA (tokenMsg v p.toNat)
  have h1 := rights.isLt
  have h2 := region.isLt
  have h3 := ex.isLt
  have token := token_toNat rights region ex m
  have bare : v.toNat = (rights.toNat * 2 ^ 32 + region.toNat * 2 ^ 12 + ex.toNat) * 2 ^ 24 := by
    rw [BitVec.toNat_ofNat]; omega
  have h4 := m.isLt
  have message : tokenMsg (v ||| m.zeroExtend 64) p.toNat = tokenMsg v p.toNat := by
    unfold tokenMsg
    rw [show (v ||| m.zeroExtend 64).toNat / 2 ^ 24 = v.toNat / 2 ^ 24 by rw [token, bare]; omega]
  refine ⟨_, rfl, ?_⟩
  change (v ||| m.zeroExtend 64).extractLsb' 56 8 = rights ∧ (v ||| m.zeroExtend 64).extractLsb' 36 20 = region ∧
    (v ||| m.zeroExtend 64).extractLsb' 24 12 = ex ∧
    (v ||| m.zeroExtend 64).extractLsb' 0 24 = mac s.fabric.keyA (tokenMsg (v ||| m.zeroExtend 64) p.toNat) ∧ s.mem = s.mem
  rw [message]
  refine ⟨extract_eq ?_, extract_eq ?_, extract_eq ?_, extract_eq (x := m) ?_, rfl⟩
  all_goals
    rw [token]
    omega

/-! Packages that cannot be reached (R446, R455) -/

/-- A package noted as one that cannot be reached. -/
def noteUnreachable (p : Nat) (s : State) : State :=
  { s with fabric := { s.fabric with unreachable := p :: s.fabric.unreachable.filter (fun n => n != p) } }

/-- An access of this core to the package is denied (R446). -/
def denyFar (p : Nat) (s : State) (x : CtxId × Access) : State :=
  match nextPart x.2 with
  | some q => if iaPkg q.ia = p then settle x.1 x.2 q (.denied 0) s else s
  | none => s

/-- The launches with a core in the package end (R455). -/
def endFar (p : Nat) (s : State) : State :=
  (s.launches.filter (fun l => reaches s p l.2)).foldl (fun s l => endLaunch l.1 l.2 farStatus s) s

theorem execPackageUnreachable_eq (s : State) (p : BitVec 6) : exec (.packageUnreachable p) s =
    .next (endFar p.toNat ((ownGlobal (noteUnreachable p.toNat s)).foldl (denyFar p.toNat) (noteUnreachable p.toNat s))) := by
  exact congrArg (fun f : State → CtxId × Access → State => Host.Outcome.next
    (endFar p.toNat ((ownGlobal (noteUnreachable p.toNat s)).foldl f (noteUnreachable p.toNat s)))) (funext fun u => funext fun x => rfl)

/-- Without accesses that are out, only the launches with a core in the package end (R455). -/
theorem execPackageUnreachable_quiet {s : State} {p : BitVec 6} (h : ownGlobal s = []) :
    exec (.packageUnreachable p) s = .next ((s.launches.filter (fun l => reaches s p.toNat l.2)).foldl
      (fun s l => endLaunch l.1 l.2 farStatus s) (noteUnreachable p.toNat s)) := by
  have none : ownGlobal (noteUnreachable p.toNat s) = [] := h
  rw [execPackageUnreachable_eq, none]
  rfl

/-! The end of a launch leaves the fabric alone (R395) -/

theorem clearSlot_fabric (k : BitVec 2) (s : State) : (clearSlot k s).fabric = s.fabric := rfl
theorem dueFreq_fabric (f : BitVec 6) (s : State) : (dueFreq f s).fabric = s.fabric := rfl
theorem ite_fabric {p : Prop} [Decidable p] {s t u : State} (h : t.fabric = s.fabric) (k : u.fabric = s.fabric) :
    (if p then t else u).fabric = s.fabric := by
  split
  · exact h
  · exact k
theorem discardCtxs_fabric (s : State) (cs : List CtxId) : (discardCtxs s cs).fabric = s.fabric :=
  foldl_keeps (π := State.fabric) (f := fun s c => match (getCtx s c).slot with | some k => clearSlot k s | none => s)
    (fun u c => by split <;> rfl) cs s
theorem freePlan_fabric (p : Plan) (s : State) : (freePlan p s).fabric = s.fabric := by
  unfold freePlan; extract_lets here tags banks s1 s2 s3 s4
  have h2 : s2.fabric = s1.fabric := ite_fabric
    (foldl_keeps (π := State.fabric) (f := fun s o => enqueueLate (resetFrame s o) s) (fun _ _ => rfl) _ _) rfl
  have h3 : s3.fabric = s2.fabric := ite_fabric
    (foldl_keeps (π := State.fabric) (f := fun s b => endQuiet b s) (fun _ _ => rfl) _ _) rfl
  have h4 : s4.fabric = s3.fabric := ite_fabric (by split <;> rfl) rfl
  exact h4.trans (h3.trans h2)
theorem discardPlan_fabric (q : Nat) (s : State) : (discardPlan q s).fabric = s.fabric := by
  unfold discardPlan
  dsimp only
  split
  · rw [freePlan_fabric]; exact discardCtxs_fabric s _
  · exact discardCtxs_fabric s _
theorem moveLaunch_fabric (k : Nat) (l : Launch) (s : State) : (moveLaunch k l s).fabric = s.fabric := by
  unfold moveLaunch
  dsimp only
  split
  · split <;> rfl
  · rfl
theorem endLaunch_fabric (k : Nat) (l : Launch) (st : LaunchStatus) (s : State) : (endLaunch k l st s).fabric = s.fabric := by
  unfold endLaunch
  dsimp only
  change (moveLaunch k _ _).fabric = s.fabric
  rw [moveLaunch_fabric]
  dsimp only
  split
  · exact discardPlan_fabric _ s
  · rfl

theorem packageUnreachables (s : State) (p : BitVec 6) (h : ownGlobal s = []) :
    (s.launches.any (fun l => reaches s p.toNat l.2) = false → ∃ t, exec (.packageUnreachable p) s = .next t ∧
      p.toNat ∈ t.fabric.unreachable ∧ t.mem = s.mem ∧ t.ctxs = s.ctxs) ∧
    (∀ k l, s.launches = [(k, l)] → reaches s p.toNat l = true → ∃ t, exec (.packageUnreachable p) s = .next t ∧
      p.toNat ∈ t.fabric.unreachable ∧ (getLaunch t k).map (·.st) = some .ended ∧
      (getLaunch t k).map (fun l => (l.status.code, l.status.d0, l.status.d1)) = some (0x10, 0x32, 0x30600)) := by
  have run := execPackageUnreachable_quiet (p := p) h
  refine ⟨fun none => ?_, fun k l hl hr => ?_⟩
  · have stay : s.launches.filter (fun l => reaches s p.toNat l.2) = [] :=
      List.filter_eq_nil_iff.mpr (fun l hl => by simpa using List.any_eq_false.mp none l hl)
    rw [stay] at run
    exact ⟨_, run, List.mem_cons_self, rfl, rfl⟩
  · have ends : s.launches.filter (fun l => reaches s p.toNat l.2) = [(k, l)] := by simp [hl, hr]
    rw [ends] at run
    obtain ⟨m, launch, -, st, status⟩ := getLaunch_endLaunch k l farStatus (noteUnreachable p.toNat s)
    refine ⟨_, run, ?_⟩
    rw [List.foldl_cons, List.foldl_nil, launch, endLaunch_fabric]
    exact ⟨List.mem_cons_self, congrArg some st, congrArg (fun x : LaunchStatus => some (x.code, x.d0, x.d1)) status⟩

/-! Replies (R451, R452) -/

/-- A load is not lacking in any revision, so that a domain with a package answers it with a value (R451). -/
theorem replyBy_load {s : State} {ia : Nat} {w : Bool} (v : Dbl) (pin : Bool) (hp : iaPkg ia ≠ myPkg s) (hr : s.fabric.topo.revs ≠ []) :
    replyBy s ⟨.load w, ia⟩ (.done v pin) = some (.done v pin) := by
  have none : ∀ q, pkgLacks s (.load w) q = false := fun q => by
    unfold pkgLacks
    split <;> rfl
  have some : ((performers s ia).map (pkgLacks s (.load w))).contains false = true := by
    obtain ⟨r, l, hl⟩ := List.exists_cons_of_ne_nil hr
    rw [performers, if_neg hp, hl]
    simp [none]
  exact if_pos some

/-- A lone access with nothing of its own context before it (R304, R361). -/
theorem blockedAt_alone {s : State} {c : CtxId} {a : Access} {op : GlobalOp} {ia : Nat} (hout : (getCtx s c).out = [a]) (hw : a.wait = false)
    (hh : a.hops = 0) (ht : a.tick ≤ tickNow s) (hside : (getCtx s c).side = []) (he : s.engines = []) (hf : isFlag op = false) :
    blockedAt s c a ⟨op, ia⟩ = false := by
  have first : ahead s c (pageOf s ia) a.ord a.id = false := by simp [ahead, hout, he]
  have room : roomBefore s c a.ord = false := by simp [roomBefore, hout, hw]
  have late : decide (tickNow s < a.tick) = false := decide_eq_false (Nat.not_lt.mpr ht)
  simp [blockedAt, first, room, late, hw, hh, hf, sideBefore, hside]

theorem takeReply_load {s : State} {c : CtxId} {a : Access} {ia rg : Nat} {w : Bool} (v : Dbl) (ho : ownGlobal s = [(c, a)])
    (hout : (getCtx s c).out = [a]) (hop : a.op = .global (.load w) ia rg true false 0) (hp : iaPkg ia ≠ myPkg s)
    (hu : iaPkg ia ∉ s.fabric.unreachable) (ht : a.tick ≤ tickNow s) (hw : a.wait = false) (hh : a.hops = 0)
    (hside : (getCtx s c).side = []) (he : s.engines = []) (hr : s.fabric.topo.revs ≠ []) :
    takeReply 0 (.done v false) s = settle c a ⟨.load w, ia⟩ (.done v false) (freeReq (.own c a.id a.sub) s) := by
  have part : nextPart a = some ⟨.load w, ia⟩ := by rw [nextPart, hop]
  have reach : s.fabric.unreachable.contains (iaPkg ia) = false := by simpa using hu
  have clear := blockedAt_alone (op := .load w) (ia := ia) hout hw hh ht hside he rfl
  have away : ((iaPkg ia == myPkg s && !movedAway s ia) || blockedAt s c a ⟨.load w, ia⟩) = false := by simp [hp, clear]
  have logs : a.logs = false := by simp [Access.logs, AccOp.released, hop]
  unfold takeReply
  rw [ho]
  simp only [List.getElem?_cons_zero, part, reach, Bool.false_eq_true, if_false, replyBy_load v false hp hr, away, logs, Bool.false_and]

theorem remoteReplies (s : State) (c : CtxId) (a : Access) (ia rg : Nat) (w : Bool) (v : Dbl) (ho : ownGlobal s = [(c, a)])
    (hout : (getCtx s c).out = [a]) (hop : a.op = .global (.load w) ia rg true false 0) (hp : iaPkg ia ≠ myPkg s)
    (hu : iaPkg ia ∉ s.fabric.unreachable) (ht : a.tick ≤ tickNow s) (hw : a.wait = false) (hh : a.hops = 0)
    (hside : (getCtx s c).side = []) (he : s.engines = []) (hr : ∃ r ∈ s.fabric.topo.revs, lacks r.2.toNat (.load w) = false) :
    ∃ t, exec (.remoteReply 0 (.done v false)) s = .next t ∧ (getCtx t c).out = [] ∧ t.mem = s.mem ∧
      ∀ o, (getCtx s c).owed = [o] → o.id = a.id → o.val = none →
        (getCtx t c).owed = [{ o with val := some (if w then BitVec.ofNat 64 (v.toNat % 2 ^ 32) else v), cyc := s.cycle }] := by
  obtain ⟨r, hr, -⟩ := hr
  have run := takeReply_load v ho hout hop hp hu ht hw hh hside he (List.ne_nil_of_mem hr)
  obtain ⟨out, -, owed⟩ := getCtx_settle_done (s := freeReq (.own c a.id a.sub) s) (p := ⟨.load w, ia⟩) v false hop rfl hout
  have value : returnEntry (.load w) (.done v false) = if w then BitVec.ofNat 64 (v.toNat % 2 ^ 32) else v := by
    cases w
    · rfl
    · exact congrArg (BitVec.ofNat 64) (Nat.zero_add _)
  rw [value] at owed
  refine ⟨_, congrArg Host.Outcome.next run, out, ?_, owed rfl⟩
  exact ((freeReq_keeps _ s).trans (settle_keeps _ _ _ _ _)).1

/-! The fabric sync agent (R453, R454) -/

/-- What another package reserves is held by it alone, and what it frees is not (R453, R454). -/
theorem mem_farReserve (m : SyncMessage) (l : List (Nat × Nat)) : (m.pkg.toNat, m.obj.toNat) ∈ farReserve m l ↔ m.status ≠ 0 := by
  unfold farReserve
  by_cases h : m.status = 0 <;> simp [h]

/-- The requester of a message (R453). -/
def messageReq (m : SyncMessage) : Requester := { pkg := m.pkg, core := m.core, ctx := m.ctx }

theorem execFabricSync_bus {s : State} {m : SyncMessage} (hs : isSys s m.obj = false) (hk : m.kind.toNat < 5) :
    exec (.fabricSyncMessage m) s = .next s := by
  have not : ∀ n : BitVec 4, 5 ≤ n.toNat → m.kind ≠ n := fun n hn e => by subst e; omega
  refine congrArg Host.Outcome.next ?_
  rw [if_neg (not 6 (by decide)), if_neg (not 7 (by decide)), if_neg (not 5 (by decide)), hs]
  simp

theorem execFabricSync_acquire {s : State} {m : SyncMessage} (hs : isSys s m.obj = true) (hh : objHome s m.obj.toNat = true)
    (hp : ofPlacement s m = true) (h7 : tickNow s % 8 = 7) (hk : m.kind = 2) (hm : isMine s (messageReq m) = false) :
    exec (.fabricSyncMessage m) s = .next (decideAcq m.obj (messageReq m) false (max m.tick (tickNow s)) s) := by
  have service : onService s = true := by simp [onService, h7]
  refine congrArg Host.Outcome.next ?_
  change (if m.kind = 6 then _ else if m.kind = 7 then _ else if !ofPlacement s m then _ else if m.kind = 5 then _ else
    if !isSys s m.obj || !(onService s || (objHome s m.obj.toNat && isMine s (messageReq m))) then _ else
    if m.kind = 2 || m.kind = 3 then
      if !objHome s m.obj.toNat then _
      else if !isMine s (messageReq m) || _ then decideAcq m.obj (messageReq m) (m.kind == 3) _ s else _
    else _) = _
  simp [hk, hs, hh, hp, hm, service]

theorem fabricAcquires {s : State} {m : SyncMessage} (hs : isSys s m.obj = true) (hh : objHome s m.obj.toNat = true)
    (hp : ofPlacement s m = true) (h7 : tickNow s % 8 = 7) (hk : m.kind = 2) (hm : isMine s (messageReq m) = false)
    (hin : inScope (getObj s m.obj.toNat) (messageReq m) = true) (hl : busWaiters s m.obj.toNat < 1024)
    (he : (getObj s m.obj.toNat).excl = none) (hsh : (getObj s m.obj.toNat).shared = []) (hw : (getObj s m.obj.toNat).waiters = []) :
    ∃ t, exec (.fabricSyncMessage m) s = .next t ∧ (getObj t m.obj.toNat).excl = some (messageReq m) ∧ t.mem = s.mem ∧ t.ctxs = s.ctxs := by
  obtain ⟨x, excl, -, act⟩ := decideAcq_free hin hl hw (max m.tick (tickNow s)) he hsh
  refine ⟨_, execFabricSync_acquire hs hh hp h7 hk hm, ?_⟩
  rw [act, answerAcq_other (s := setObj m.obj.toNat x (setObj m.obj.toNat _ s)) hm, getObj_setObj_self]
  exact ⟨excl, rfl, rfl⟩

/-- Every context that waits in a group is released with its episode (R339). -/
theorem relTick_endEpisode {g r : Nat} {s : State} {c : CtxId} (h : (getCtx s c).mark = some (BitVec.ofNat 8 g)) :
    (getCtx (endEpisode g r s) c).relTick = some r := by
  have waits : ∀ u : State, (getCtx u c).mark = some (BitVec.ofNat 8 g) → ∀ d,
      (getCtx (releaseGroup (BitVec.ofNat 8 g) r u d) c).mark = some (BitVec.ofNat 8 g) ∧
      ((d = c ∨ (getCtx u c).relTick = some r) → (getCtx (releaseGroup (BitVec.ofNat 8 g) r u d) c).relTick = some r) := by
    intro u hu d
    unfold releaseGroup
    dsimp only
    by_cases e : c = d
    · subst e
      rw [if_pos hu, getCtx_setCtx_self]
      exact ⟨hu, fun _ => rfl⟩
    · split
      · rw [getCtx_setCtx_ne _ e]
        exact ⟨hu, fun h => h.resolve_left (fun h => e h.symm)⟩
      · exact ⟨hu, fun h => h.resolve_left (fun h => e h.symm)⟩
  have all : ∀ (l : List CtxId) (u : State), (getCtx u c).mark = some (BitVec.ofNat 8 g) → c ∈ l ∨ (getCtx u c).relTick = some r →
      (getCtx (l.foldl (releaseGroup (BitVec.ofNat 8 g) r) u) c).relTick = some r := by
    intro l
    induction l with
    | nil => exact fun u _ h => h.resolve_left List.not_mem_nil
    | cons d l ih =>
      intro u hu h
      obtain ⟨mark, rel⟩ := waits u hu d
      refine ih _ mark ?_
      rcases h with h | h
      · rcases List.mem_cons.mp h with e | h
        · exact .inr (rel (.inl e.symm))
        · exact .inl h
      · exact .inr (rel (.inr h))
  unfold endEpisode
  exact all allCtx _ h (.inl (mem_allCtx c))

/-- The last completion tick of the other packages noted in a group (R454). -/
def noteOthers (g a : Nat) (s : State) : State := { s with groups := SMap.set {} s.groups g { getGroup s g with others := some a } }

theorem getGroup_noteOthers (g a : Nat) (s : State) : getGroup (noteOthers g a s) g = { getGroup s g with others := some a } :=
  SMap.get_set_self _ _ _ _

/-- The episode that is complete here ends when the other packages' is (R441, R454). -/
theorem othersDone_ends {s : State} {g a d : Nat} {p : Plan} (hp : presentAt s (BitVec.ofNat 2 g) (tickNow s - 1) = true)
    (hw : (getGroup s g).wide = true) (hm : (getGroup s g).marked ≠ [])
    (hall : (getGroup s g).members.all (fun n => (getGroup s g).marked.contains n) = true) (hd : (getGroup s g).doneAt = some d)
    (hf : findPlan s (getGroup s g).plan = some p) :
    othersDone g a s = endEpisode g (leastRelease s p (max d a)) (noteOthers g a s) := by
  have present : presentAt (noteOthers g a s) (BitVec.ofNat 2 g) (tickNow s - 1) = true := hp
  have plan : findPlan (noteOthers g a s) (getGroup s g).plan = some p := hf
  have members : (getGroup s g).members.all (fun m => (getGroup s g).marked.contains m ||
      absentAt (noteOthers g a s) (BitVec.ofNat 2 g) (tickNow s - 1) m) = true :=
    List.all_eq_true.mpr (fun m h => by rw [List.all_eq_true.mp hall m h]; rfl)
  have marked : (getGroup s g).marked.isEmpty = false := by simpa using hm
  have check : othersDone g a s = checkGroup g (tickNow s - 1) (noteOthers g a s) := if_pos hw
  rw [check, checkGroup, getGroup_noteOthers]
  simp only [present, marked, members, hw, hd, Bool.not_true, Bool.or_self, Bool.false_eq_true, if_false, Option.getD_some, wideRelease, plan]
  rfl

theorem execFabricSync_others {s : State} {m : SyncMessage} (hk : m.kind = 5) (ho : m.obj.toNat < 256) (hp : ofPlacement s m = true) :
    exec (.fabricSyncMessage m) s = .next (othersDone m.obj.toNat m.tick s) := by
  refine congrArg Host.Outcome.next ?_
  rw [if_neg (by rw [hk]; decide), if_neg (by rw [hk]; decide), if_neg (by simp [hp]), if_pos hk, Nat.mod_eq_of_lt ho]

theorem syncMessages (s : State) (m : SyncMessage) : let o := m.obj.toNat
    let q : Requester := { pkg := m.pkg, core := m.core, ctx := m.ctx }
    (isSys s m.obj = false → m.kind.toNat < 5 → exec (.fabricSyncMessage m) s = .next s) ∧
    (m.kind = 6 → ∃ t, exec (.fabricSyncMessage m) s = .next t ∧ t.mem = s.mem ∧ t.objs = s.objs ∧
      ((m.pkg.toNat, o) ∈ t.fabric.farObjs ↔ m.status ≠ 0)) ∧
    (m.kind = 7 → ∃ t, exec (.fabricSyncMessage m) s = .next t ∧ t.mem = s.mem ∧ t.groups = s.groups ∧
      ((m.pkg.toNat, o) ∈ t.fabric.farGroups ↔ m.status ≠ 0)) ∧
    (isSys s m.obj = true → objHome s o = true → ofPlacement s m = true → tickNow s % 8 = 7 → m.kind = 2 → isMine s q = false → inScope (getObj s o) q = true → busWaiters s o < 1024 →
      (getObj s o).excl = none → (getObj s o).shared = [] → (getObj s o).waiters = [] →
      ∃ t, exec (.fabricSyncMessage m) s = .next t ∧ (getObj t o).excl = some q ∧ t.mem = s.mem ∧ t.ctxs = s.ctxs) ∧
    (∀ p d, m.kind = 5 → o < 256 → ofPlacement s m = true → presentAt s (BitVec.ofNat 2 o) (tickNow s - 1) = true → let g := getGroup s o
      g.wide = true → g.marked ≠ [] → g.members.all (fun n => g.marked.contains n) = true → g.doneAt = some d →
      findPlan s g.plan = some p → ∃ t, exec (.fabricSyncMessage m) s = .next t ∧ (getGroup t o).marked = [] ∧
        (getGroup t o).epoch = g.epoch + 1 ∧ t.mem = s.mem ∧
        ∀ c, (getCtx s c).mark = some (BitVec.ofNat 8 o) →
          (getCtx t c).relTick = some (leastRelease s p (max d m.tick))) := by
  intro o q
  refine ⟨execFabricSync_bus, fun hk => ⟨_, congrArg Host.Outcome.next (if_pos hk), rfl, rfl, mem_farReserve m _⟩,
    fun hk => ⟨_, congrArg Host.Outcome.next ((if_neg (by rw [hk]; decide)).trans (if_pos hk)), rfl, rfl, mem_farReserve m _⟩,
    fabricAcquires, fun p d hk ho hp hpr => ?_⟩
  intro g hw hm hall hd hf
  refine ⟨_, execFabricSync_others hk ho hp, ?_⟩
  rw [othersDone_ends hpr hw hm hall hd hf, getGroup_endEpisode, getGroup_noteOthers]
  refine ⟨rfl, rfl, (endEpisode_keeps _ _ _).1, fun c hc => relTick_endEpisode hc⟩

/-- Settles O48, event by event. -/
theorem fabricEvents : Obligations.FabricEvents := by
  refine ⟨fun s p l n hl => ?links, fun s p => ⟨_, rfl, rfl, ?_, ?_, rfl⟩, domainForms, fun s p ws _ => execFabricFlitArrive_notDue,
    fun s p ws _ hr hs hp he hd => execFabricFlitArrive_due hr hs hp he hd, fun s q => execFabricRequestArrive_between q, requestsArrive, execIngrejaRead_eq, grantTokenMints,
    packageUnreachables, fun s c a ia rg w v => remoteReplies s c a ia rg w v, syncMessages⟩
  case links =>
    obtain ⟨request, lock, timeout⟩ := linksTrain s p l n hl
    obtain ⟨fails, stays⟩ := linkCheckFails s p
    exact ⟨request, lock, timeout, fails, stays⟩
  · rw [getPort_setPort]
  · rw [getPort_setPort]

end Sys2Proof.Machine
end

section
/-! SUPPORT. O43: the token of a bus, the frame of our station, and its transmit queue. -/
namespace Sys2Proof.Machine

-- One declaration after another, as in the parts above.
set_option Elab.async false

/-! What frames that enter or leave the queue leave of the station (R325, R328) -/

/-- A bus without what waits at our station. -/
def noQueue (x : Bus) : Bus := { x with txq := [], late := [] }

/-- Our station is the same on every bus, but for what waits there. -/
structure SameStation (s t : State) : Prop where
  self : t.self = s.self
  bus : ∀ b, noQueue (getBus t b) = noQueue (getBus s b)

theorem SameStation.refl (s : State) : SameStation s s := ⟨rfl, fun _ => rfl⟩
theorem SameStation.trans {s t u : State} (h : SameStation s t) (k : SameStation t u) : SameStation s u :=
  ⟨k.self.trans h.self, fun b => (k.bus b).trans (h.bus b)⟩
theorem sameStation_of_buses {s t : State} (hs : t.self = s.self) (hb : t.buses = s.buses) : SameStation s t :=
  ⟨hs, fun b => by rw [getBus, hb]; rfl⟩
theorem sameStation_setBus {s : State} {b : BitVec 2} {x : Bus} (h : noQueue x = noQueue (getBus s b)) : SameStation s (setBus b x s) :=
  ⟨rfl, fun d => by
    by_cases e : d = b
    · subst e; rw [getBus_setBus_self, h]
    · rw [getBus_setBus_ne e]⟩

theorem tagDown_buses (t : BitVec 6) (s : State) : (tagDown t s).buses = s.buses ∧ (tagDown t s).self = s.self := by
  unfold tagDown
  dsimp only
  split <;> exact ⟨rfl, rfl⟩
theorem dropFrames_buses (l : List TxEntry) (s : State) : (dropFrames l s).buses = s.buses ∧ (dropFrames l s).self = s.self := by
  have one : ∀ (u : State) (e : TxEntry), (match e.tag with | some t => tagDown t u | none => u).buses = u.buses ∧
      (match e.tag with | some t => tagDown t u | none => u).self = u.self := fun u e => by
    split
    · exact tagDown_buses _ u
    · exact ⟨rfl, rfl⟩
  exact ⟨foldl_keeps (π := State.buses) (fun u e => (one u e).1) l s, foldl_keeps (π := State.self) (fun u e => (one u e).2) l s⟩

theorem enqueue_sameStation (e : TxEntry) (s : State) : SameStation s (enqueue e s) := by
  unfold enqueue
  dsimp only
  split
  · exact sameStation_of_buses (dropFrames_buses _ s).2 (dropFrames_buses _ s).1
  · exact sameStation_setBus rfl

theorem headNext_buses {s t : State} {c : CtxId} {a : Access} (h : headNext s c a = .leave t) : t.buses = s.buses ∧ t.self = s.self := by
  revert h
  unfold headNext
  dsimp only
  repeat' split
  all_goals
    intro h
    cases h
  all_goals exact ⟨rfl, rfl⟩

theorem drainRel_buses (c : CtxId) (n : Nat) (s : State) : (drainRel c n s).buses = s.buses ∧ (drainRel c n s).self = s.self := by
  induction n generalizing s with
  | zero => exact ⟨rfl, rfl⟩
  | succ n ih =>
    rw [drainRel]
    dsimp only
    split
    · split
      · exact ⟨rfl, rfl⟩
      next h =>
        obtain ⟨buses, self⟩ := headNext_buses h
        obtain ⟨buses', self'⟩ := ih _
        exact ⟨buses'.trans buses, self'.trans self⟩
    · exact ⟨rfl, rfl⟩

theorem enter_sameStation (t : Nat) (r : Ready) (s : State) : SameStation s (enter t r s) := by
  unfold enter
  dsimp only
  split
  · exact (sameStation_setBus (by rfl)).trans (enqueue_sameStation _ _)
  · exact (sameStation_of_buses (by rfl) (by rfl)).trans (enqueue_sameStation _ _)
  · obtain ⟨buses, self⟩ := drainRel_buses _ _ _
    exact ((sameStation_of_buses (by rfl) (by rfl)).trans (enqueue_sameStation _ _)).trans (sameStation_of_buses self buses)

theorem takeIn_sameStation (t : Nat) (ok : Nat → Bool) (n : Nat) (s : State) : SameStation s (takeIn t ok n s) := by
  induction n generalizing s with
  | zero => exact SameStation.refl s
  | succ n ih =>
    rw [takeIn]
    split
    · exact (enter_sameStation t _ s).trans (ih _)
    · exact SameStation.refl s
theorem admitAt_sameStation (t : Nat) (s : State) : SameStation s (admitAt t s) := takeIn_sameStation _ _ _ s

theorem purge_sameStation (b : BitVec 2) (s : State) : SameStation s (purge b s) := by
  unfold purge
  dsimp only
  split
  · exact SameStation.refl s
  · exact (sameStation_setBus (by rfl)).trans (sameStation_of_buses (dropFrames_buses _ _).2 (dropFrames_buses _ _).1)

theorem report_buses (q : Nat) (k : BitVec 16) (a b : Dbl) (s : State) : (report q k a b s).buses = s.buses ∧ (report q k a b s).self = s.self := by
  unfold report
  split <;> exact ⟨rfl, rfl⟩
theorem leftBus_sameStation (b : BitVec 2) (s : State) : SameStation s (leftBus b s) :=
  sameStation_of_buses (foldl_keeps (π := State.self) (fun u _ => (report_buses _ _ _ _ u).2) _ _)
    (foldl_keeps (π := State.buses) (fun u _ => (report_buses _ _ _ _ u).1) _ _)

/-! Fields of a bus that are not its queues -/

section
variable {s t : State} (h : SameStation s t)
include h
theorem SameStation.field {α : Type} (f : Bus → α) (hf : ∀ x, f (noQueue x) = f x) (b : BitVec 2) : f (getBus t b) = f (getBus s b) := by
  rw [← hf, h.bus, hf]
theorem SameStation.sending (b : BitVec 2) : (getBus t b).sending = (getBus s b).sending := h.field Bus.sending (fun _ => rfl) b
theorem SameStation.air (b : BitVec 2) : (getBus t b).air = (getBus s b).air := h.field Bus.air (fun _ => rfl) b
theorem SameStation.next (b : BitVec 2) : (getBus t b).next = (getBus s b).next := h.field Bus.next (fun _ => rfl) b
theorem SameStation.quiet (b : BitVec 2) : (getBus t b).quiet = (getBus s b).quiet := h.field Bus.quiet (fun _ => rfl) b
theorem SameStation.pos (b : BitVec 2) : (getBus t b).pos = (getBus s b).pos := h.field Bus.pos (fun _ => rfl) b
theorem SameStation.arr (b : BitVec 2) : (getBus t b).arr = (getBus s b).arr := h.field Bus.arr (fun _ => rfl) b
theorem SameStation.round (b : BitVec 2) : (getBus t b).round = (getBus s b).round := h.field Bus.round (fun _ => rfl) b
theorem SameStation.present (b : BitVec 2) : (getBus t b).present = (getBus s b).present := h.field Bus.present (fun _ => rfl) b
end

end Sys2Proof.Machine
end

section
/-! SUPPORT. O43: the token of a bus and its rounds. -/
namespace Sys2Proof.Machine
-- One declaration after another, as in the parts above.
set_option Elab.async false

/-! The token (R325, R326, R327) -/

/-- The bus whose token is at the next station. -/
def busShifted (x : Bus) : Bus := { x with pos := (x.pos + 1) % 80, arr := x.next, next := x.next + 1 }

/-- The token at the next station: on from station 79 a round starts (R325). -/
def tokenMoved (b : BitVec 2) (s : State) : State :=
  let x := getBus s b
  let s0 := setBus b (busShifted x) s
  addView b x.next (if (x.pos + 1) % 80 = 0 then roundStart b s0 else s0)

/-- Our station sends the head of its queue at a visit of the token (R325, R327, R416). -/
def maySend (s u : State) (b : BitVec 2) (e : TxEntry) : Bool :=
  decide (((getBus s b).pos + 1) % 80 = u.myCluster) && ownPresent u b && (getBus u b).quiet.isNone &&
    (getBus u b).resumeAt.all (fun r => decide (r ≤ (getBus s b).next)) && decide (e.tick ≤ (getBus s b).next)

theorem tokenStep_stays {s : State} {b : BitVec 2} (h : (getBus s b).sending = true ∨ tickNow s < (getBus s b).next) : tokenStep b s = s := by
  unfold tokenStep
  exact if_pos (by rcases h with h | h <;> simp [h])

theorem tokenStep_moves {s : State} {b : BitVec 2} (hs : (getBus s b).sending = false) (hn : (getBus s b).next ≤ tickNow s) :
    tokenStep b s = (match (getBus (tokenMoved b s) b).txq with
      | e :: _ =>
        if maySend s (tokenMoved b s) b e then
          if loaded e then setBus b { getBus (tokenMoved b s) b with sending := true } (tokenMoved b s)
          else if tickNow s ≤ (getBus s b).next + 1 then s else tokenMoved b s
        else tokenMoved b s
      | [] => tokenMoved b s) := by
  unfold tokenStep
  exact (if_neg (by simp [hs, hn])).trans rfl

/-- A visit after which our station has moved on with the token, sending or not. -/
theorem tokenStep_visit {s : State} {b : BitVec 2} (hs : (getBus s b).sending = false) (hn : (getBus s b).next ≤ tickNow s)
    (hl : ∀ e ∈ (getBus (tokenMoved b s) b).txq.take 1, maySend s (tokenMoved b s) b e = true → loaded e = true ∨ (getBus s b).next + 1 < tickNow s) :
    tokenStep b s = tokenMoved b s ∨ tokenStep b s = setBus b { getBus (tokenMoved b s) b with sending := true } (tokenMoved b s) := by
  rw [tokenStep_moves hs hn]
  split
  next e l hq =>
    rw [hq] at hl
    split
    next may =>
      split
      · exact .inr rfl
      next unloaded =>
        rw [if_neg]
        · exact .inl rfl
        · have := (hl e (by simp) may).resolve_left unloaded
          omega
    next => exact .inl rfl
  next => exact .inl rfl

section
variable {s : State} {b : BitVec 2}

/-- Between stations 0 and 79 only the token moves, and is seen to (R326). -/
theorem getBus_tokenMoved (hp : (getBus s b).pos % 80 ≠ 79) : ∃ v, getBus (tokenMoved b s) b =
    { getBus s b with pos := ((getBus s b).pos + 1) % 80, arr := (getBus s b).next, next := (getBus s b).next + 1, views := v } ∧
    (tokenMoved b s).mem = s.mem ∧ (tokenMoved b s).ctxs = s.ctxs ∧ (tokenMoved b s).self = s.self := by
  have p : ((getBus s b).pos + 1) % 80 ≠ 0 := by omega
  unfold tokenMoved
  dsimp only
  rw [if_neg p, addView, getBus_setBus_self, getBus_setBus_self]
  exact ⟨_, rfl, rfl, rfl, rfl⟩

theorem tokenPasses (hs : (getBus s b).sending = false) (hn : (getBus s b).next ≤ tickNow s) (hp : (getBus s b).pos % 80 ≠ 79)
    (hl : ∀ e ∈ (getBus s b).txq.take 1, loaded e = true) : ∃ t, exec (.tokenArrive b) s = .next t ∧
      (getBus t b).pos = ((getBus s b).pos + 1) % 80 ∧ (getBus t b).arr = (getBus s b).next ∧ (getBus t b).next = (getBus s b).next + 1 ∧
      (getBus t b).round = (getBus s b).round ∧ (getBus t b).present = (getBus s b).present ∧ t.mem = s.mem ∧ t.ctxs = s.ctxs ∧
      ((getBus t b).sending = true ↔ (∃ e l, (getBus s b).txq = e :: l ∧ e.tick ≤ (getBus s b).next) ∧ ((getBus s b).pos + 1) % 80 = s.myCluster ∧
        ownPresent s b = true ∧ (getBus s b).quiet = none ∧ (∀ r, (getBus s b).resumeAt = some r → r ≤ (getBus s b).next)) := by
  obtain ⟨v, bus, mem, ctxs, self⟩ := getBus_tokenMoved hp
  have cluster : (tokenMoved b s).myCluster = s.myCluster := by unfold State.myCluster State.me; rw [self]
  have present : ownPresent (tokenMoved b s) b = ownPresent s b := by rw [ownPresent, bus, cluster]; rfl
  have may : ∀ e, maySend s (tokenMoved b s) b e = true ↔ ((getBus s b).pos + 1) % 80 = s.myCluster ∧ ownPresent s b = true ∧
      (getBus s b).quiet = none ∧ (∀ r, (getBus s b).resumeAt = some r → r ≤ (getBus s b).next) ∧ e.tick ≤ (getBus s b).next := fun e => by
    rw [maySend, bus, cluster, present]
    simp [Option.all_eq_true, and_assoc]
  have step := tokenStep_moves hs hn
  refine ⟨_, congrArg Host.Outcome.next step, ?_⟩
  rw [bus]
  cases hq : (getBus s b).txq with
  | nil =>
    dsimp only
    rw [bus]
    refine ⟨rfl, rfl, rfl, rfl, rfl, mem, ctxs, fun h => ?_, fun ⟨⟨e, l, h, _⟩, _⟩ => absurd h (by simp)⟩
    exact absurd (hs.symm.trans h) (by decide)
  | cons e l =>
    have ready : loaded e = true := hl e (by rw [hq]; simp)
    dsimp only
    rw [if_pos ready]
    by_cases h : maySend s (tokenMoved b s) b e = true
    · rw [if_pos h, getBus_setBus_self]
      obtain ⟨here, on, quiet, resume, due⟩ := (may e).mp h
      exact ⟨rfl, rfl, rfl, rfl, rfl, mem, ctxs, fun _ => ⟨⟨e, l, rfl, due⟩, here, on, quiet, resume⟩, fun _ => rfl⟩
    · rw [if_neg h, bus]
      refine ⟨rfl, rfl, rfl, rfl, rfl, mem, ctxs, fun h => absurd (hs.symm.trans h) (by decide), ?_⟩
      rintro ⟨⟨e', l', hq', due⟩, here, on, quiet, resume⟩
      obtain ⟨rfl, rfl⟩ := List.cons.inj hq'
      exact absurd ((may e).mpr ⟨here, on, quiet, resume, due⟩) h

end

/-! A round (R325, R327) -/

/-- The presence bits depend on the receivers' lock, our leaving, the clusters' power and the gates (R327). -/
theorem presence_congr {s t : State} {b : BitVec 2} (hl : (getBus t b).lock = (getBus s b).lock) (hv : (getBus t b).leave = (getBus s b).leave)
    (hp : t.pkg = s.pkg) (hs : t.self = s.self) (u : Nat) : presence t b u = presence s b u := by
  have join : mayJoin t b u = mayJoin s b u := funext fun st => by
    unfold mayJoin clusterSt gateAt State.myCluster State.me
    rw [hl, hv, hp, hs]
  unfold presence
  rw [join]

theorem leftBus_mem (b : BitVec 2) (s : State) : (leftBus b s).mem = s.mem :=
  (foldl_mem (fun s _ => report_mem _ _ _ _ s) _ _).trans rfl

/-- A round start: ROUND rises, and the presence bits change (R325, R327). -/
theorem roundStart_bus (b : BitVec 2) (s : State) :
    SameStation (setBus b { getBus s b with round := (getBus s b).round + 1, present := presence s b (getBus s b).arr } s) (roundStart b s) ∧
    (roundStart b s).mem = s.mem := by
  have station : SameStation (setBus b { getBus s b with round := (getBus s b).round + 1, present := presence s b (getBus s b).arr } s) _ :=
    (purge_sameStation b _).trans (admitAt_sameStation (getBus s b).arr _)
  have mem := ((purge_keeps b (setBus b { getBus s b with round := (getBus s b).round + 1, present := presence s b (getBus s b).arr } s)).trans
    (admitAt_keeps (getBus s b).arr _)).1
  unfold roundStart
  dsimp only
  split
  · exact ⟨station.trans (leftBus_sameStation b _), (leftBus_mem b _).trans mem⟩
  · exact ⟨station, mem⟩

section
variable {s : State} {b : BitVec 2}

/-- Past station 79 a round starts (R325). -/
theorem getBus_tokenMoved_round (hp : (getBus s b).pos % 80 = 79) :
    (getBus (tokenMoved b s) b).pos = 0 ∧ (getBus (tokenMoved b s) b).arr = (getBus s b).next ∧
    (getBus (tokenMoved b s) b).round = (getBus s b).round + 1 ∧
    (getBus (tokenMoved b s) b).present = presence s b (getBus s b).next ∧ (tokenMoved b s).mem = s.mem ∧ (tokenMoved b s).self = s.self := by
  have p : ((getBus s b).pos + 1) % 80 = 0 := by omega
  obtain ⟨s0, h0⟩ : ∃ s0, s0 = setBus b (busShifted (getBus s b)) s := ⟨_, rfl⟩
  have bus0 : getBus s0 b = busShifted (getBus s b) := by rw [h0, getBus_setBus_self]
  have moved : tokenMoved b s = addView b (getBus s b).next (roundStart b s0) := by
    unfold tokenMoved
    rw [h0]
    exact congrArg (addView b (getBus s b).next) (if_pos p)
  have pkg : s0.pkg = s.pkg := by rw [h0]; rfl
  have self0 : s0.self = s.self := by rw [h0]; rfl
  have mem0 : s0.mem = s.mem := by rw [h0]; rfl
  have here : presence s0 b (busShifted (getBus s b)).arr = presence s b (getBus s b).next :=
    presence_congr (by rw [bus0]; rfl) (by rw [bus0]; rfl) pkg self0 _
  obtain ⟨station, mem⟩ := roundStart_bus b s0
  have pos := station.pos b
  have arr := station.arr b
  have round := station.round b
  have present := station.present b
  rw [getBus_setBus_self, bus0] at pos arr round present
  rw [moved, addView, getBus_setBus_self]
  exact ⟨pos.trans p, arr, round, present.trans here, mem.trans mem0, station.self.trans self0⟩

theorem tokenRounds (hs : (getBus s b).sending = false) (hn : (getBus s b).next ≤ tickNow s) (hp : (getBus s b).pos % 80 = 79)
    (hl : s.myCluster ≠ 0 ∨ (getBus s b).next + 1 < tickNow s) : ∃ t, exec (.tokenArrive b) s = .next t ∧ (getBus t b).pos = 0 ∧
      (getBus t b).arr = (getBus s b).next ∧ (getBus t b).round = (getBus s b).round + 1 ∧ (getBus t b).present = presence s b (getBus s b).next ∧
      t.mem = s.mem := by
  obtain ⟨pos, arr, round, present, mem, self⟩ := getBus_tokenMoved_round hp
  have p : ((getBus s b).pos + 1) % 80 = 0 := by omega
  have visit := tokenStep_visit hs hn (fun e _ may => .inr (hl.resolve_left (fun own => own ?_)))
  · refine ⟨_, rfl, ?_⟩
    rcases visit with h | h
    · rw [h]; exact ⟨pos, arr, round, present, mem⟩
    · rw [h, getBus_setBus_self]; exact ⟨pos, arr, round, present, mem⟩
  · have here : ((getBus s b).pos + 1) % 80 = (tokenMoved b s).myCluster := by
      unfold maySend at may
      simp only [Bool.and_eq_true, decide_eq_true_eq] at may
      exact may.1.1.1.1
    have cluster : (tokenMoved b s).myCluster = s.myCluster := by unfold State.myCluster State.me; rw [self]
    omega

end

end Sys2Proof.Machine
end

section
/-! SUPPORT. O43: the last beat of a frame, and the transmit queue. -/
namespace Sys2Proof.Machine
-- One declaration after another, as in the parts above.
set_option Elab.async false

/-! Ready frames (R328) -/

/-- Which frames are ready depends on the contexts, on the objects' scopes and on what waits at the station. -/
theorem readyFrames_congr {s t : State} (hc : t.ctxs = s.ctxs) (ho : t.objs = s.objs) (hs : t.self = s.self)
    (hl : ∀ b, (getBus t b).late = (getBus s b).late) : readyFrames t = readyFrames s := by
  have late : lateFrames t = lateFrames s := funext fun b => by unfold lateFrames; rw [hl]
  have sys : isSys t = isSys s := funext fun o => by unfold isSys getObj; rw [ho]
  have frame : syncFrame t = syncFrame s := by funext c k o; unfold syncFrame; rw [hs]
  have ready : readyOf t = readyOf s := by funext c w e; unfold readyOf; rw [hs]
  have ctx : getCtx t = getCtx s := funext fun c => by unfold getCtx; rw [hc]
  have out : outFrame t = outFrame s := by funext c a; unfold outFrame; rw [sys, frame, ready]
  have rel : relFrame t = relFrame s := by funext c; unfold relFrame; rw [sys, frame, ready, ctx]
  unfold readyFrames
  rw [late, out, rel, ctx]

theorem takeIn_nothing {t : Nat} {ok : Nat → Bool} {n : Nat} {s : State}
    (h : (readyFrames s).filter (fun r => ok r.tick && txRoom s r.bus) = []) : takeIn t ok n s = s := by
  cases n with
  | zero => rfl
  | succ n =>
    rw [takeIn, h]
    rfl

theorem takeIn_only {t : Nat} {ok : Nat → Bool} {n : Nat} {s : State} {r : Ready}
    (h : readyFrames s = [r]) (hr : ok r.tick = true) (room : txRoom s r.bus = true) (rest : readyFrames (enter t r s) = []) :
    takeIn t ok (n + 1) s = enter t r s := by
  have first : (readyFrames s).filter (fun r => ok r.tick && txRoom s r.bus) = [r] := by simp [h, hr, room]
  rw [takeIn, first]
  exact takeIn_nothing (by rw [rest]; rfl)

theorem admitAt_nothing {t : Nat} {s : State} (h : readyFrames s = []) : admitAt t s = s := takeIn_nothing (by rw [h]; rfl)

theorem getBus_congr {s t : State} (h : t.buses = s.buses) (b : BitVec 2) : getBus t b = getBus s b := by
  unfold getBus
  rw [h]

/-! The last beat of our frame (R324, R325, R345) -/

/-- A MAP frame with the staged map, another as it is (R417). -/
def mapFilled (x : Bus) (f : Frame) : Frame :=
  if f.kind = 6 ∧ f.payload = [] then { f with payload := leBytes 8 x.stagedL.toNat ++ leBytes 8 x.stagedH.toNat } else f

theorem beats_mapFilled (x : Bus) (f : Frame) : beats (mapFilled x f) = beats f := by
  unfold mapFilled
  split <;> rfl

theorem mapFilled_kind (x : Bus) (f : Frame) : (mapFilled x f).kind = f.kind := by
  unfold mapFilled
  split <;> rfl

section
variable {s : State} {b : BitVec 2}

theorem loadMap_idle (h : (getBus s b).sending = false) : loadMap b s = s := by
  unfold loadMap
  dsimp only
  split
  · exact if_neg (by simp [h])
  · rfl

theorem loadMap_other {e : TxEntry} {l : List TxEntry} (hq : (getBus s b).txq = e :: l) (h : ¬(e.frame.kind = 6 ∧ e.frame.payload = [])) :
    loadMap b s = s := by
  unfold loadMap
  dsimp only
  rw [hq]
  refine if_neg (fun c => h ?_)
  simp only [Bool.and_eq_true, beq_iff_eq, List.isEmpty_iff] at c
  exact ⟨c.1.2, c.2⟩

theorem loadMap_map {e : TxEntry} {l : List TxEntry} (hq : (getBus s b).txq = e :: l) (hs : (getBus s b).sending = true)
    (h : e.frame.kind = 6 ∧ e.frame.payload = []) :
    loadMap b s = setBus b { getBus s b with txq := { e with frame := mapFilled (getBus s b) e.frame } :: l } s := by
  unfold loadMap mapFilled
  dsimp only
  rw [hq, if_pos h]
  exact if_pos (by simp [hs, h])

theorem seen_mono {s : State} {t u : Nat} (h : t ≤ u) (hu : seen s u = true) : seen s t = true := by
  unfold seen at *
  simp only [decide_eq_true_eq] at *
  exact le_trans (Nat.mul_le_mul_right _ (by omega)) hu

/-- The station as its frame's last beat finds it: the payload of a MAP frame is the staged map. -/
theorem loadMap_filled {e : TxEntry} {l : List TxEntry} (hq : (getBus s b).txq = e :: l) (hs : (getBus s b).sending = true)
    (h : seen s ((getBus s b).arr + beats e.frame) = true) :
    ∃ u, (if seen s ((getBus s b).arr + 1) then loadMap b s else s) = u ∧ u = { s with buses := u.buses } ∧
      getBus u b = { getBus s b with txq := { e with frame := mapFilled (getBus s b) e.frame } :: l } ∧
      ∀ k, (getBus u k).late = (getBus s k).late := by
  by_cases map : e.frame.kind = 6 ∧ e.frame.payload = []
  · have two : beats e.frame = 2 := by unfold beats; rw [map.1]; rfl
    rw [if_pos (seen_mono (by omega) h), loadMap_map hq hs map]
    refine ⟨_, rfl, rfl, getBus_setBus_self _ _ _, fun k => ?_⟩
    by_cases hk : k = b
    · subst hk
      rw [getBus_setBus_self]
    · rw [getBus_setBus_ne hk]
  · rw [loadMap_other hq map, ite_self, mapFilled, if_neg map, ← hq]
    exact ⟨_, rfl, rfl, rfl, fun _ => rfl⟩

end

section
variable (n : Nat) (e : TxEntry) (l : List TxEntry) (x : Bus)
theorem beatBus_sending : (beatBus n e l x).sending = false := by unfold beatBus; dsimp only; split <;> rfl
theorem beatBus_next : (beatBus n e l x).next = n + 2 := by unfold beatBus; dsimp only; split <;> rfl
theorem beatBus_txq : (beatBus n e l x).txq = l := by unfold beatBus; dsimp only; split <;> rfl
theorem beatBus_late : (beatBus n e l x).late = x.late := by unfold beatBus; dsimp only; split <;> rfl
theorem beatBus_air : (beatBus n e l x).air = x.air ++ [{ tick := n + 4, frame := e.frame, mapL := x.mapL, mapH := x.mapH }] := by
  unfold beatBus; dsimp only; split <;> rfl
theorem beatBus_quiet (hk : e.frame.kind = 6) (hq : x.quietNext = true) : (beatBus n e l x).quiet = some n := by
  unfold beatBus
  dsimp only
  rw [if_pos hk]
  exact if_pos hq
end

theorem lastBeat_idle {s : State} {b : BitVec 2} (h : (getBus s b).sending = false) : lastBeat b s = s := by
  have same : (if seen s ((getBus s b).arr + 1) then loadMap b s else s) = s := by rw [loadMap_idle h, ite_self]
  obtain ⟨f, hf⟩ : ∃ f, f = lastBeat := ⟨_, rfl⟩
  rw [← hf]
  delta lastBeat at hf
  subst hf
  beta_reduce
  rw [same]
  extract_lets x
  split
  next on _ => exact absurd (h.symm.trans on) (by decide)
  · rfl

theorem lastBeat_unseen {s : State} {b : BitVec 2} {e : TxEntry} {l : List TxEntry} (hq : (getBus s b).txq = e :: l)
    (h : seen s ((getBus s b).arr + beats e.frame) = false) (hk : e.frame.kind ≠ 6) : lastBeat b s = s := by
  have same : (if seen s ((getBus s b).arr + 1) then loadMap b s else s) = s := by
    rw [loadMap_other hq (fun c => hk c.1), ite_self]
  obtain ⟨f, hf⟩ : ∃ f, f = lastBeat := ⟨_, rfl⟩
  rw [← hf]
  delta lastBeat at hf
  subst hf
  beta_reduce
  rw [same]
  extract_lets x
  split
  next hq' =>
    obtain ⟨rfl, rfl⟩ := List.cons.inj (hq'.symm.trans hq)
    extract_lets n
    exact if_pos (by rw [h]; rfl)
  · rfl

/-- The last beat sends a frame whose tick the cycle has seen, and admits what is ready. -/
theorem lastBeat_seen {b : BitVec 2} {s u : State} {e : TxEntry} {t : List TxEntry}
    (hu : (if seen s ((getBus s b).arr + 1) then loadMap b s else s) = u) (hs : (getBus u b).sending = true) (hq : (getBus u b).txq = e :: t)
    (h : seen u ((getBus u b).arr + beats e.frame) = true) :
    lastBeat b s = admitAt ((getBus u b).arr + beats e.frame)
      { dropFrames [e] (setBus b (beatBus ((getBus u b).arr + beats e.frame) e t (getBus u b)) u) with justZero := u.justZero } := by
  obtain ⟨f, hf⟩ : ∃ f, f = lastBeat := ⟨_, rfl⟩
  rw [← hf]
  delta lastBeat at hf
  subst hf
  beta_reduce
  rw [hu]
  extract_lets x
  split
  next hq' =>
    obtain ⟨rfl, rfl⟩ := List.cons.inj (hq'.symm.trans hq)
    extract_lets n f y s1
    rw [if_neg (by rw [h]; decide)]
    rfl
  next other => exact absurd hq (other e t hs)

theorem tagDown_objs (t : BitVec 6) (s : State) : (tagDown t s).objs = s.objs := by
  unfold tagDown
  dsimp only
  split <;> rfl

/-- One frame discarded: only its tag's count falls (R407). -/
theorem dropFrames_one (e : TxEntry) (s : State) : (dropFrames [e] s).ctxs = s.ctxs ∧ (dropFrames [e] s).objs = s.objs ∧
    (dropFrames [e] s).mem = s.mem ∧ ∀ g, e.tag = some g → tagCount (dropFrames [e] s) g.toNat = tagCount s g.toNat - 1 := by
  simp only [dropFrames, List.foldl_cons, List.foldl_nil]
  cases h : e.tag with
  | none => exact ⟨rfl, rfl, rfl, fun g hg => absurd hg (by simp)⟩
  | some g =>
    refine ⟨tagDown_ctxs g s, tagDown_objs g s, tagDown_mem g s, fun g' hg => ?_⟩
    obtain rfl := Option.some.inj hg
    exact tagCount_tagDown g s

section
variable {s : State} {b : BitVec 2} {e : TxEntry} {l : List TxEntry}

theorem frameSent (hq : (getBus s b).txq = e :: l) (hs : (getBus s b).sending = true)
    (h : seen s ((getBus s b).arr + beats e.frame) = true) : ∃ t, exec (.frameLastBeat b none) s = .next t ∧ (getBus t b).sending = false ∧
      (getBus t b).air = (getBus s b).air ++
        [⟨(getBus s b).arr + beats e.frame + 4, mapFilled (getBus s b) e.frame, (getBus s b).mapL, (getBus s b).mapH⟩] ∧
      (getBus t b).next = (getBus s b).arr + beats e.frame + 2 ∧ t.mem = s.mem ∧ (readyFrames s = [] → (getBus t b).txq = l ∧ t.ctxs = s.ctxs ∧
        ∀ g, e.tag = some g → tagCount t g.toNat = tagCount s g.toNat - 1) ∧
      (e.frame.kind = 6 → (getBus s b).quietNext = true → (getBus t b).quiet = some ((getBus s b).arr + beats e.frame)) := by
  obtain ⟨u, hu, core, bus, late⟩ := loadMap_filled hq hs h
  obtain ⟨e', he⟩ : ∃ e', e' = { e with frame := mapFilled (getBus s b) e.frame } := ⟨_, rfl⟩
  have frame : e'.frame = mapFilled (getBus s b) e.frame := by rw [he]
  have kind : e'.frame.kind = e.frame.kind := by rw [frame, mapFilled_kind]
  have tag : e'.tag = e.tag := by rw [he]
  rw [← he] at bus
  obtain ⟨n, hn⟩ : ∃ n, n = (getBus s b).arr + beats e.frame := ⟨_, rfl⟩
  have last : (getBus u b).arr + beats e'.frame = n := by rw [bus, frame, beats_mapFilled, hn]
  have sent := lastBeat_seen hu (by rw [bus]; exact hs) (by rw [bus]) (by
    rw [last, hn, core]
    exact h)
  rw [last, bus] at sent
  rw [← hn]
  obtain ⟨y, hy⟩ : ∃ y, y = beatBus n e' l { getBus s b with txq := e' :: l } := ⟨_, rfl⟩
  rw [← hy] at sent
  obtain ⟨ctxs, objs, mem, tags⟩ := dropFrames_one e' (setBus b y u)
  obtain ⟨buses, self⟩ := dropFrames_buses [e'] (setBus b y u)
  obtain ⟨v, hv⟩ : ∃ v, v = { dropFrames [e'] (setBus b y u) with justZero := u.justZero } := ⟨_, rfl⟩
  have here : getBus v b = y := by
    rw [hv]
    exact (getBus_congr (by exact buses) b).trans (getBus_setBus_self b y u)
  have elsewhere : ∀ k, k ≠ b → getBus v k = getBus u k := fun k hk => by
    rw [hv]
    exact (getBus_congr (by exact buses) k).trans (getBus_setBus_ne hk y u)
  have station := admitAt_sameStation n v
  have sending := station.sending b
  have air := station.air b
  have next := station.next b
  have quiet := station.quiet b
  rw [here, hy] at sending air next quiet
  rw [beatBus_sending] at sending
  rw [beatBus_air, frame] at air
  rw [beatBus_next] at next
  have hmem : v.mem = s.mem := by rw [hv]; exact mem.trans (by rw [core]; rfl)
  have hctxs : v.ctxs = s.ctxs := by rw [hv]; exact ctxs.trans (by rw [core]; rfl)
  have hobjs : v.objs = s.objs := by rw [hv]; exact objs.trans (by rw [core]; rfl)
  have hself : v.self = s.self := by rw [hv]; exact self.trans (by rw [core]; rfl)
  have step : exec (.frameLastBeat b none) s = .next (admitAt n v) := by
    rw [hv]; exact congrArg Host.Outcome.next sent
  refine ⟨_, step, sending, air, next, (admitAt_keeps n v).1.trans hmem, fun none => ?_, fun k q => ?_⟩
  · have same : readyFrames v = readyFrames s := readyFrames_congr hctxs hobjs hself (fun k => by
      by_cases hk : k = b
      · subst hk
        rw [here, hy, beatBus_late]
      · rw [elsewhere k hk, late])
    rw [admitAt_nothing (same.trans none), here, hy, beatBus_txq]
    refine ⟨rfl, hctxs, fun g hg => ?_⟩
    rw [hv]
    exact (tags g (tag.trans hg)).trans (by rw [core]; rfl)
  · exact quiet.trans (beatBus_quiet _ _ _ { getBus s b with txq := e' :: l } (kind.trans k) q)

end

theorem otherBeats (s : State) (b : BitVec 2) (f : Frame) (lo hi : Dbl) (hs : (getBus s b).sending = false) (hb : f.bus = b)
    (hf : f.sender.toNat / 16 = (getBus s b).pos) (hp : (getBus s b).pos ≠ s.myCluster)
    (present : (getBus s b).present.getLsbD (getBus s b).pos = true) (hn : (getBus s b).next = (getBus s b).arr + 1) :
    ((getBus s b).arr + beats f ≤ tickNow s → ∃ t, exec (.frameLastBeat b (some (f, lo, hi))) s = .next t ∧
      (getBus t b).next = (getBus s b).arr + beats f + 2 ∧
      (getBus t b).air = (getBus s b).air ++ [{ tick := (getBus s b).arr + beats f + 4, frame := f, mapL := lo, mapH := hi }] ∧
      t.mem = s.mem ∧ t.ctxs = s.ctxs) ∧
    (tickNow s < (getBus s b).arr + beats f → exec (.frameLastBeat b (some (f, lo, hi))) s = .next s) := by
  refine ⟨fun due => ?_, fun early => ?_⟩
  · have step : otherBeat b f lo hi s = setBus b { getBus s b with
        air := (getBus s b).air ++ [{ tick := (getBus s b).arr + beats f + 4, frame := f, mapL := lo, mapH := hi }],
        next := (getBus s b).arr + beats f + 2 } s := by
      unfold otherBeat
      exact if_neg (by simp [hs, hb, hf, hp, present, hn, due])
    refine ⟨_, congrArg Host.Outcome.next step, ?_⟩
    rw [getBus_setBus_self]
    exact ⟨rfl, rfl, rfl, rfl⟩
  · exact congrArg Host.Outcome.next (if_pos (by simp [early]))

theorem beats_eq (f : Frame) : (f.kind.toNat < 2 → beats f = 1 + (f.len.toNat + 79) / 80) ∧ (f.kind = 6 → beats f = 2) ∧
    (2 ≤ f.kind.toNat → f.kind ≠ 6 → beats f = 1) := by
  unfold beats
  refine ⟨fun h => by rw [if_pos h]; rfl, fun h => by rw [h]; rfl, fun h h' => ?_⟩
  rw [if_neg (by omega), if_neg h']

theorem tokenEvents : Claim.TokenEvents := by
  unfold Claim.TokenEvents
  refine ⟨fun s b => ⟨fun h => ?_, tokenPasses, tokenRounds⟩, fun s b e l hq => ⟨fun hs h => frameSent hq hs h, fun h => ?_⟩,
    fun s b f lo hi hs hb hf hp present hn => otherBeats s b f lo hi hs hb hf hp present hn, beats_eq⟩
  · exact congrArg Host.Outcome.next (tokenStep_stays h)
  · refine congrArg Host.Outcome.next ?_
    rcases h with h | ⟨h, hk⟩
    · exact lastBeat_idle h
    · exact lastBeat_unseen hq h hk

end Sys2Proof.Machine
end

section
/-! SUPPORT. O43: ready frames enter the transmit queue. -/
namespace Sys2Proof.Machine
-- One declaration after another, as in the parts above.
set_option Elab.async false

/-! What is ready (R328) -/

theorem flatMap_only {α β : Type} {f : α → List β} {c : α} (h : ∀ d, d ≠ c → f d = []) :
    ∀ {l : List α}, l.Nodup → c ∈ l → l.flatMap f = f c
  | d :: l, nd, hc => by
    rw [List.flatMap_cons]
    obtain ⟨out, nd⟩ := List.nodup_cons.mp nd
    by_cases e : d = c
    · subst e
      rw [List.flatMap_eq_nil_iff.mpr (fun x hx => h x (fun e => out (e ▸ hx))), List.append_nil]
    · rw [h d e, List.nil_append]
      exact flatMap_only h nd ((List.mem_cons.mp hc).resolve_left (fun e' => e e'.symm))

/-- The ready frames of a context. -/
def ctxFrames (s : State) (c : CtxId) : List Ready := (getCtx s c).out.flatMap (outFrame s c) ++ relFrame s c

theorem ctxFrames_empty {s : State} {c : CtxId} (ho : (getCtx s c).out = []) (hr : (getCtx s c).rel = []) : ctxFrames s c = [] := by
  simp [ctxFrames, relFrame, ho, hr]

theorem mem_buses (b : BitVec 2) : b ∈ ([0, 1, 2, 3] : List (BitVec 2)) := by revert b; decide

theorem lateFrames_empty {s : State} {b : BitVec 2} (h : (getBus s b).late = []) : lateFrames s b = [] := by
  simp [lateFrames, h]

/-- Nothing waits at the station: what is ready is ready in a context. -/
theorem readyFrames_ctxs {s : State} (hl : ∀ k, (getBus s k).late = []) : readyFrames s = allCtx.flatMap (ctxFrames s) := by
  have none : [0, 1, 2, 3].flatMap (lateFrames s) = [] := List.flatMap_eq_nil_iff.mpr (fun b _ => lateFrames_empty (hl b))
  rw [readyFrames, none, List.nil_append]
  rfl

theorem readyFrames_empty {s : State} (hl : ∀ k, (getBus s k).late = []) (h : ∀ d, (getCtx s d).out = [] ∧ (getCtx s d).rel = []) :
    readyFrames s = [] := by
  rw [readyFrames_ctxs hl]
  exact List.flatMap_eq_nil_iff.mpr (fun d _ => ctxFrames_empty (h d).1 (h d).2)

/-- The ready frame of an access that waits. -/
def accessReady (s : State) (c : CtxId) (a : Access) (f : Frame) : Ready := readyOf s c (.out c a) { frame := f, tick := a.tick }

theorem readyFrames_access {s : State} {c : CtxId} {a : Access} {f : Frame} {p : Nat} {g : BitVec 6} (hl : ∀ k, (getBus s k).late = [])
    (hd : ∀ d, d ≠ c → (getCtx s d).out = [] ∧ (getCtx s d).rel = []) (hr : (getCtx s c).rel = []) (ho : (getCtx s c).out = [a])
    (ha : a.op = .frame f p g) (left : a.left = none) : readyFrames s = [accessReady s c a f] := by
  rw [readyFrames_ctxs hl, flatMap_only (fun d hdc => ctxFrames_empty (hd d hdc).1 (hd d hdc).2) (by decide) (mem_allCtx c)]
  simp [ctxFrames, relFrame, outFrame, accessReady, ho, hr, ha, left]

/-- The ready frame that waits at the station. -/
def lateReady (b : BitVec 2) (e : TxEntry) : Ready :=
  { tick := e.tick, core := e.frame.sender.toNat % 16, ctx := e.frame.ctx.toNat, bus := b, waiter := .late 0, entry := e }

theorem readyFrames_late {s : State} {b : BitVec 2} {e : TxEntry} (h : ∀ d, (getCtx s d).out = [] ∧ (getCtx s d).rel = [])
    (hk : ∀ k, k ≠ b → (getBus s k).late = []) (hb : (getBus s b).late = [e]) : readyFrames s = [lateReady b e] := by
  have ctxs : allCtx.flatMap (ctxFrames s) = [] := List.flatMap_eq_nil_iff.mpr (fun d _ => ctxFrames_empty (h d).1 (h d).2)
  have late : [0, 1, 2, 3].flatMap (lateFrames s) = lateFrames s b :=
    flatMap_only (fun k hkb => lateFrames_empty (hk k hkb)) (by decide) (mem_buses b)
  have split : readyFrames s = [0, 1, 2, 3].flatMap (lateFrames s) ++ allCtx.flatMap (ctxFrames s) := rfl
  rw [split, ctxs, late, List.append_nil, lateFrames, hb]
  rfl

/-! What enters (R328, R407) -/

/-- A bus with a frame behind those in its transmit queue. -/
def busQueued (x : Bus) (e : TxEntry) : Bus := { x with txq := x.txq ++ [e] }

theorem enqueue_plain {e : TxEntry} {s : State} (h : isPayload e = false) :
    enqueue e s = setBus e.frame.bus (busQueued (getBus s e.frame.bus) e) s := by
  unfold enqueue
  exact if_neg (by rw [h]; exact Bool.false_ne_true)

theorem enter_access {t : Nat} {s : State} {c : CtxId} {a : Access} {f : Frame} {p : Nat} {g : BitVec 6} (ho : (getCtx s c).out = [a])
    (ha : a.op = .frame f p g) (hf : f.kind = 5) : enter t (accessReady s c a f) s =
      setBus f.bus (busQueued (getBus s f.bus) { frame := f, ctx := c, tick := max t a.tick }) (putOut c a (fun _ => none) s) := by
  have plain : isPayload { frame := f, ctx := c, tick := max t a.tick } = false := by
    unfold isPayload
    dsimp only
    rw [hf]
    rfl
  have gone : ∀ k : Access → Option Access, k a = none → putOut c a k s = putOut c a (fun _ => none) s := fun k hk => by
    simp [putOut, ho, Access.is, hk]
  unfold enter accessReady readyOf
  dsimp only
  rw [gone _ (by rw [ha]), enqueue_plain plain]
  rfl

theorem frameEnters (s : State) (b : BitVec 2) (c : CtxId) (a : Access) (f : Frame) (p : Nat) (g : BitVec 6)
    (hd : ∀ d, d ≠ c → (getCtx s d).out = [] ∧ (getCtx s d).rel = []) (hr : (getCtx s c).rel = []) (ho : (getCtx s c).out = [a])
    (hl : ∀ k, (getBus s k).late = []) (ha : a.op = .frame f p g) (hb : f.bus = b) (hf : f.kind = 5) (left : a.left = none) :
    (a.tick ≤ tickNow s → txRoom s b = true →
      ∃ t, exec (.stationEnqueue b none) s = .next t ∧ (getCtx t c).out = [] ∧ t.mem = s.mem ∧
        (getBus t b).txq = (getBus s b).txq ++ [{ frame := f, ctx := c, id := none, tick := tickNow s }]) ∧
    (txRoom s b = false ∨ tickNow s < a.tick → exec (.stationEnqueue b none) s = .next s) := by
  have ready := readyFrames_access hl hd hr ho ha left
  have bus : (accessReady s c a f).bus = b := hb
  refine ⟨fun due room => ?_, fun stays => congrArg Host.Outcome.next (takeIn_nothing ?_)⟩
  · have entered := enter_access (t := tickNow s) ho ha hf
    rw [hb, Nat.max_eq_left due] at entered
    obtain ⟨q, hq⟩ : ∃ q, q = busQueued (getBus s b) { frame := f, ctx := c, tick := tickNow s } := ⟨_, rfl⟩
    have late : q.late = [] := by rw [hq]; exact hl b
    rw [← hq] at entered
    have own : getCtx (setBus b q (putOut c a (fun _ => none) s)) c = { getCtx s c with out := [] } := getCtx_putOut_none ho
    have rest : readyFrames (enter (tickNow s) (accessReady s c a f) s) = [] := by
      rw [entered]
      refine readyFrames_empty (fun k => ?_) (fun d => ?_)
      · by_cases hk : k = b
        · rw [hk, getBus_setBus_self, late]
        · rw [getBus_setBus_ne hk]
          exact hl k
      · by_cases hdc : d = c
        · rw [hdc, own]
          exact ⟨rfl, hr⟩
        · have other : getCtx (setBus b q (putOut c a (fun _ => none) s)) d = getCtx s d := getCtx_setCtx_ne _ hdc _
          rw [other]
          exact hd d hdc
    have taken : admitAt (tickNow s) s = setBus b q (putOut c a (fun _ => none) s) :=
      (takeIn_only ready (decide_eq_true due) (by rw [bus]; exact room) rest).trans entered
    refine ⟨_, congrArg Host.Outcome.next taken, ?_, rfl, ?_⟩
    · rw [own]
    · rw [getBus_setBus_self, hq]
      rfl
  · rw [ready]
    refine List.filter_cons_of_neg ?_
    rw [bus]
    rcases stays with h | h
    · simp [h]
    · have late : ¬ (accessReady s c a f).tick ≤ tickNow s := not_le.mpr h
      simp [late]

/-- The bus whose frames of other cores have entered. -/
def noLate (x : Bus) : Bus := { x with late := [] }

/-- A frame of another core has entered, or is discarded because it carries a payload and the station is absent. -/
def lateEntered (b : BitVec 2) (e : TxEntry) (s : State) : State :=
  let t := setBus b (noLate (getBus s b)) s
  if e.frame.kind.toNat < 2 ∧ ownPresent s b = false then t else setBus b (busQueued (noLate (getBus s b)) e) t

theorem lateEntered_bus (b : BitVec 2) (e : TxEntry) (s : State) : (getBus (lateEntered b e s) b).late = [] ∧
    (getBus (lateEntered b e s) b).txq = (getBus s b).txq ++ (if e.frame.kind.toNat < 2 ∧ ownPresent s b = false then [] else [e]) ∧
    ∀ k, k ≠ b → getBus (lateEntered b e s) k = getBus s k := by
  unfold lateEntered
  dsimp only
  split
  · rw [getBus_setBus_self]
    exact ⟨rfl, (List.append_nil _).symm, fun k hk => getBus_setBus_ne hk _ _⟩
  · rw [getBus_setBus_self]
    exact ⟨rfl, rfl, fun k hk => (getBus_setBus_ne hk _ _).trans (getBus_setBus_ne hk _ _)⟩

theorem lateEntered_same (b : BitVec 2) (e : TxEntry) (s : State) : (lateEntered b e s).mem = s.mem ∧ (lateEntered b e s).ctxs = s.ctxs := by
  unfold lateEntered
  dsimp only
  split <;> exact ⟨rfl, rfl⟩

theorem enter_late {t : Nat} {s : State} {b : BitVec 2} {e : TxEntry} (hb : (getBus s b).late = [e]) (he : e.frame.bus = b) (ht : e.tag = none) :
    enter t (lateReady b e) s = lateEntered b { e with tick := max t e.tick } s := by
  have here : ownPresent (setBus b (noLate (getBus s b)) s) b = ownPresent s b := by
    unfold ownPresent
    rw [getBus_setBus_self]
    rfl
  have first : enter t (lateReady b e) s = enqueue { e with tick := max t e.tick } (setBus b (noLate (getBus s b)) s) := by
    unfold enter lateReady noLate
    dsimp only
    rw [hb]
    rfl
  rw [first]
  unfold enqueue lateEntered
  dsimp only
  rw [he, here]
  by_cases h : e.frame.kind.toNat < 2 ∧ ownPresent s b = false
  · rw [if_pos h, if_pos (by simp [isPayload, h])]
    simp only [dropFrames, List.foldl_cons, List.foldl_nil, ht]
  · rw [if_neg h, if_neg (by simpa [isPayload] using h), getBus_setBus_self]
    rfl

theorem lateEnters (s : State) (b : BitVec 2) (e : TxEntry) (h : ∀ d, (getCtx s d).out = [] ∧ (getCtx s d).rel = [])
    (hk : ∀ k, k ≠ b → (getBus s k).late = []) (hb : (getBus s b).late = [e]) (he : e.frame.bus = b) (ht : e.tag = none) :
    (e.tick ≤ tickNow s → txRoom s b = true → ∃ t, exec (.stationEnqueue b none) s = .next t ∧ (getBus t b).late = [] ∧
      t.mem = s.mem ∧ t.ctxs = s.ctxs ∧ (getBus t b).txq = (getBus s b).txq ++
        (if e.frame.kind.toNat < 2 ∧ ownPresent s b = false then [] else [{ e with tick := tickNow s }])) ∧
    (txRoom s b = false ∨ tickNow s < e.tick → exec (.stationEnqueue b none) s = .next s) := by
  have ready := readyFrames_late h hk hb
  refine ⟨fun due room => ?_, fun stays => congrArg Host.Outcome.next (takeIn_nothing ?_)⟩
  · have entered := enter_late (t := tickNow s) hb he ht
    rw [Nat.max_eq_left due] at entered
    obtain ⟨late, txq, others⟩ := lateEntered_bus b { e with tick := tickNow s } s
    obtain ⟨mem, ctxs⟩ := lateEntered_same b { e with tick := tickNow s } s
    have rest : readyFrames (enter (tickNow s) (lateReady b e) s) = [] := by
      rw [entered]
      refine readyFrames_empty (fun k => ?_) (fun d => ?_)
      · by_cases hkb : k = b
        · rw [hkb, late]
        · rw [others k hkb, hk k hkb]
      · rw [getCtx, ctxs]
        exact h d
    exact ⟨_, congrArg Host.Outcome.next ((takeIn_only ready (decide_eq_true due) room rest).trans entered), late, mem, ctxs, txq⟩
  · rw [ready]
    refine List.filter_cons_of_neg ?_
    rcases stays with h | h
    · have full : txRoom s (lateReady b e).bus = false := h
      simp [full]
    · have late : ¬ (lateReady b e).tick ≤ tickNow s := not_le.mpr h
      simp [late]

theorem stationQueue : Claim.StationQueue := by
  unfold Claim.StationQueue
  refine ⟨frameEnters, fun s b f hb hf hs hk => ?_, lateEnters, fun s b => ?_⟩
  · exact congrArg Host.Outcome.next (if_pos (by simp [hb, hf, hs, hk]))
  · unfold txRoom
    exact decide_eq_true_iff

/-- Settles O43: the token moves, starts rounds and takes a frame's beats; a ready frame enters the transmit queue of its bus. -/
theorem tokenAndQueue : Obligations.TokenAndQueue :=
  ⟨tokenEvents, stationQueue⟩

end Sys2Proof.Machine
end

section
/-! SUPPORT. O47: translation at a home, and the replies of accesses of this core. -/
namespace Sys2Proof.Machine
-- One declaration after another, as in the parts above.
set_option Elab.async false

/-! Translation changes the home table and its buffer only (R355) -/

/-- The states differ in memory and in the buffered translations. -/
def OnlyTable (s t : State) : Prop := ∃ m b, t = { s with mem := m, home := { s.home with buffer := b } }

theorem OnlyTable.refl (s : State) : OnlyTable s s := ⟨s.mem, s.home.buffer, rfl⟩
theorem OnlyTable.trans {s t u : State} (h : OnlyTable s t) (k : OnlyTable t u) : OnlyTable s u := by
  obtain ⟨_, _, rfl⟩ := h
  obtain ⟨m, b, rfl⟩ := k
  exact ⟨m, b, rfl⟩

theorem bufferDrop_table (page : Nat) (s : State) : OnlyTable s (bufferDrop page s) := ⟨_, _, rfl⟩
theorem setDirty_table (core idx page : Nat) (e : Dbl) (s : State) : OnlyTable s (setDirty core idx page e s) := ⟨_, _, rfl⟩
theorem changeEntry_table (core idx page : Nat) (e : Dbl) (s : State) : OnlyTable s (changeEntry core idx page e s) := ⟨_, _, rfl⟩
theorem walk_table (core idx page : Nat) (s : State) : OnlyTable s (walk core idx page s).1 := by
  unfold walk
  dsimp only
  split
  · exact OnlyTable.refl s
  · exact ⟨_, _, rfl⟩
theorem homeEntry_table (core idx page : Nat) (s : State) : OnlyTable s (homeEntry core idx page s).1 := by
  unfold homeEntry
  split
  · exact OnlyTable.refl s
  · exact walk_table core idx page s

theorem resolveAt_table (core idx page ia : Nat) (op : GlobalOp) (w : Asker) (n : Nat) (s : State) :
    OnlyTable s (resolveAt core idx page ia op w n s).1 := by
  induction n generalizing s with
  | zero => exact OnlyTable.refl s
  | succ n ih =>
    have home := homeEntry_table core idx page s
    rw [resolveAt]
    split
    next s1 hs => rw [hs] at home; exact home
    next s1 e hs =>
      rw [hs] at home
      split
      · exact home
      · split
        · exact home
        · split
          · split
            · exact home.trans (setDirty_table _ _ _ _ _)
            · exact (home.trans (bufferDrop_table _ _)).trans (ih _)
          · exact home

theorem resolve_table (ia : Nat) (op : GlobalOp) (w : Asker) (s : State) : OnlyTable s (resolve ia op w s).1 := by
  unfold resolve
  dsimp only
  split
  · exact OnlyTable.refl s
  · exact resolveAt_table _ _ _ _ _ _ _ _

/-- What resolve leaves of the state. -/
theorem resolve_same {s s1 : State} {ia : Nat} {op : GlobalOp} {w : Asker} {h : HomeAt} (hr : resolve ia op w s = (s1, h)) :
    s1.ctxs = s.ctxs ∧ s1.cycle = s.cycle ∧ s1.home.held = s.home.held := by
  have table := resolve_table ia op w s
  rw [hr] at table
  obtain ⟨_, _, rfl⟩ := table
  exact ⟨rfl, rfl, rfl⟩

/-! An access at its home (R354, R362) -/

section
variable {s s1 : State} {ia key : Nat} {op : GlobalOp} {w : Asker} {e : Dbl} (seq : Nat)

theorem performHome_place (hl : lacks s.pkg.rev.toNat op = false) (hr : resolve ia op w s = (s1, .place key e)) :
    performHome ia op w seq s = ((performAt key e ia op w s1).1, .reply (performAt key e ia op w s1).2) := by
  unfold performHome
  rw [hl, hr]
  rfl

theorem performHome_denied (hl : lacks s.pkg.rev.toNat op = false) (hr : resolve ia op w s = (s1, .denied e)) :
    performHome ia op w seq s = (denialEntry ia seq e s1, .reply (.denied e)) := by
  unfold performHome
  rw [hl, hr]
  rfl

theorem performHome_away (hl : lacks s.pkg.rev.toNat op = false) (hr : resolve ia op w s = (s1, .away e)) :
    performHome ia op w seq s = (s1, .away e) := by
  unfold performHome
  rw [hl, hr]
  rfl

end

/-- An access on bytes that are not poisoned, or that a store overwrites (R362, R372). -/
theorem performAt_done {s : State} {key : Nat} {e : Dbl} {ia : Nat} {op : GlobalOp} {w : Asker}
    (h : poisonIn s key (opBytes op) = [] ∨ opWrites op = true ∧ opUpdates op = false) :
    (performAt key e ia op w s).2 = .done (opPerform op key s.mem).2 (e.getLsbD 59) ∧
    (performAt key e ia op w s).1.mem = (opPerform op key s.mem).1 ∧ (performAt key e ia op w s).1.ctxs = s.ctxs ∧
    (performAt key e ia op w s).1.cycle = s.cycle := by
  have sound : ((!(poisonIn s key (opBytes op)).isEmpty) && (!opWrites op || opUpdates op)) = false := by
    rcases h with h | ⟨h, h'⟩
    · rw [h]; rfl
    · rw [h, h']; exact Bool.and_false _
  unfold performAt
  dsimp only
  rw [sound]
  cases !(poisonIn s key (opBytes op)).isEmpty <;> exact ⟨rfl, rfl, rfl, rfl⟩

/-! The reply to an access (R354, R364, R366) -/

/-- What a reply to an access of a context leaves of the state. -/
structure Replied (c : CtxId) (s t : State) : Prop where
  left : (getCtx s c).out = [] → (getCtx s c).side = [] → (getCtx t c).out = [] ∧ (getCtx t c).side = []
  bank : (getCtx t c).bank = (getCtx s c).bank
  plan : (getCtx t c).plan = (getCtx s c).plan
  others : ∀ d, d ≠ c → getCtx t d = getCtx s d
  home : t.home = s.home
  reports : ∀ q, q ∈ s.reports → q ∈ t.reports

section
variable {c : CtxId}

theorem Replied.refl (s : State) : Replied c s s := ⟨fun h k => ⟨h, k⟩, rfl, rfl, fun _ _ => rfl, rfl, fun _ h => h⟩
theorem Replied.trans {s t u : State} (h : Replied c s t) (k : Replied c t u) : Replied c s u :=
  ⟨fun a b => k.left (h.left a b).1 (h.left a b).2, k.bank.trans h.bank, k.plan.trans h.plan,
    fun d hd => (k.others d hd).trans (h.others d hd), k.home.trans h.home, fun q hq => k.reports q (h.reports q hq)⟩

theorem replied_setCtx {s : State} {x : Ctx} (hl : (getCtx s c).out = [] → (getCtx s c).side = [] → x.out = [] ∧ x.side = [])
    (hb : x.bank = (getCtx s c).bank) (hp : x.plan = (getCtx s c).plan) : Replied c s (setCtx s c x) := by
  refine ⟨?_, ?_, ?_, fun d hd => getCtx_setCtx_ne s hd x, rfl, fun _ h => h⟩ <;> rw [getCtx_setCtx_self]
  · exact hl
  · exact hb
  · exact hp

theorem replied_of_ctxs {s t : State} (hc : t.ctxs = s.ctxs) (hh : t.home = s.home) (hr : ∀ q, q ∈ s.reports → q ∈ t.reports) : Replied c s t := by
  have ctx : ∀ d, getCtx t d = getCtx s d := fun d => by rw [getCtx, hc]; rfl
  refine ⟨?_, ?_, ?_, fun d _ => ctx d, hh, hr⟩ <;> rw [ctx]
  exact fun a b => ⟨a, b⟩

theorem replied_noted (pin : Bool) (id : Nat) (s : State) : Replied c s (setCtx s c (notedCtx pin id (getCtx s c))) := by
  obtain ⟨-, plan, bank⟩ := notedCtx_frame pin id (getCtx s c)
  exact replied_setCtx (fun a b => ⟨notedCtx_out a, notedCtx_side b⟩) bank plan

theorem replied_post (id : Nat) (v : Dbl) (n : Nat) (s : State) : Replied c s (setCtx s c (post id v n (getCtx s c))) :=
  replied_setCtx (fun a b => ⟨a, b⟩) rfl rfl

theorem replied_dropWord (id : Nat) (s : State) : Replied c s (setCtx s c (dropWord id (getCtx s c))) :=
  replied_setCtx (fun a b => by simp [dropWord, a, b]) rfl rfl

theorem replied_postPoison (id ia : Nat) (s : State) : Replied c s (postPoison c id ia s) := by
  have free : Replied c s { s with free := s.free + 1 } := replied_of_ctxs rfl rfl (fun _ h => h)
  exact free.trans (replied_setCtx (fun a b => ⟨a, b⟩) rfl rfl)

theorem replied_raiseAtom (v : Dbl) (s : State) : Replied c s (raiseAtom c v s) := by
  unfold raiseAtom
  dsimp only
  split
  · exact Replied.refl s
  · exact replied_setCtx (fun a b => ⟨a, b⟩) rfl rfl

theorem report_reports (q : Nat) (k : BitVec 16) (a b : Dbl) (s : State) : (q, k, a, b) ∈ (report q k a b s).reports ∧
    ∀ x, x ∈ s.reports → x ∈ (report q k a b s).reports := by
  unfold report
  split
  next h => exact ⟨by simpa using h, fun _ hx => hx⟩
  next => exact ⟨List.mem_append_right _ (List.mem_singleton_self _), fun _ hx => List.mem_append_left _ hx⟩
theorem report_home (q : Nat) (k : BitVec 16) (a b : Dbl) (s : State) : (report q k a b s).home = s.home := by
  unfold report
  split <;> rfl
theorem replied_report (p : Part) (r : Reply) (s : State) : Replied c s (reportReply c p r s) := by
  unfold reportReply
  split
  · exact replied_of_ctxs (report_ctxs _ _ _ _ s) (report_home _ _ _ _ s) (report_reports _ _ _ _ s).2
  · exact Replied.refl s

/-- A reply after which the rest of a GWS is dropped (R450). -/
def failedReply (r : Reply) : Bool := match r with | .denied _ => true | .poisoned => true | _ => false

/-- The entry of a global access posts (R366, R372, R450). -/
def entryPosted (c : CtxId) (a : Access) (op : GlobalOp) (ia : Nat) (ret : Bool) (pin : Bool) (r : Reply) (s : State) : State :=
  if isGws op && failedReply r then setCtx s c (dropWord a.id (getCtx s c))
  else if r = .poisoned then (if ret && !opUpdates op then postPoison c a.id ia s else s)
  else if ret then setCtx s c (post a.id (returnEntry op r) s.cycle (getCtx s c))
  else if isFlag op then setCtx s c (post a.id (qfxEntry (pinStatus (a.pinned || pin)) 4 0) s.cycle (getCtx s c))
  else s

theorem replied_entry (a : Access) (op : GlobalOp) (ia : Nat) (ret pin : Bool) (r : Reply) (s : State) :
    Replied c s (entryPosted c a op ia ret pin r s) := by
  unfold entryPosted
  split
  · exact replied_dropWord _ s
  · split
    · split
      · exact replied_postPoison _ _ s
      · exact Replied.refl s
    · split
      · exact replied_post _ _ _ s
      · split
        · exact replied_post _ _ _ s
        · exact Replied.refl s

/-- The entry of an access posts, and its cause arises (R452). -/
def replyPosted (c : CtxId) (a : Access) (pin : Bool) (r : Reply) (s : State) : State :=
  match a.op with
  | .global op ia _ ret t fn =>
    let s1 := entryPosted c a op ia ret pin r s
    if r = .unsupported && t then raiseAtom c (atomTval fn op ia) s1 else s1
  | _ => s

theorem replied_posted (a : Access) (pin : Bool) (r : Reply) (s : State) : Replied c s (replyPosted c a pin r s) := by
  unfold replyPosted
  split
  next op ia _ ret t fn _ =>
    dsimp only
    split
    · exact (replied_entry a op ia ret pin r s).trans (replied_raiseAtom _ _)
    · exact replied_entry a op ia ret pin r s
  · exact Replied.refl s

theorem conclude_eq (a : Access) (p : Part) (r : Reply) (s : State) : conclude c a p r s =
    replyPosted c a (metPin p.op r) r (reportReply c p r (setCtx s c (notedCtx (metPin p.op r) a.id (getCtx s c)))) := by
  unfold conclude replyPosted entryPosted failedReply
  rfl

theorem replied_conclude (a : Access) (p : Part) (r : Reply) (s : State) : Replied c s (conclude c a p r s) := by
  rw [conclude_eq]
  exact ((replied_noted _ _ s).trans (replied_report p r _)).trans (replied_posted a _ r _)

/-- A denial is reported with the address and the entry (R354). -/
theorem denied_reported (a : Access) (p : Part) (e : Dbl) (s : State) :
    ((getCtx s c).plan, 0x0013, BitVec.ofNat 64 p.ia, e) ∈ (conclude c a p (.denied e) s).reports := by
  rw [conclude_eq]
  refine (replied_posted a _ (.denied e) _).reports _ ?_
  rw [← (replied_noted (metPin p.op (.denied e)) a.id s).plan]
  exact (report_reports _ _ _ _ _).1

end

end Sys2Proof.Machine
end

section
/-! SUPPORT. O47: accesses at their home. -/
namespace Sys2Proof.Machine
-- One declaration after another, as in the parts above.
set_option Elab.async false

theorem settle_left {s : State} {c : CtxId} {a : Access} (p : Part) (r : Reply) (hout : (getCtx s c).out = [a]) (hside : (getCtx s c).side = []) :
    (getCtx (settle c a p r s) c).out = [] := by
  have gone := getCtx_putOut_none hout
  exact ((replied_conclude a p r (putOut c a (fun _ => none) s)).left (by rw [gone]) (by rw [gone]; exact hside)).1

theorem settle_mem (c : CtxId) (a : Access) (p : Part) (r : Reply) (s : State) : (settle c a p r s).mem = s.mem := (settle_keeps c a p r s).1

theorem settle_denied {s : State} {c : CtxId} {a : Access} (p : Part) (e : Dbl) (hout : (getCtx s c).out = [a]) :
    ((getCtx s c).plan, 0x0013, BitVec.ofNat 64 p.ia, e) ∈ (settle c a p (.denied e) s).reports := by
  have reported := denied_reported (c := c) a p e (putOut c a (fun _ => none) s)
  rw [getCtx_putOut_none hout] at reported
  exact reported

/-! An access of this core (R358 to R363) -/

theorem heldBefore_none {s : State} (h : s.home.held = []) (page : Nat) (k : HeldReq) : heldBefore s page k = false := by
  simp [heldBefore, h]

section
variable {s s1 : State} {c : CtxId} {a : Access} {op : GlobalOp} {ia rg key : Nat} {ret t : Bool} {fn : BitVec 6} {e : Dbl}
  (ho : ownGlobal s = [(c, a)]) (hout : (getCtx s c).out = [a]) (hop : a.op = .global op ia rg ret t fn) (hp : iaPkg ia = myPkg s)
  (hw : a.wait = false) (hh : a.hops = 0) (ht : a.tick ≤ tickNow s) (hside : (getCtx s c).side = []) (he : s.engines = [])
  (hheld : s.home.held = []) (hm : mappedAt s ia = true) (hl : lacks s.pkg.rev.toNat op = false)

include hout hop hw hh ht hside he in
/-- A lone access waits for nothing of its own context (R304, R361). -/
theorem blockedAt_lone : blockedAt s c a ⟨op, ia⟩ = false := by
  have first : ahead s c (pageOf s ia) a.ord a.id = false := by simp [ahead, hout, he]
  have room : roomBefore s c a.ord = false := by simp [roomBefore, hout, hw]
  have late : decide (tickNow s < a.tick) = false := decide_eq_false (Nat.not_lt.mpr ht)
  have payload : (isFlag op && payloadBefore s c a.id) = false := by
    cases hf : isFlag op <;> simp [payloadBefore, hout, hside, hop, hf]
  unfold blockedAt
  dsimp only
  rw [payload, first, room, late, hw, hh]
  simp [sideBefore, hside]

include ho hop he in
/-- No other access of this core is on its way (R362). -/
theorem arrivedBefore_lone (core n : Nat) : arrivedBefore s core n (.own c a.id a.sub) = false := by
  have part : nextPart a = some ⟨op, ia⟩ := by rw [nextPart, hop]
  have only : ∀ x ∈ arrivals s, x.h = .own c a.id a.sub := fun x hx => by
    unfold arrivals at hx
    rw [ho, he] at hx
    simp only [List.flatMap_cons, List.flatMap_nil, List.append_nil, part] at hx
    split at hx
    · rw [List.mem_singleton.mp hx]
    · exact absurd hx (List.not_mem_nil)
  unfold arrivedBefore
  rw [List.any_eq_false]
  intro x hx
  simp [only x hx]

include ho hout hop hp hw hh ht hside he hheld hm in
theorem performOwn_lone : performOwn 0 s = match performHome ia op .near (getCtx s c).plan s with
    | (s1, .reply r) => settle c a ⟨op, ia⟩ r (freeReq (.own c a.id a.sub) s1)
    | (s1, .away e) => if e.getLsbD 58 then holdReq (.own c a.id a.sub) s1 else freeReq (.own c a.id a.sub) s1
    | (s1, .fault) => s1 := by
  have part : nextPart a = some ⟨op, ia⟩ := by rw [nextPart, hop]
  have ready := blockedAt_lone hout hop hw hh ht hside he
  have first := arrivedBefore_lone ho hop he (iaCore ia) a.tick
  have there : mapped s ⟨op, ia⟩ = true := hm
  have free := heldBefore_none hheld (pageOf s ia) (.own c a.id a.sub)
  unfold performOwn
  rw [ho]
  simp only [List.getElem?_cons_zero, part, hp, if_true]
  unfold performPart
  simp only [ready, first, there, free, hside, List.any_nil, Bool.or_self, Bool.false_eq_true, if_false, Bool.not_true, Bool.and_false] <;>
    rfl

include ho hout hop hp hw hh ht hside he hheld hm hl

theorem ownDone (hr : resolve ia op .near s = (s1, .place key e))
    (hs : poisonIn s1 key (opBytes op) = [] ∨ opWrites op = true ∧ opUpdates op = false) (hf : isFlag op = false) :
    ∃ u, exec (.homePerform (.own 0)) s = .next u ∧ (getCtx u c).out = [] ∧ u.mem = (opPerform op key s1.mem).1 ∧
      (ret = false → (getCtx u c).owed = (getCtx s c).owed) ∧
      (ret = true → ∀ o, (getCtx s c).owed = [o] → o.id = a.id → o.val = none → (getCtx u c).owed =
        [{ o with val := some (returnEntry op (.done (opPerform op key s1.mem).2 (e.getLsbD 59))), cyc := s.cycle }]) := by
  obtain ⟨value, mem, ctxs, cycle⟩ := performAt_done (e := e) (ia := ia) (w := .near) hs
  obtain ⟨same, now, -⟩ := resolve_same hr
  have run := performOwn_lone ho hout hop hp hw hh ht hside he hheld hm
  rw [performHome_place _ hl hr, value] at run
  have ctx : getCtx (freeReq (.own c a.id a.sub) (performAt key e ia op .near s1).1) c = getCtx s c := by
    unfold getCtx
    exact congrArg (fun m => SMap.get {} m c.toNat) (ctxs.trans same)
  have time : (freeReq (.own c a.id a.sub) (performAt key e ia op .near s1).1).cycle = s.cycle := cycle.trans now
  obtain ⟨out, keep, posts⟩ := getCtx_settle_done (p := ⟨op, ia⟩) (opPerform op key s1.mem).2 (e.getLsbD 59) hop hf (ctx ▸ hout)
  rw [ctx] at keep posts
  rw [time] at posts
  exact ⟨_, congrArg Host.Outcome.next run, out, (settle_mem _ _ _ _ _).trans mem, keep, posts⟩

theorem ownDenied (hr : resolve ia op .near s = (s1, .denied e)) :
    ∃ u, exec (.homePerform (.own 0)) s = .next u ∧ (getCtx u c).out = [] ∧
      u.mem = s1.mem ∧ ((getCtx s c).plan, 0x0013, BitVec.ofNat 64 ia, e) ∈ u.reports := by
  obtain ⟨same, -, -⟩ := resolve_same hr
  have run := performOwn_lone ho hout hop hp hw hh ht hside he hheld hm
  rw [performHome_denied _ hl hr] at run
  obtain ⟨v, hv⟩ : ∃ v, v = freeReq (.own c a.id a.sub) (denialEntry ia (getCtx s c).plan e s1) := ⟨_, rfl⟩
  have ctx : getCtx v c = getCtx s c := by
    rw [hv, getCtx, getCtx, ← same]
    rfl
  have mem : v.mem = s1.mem := by rw [hv]; rfl
  have report := settle_denied (s := v) (c := c) ⟨op, ia⟩ e (by rw [ctx]; exact hout)
  rw [ctx] at report
  refine ⟨settle c a ⟨op, ia⟩ (.denied e) v, ?_, settle_left _ _ (by rw [ctx]; exact hout) (by rw [ctx]; exact hside),
    (settle_mem _ _ _ _ _).trans mem, report⟩
  rw [hv]
  exact congrArg Host.Outcome.next run

end

/-! Other requesters (R358, R362, R363, R372, R374) -/

section
variable {s s1 : State} {ia : BitVec 48} {op : GlobalOp} {key : Nat} {e : Dbl}

/-- Loads of both widths are translated alike (R353). -/
theorem resolveAt_load (core idx page ia : Nat) (w w' : Bool) (n : Nat) (u : State) :
    resolveAt core idx page ia (.load w) .near n u = resolveAt core idx page ia (.load w') .near n u := by
  have allows : ∀ (u : State) (e : Dbl), homeAllows u core e (.load w) .near = homeAllows u core e (.load w') .near := fun _ _ => by
    unfold homeAllows permBit
    rfl
  have reads : ∀ k : Bool, opWrites (.load k) = false := fun _ => rfl
  cases n with
  | zero => rfl
  | succ n =>
    rw [resolveAt, resolveAt]
    simp only [allows, reads, Bool.false_and, Bool.false_eq_true, if_false]

theorem execHomePerform_other (ret : Bool) (hi : inSpace s ia.toNat = true) (hh : s.home.held = []) :
    exec (.homePerform (.other ia op ret)) s = .next (match performHome ia.toNat op .near 0 s with
      | (s1, .reply _) => freeReq (.other ia.toNat op 0) s1
      | (s1, .away e) => if e.getLsbD 58 then holdReq (.other ia.toNat op 0) s1 else freeReq (.other ia.toNat op 0) s1
      | (s1, .fault) => if holdsAtFault op ret then holdReq (.other ia.toNat op 0) (faultAt ia.toNat s1) else faultAt ia.toNat s1) :=
  (congrArg Host.Outcome.next (if_pos hi)).trans
    (congrArg Host.Outcome.next (if_neg (by rw [heldBefore_none hh]; exact Bool.false_ne_true)))

theorem mem_holdReq (h : HeldReq) (s : State) : h ∈ (holdReq h s).home.held := by
  unfold holdReq
  split
  next hc => simpa using hc
  next => exact List.mem_append_right _ (List.mem_singleton_self h)

variable (hi : inSpace s ia.toNat = true) (hl : lacks s.pkg.rev.toNat op = false) (hh : s.home.held = [])
include hi hl

include hh in
theorem otherDone (ret : Bool) (hr : resolve ia.toNat op .near s = (s1, .place key e)) (hs : poisonIn s1 key (opBytes op) = []) :
    ∃ t, exec (.homePerform (.other ia op ret)) s = .next t ∧ t.mem = (opPerform op key s1.mem).1 ∧ t.ctxs = s.ctxs := by
  obtain ⟨-, mem, ctxs, -⟩ := performAt_done (e := e) (ia := ia.toNat) (w := .near) (.inl hs)
  have run := execHomePerform_other (op := op) ret hi hh
  rw [performHome_place 0 hl hr] at run
  exact ⟨_, run, mem, ctxs.trans (resolve_same hr).1⟩

include hh in
theorem otherDenied (ret : Bool) (hr : resolve ia.toNat op .near s = (s1, .denied e)) :
    ∃ t, exec (.homePerform (.other ia op ret)) s = .next t ∧ t.mem = s1.mem ∧ t.ctxs = s.ctxs := by
  have run := execHomePerform_other (op := op) ret hi hh
  rw [performHome_denied 0 hl hr] at run
  exact ⟨_, run, rfl, (resolve_same hr).1⟩

include hh in
theorem otherAway (ret : Bool) (hr : resolve ia.toNat op .near s = (s1, .away e)) (h58 : e.getLsbD 58 = false) :
    ∃ t, exec (.homePerform (.other ia op ret)) s = .next t ∧ t.mem = s1.mem ∧ t.ctxs = s1.ctxs := by
  have run := execHomePerform_other (op := op) ret hi hh
  rw [performHome_away 0 hl hr] at run
  exact ⟨_, run.trans (congrArg Host.Outcome.next (if_neg (by rw [h58]; exact Bool.false_ne_true))), rfl, rfl⟩

include hh in
theorem otherHeld (ret : Bool) (hr : resolve ia.toNat op .near s = (s1, .away e)) (h58 : e.getLsbD 58 = true) :
    ∃ t, exec (.homePerform (.other ia op ret)) s = .next t ∧ HeldReq.other ia.toNat op 0 ∈ t.home.held ∧ t.mem = s1.mem := by
  have run := execHomePerform_other (op := op) ret hi hh
  rw [performHome_away 0 hl hr] at run
  exact ⟨_, run.trans (congrArg Host.Outcome.next (if_pos h58)), mem_holdReq _ s1, (holdReq_keeps _ s1).1⟩

theorem companionDone (hr : resolve ia.toNat op .companion s = (s1, .place key e)) (hd : s.pkg.ebpinDown = false)
    (hs : poisonIn s1 key (opBytes op) = []) :
    ∃ t, exec (.homePerform (.companion ia op)) s = .next t ∧ t.mem = (opPerform op key s1.mem).1 ∧ t.ctxs = s.ctxs := by
  obtain ⟨-, mem, ctxs, -⟩ := performAt_done (e := e) (ia := ia.toNat) (w := .companion) (.inl hs)
  have run : exec (.homePerform (.companion ia op)) s = .next (performHome ia.toNat op .companion 0 s).1 :=
    congrArg Host.Outcome.next (if_pos (by simp [hi, hd]))
  rw [performHome_place 0 hl hr] at run
  exact ⟨_, run, mem, ctxs.trans (resolve_same hr).1⟩

omit hl in
theorem poisonFound {w : Bool} (hr : resolve ia.toNat (.load w) .near s = (s1, .place key e)) :
    ∃ t, exec (.homePerform (.poison ia)) s = .next t ∧ key / 8 * 8 ∈ t.home.poison ∧ t.mem = s.mem ∧ t.ctxs = s.ctxs := by
  have same : resolve ia.toNat (.load false) .near s = resolve ia.toNat (.load w) .near s := by
    unfold resolve
    dsimp only
    rw [resolveAt_load _ _ _ _ false w]
  have added : addPoison ia.toNat s = { s with home := { s.home with poison := (key / 8 * 8) :: s.home.poison.erase (key / 8 * 8) } } := by
    unfold addPoison
    rw [same, hr]
  refine ⟨_, (congrArg Host.Outcome.next (if_pos hi)).trans (congrArg Host.Outcome.next added), ?_, rfl, rfl⟩
  exact List.mem_cons_self

end

/-- The permission bits of R354, R320 and R374. -/
theorem homeAllows_bits (s : State) (core : Nat) (e : Dbl) (op : GlobalOp) :
    (homeAllows s core e op .near = true → e.getLsbD (permBit op) = true ∧ enabled s core = true) ∧
    (∀ q, homeAllows s core e op (.far q) = true → homeAllows s core e op .near = true ∧
      e.getLsbD (if opWrites op then 54 else 53) = true) ∧
    (homeAllows s core e op .companion = true → e.getLsbD 55 = true ∧ enabled s core = true) := by
  unfold homeAllows
  simp only [Bool.and_eq_true]
  exact ⟨fun h => h.1, fun _ h => ⟨⟨⟨h.1.1.1, h.1.2⟩, h.2⟩, h.1.1.2⟩, fun h => h.1⟩

theorem homePerforms : Claim.HomePerforms := by
  unfold Claim.HomePerforms
  refine ⟨fun s c a op ia rg ret t fn ho hout hop hp hw hh ht hside he hheld hm hl => ⟨?loads, ?stores, fun s1 e hr => ?denied⟩,
    fun s ia op ret hi hl hh => ⟨fun s1 key e hr hs => otherDone hi hl hh ret hr hs, fun s1 e hr => otherDenied hi hl hh ret hr,
      fun s1 e hr h58 => otherAway hi hl hh ret hr h58, fun s1 e hr h58 => otherHeld hi hl hh ret hr h58,
      fun s1 key e hr hd hs => companionDone hi hl hr hd hs, fun s1 key e w hr => poisonFound hi hr⟩, homeAllows_bits⟩
  case loads =>
    intro s1 key e w hld hret hr hs
    subst hld hret
    obtain ⟨u, run, out, mem, -, owed⟩ := ownDone ho hout hop hp hw hh ht hside he hheld hm hl hr (.inl hs) rfl
    exact ⟨u, run, out, mem, owed rfl⟩
  case stores =>
    intro s1 key e w v hst hret hr
    subst hst hret
    obtain ⟨u, run, out, mem, owed, -⟩ := ownDone ho hout hop hp hw hh ht hside he hheld hm hl hr (.inr ⟨rfl, rfl⟩) rfl
    exact ⟨u, run, out, mem, owed rfl⟩
  case denied => exact ownDenied ho hout hop hp hw hh ht hside he hheld hm hl hr

end Sys2Proof.Machine
end

section
/-! SUPPORT. O47: side logs replay once their page is mapped, and host accesses are performed. -/
namespace Sys2Proof.Machine
-- One declaration after another, as in the parts above.
set_option Elab.async false

/-! A side-log entry (R358, R360) -/

/-- A context without the n-th entry of its side log, with the acknowledgements that it then has. -/
def unlogged (n page : Nat) (s1 : State) (x : Ctx) : Ctx :=
  let rest := x.side.eraseIdx n
  let last := !rest.any (fun b => (pagesOf s1 b).contains page)
  { x with side := rest, acks := if last then (page, tickNow s1) :: x.acks.filter (fun k => !seen s1 k.2) else x.acks }

theorem admitSide_empty {s : State} {c : CtxId} (h : (getCtx s c).out = []) : admitSide c s = s := by
  unfold admitSide
  rw [h]
  rfl

theorem performAllHeld_empty {s : State} (page : Nat) (h : s.home.held = []) : performAllHeld page s = s := by
  unfold performAllHeld
  rw [h]
  rfl

/-- What the reply to the one entry of a side log leaves. -/
structure Emptied (c : CtxId) (s t : State) : Prop where
  side : (getCtx t c).side = []
  bank : (getCtx t c).bank = (getCtx s c).bank
  others : ∀ d, d ≠ c → getCtx t d = getCtx s d
  mem : t.mem = s.mem
  home : t.home = s.home

theorem emptied_reply {s : State} {c : CtxId} {a : Access} (p : Part) (r : Reply) (page : Nat) (hs : (getCtx s c).side = [a])
    (ho : (getCtx s c).out = []) : Emptied c s (admitSide c (conclude c a p r (setCtx s c (unlogged 0 page s (getCtx s c))))) := by
  obtain ⟨x, hx⟩ : ∃ x, x = unlogged 0 page s (getCtx s c) := ⟨_, rfl⟩
  have side : x.side = [] := by rw [hx, unlogged, hs]; rfl
  have out : x.out = [] := by rw [hx]; exact ho
  have bank : x.bank = (getCtx s c).bank := by rw [hx]; rfl
  rw [← hx]
  have replied := replied_conclude (c := c) a p r (setCtx s c x)
  obtain ⟨out', side'⟩ := replied.left (by rw [getCtx_setCtx_self, out]) (by rw [getCtx_setCtx_self, side])
  rw [admitSide_empty out']
  exact ⟨side', by rw [replied.bank, getCtx_setCtx_self, bank], fun d hd => (replied.others d hd).trans (getCtx_setCtx_ne s hd x),
    (conclude_keeps c a p r _).1, replied.home⟩

section
variable {s s1 : State} {c : CtxId} {a : Access} {p : Part}
  (hside : (getCtx s c).side = [a]) (hp : nextPart a = some p) (hf : isFlag p.op = false)
include hside hp hf

/-- The lone entry of a side log, with its reply (R360). -/
theorem replaySide_reply (far r : Reply)
    (hr : (iaPkg p.ia ≠ myPkg s ∧ s1 = s ∧ r = far) ∨
      (iaPkg p.ia = myPkg s ∧ movedAway s p.ia = false ∧ mapped s p = true ∧ s.home.held = [] ∧
        performHome p.ia p.op .near (getCtx s c).plan s = (s1, .reply r))) :
    replaySide c 0 far s = admitSide c (conclude c a p r (setCtx s1 c (unlogged 0 (pageOf s p.ia) s1 (getCtx s1 c)))) := by
  unfold replaySide
  dsimp only
  rw [hside]
  simp only [List.getElem?_cons_zero, hp, hf, List.take_zero, List.any_nil, Bool.false_and, Bool.false_or]
  rcases hr with ⟨away, rfl, rfl⟩ | ⟨here, unmoved, there, held, reply⟩
  · have remote : (iaPkg p.ia != myPkg s1) = true := by simpa using away
    simp only [remote, Bool.true_or, Bool.not_true, Bool.false_and, Bool.false_eq_true, if_false, if_true]
    rfl
  · have local_ : (iaPkg p.ia != myPkg s) = false := by simpa using here
    simp only [local_, unmoved, there, held, Bool.or_self, Bool.not_true, Bool.not_false, Bool.and_false, List.any_nil, Bool.false_eq_true,
      if_false, reply]
    rfl

theorem replaySide_waits (far : Reply) (here : iaPkg p.ia = myPkg s) (unmoved : movedAway s p.ia = false) (hm : mapped s p = false) :
    replaySide c 0 far s = s := by
  have local_ : (iaPkg p.ia != myPkg s) = false := by simpa using here
  unfold replaySide
  dsimp only
  rw [hside]
  simp only [List.getElem?_cons_zero, hp, hf, List.take_zero, List.any_nil, Bool.false_and, Bool.false_or, local_, unmoved, hm,
    Bool.or_self, Bool.not_false, Bool.true_or, Bool.and_true, if_true]

end

section
variable {s s1 : State} {c : CtxId} {a : Access} {p : Part} {v : Dbl}

theorem sideReplays (r : Reply) (hside : (getCtx s c).side = [a]) (hout : (getCtx s c).out = []) (hp : nextPart a = some p)
    (hf : isFlag p.op = false) :
    (iaPkg p.ia = myPkg s → movedAway s p.ia = false → mapped s p = true → s.home.held = [] →
      performHome p.ia p.op .near (getCtx s c).plan s = (s1, .reply (.done v false)) → s1.ctxs = s.ctxs →
      ∃ t, exec (.sideLogReplay c 0 r) s = .next t ∧ (getCtx t c).side = [] ∧ t.mem = s1.mem ∧ (getCtx t c).bank = (getCtx s c).bank) ∧
    (iaPkg p.ia ≠ myPkg s → ∃ t, exec (.sideLogReplay c 0 r) s = .next t ∧ (getCtx t c).side = [] ∧ t.mem = s.mem ∧
      (getCtx t c).bank = (getCtx s c).bank) ∧
    (iaPkg p.ia = myPkg s → movedAway s p.ia = false → mapped s p = false → exec (.sideLogReplay c 0 r) s = .next s) := by
  refine ⟨fun here unmoved there held reply ctxs => ?_, fun away => ?_, fun here unmoved hm =>
    congrArg Host.Outcome.next (replaySide_waits hside hp hf r here unmoved hm)⟩
  · have run := replaySide_reply hside hp hf r (.done v false) (.inr ⟨here, unmoved, there, held, reply⟩)
    have ctx := getCtx_congr ctxs c
    have left := emptied_reply p (.done v false) (pageOf s p.ia) ((congrArg Ctx.side ctx).trans hside) ((congrArg Ctx.out ctx).trans hout)
    exact ⟨_, congrArg Host.Outcome.next run, left.side, left.mem, left.bank.trans (congrArg Ctx.bank ctx)⟩
  · have run := replaySide_reply hside hp hf r r (.inl ⟨away, rfl, rfl⟩)
    have left := emptied_reply p r (pageOf s p.ia) hside hout
    exact ⟨_, congrArg Host.Outcome.next run, left.side, left.mem, left.bank⟩

end

/-! A page that is mapped (R358) -/

/-- The entries of a context's side log for a page replay. -/
def replayCtx (page : Nat) (s : State) (c : CtxId) : State :=
  (List.range 128).foldl (fun s _ => match (getCtx s c).side.findIdx? (fun e => (pagesOf s e).contains page) with
    | some n => replaySide c n (.done 0 false) s
    | none => s) s

/-- Faults of a page are over once it is mapped (R358). -/
def faultsOver (page : Nat) (s : State) : State :=
  { s with home := { s.home with faults := s.home.faults.filter (fun a => pageOf s a != page) } }

theorem pageNowMapped_eq {s : State} {core idx : Nat} (h : eV (entryAt s core (entryIdx s core idx)) = true) :
    pageNowMapped core idx s = performAllHeld (pageNo s core idx) (allCtx.foldl (replayCtx (pageNo s core idx))
      (performAllHeld (pageNo s core idx) (faultsOver (pageNo s core idx) s))) := by
  unfold pageNowMapped replayCtx faultsOver
  exact if_neg (by rw [h]; exact Bool.false_ne_true)

theorem replayCtx_step_empty {s : State} {c : CtxId} (page : Nat) (h : (getCtx s c).side = []) (l : List Nat) :
    l.foldl (fun s _ => match (getCtx s c).side.findIdx? (fun e => (pagesOf s e).contains page) with
      | some n => replaySide c n (.done 0 false) s
      | none => s) s = s := by
  have none : (getCtx s c).side.findIdx? (fun e => (pagesOf s e).contains page) = none := by rw [h]; rfl
  induction l with
  | nil => rfl
  | cons n l ih =>
    rw [List.foldl_cons, none]
    exact ih

theorem replayCtx_empty {s : State} {c : CtxId} (page : Nat) (h : (getCtx s c).side = []) : replayCtx page s c = s :=
  replayCtx_step_empty page h _

theorem replayCtx_one {s t : State} {c : CtxId} {a : Access} {page : Nat} (h : (getCtx s c).side = [a]) (hp : (pagesOf s a).contains page = true)
    (ht : replaySide c 0 (.done 0 false) s = t) (hs : (getCtx t c).side = []) : replayCtx page s c = t := by
  have first : (getCtx s c).side.findIdx? (fun e => (pagesOf s e).contains page) = some 0 := by
    rw [h, List.findIdx?_cons, hp]
    rfl
  have range : List.range 128 = 0 :: (List.range 127).map Nat.succ := List.range_succ_eq_map
  unfold replayCtx
  rw [range, List.foldl_cons, first]
  dsimp only
  rw [ht]
  exact replayCtx_step_empty page hs _

theorem foldl_replayCtx_empty (page : Nat) {s : State} : ∀ {l : List CtxId}, (∀ c ∈ l, (getCtx s c).side = []) → l.foldl (replayCtx page) s = s
  | [], _ => rfl
  | c :: l, h => by
    rw [List.foldl_cons, replayCtx_empty page (h c List.mem_cons_self)]
    exact foldl_replayCtx_empty page (fun d hd => h d (List.mem_cons_of_mem _ hd))

theorem foldl_replayCtx_one (page : Nat) {s t : State} {c : CtxId} (hs : ∀ d, d ≠ c → (getCtx s d).side = [])
    (ht : ∀ d, (getCtx t d).side = []) (hc : replayCtx page s c = t) : ∀ {l : List CtxId}, c ∈ l → l.foldl (replayCtx page) s = t
  | d :: l, h => by
    rw [List.foldl_cons]
    by_cases e : d = c
    · rw [e, hc]
      exact foldl_replayCtx_empty page (fun k _ => ht k)
    · rw [replayCtx_empty page (hs d e)]
      exact foldl_replayCtx_one page hs ht hc ((List.mem_cons.mp h).resolve_left (fun e' => e e'.symm))

theorem pageMappedNothing (s : State) (core : BitVec 11) (idx : BitVec 12)
    (hv : eV (entryAt s core.toNat (entryIdx s core.toNat idx.toNat)) = true) (hh : s.home.held = []) (hs : ∀ c, (getCtx s c).side = []) :
    exec (.pageMapped core idx) s = .next (faultsOver (pageNo s core.toNat idx.toNat) s) := by
  refine congrArg Host.Outcome.next ?_
  rw [pageNowMapped_eq hv, performAllHeld_empty (s := faultsOver _ s) _ hh, foldl_replayCtx_empty _ (s := faultsOver _ s) (fun c _ => hs c),
    performAllHeld_empty (s := faultsOver _ s) _ hh]

theorem pageMappedReplays (s s1 : State) (c : CtxId) (a : Access) (p : Part) (v : Dbl) (core : BitVec 11) (idx : BitVec 12)
    (hv : eV (entryAt s core.toNat (entryIdx s core.toNat idx.toNat)) = true) (hh : s.home.held = []) (hh' : s1.home.held = [])
    (hfaults : s.home.faults = []) (hd : ∀ d, d ≠ c → (getCtx s d).side = []) (hside : (getCtx s c).side = [a]) (hout : (getCtx s c).out = [])
    (hp : nextPart a = some p) (hpage : (pagesOf s a).contains (pageNo s core.toNat idx.toNat) = true) (hf : isFlag p.op = false)
    (here : iaPkg p.ia = myPkg s) (unmoved : movedAway s p.ia = false) (there : mapped s p = true)
    (reply : performHome p.ia p.op .near (getCtx s c).plan s = (s1, .reply (.done v false))) (ctxs : s1.ctxs = s.ctxs) :
    ∃ t, exec (.pageMapped core idx) s = .next t ∧ (getCtx t c).side = [] ∧ t.mem = s1.mem := by
  have same : faultsOver (pageNo s core.toNat idx.toNat) s = s := by
    unfold faultsOver
    rw [hfaults, List.filter_nil, ← hfaults]
  have ctx := getCtx_congr ctxs
  have left := emptied_reply p (.done v false) (pageOf s p.ia) ((congrArg Ctx.side (ctx c)).trans hside) ((congrArg Ctx.out (ctx c)).trans hout)
  have replayed := replayCtx_one hside hpage (replaySide_reply hside hp hf (.done 0 false) (.done v false)
    (.inr ⟨here, unmoved, there, hh, reply⟩)) left.side
  obtain ⟨t, ht⟩ : ∃ t, t = admitSide c (conclude c a p (.done v false) (setCtx s1 c (unlogged 0 (pageOf s p.ia) s1 (getCtx s1 c)))) := ⟨_, rfl⟩
  rw [← ht] at left replayed
  have sides : ∀ d, (getCtx t d).side = [] := fun d => by
    by_cases e : d = c
    · rw [e, left.side]
    · rw [left.others d e, ctx d, hd d e]
  have run : pageNowMapped core.toNat idx.toNat s = t := by
    rw [pageNowMapped_eq hv, same, performAllHeld_empty _ hh, foldl_replayCtx_one _ hd sides replayed (mem_allCtx c),
      performAllHeld_empty _ (by rw [left.home, hh'])]
  exact ⟨t, congrArg Host.Outcome.next run, left.side, left.mem⟩

/-! Host accesses (R374, R427) -/

section
variable {s : State} {c : CtxId} {a : Access} {h : Nat} (ho : ownHost s = [(c, a)]) (hout : (getCtx s c).out = [a]) (he : s.engines = [])
include ho

theorem performHost_down (hd : s.pkg.ebpinDown = true) : performHost 0 s = s := by
  unfold performHost
  rw [ho]
  exact if_pos (by rw [hd]; rfl)

include hout he

theorem performHost_lone (hq : s.pkg.ebpinOrd ≤ a.ord) (hd : s.pkg.ebpinDown = false) (ht : a.tick ≤ tickNow s) :
    performHost 0 s = match a.op with
      | .host h none =>
        let v := BitVec.ofNat 64 (leNat (memRead s.mem (keyHost h) 8))
        let s1 := putOut c a (fun _ => none) s
        setCtx s1 c (post a.id v s1.cycle (getCtx s1 c))
      | .host h (some v) => putOut c a (fun _ => none) { s with mem := memWrite s.mem (keyHost h) (leBytes 8 v.toNat) }
      | _ => s := by
  have queue : hostQueue s a.ord = false := by
    unfold hostQueue
    rw [decide_eq_false (Nat.not_lt.mpr hq), Bool.false_and]
  have first : (pagesOf s a).any (fun k => ahead s c k a.ord a.id) = false := by simp [ahead, hout, he]
  have late : decide (tickNow s < a.tick) = false := decide_eq_false (Nat.not_lt.mpr ht)
  unfold performHost
  rw [ho]
  exact if_neg (by rw [hd, queue, first, late]; exact Bool.false_ne_true)

theorem hostPerforms : (s.pkg.ebpinDown = true → exec (.hostAccessPerform (.own 0)) s = .next s) ∧ (s.pkg.ebpinOrd ≤ a.ord →
    (∀ v : Dbl, a.op = .host h (some v) → s.pkg.ebpinDown = false → a.tick ≤ tickNow s →
      ∃ t, exec (.hostAccessPerform (.own 0)) s = .next t ∧ (getCtx t c).out = [] ∧
        t.mem = memWrite s.mem (keyHost h) (leBytes 8 v.toNat)) ∧
    (a.op = .host h none → s.pkg.ebpinDown = false → a.tick ≤ tickNow s →
      ∃ t, exec (.hostAccessPerform (.own 0)) s = .next t ∧ (getCtx t c).out = [] ∧ t.mem = s.mem ∧ ∀ o, (getCtx s c).owed = [o] →
        o.id = a.id → o.val = none →
        (getCtx t c).owed = [{ o with val := some (BitVec.ofNat 64 (leNat (memRead s.mem (keyHost h) 8))), cyc := s.cycle }])) := by
  refine ⟨fun hd => congrArg Host.Outcome.next (performHost_down ho hd), fun hq => ⟨fun v hop hd ht => ?_, fun hop hd ht => ?_⟩⟩
  · have run := performHost_lone ho hout he hq hd ht
    rw [hop] at run
    refine ⟨_, congrArg Host.Outcome.next run, ?_, rfl⟩
    exact congrArg Ctx.out (getCtx_putOut_none (s := { s with mem := memWrite s.mem (keyHost h) (leBytes 8 v.toNat) }) hout)
  · have run := performHost_lone ho hout he hq hd ht
    rw [hop] at run
    refine ⟨_, congrArg Host.Outcome.next run, ?_, rfl, fun o howed hid hval => ?_⟩
    · rw [getCtx_setCtx_self, getCtx_putOut_none hout]
      rfl
    · rw [getCtx_setCtx_self, getCtx_putOut_none hout, post]
      simp only [howed, List.map_cons, List.map_nil, hid, hval, beq_self_eq_true, Option.isNone_none, Bool.and_self, if_true]
      rfl

end

theorem homeEvents : Claim.HomeEvents := by
  unfold Claim.HomeEvents
  refine ⟨fun s core idx h => ?_, pageMappedNothing, pageMappedReplays, fun s s1 c a p v r hside hout hp hf => sideReplays r hside hout hp hf,
    fun s c a h ho hout he => hostPerforms ho hout he, fun s h bs hb => ?_⟩
  · exact congrArg Host.Outcome.next (if_pos (by rw [h]; rfl))
  · exact congrArg Host.Outcome.next (if_pos hb)

end Sys2Proof.Machine
end

section
/-! SUPPORT. O47: invalidations of a column, and moves of a page. -/
namespace Sys2Proof.Machine
-- One declaration after another, as in the parts above.
set_option Elab.async false

/-! Fields of an entry (R353) -/

/-- The bits of a number with a field replaced. -/
theorem testBit_field (n lo w v i : Nat) : (n - n / 2 ^ lo % 2 ^ w * 2 ^ lo + v % 2 ^ w * 2 ^ lo).testBit i =
    if lo ≤ i ∧ i < lo + w then v.testBit (i - lo) else n.testBit i := by
  have pos : 0 < 2 ^ lo := Nat.two_pow_pos lo
  have parts : n = 2 ^ lo * (2 ^ w * (n / 2 ^ lo / 2 ^ w) + n / 2 ^ lo % 2 ^ w) + n % 2 ^ lo := by
    rw [Nat.div_add_mod, Nat.div_add_mod]
  have field : n - n / 2 ^ lo % 2 ^ w * 2 ^ lo + v % 2 ^ w * 2 ^ lo =
      2 ^ lo * (2 ^ w * (n / 2 ^ lo / 2 ^ w) + v % 2 ^ w) + n % 2 ^ lo := by
    generalize n / 2 ^ lo / 2 ^ w = hi at *
    generalize n / 2 ^ lo % 2 ^ w = old at *
    generalize n % 2 ^ lo = low at *
    rw [parts, Nat.mul_add, Nat.mul_add, Nat.mul_comm old, Nat.mul_comm (v % 2 ^ w)]
    omega
  rw [field, Nat.testBit_two_pow_mul_add _ (Nat.mod_lt _ pos), Nat.testBit_two_pow_mul_add _ (Nat.mod_lt _ (Nat.two_pow_pos w))]
  by_cases hlo : lo ≤ i
  · by_cases hw : i < lo + w
    · have inside : i - lo < w := by omega
      rw [if_neg (by omega), if_pos inside, if_pos ⟨hlo, hw⟩, Nat.testBit_mod_two_pow, decide_eq_true inside, Bool.true_and]
    · rw [if_neg (by omega), if_neg (by omega), if_neg (fun h => hw h.2), ← Nat.shiftRight_eq_div_pow, ← Nat.shiftRight_eq_div_pow,
        Nat.testBit_shiftRight, Nat.testBit_shiftRight]
      exact congrArg n.testBit (by omega)
  · rw [if_pos (by omega), if_neg (fun h => hlo h.1), Nat.testBit_mod_two_pow, decide_eq_true (by omega), Bool.true_and]

theorem getLsbD_eSet (lo w v : Nat) (e : Dbl) {i : Nat} (hi : i < 64) :
    (eSet lo w v e).getLsbD i = if lo ≤ i ∧ i < lo + w then v.testBit (i - lo) else e.getLsbD i := by
  unfold eSet errorField
  rw [BitVec.getLsbD_ofNat, decide_eq_true hi, Bool.true_and, testBit_field]
  rfl

theorem testBit_eBits (e : Dbl) (lo n i : Nat) : (eBits e lo n).testBit i = (decide (i < n) && e.getLsbD (lo + i)) := by
  rw [eBits, Nat.testBit_mod_two_pow, ← Nat.shiftRight_eq_div_pow, Nat.testBit_shiftRight]
  rfl

/-- A field of a field that is written. -/
theorem eBits_eSet_within {lo w v : Nat} {e : Dbl} {lo' n : Nat} (h : lo ≤ lo') (h' : lo' + n ≤ lo + w) (h64 : lo + w ≤ 64) :
    eBits (eSet lo w v e) lo' n = v / 2 ^ (lo' - lo) % 2 ^ n := by
  refine Nat.eq_of_testBit_eq fun i => ?_
  rw [testBit_eBits, Nat.testBit_mod_two_pow, ← Nat.shiftRight_eq_div_pow, Nat.testBit_shiftRight]
  by_cases hi : i < n
  · rw [getLsbD_eSet _ _ _ _ (by omega), if_pos ⟨by omega, by omega⟩]
    exact congrArg (fun k => decide (i < n) && v.testBit k) (by omega)
  · rw [decide_eq_false hi, Bool.false_and, Bool.false_and]

/-- A field apart from the one that is written. -/
theorem eBits_eSet_apart {lo w v : Nat} {e : Dbl} {lo' n : Nat} (h : lo' + n ≤ lo ∨ lo + w ≤ lo') (h64 : lo' + n ≤ 64) :
    eBits (eSet lo w v e) lo' n = eBits e lo' n := by
  refine Nat.eq_of_testBit_eq fun i => ?_
  rw [testBit_eBits, testBit_eBits]
  by_cases hi : i < n
  · rw [getLsbD_eSet _ _ _ _ (by omega), if_neg (by omega)]
  · rw [decide_eq_false hi, Bool.false_and, Bool.false_and]

/-- An entry whose page moves: its moves of the window are counted (R363). -/
theorem moving_bits (e : Dbl) {k : Nat} (hk : k < 8) :
    (eSet 58 1 1 (eSet 41 3 k e)).getLsbD 58 = true ∧ eBits (eSet 58 1 1 (eSet 41 3 k e)) 41 3 = k := by
  have apart : eBits (eSet 58 1 1 (eSet 41 3 k e)) 41 3 = eBits (eSet 41 3 k e) 41 3 := eBits_eSet_apart (.inl (by decide)) (by decide)
  have within : eBits (eSet 41 3 k e) 41 3 = k / 2 ^ (41 - 41) % 2 ^ 3 := eBits_eSet_within (by decide) (by decide) (by decide)
  constructor
  · rw [getLsbD_eSet _ _ _ _ (by decide), if_pos (by decide)]
    rfl
  · rw [apart, within]
    omega

/-- An entry whose page is pinned (R363). -/
theorem pinned_bits (e : Dbl) : (eSet 59 1 1 e).getLsbD 59 = true ∧ (eSet 59 1 1 e).getLsbD 58 = e.getLsbD 58 := by
  constructor
  · rw [getLsbD_eSet _ _ _ _ (by decide), if_pos (by decide)]
    rfl
  · rw [getLsbD_eSet _ _ _ _ (by decide), if_neg (by decide)]

/-- An entry that names a holder (R363). -/
theorem away_bits (e : Dbl) (n : Nat) : (eSet 57 2 1 (eSet 0 41 (n * 2 ^ 33) e)).getLsbD 58 = false ∧
    (eSet 57 2 1 (eSet 0 41 (n * 2 ^ 33) e)).getLsbD 57 = true ∧ eBits (eSet 57 2 1 (eSet 0 41 (n * 2 ^ 33) e)) 33 8 = n % 256 := by
  obtain ⟨v, hv⟩ : ∃ v, v = n * 2 ^ 33 := ⟨_, rfl⟩
  rw [← hv]
  have apart : eBits (eSet 57 2 1 (eSet 0 41 v e)) 33 8 = eBits (eSet 0 41 v e) 33 8 := eBits_eSet_apart (.inl (by decide)) (by decide)
  have within : eBits (eSet 0 41 v e) 33 8 = v / 2 ^ (33 - 0) % 2 ^ 8 := eBits_eSet_within (by decide) (by decide) (by decide)
  refine ⟨?_, ?_, ?_⟩
  · rw [getLsbD_eSet _ _ _ _ (by decide), if_pos (by decide)]
    rfl
  · rw [getLsbD_eSet _ _ _ _ (by decide), if_pos (by decide)]
    rfl
  · rw [apart, within]
    omega

/-- An entry whose page is local (R363). -/
theorem local_bits (e : Dbl) (place : Nat) : (eSet 0 41 place (eSet 57 2 0 e)).getLsbD 58 = false ∧
    (eSet 0 41 place (eSet 57 2 0 e)).getLsbD 57 = false := by
  constructor
  · rw [getLsbD_eSet _ _ _ _ (by decide), if_neg (by decide), getLsbD_eSet _ _ _ _ (by decide), if_pos (by decide)]
    rfl
  · rw [getLsbD_eSet _ _ _ _ (by decide), if_neg (by decide), getLsbD_eSet _ _ _ _ (by decide), if_pos (by decide)]
    rfl

/-! Entries that change (R355, R363) -/

theorem entryAt_changeEntry (core idx page : Nat) (e : Dbl) (s : State) : entryAt (changeEntry core idx page e s) core idx = e :=
  (entryAt_congr (bufferDrop_keeps page (putEntry core idx e s)).1 core idx).trans (entryAt_putEntry core idx e s)

theorem changeEntry_ctxs (core idx page : Nat) (e : Dbl) (s : State) : (changeEntry core idx page e s).ctxs = s.ctxs := rfl
theorem changeEntry_held (core idx page : Nat) (e : Dbl) (s : State) : (changeEntry core idx page e s).home.held = s.home.held := rfl

/-- A vault's bytes are none of a home table (R243, R352). -/
theorem entryAt_vaultWrite {s : State} {core idx c bank row byte : Nat} {bs : List Byte} (hc : core < 2 ^ 11) (hi : idx < 2 ^ 12) :
    entryAt { s with mem := memWrite s.mem (keyVault c bank row byte) bs } core idx = entryAt s core idx := by
  unfold entryAt
  rw [memRead_congr (fun b _ hb => memGet_memWrite_ne bs s.mem (.inl ?_))]
  unfold entryKey keyMirror at hb
  unfold keyVault
  omega

theorem entryAt_returnBytes {s : State} {core idx c : Nat} {e : Dbl} (hc : core < 2 ^ 11) (hi : idx < 2 ^ 12) :
    entryAt (returnBytes c e s) core idx = entryAt s core idx := by
  unfold returnBytes farBytes
  exact entryAt_vaultWrite (s := { s with free := s.free + 1 }) hc hi

theorem returnBytes_same (c : Nat) (e : Dbl) (s : State) : (returnBytes c e s).ctxs = s.ctxs ∧ (returnBytes c e s).home = s.home := by
  unfold returnBytes farBytes
  exact ⟨rfl, rfl⟩

theorem entryIdx_lt (s : State) (core : Nat) {j : Nat} (h : j < 2 ^ 12) : entryIdx s core j < 2 ^ 12 := by
  unfold entryIdx
  dsimp only
  split <;> omega

/-! HTINV (R356, R357) -/

section
variable {s : State} {core : BitVec 11}

theorem getHtinv_setHtinv_self (core : Nat) (h : Htinv) (s : State) : getHtinv (setHtinv core h s) core = h := SMap.get_set_self _ _ _ _
theorem getHtinv_setHtinv_ne {core k : Nat} (hk : k ≠ core) (h : Htinv) (s : State) : getHtinv (setHtinv core h s) k = getHtinv s k :=
  SMap.get_set_ne _ _ hk.symm _

/-- An invalidation that takes effect (R357). -/
theorem invalidate_drops (core : Nat) (w : BitVec 13) (s : State) :
    getHtinv (invalidate core w s) core = { getHtinv s core with pend := true } ∧
    (∀ k, k ≠ core → getHtinv (invalidate core w s) k = getHtinv s k) ∧ (invalidate core w s).mem = s.mem ∧
    (invalidate core w s).ctxs = s.ctxs ∧
    (w.getLsbD 12 = false → ∀ e, (((myPkg s * 16 + core / 160) * 256 + core % 160) * 4096 + w.toNat % 4096, e) ∉ (invalidate core w s).home.buffer) ∧
    (∀ q, q ∈ (invalidate core w s).home.buffer → q ∈ s.home.buffer) := by
  unfold invalidate
  dsimp only
  refine ⟨getHtinv_setHtinv_self _ _ _, fun k hk => getHtinv_setHtinv_ne hk _ _, rfl, rfl, fun one e he => ?_, fun q hq =>
    (List.mem_filter.mp hq).1⟩
  have kept := (List.mem_filter.mp he).2
  rw [one] at kept
  simp at kept

theorem htinvHeld (v : Dbl) (hb : s.pkg.boot.getLsbD (core.toNat / 160) = true) (hp : (getHtinv s core.toNat).pend = true) :
    exec (.htinvWrite v core) s = .next (setHtinv core.toNat
      { getHtinv s core.toNat with queue := (getHtinv s core.toNat).queue ++ [v.extractLsb' 0 13] } s) :=
  (congrArg Host.Outcome.next (if_pos hb)).trans (congrArg Host.Outcome.next (if_pos hp))

theorem htinvDrops (v : Dbl) (hb : s.pkg.boot.getLsbD (core.toNat / 160) = true) (hp : (getHtinv s core.toNat).pend = false) :
    ∃ t, exec (.htinvWrite v core) s = .next t ∧ getHtinv t core.toNat = { getHtinv s core.toNat with pend := true } ∧
      (∀ k, k ≠ core.toNat → getHtinv t k = getHtinv s k) ∧ t.mem = s.mem ∧ t.ctxs = s.ctxs ∧
      (v.getLsbD 12 = false → ∀ e, (((myPkg s * 16 + core.toNat / 160) * 256 + core.toNat % 160) * 4096 + v.toNat % 4096, e) ∉ t.home.buffer) ∧
      (∀ q, q ∈ t.home.buffer → q ∈ s.home.buffer) := by
  have run : exec (.htinvWrite v core) s = .next (invalidate core.toNat (v.extractLsb' 0 13) s) :=
    (congrArg Host.Outcome.next (if_pos hb)).trans
      (congrArg Host.Outcome.next (if_neg (by rw [hp]; exact Bool.false_ne_true)))
  have bit : (v.extractLsb' 0 13).getLsbD 12 = v.getLsbD 12 := by simp
  have low : (v.extractLsb' 0 13).toNat % 4096 = v.toNat % 4096 := by
    rw [BitVec.extractLsb'_toNat]
    omega
  have drops := invalidate_drops core.toNat (v.extractLsb' 0 13) s
  rw [bit, low] at drops
  exact ⟨_, run, drops⟩

theorem htinvAcked (hp : (getHtinv s core.toNat).pend = true) (hq : (getHtinv s core.toNat).queue = []) :
    exec (.htinvAck core) s = .next (setHtinv core.toNat
      { getHtinv s core.toNat with pend := false, acks := (getHtinv s core.toNat).acks + 1 } s) := by
  refine (congrArg Host.Outcome.next (if_pos hp)).trans (congrArg Host.Outcome.next ?_)
  split
  · rfl
  next w l h => exact absurd (hq.symm.trans h) (List.cons_ne_nil w l).symm

theorem htinvNext {w : BitVec 13} {l : List (BitVec 13)} (hp : (getHtinv s core.toNat).pend = true)
    (hq : (getHtinv s core.toNat).queue = w :: l) : ∃ t, exec (.htinvAck core) s = .next t ∧
      getHtinv t core.toNat = { pend := true, acks := (getHtinv s core.toNat).acks + 1, queue := l } ∧ t.mem = s.mem := by
  have run : exec (.htinvAck core) s = .next (invalidate core.toNat w (setHtinv core.toNat
      { pend := false, acks := (getHtinv s core.toNat).acks + 1, queue := l } s)) := by
    refine (congrArg Host.Outcome.next (if_pos hp)).trans (congrArg Host.Outcome.next ?_)
    rw [hq]
  obtain ⟨here, -, mem, -⟩ := invalidate_drops core.toNat w (setHtinv core.toNat
    { pend := false, acks := (getHtinv s core.toNat).acks + 1, queue := l } s)
  rw [getHtinv_setHtinv_self] at here
  exact ⟨_, run, here, mem⟩

theorem htinvIdle (hp : (getHtinv s core.toNat).pend = false) : exec (.htinvAck core) s = .next s :=
  congrArg Host.Outcome.next (if_neg (by rw [hp]; exact Bool.false_ne_true))

end

/-! Moves of pages (R363) -/

section
variable {s : State} {core : BitVec 11} {idx : BitVec 12} {q : BitVec 6} {i page : Nat} {e : Dbl}
  (hi : i = entryIdx s core.toNat idx.toNat) (hpage : page = pageNo s core.toNat idx.toNat) (he : e = entryAt s core.toNat i)
include hi he

theorem migrateUnmapped (hv : eV e = false) : exec (.pageMigrate core idx q) s = .next s := by
  subst hi he
  exact congrArg Host.Outcome.next (if_pos (by rw [hv]; rfl))

include hpage

/-- A page that is due moves, or is pinned. -/
theorem migrate_due (hv : eV e = true) (h58 : e.getLsbD 58 = false) (h59 : e.getLsbD 59 = false)
    (hw : eBits e 44 4 = tickNow s / 2 ^ 20 % 16)
    (due : e.getLsbD 57 = false ∧ (SMap.get (0, 0) s.home.runs page).1 = q.toNat ∧ 64 ≤ (SMap.get (0, 0) s.home.runs page).2 ∨
      e.getLsbD 57 = true ∧ q.toNat = myPkg s) :
    exec (.pageMigrate core idx q) s = .next (changeEntry core.toNat i page
      (if eBits e 41 3 < 4 then eSet 58 1 1 (eSet 41 3 (eBits e 41 3 + 1) e) else eSet 59 1 1 e) s) := by
  have ok : (eV e && !e.getLsbD 58 && ((e.getLsbD 57 && q.toNat == myPkg s) ||
      (!e.getLsbD 57 && (SMap.get (0, 0) s.home.runs page).1 == q.toNat && decide (64 ≤ (SMap.get (0, 0) s.home.runs page).2)))) = true := by
    rcases due with ⟨h57, from_, many⟩ | ⟨h57, own⟩
    · rw [hv, h58, h57, from_, decide_eq_true many, beq_self_eq_true]
      rfl
    · rw [hv, h58, h57, own, beq_self_eq_true]
      rfl
  subst hi hpage he
  refine (congrArg Host.Outcome.next (if_neg (by rw [ok]; exact Bool.false_ne_true))).trans (congrArg Host.Outcome.next ?_)
  rw [if_pos hw, if_neg (by rw [h59]; exact Bool.false_ne_true)]
  split <;> rfl

theorem pageMoves (hv : eV e = true) (h58 : e.getLsbD 58 = false) (h59 : e.getLsbD 59 = false)
    (hw : eBits e 44 4 = tickNow s / 2 ^ 20 % 16)
    (due : e.getLsbD 57 = false ∧ (SMap.get (0, 0) s.home.runs page).1 = q.toNat ∧ 64 ≤ (SMap.get (0, 0) s.home.runs page).2 ∨
      e.getLsbD 57 = true ∧ q.toNat = myPkg s) :
    (eBits e 41 3 < 4 → ∃ t, exec (.pageMigrate core idx q) s = .next t ∧ (entryAt t core.toNat i).getLsbD 58 = true ∧
        eBits (entryAt t core.toNat i) 41 3 = eBits e 41 3 + 1 ∧ t.ctxs = s.ctxs) ∧
      (4 ≤ eBits e 41 3 → ∃ t, exec (.pageMigrate core idx q) s = .next t ∧ (entryAt t core.toNat i).getLsbD 59 = true ∧
        (entryAt t core.toNat i).getLsbD 58 = false ∧ t.ctxs = s.ctxs) := by
  have run := migrate_due hi hpage he hv h58 h59 hw due
  refine ⟨fun few => ?_, fun many => ?_⟩
  · rw [if_pos few] at run
    obtain ⟨moving, count⟩ := moving_bits e (k := eBits e 41 3 + 1) (by omega)
    refine ⟨_, run, ?_, ?_, changeEntry_ctxs _ _ _ _ s⟩ <;> rw [entryAt_changeEntry]
    · exact moving
    · exact count
  · rw [if_neg (Nat.not_lt.mpr many)] at run
    obtain ⟨pinned, still⟩ := pinned_bits e
    refine ⟨_, run, ?_, ?_, changeEntry_ctxs _ _ _ _ s⟩ <;> rw [entryAt_changeEntry]
    · exact pinned
    · exact still.trans h58

omit hpage in
theorem moveDone_none (h58 : e.getLsbD 58 = false) : exec (.pageMoveDone core idx) s = .next s := by
  subst hi he
  exact congrArg Host.Outcome.next (if_pos (by rw [h58]; rfl))

/-- The state of a package whose runs no longer count the page. -/
def runOver (page : Nat) (s : State) : State := { s with home := { s.home with runs := SMap.del s.home.runs page } }

/-- A move that ends has the entry name the holder. -/
theorem movedOut (h58 : e.getLsbD 58 = true) (h57 : e.getLsbD 57 = false) (hh : s.home.held = []) :
    ∃ t, exec (.pageMoveDone core idx) s = .next t ∧
      (entryAt t core.toNat i).getLsbD 58 = false ∧ (entryAt t core.toNat i).getLsbD 57 = true ∧
      eBits (entryAt t core.toNat i) 33 8 = (SMap.get (0, 0) s.home.runs page).1 % 256 ∧ t.ctxs = s.ctxs := by
  obtain ⟨n, hn⟩ : ∃ n, n = (SMap.get (0, 0) s.home.runs page).1 := ⟨_, rfl⟩
  have run : exec (.pageMoveDone core idx) s =
      .next (changeEntry core.toNat i page (eSet 57 2 1 (eSet 0 41 (n * 2 ^ 33) e)) (runOver page s)) := by
    have held : (changeEntry core.toNat i page (eSet 57 2 1 (eSet 0 41 (n * 2 ^ 33) e)) (runOver page s)).home.held = [] :=
      (changeEntry_held _ _ _ _ (runOver page s)).trans hh
    refine Eq.trans ?_ (congrArg Host.Outcome.next (performAllHeld_empty page held))
    subst hi hpage he hn
    refine (congrArg Host.Outcome.next (if_neg (by rw [h58]; exact Bool.false_ne_true))).trans (congrArg Host.Outcome.next ?_)
    rw [if_neg (by rw [h57]; exact Bool.false_ne_true)]
    rfl
  rw [← hn]
  obtain ⟨done, away, holder⟩ := away_bits e n
  refine ⟨_, run, ?_, ?_, ?_, changeEntry_ctxs _ _ _ _ (runOver page s)⟩ <;> rw [entryAt_changeEntry]
  · exact done
  · exact away
  · exact holder

/-- A page that returns is local again. -/
theorem movedHome (h58 : e.getLsbD 58 = true) (h57 : e.getLsbD 57 = true) (hh : s.home.held = []) :
    ∃ t, exec (.pageMoveDone core idx) s = .next t ∧
      (entryAt t core.toNat i).getLsbD 58 = false ∧ (entryAt t core.toNat i).getLsbD 57 = false ∧ t.ctxs = s.ctxs := by
  have small : i < 2 ^ 12 := by rw [hi]; exact entryIdx_lt s _ idx.isLt
  obtain ⟨place, hplace⟩ : ∃ place, place = returnPlace (runOver page s) core.toNat (ePS e) := ⟨_, rfl⟩
  obtain ⟨home, hhome⟩ : ∃ home, home = eSet 0 41 place (eSet 57 2 0 e) := ⟨_, rfl⟩
  obtain ⟨u, hu⟩ : ∃ u, u = changeEntry core.toNat i page home { runOver page s with free := s.free + 1 } := ⟨_, rfl⟩
  have run : exec (.pageMoveDone core idx) s = .next (returnBytes core.toNat home u) := by
    have held : (returnBytes core.toNat home u).home.held = [] := by
      rw [(returnBytes_same _ _ u).2, hu]
      exact hh
    refine Eq.trans ?_ (congrArg Host.Outcome.next (performAllHeld_empty page held))
    subst hi hpage he hu hhome hplace
    refine (congrArg Host.Outcome.next (if_neg (by rw [h58]; exact Bool.false_ne_true))).trans (congrArg Host.Outcome.next ?_)
    rw [if_pos h57]
    rfl
  have entry : entryAt (returnBytes core.toNat home u) core.toNat i = home := by
    rw [entryAt_returnBytes core.isLt small, hu, entryAt_changeEntry]
  obtain ⟨done, local_⟩ := local_bits e place
  rw [← hhome] at done local_
  refine ⟨_, run, ?_, ?_, ?_⟩
  · rw [entry, done]
  · rw [entry, local_]
  · rw [(returnBytes_same _ _ u).1, hu]
    rfl

end

theorem guestMoved (s : State) (core : BitVec 11) (idx : BitVec 12) (ia : BitVec 48) (g : Dbl) (h : iaPkg ia.toNat ≠ myPkg s) :
    ∃ t, exec (.pageMoveDone core idx (some (ia, g))) s = .next t ∧
      SMap.get 0 t.home.guests (ia.toNat / 2 ^ 16) = g ∧ t.mem = s.mem ∧ t.ctxs = s.ctxs :=
  ⟨_, congrArg Host.Outcome.next (if_neg h), SMap.get_set_self _ _ _ _, rfl, rfl⟩

theorem translationEvents : Claim.TranslationEvents := by
  unfold Claim.TranslationEvents
  refine ⟨fun s core v hb => ⟨htinvHeld v hb, htinvDrops v hb, htinvAcked, fun w l => htinvNext, htinvIdle⟩, fun s core idx q =>
    ⟨migrateUnmapped rfl rfl, pageMoves rfl rfl rfl, moveDone_none rfl rfl, movedOut rfl rfl rfl, movedHome rfl rfl rfl,
      guestMoved s core idx⟩⟩

/-- Settles O47: accesses at their home, side logs and host accesses, and the translations that are dropped or move. -/
theorem homeAndTranslation : Obligations.HomeAndTranslation :=
  ⟨homePerforms, homeEvents, translationEvents⟩

end Sys2Proof.Machine
end
